-- ==== Sys2Proof/Word.lean ====
section
/-! DEFINITION. The word types of the register space (R9, R14): 32-bit words and bytes. -/
namespace Sys2Proof

/-- A register of the block register space (R14). -/
abbrev Word := BitVec 32

/-- A byte of a packet or a record. -/
abbrev Byte := BitVec 8

end Sys2Proof
end

