-- ==== Sys2Proof/Syntax.lean ====
section
/-! DEFINITION. The commands of the block: one constructor per row of the opcode table, with its operands (the table
gives none; each row's operands are what the rules it cites name), and the messages they carry. -/
namespace Sys2Proof

/-- The twelve modes (R86), in code order. -/
inductive Mode where
  | init | commission | ready | castOn | sync | connected | island | rideThrough | coast | bindOff | safeStop
  | maintain
  deriving DecidableEq, Repr

/-- The four roles of a unit (R89), in code order. -/
inductive Role where
  | active | standby | syncing | isolated
  deriving DecidableEq, Repr

/-- The port a host packet came through (R394). -/
inductive HostPort where
  | h0 | h1 | s0
  deriving DecidableEq, Repr

/-- A report of a port's receiver (R168): the port, and the invalid sync headers since its report before. -/
structure PortHeaders where
  port : Fin 22
  headers : Word
  deriving DecidableEq, Repr

/-- What a module shows beside its identity (R163, R164): a power class above the port's, and TX_FAULT. -/
structure ModPins where
  hiPower : Bool
  txFault : Bool
  deriving DecidableEq, Repr

/-- What every command of a session carries (R396): the session and its sequence number. -/
structure Req where
  session : Fin 9
  seq : Word
  port : HostPort
  deriving DecidableEq, Repr

/-- One entry of a block register access (R406): address with OP in its low bits, value, mask. -/
structure RegEntry where
  addr : Word
  value : Word
  mask : Word
  deriving DecidableEq, Repr

/-- What a STEP_MARK carries (R26, R196). -/
structure Mark where
  row : BitVec 64
  step : Nat
  rate : Word
  epoch : BitVec 16
  unit : Bool
  mode : Mode
  txofs : Nat
  deriving DecidableEq, Repr

/-- What a submodule samples at its local ac 0 (R156, R160): voltage, energy, temperature and spread, whether it is
able to insert or within its closing window (SM_OK), its own faults (STATUS [7:2]), and whether cells balance. -/
structure SmSample where
  vcap : BitVec 16
  soe : BitVec 16
  tmax : Byte
  vspread : Byte
  ok : Bool
  faults : BitVec 6
  balAct : Bool
  window : Bool
  ovAc : Option (Fin 1024)
  deriving DecidableEq, Repr

/-- An AUDIT (R208). -/
structure Audit where
  vc : Fin 4
  limit : BitVec 16
  used : BitVec 16
  nextSeq : Byte
  done : Bool
  deriving DecidableEq, Repr

/-- One reported item (R225, R227): the record image of R219 and the sixteen bytes after it. -/
structure LdgItem where
  id : BitVec 64
  typ : Byte
  state : BitVec 4
  limset : BitVec 4
  last : Word
  nsw : BitVec 40
  nth : BitVec 24
  qah : Word
  hrs : BitVec 24
  lastLo : Word
  lastHi : Word
  faults : Word
  deriving DecidableEq, Repr

/-- The body of an IDENT (R229). -/
structure IdentBody where
  id : BitVec 64
  maker : BitVec 16
  nep : BitVec 16
  hwrev : BitVec 16
  sig : List Byte
  deriving DecidableEq, Repr

/-- A request on VC1, VC2 or VC3 that a submodule receives (R225, R228, R233, R304, R411). -/
inductive SmRequest where
  | sweepRd (first : BitVec 13) (n : Fin 6) (tag : Word)
  | reconcile (first : BitVec 13) (items : List LdgItem) (lambda : BitVec 16)
  | identReq
  | reopen (id : BitVec 64)
  | capReq (mask : BitVec 4) (pre post tag : BitVec 16) (pos : BitVec 35)
  | mgmt (code : BitVec 16) (tag : Word) (body : List Byte)
  deriving DecidableEq, Repr

/-- The fields of a HEARTBEAT (R340). -/
structure Heartbeat where
  unitB : Bool
  role : Role
  qual : Bool
  hoOk : Bool
  hoAck : Bool
  pwarn : Bool
  iso : Bool
  epoch : BitVec 16
  mode : Mode
  step : BitVec 10
  hseq : BitVec 6
  ver : BitVec 4
  deriving DecidableEq, Repr

/-- A measurement of the safety logic device SH that a rule compares with SPa's (R370, R371). -/
inductive ShMeasure where
  | selfTest | plausibility
  deriving DecidableEq, Repr

/-- A host command with its parameters (R409). `unknown` and `badLen` stand for a packet whose opcode does not exist
or whose length does not suit it (R400). -/
inductive HostOp where
  | ping
  | ident
  | ownClaim (cls : Byte)
  | ownRelease (cls : Byte)
  | evlogRead (first : BitVec 64) (n : Byte)
  | mgmtSend (conc : Bool) (id code : BitVec 16) (body : List Byte)
  | reset
  | modeSet (code : Byte)
  | brkReport (conv tie : Byte)
  | setP (v : Word)
  | setQ (v : Word)
  | setV (v : Word)
  | setF (v : Word)
  | setMulti (mask : Byte) (p q v f : Word)
  | regAccess (es : List RegEntry)
  | regReadRange (first : Word) (n : Byte)
  | ldgRead (addr : Word) (n : BitVec 16)
  | ldgArchRead (first : Word) (n : Byte)
  | ldgRetire (smn : BitVec 16)
  | ldgReplace (smn : BitVec 16)
  | ldgKeySet (key : List Byte)
  | acqHead
  | acqRead (num off : Word) (n : BitVec 16)
  | acqFree (num : Word)
  | acqStream (slot : Byte) (first : BitVec 64) (n : BitVec 16)
  | mtrReadout
  | mtrProfile (first : Word) (n : Byte)
  | mtrAuditRead (first : Word) (n : Byte)
  | mtrSeal
  | mtrFwhash
  | pairAction (k : Byte)
  | spsWrite (off : BitVec 16) (vals : List Word)
  | spsConfirm (chk : Word)
  | safReset
  | safSpb
  | safProof (test : Byte)
  | safProofOut (out seen : Byte)
  | fwBegin (len ver : Word)
  | fwData (off : Word) (data : List Byte)
  | fwEnd
  | fwActivate (img : Byte)
  | close
  | trustSet (anchor : List Byte)
  | keyGen (kind : Byte)
  | certSet (cert : List Byte)
  | debugUnlock (token : List Byte)
  | unknown (code : Nat)
  | badLen (code : Nat)
  deriving DecidableEq, Repr

/-- Who meets an SRAM error (R431). -/
inductive SramUser where
  | bulkRx (assoc : Fin 21)
  | bulkKept (assoc : Fin 21)
  | acqBuffer (slot : Fin 16)
  | control
  | maintenance
  deriving DecidableEq, Repr

/-- What a PTP event message gives the servo (R464, R465, R467): the port, its domain, the offset of module time from
the master in ns, the announced UTC offset when flagged valid, and an announced leap second (true: leap61). -/
structure PtpMsg where
  port : Bool
  domain : Byte
  offset : Int
  utc : Option Byte
  leap : Option Bool
  deriving DecidableEq, Repr

namespace Machine

/-- The latest reply to a sequence number, for DUPLICATE (R398). -/
structure Cached where
  seq : Word
  opcode : Nat
  status : Nat
  data : List Byte
  resends : Nat
  deriving DecidableEq, Repr

/-- A session (R395 to R398): number, FINISH done, roles by bit, certificate serial and key, keys and salts, HELLO
transcript, last executed SEQ, port and clock of the latest valid packet, the reorder buffer (SEQ, opcode,
parameters, port) with the clock of its first command, and the reply cache. -/
structure Sess where
  num : Nat
  fin : Bool
  roles : Nat
  serial : List Byte
  certKey : List Byte
  keyIn : List Byte
  keyOut : List Byte
  saltIn : List Byte
  saltOut : List Byte
  transcript : List Byte
  last : Word
  port : HostPort
  lastClk : Nat
  held : List (Word × HostOp × HostPort)
  heldClk : Option Nat
  cache : List Cached
  deriving DecidableEq, Repr

/-- A command accepted for a boundary (R402): its step number, the status that R404 has given it meanwhile (0: none,
SUPERSEDED, or NOT_OWNER for a command displaced by the owner), the mode and module time of its validation, and the
serial of the session's certificate. `fw` marks a write set of the unit's own firmware, which no reply answers. -/
structure Accepted where
  q : Req
  op : HostOp
  target : Nat
  fate : Nat
  vmode : Nat
  vtime : Nat
  serial : List Byte
  fw : Bool
  deriving DecidableEq, Repr

/-- A journal entry (R343, R424): the command, whether it was accepted for a boundary, its outcome, and the CRC-32 it was written
with. -/
structure Jrn where
  serial : List Byte
  session : Nat
  seq : Word
  opcode : Nat
  accepted : Bool
  outcome : Option Nat
  crc : Word
  deriving DecidableEq, Repr

/-- The command state that both units of a pair hold (R405): sessions, accepted commands, journal, owners. -/
structure CmdCore where
  sess : List Sess
  acc : List Accepted
  jrn : List Jrn
  modeOwn : Nat
  setOwn : Nat
  deriving DecidableEq, Repr

/-- A ledger record (R219). -/
structure Rec where
  id : BitVec 64
  typ : Byte
  state : Nat
  limset : Nat
  stale : Bool
  missed : Bool
  last : Word
  nsw : Nat
  nth : Nat
  qah : Nat
  hrs : Nat
  deriving DecidableEq, Repr

/-- What a VC2 block of the pair link carries for the standby (R235, R343): the command state as the entry of a command leaves it,
or a change to a ledger record (log entry 24). -/
inductive Mirror where
  | entry (core : CmdCore)
  | change (addr : Nat) (r : Rec)
  deriving DecidableEq, Repr

end Machine

/-- A bulk block (R203). -/
structure BulkBlk where
  vc : Fin 4
  seq : Byte
  conc : Bool
  slot : Byte
  payload : List Byte
  mir : Option Machine.Mirror
  deriving DecidableEq, Repr

namespace Machine

/-- A metering register (R10, R317): whole mWh, residue in 2^-32 mWh, and the rounding error carried into its next
addition as a fraction of 2^-32 mWh. -/
structure MtrReg where
  count : Nat
  res : Nat
  errN : Int
  errD : Nat
  deriving DecidableEq, Repr

/-- The open interval (R320): start and end in module time, number, tariff, status, substituted samples, and the
counts of the totals at its opening. -/
structure MtrOpen where
  start : Int
  stop : Int
  no : Nat
  tariff : Nat
  status : Nat
  nsub : Nat
  base : List Nat
  deriving DecidableEq, Repr

/-- A profile record (R320). -/
structure MtrProf where
  start : Int
  no : Nat
  tariff : Nat
  status : Nat
  nsub : Nat
  inc : List Nat
  deriving DecidableEq, Repr

/-- The metering state that is mirrored and kept (R325, R326): the 54 registers by set × 6 + quantity, the open
interval, the profile ring (newest first) with its counts, and the step it stands at. -/
structure MtrCore where
  regs : List MtrReg
  opn : Option MtrOpen
  prof : List MtrProf
  nrec : Nat
  plost : Nat
  stamp : Nat
  deriving DecidableEq, Repr

end Machine


namespace Machine

/-- A complex value; both parts at 2^-40 (R61). -/
structure Cx where
  re : Int
  im : Int
  deriving DecidableEq, Repr

/-- The grid-forming engine (R61 to R84). Every value is at 2^-40 of its per-unit base. -/
structure Gfe where
  histV : List Cx
  histI : List Cx
  lastV : Cx
  lastI : Cx
  lastIz : List Int
  since : Nat
  invalid : Bool
  v : Cx
  vn : Cx
  i : Cx
  pf : Int
  qf : Int
  wd : Int
  pr : Int
  qr : Int
  vr : Int
  fr : Int
  xv : Int
  emag : Int
  xip : Cx
  xin : Cx
  z0 : List Int
  z2 : Cx
  /-- The integrator of the zero-sequence circulating current of a delta, in the positive rotating frame (R79). -/
  xi0 : Cx
  xs : List Int
  vc : Cx
  vcn : Cx
  vz : List Int
  lim : Bool
  lastMachine : Bool
  istar : Cx
  /-- The references of the step: at a1 and at a2 (R76, R77). -/
  ref1 : List Int
  ref2 : List Int
  refsValid : Bool
  done : Bool
  stat : Word
  sig : List Word
  sigStep : Word
  /-- The samples of the control inputs as delivered at 1.20 µs (R282): value and invalid mark. -/
  inputs : List (Int × Bool)
  delivered : Bool
  deriving DecidableEq, Repr

/-- What a bind-off ended with (R112). -/
inductive BoEnd where
  | complete | timeout | abort
  deriving DecidableEq, Repr

/-- The automatic causes of transitions that have occurred since the last boundary (R95). -/
structure Causes where
  castonDone : Bool
  castonFail : Bool
  castonAbort : Bool
  syncTimeout : Bool
  syncLostBus : Bool
  boEnd : Option BoEnd
  rtEntry : Bool
  rtExit : Bool
  holdExp : Bool
  rejoin : Bool
  spb : Bool
  ssr : Bool
  selfFail : Bool
  deriving DecidableEq, Repr

/-- The mode logic (R86 to R113). Times are in fs of step duration. -/
structure ModeSt where
  mode : Mode
  role : Role
  origin : Option Mode
  conv : Bool
  tie : Bool
  deadT : Nat
  liveT : Nat
  notLiveT : Nat
  dead : Bool
  live : Bool
  ocCnt : Nat
  ocDone : Bool
  tRun : Nat
  tPause : Nat
  pause : Bool
  /-- The step just computed was paused: PAUSE of the step that follows (R99). -/
  pauseNext : Bool
  kv1 : Nat
  deltas : List Int
  fbus : Word
  syOkT : Nat
  syncOk : Bool
  syncT : Nat
  stall : Bool
  boT : Nat
  boCnt : Nat
  ssr : Bool
  causes : Causes
  deriving DecidableEq, Repr

/-- One ride-through excursion (R126). -/
structure Exc where
  run : Bool
  t : Nat
  exitT : Nat
  /-- Found outside in the step just computed; ENV_OUT shows it from the boundary on (R127). -/
  due : Bool
  out : Bool
  logged : Bool
  deriving DecidableEq, Repr

/-- Ride-through, comparators and coasting (R115 to R133). -/
structure Rt where
  lineTrip : List (Option Bool)
  armTrip : List (Option Bool)
  /-- Per arm: the direction restricted, none when free; true is the negative direction (R118). -/
  restr : List (Option Bool)
  lastNeg : Bool
  entryCnt : Nat
  exitT : Nat
  lv : Exc
  hv : Exc
  f : Exc
  kzFt : Int
  recRun : Bool
  rec0 : Int
  recT : Nat
  pjRun : Bool
  pj0 : Int
  pjT : Nat
  coastT : Nat
  validCnt : Nat
  deltaRej : Word
  kz0 : Word
  /-- The present COAST was entered from RIDE_THROUGH (R98). -/
  fromRt : Bool
  deriving DecidableEq, Repr


/-- A decision of the ledger that waits for its boundary (R223): the step number of that boundary. -/
inductive LdgDec where
  | lambda (n v : Nat)
  | accept (n acc : Nat)
  | retire (n why : Nat)
  deriving DecidableEq, Repr


/-- A step record of R342 as adopted: the states it carries, at their internal resolution. `regs` are the mode inputs
the mode logic holds in registers; `cmds` and `recs` are the journal entries (R343) and ledger changes (R235) the
standby has received with the step, as the state they lead to (log entry 24). -/
structure StepRec where
  row : BitVec 64
  step : Nat
  epoch : BitVec 16
  gfe : Gfe
  carry : List Int
  pci : List (Option Nat)
  sets : List (Nat × Nat)
  incs : List Nat
  formed : Bool
  mo : ModeSt
  rt : Rt
  cmd : Option Word
  mtr : MtrCore
  decs : List (Nat × LdgDec)
  regs : List (Nat × Word)
  cmds : Option CmdCore
  deriving DecidableEq, Repr

/-- A state transfer of R360: the state at its end, the sessions and journal, the ledger and own records. -/
structure Transfer where
  srec : StepRec
  cmds : CmdCore
  mtr : MtrCore
  ledger : List (Nat × Rec)
  deriving DecidableEq, Repr

end Machine

/-- The commands and events of the block (the rows of the opcode table, in its order; those
without operands stand last, so that every constructor with operands has a tag that compiled code can hold). -/
inductive Instr where
  /-- STITCH_FIRE (R49): θ reaches the position of an enabled stitch entry, and its action is issued. -/
  | stitchFire (n : Fin 2048)
  /-- REGISTER_WRITE (R407): A validated register write set, for registers that have no row of their own, takes effect at its boundary. -/
  | registerWrite (es : List RegEntry)
  /-- GFE_COMPLETE (R66): The GFE completes the step's measurement and machine computation and delivers the references and the rate command. -/
  | gfeComplete (fault : Bool)
  /-- SLOT_RELEASE (R504): At its fixed pace time, slot j of every lane is released to the lane hub. -/
  | slotRelease (lane : Fin 20) (j : Fin 256)
  /-- HWC_TRIP (R118): A hardware current comparator trips and restricts its arms or forces its phase's counters. -/
  | hwcTrip (line : Bool) (n : Fin 6) (neg : Bool)
  /-- HWC_RELEASE (R117): A comparator input stays below its release level for 1.0 µs, and the restriction ends. -/
  | hwcRelease (line : Bool) (n : Fin 6)
  /-- PAIR_MARK_RX (R54): A standby receives the active's STEP_MARK over the pair link and measures its phase error. -/
  | pairMarkRx (path : Bool) (m : Mark) (arrivalPs : Nat)
  /-- RESPONSE_WORD_RX (R141): A submodule response word arrives in a CYC_UP run and is checked for use. -/
  | responseWordRx (lane : Fin 20) (slot : Fin 256) (step : Fin 1024) (w : BitVec 96)
  /-- SM_RETIRE (R151): A submodule leaves the ACTIVE set for RETIRED at a boundary, and a ready spare is promoted. -/
  | smRetire (n : Fin 4096)
  /-- SPARE_PROMOTE (R151): A chosen spare becomes ready and joins the ACTIVE set at the next boundary. -/
  | sparePromote (n : Fin 4096)
  /-- SM_CMD_RX (R157): A submodule receives a command word and judges its validity. -/
  | smCmdRx (n : Fin 4096) (w : BitVec 128)
  /-- SM_LOCAL_AC0 (R158): At its local ac 0 a submodule selects and applies its pattern and flags. -/
  | smLocalAc0 (n : Fin 4096) (x : SmSample)
  /-- SM_PBL_LOST (R159): The loop is de-energised at the concentrator, so the submodule blocks within 20 µs. -/
  | smPblLost (n : Fin 4096)
  /-- SM_RESTRICT (R159): A submodule receives a relayed restriction start or end and limits its edges. -/
  | smRestrict (n : Fin 4096) (set neg : Bool) (ac : Fin 1024)
  /-- SM_OWN_PROTECTION (R159): A submodule's own protection blocks it or closes its bypass switch. -/
  | smOwnProtection (n : Fin 4096) (bypass : Bool)
  /-- SFP_INSERT (R163): An SFP+ module is inserted, its identity is read and the training mode is chosen. -/
  | sfpInsert (port : Fin 22) (id tech : Byte) (pins : ModPins)
  /-- SFP_WITHDRAW (R164): MOD_ABS is asserted, and the port goes to OFF. -/
  | sfpWithdraw (port : Fin 22)
  /-- LOS_ASSERT (R183): Loss of signal is asserted on a port. -/
  | losAssert (port : Fin 22)
  /-- LOS_CLEAR (R183): LOS clears after 100 µs, and a port in DETECT enters LOCK. -/
  | losClear (port : Fin 22)
  /-- LOL (R184): Loss of lock is declared on a port. -/
  | lol (ev : PortHeaders)
  /-- BLOCK_LOCK (R168): 64 consecutive valid sync headers arrive, and block lock is gained. -/
  | blockLock (ev : PortHeaders)
  /-- RX_POLARITY_INVERT (R168): No block lock within 10 ms in LOCK, so the received polarity is inverted. -/
  | rxPolarityInvert (port : Fin 22)
  /-- HI_BER (R185): HI_BER is set, and when held 1.0 ms in LINK_UP it starts retraining. -/
  | hiBer (ev : PortHeaders) (held : Bool)
  /-- TRAINING_BLOCK_RX (R172): A training block is received and drives the training handshake. -/
  | trainingBlockRx (port : Fin 22) (b : BitVec 64)
  /-- REQUEST_TIMEOUT (R175): No status reply arrives within 2 ms of a request, so the port enters FALLBACK. -/
  | requestTimeout (port : Fin 22)
  /-- ADAPT_TIMEOUT (R177): 400 ms into an attempt without leaving ADAPT or gaining lock, the port enters FALLBACK. -/
  | adaptTimeout (port : Fin 22)
  /-- ATTEMPT_TIMEOUT (R177): The 500 ms of an attempt expire, and the port enters FAILED. -/
  | attemptTimeout (port : Fin 22)
  /-- FAILED_EXPIRE (R176): 1.0 s in FAILED expires, and the port returns to DETECT. -/
  | failedExpire (port : Fin 22)
  /-- FALLBACK_PRESET_WINDOW (R178): A 30 ms preset window in FALLBACK ends; the preset passes or the next is tried. -/
  | fallbackPresetWindow (port : Fin 22) (pass : Bool)
  /-- CONFIRM_DONE (R176): The 16th confirming frame is sent, and the port enters LINK_UP. -/
  | confirmDone (port : Fin 22)
  /-- PHY_RETRAIN (R181): A write of PHY_CTRL.RETRAIN starts retraining of a port in LINK_UP. -/
  | phyRetrain (port : Fin 22)
  /-- CTL_BLOCK_DISCARD (R188): A control block with a bad CRC or unknown TYPE is discarded and counted. -/
  | ctlBlockDiscard (port : Fin 22)
  /-- ORPHAN_BLOCK (R189): A data block that belongs to no run is discarded and counted. -/
  | orphanBlock (lane : Fin 20)
  /-- IDLE_RX (R191): An IDLE block is received with its DISP, UNIT and EPOCH. -/
  | idleRx (conc : Bool) (n : Fin 22) (disp unitB : Bool) (epoch : BitVec 16)
  /-- CYC_UP_RX (R194): A CYC_UP run header and its data blocks are received. -/
  | cycUpRx (lane : Fin 20) (first : Fin 256) (count : Fin 512) (step : Fin 1024) (words : List (BitVec 96))
  /-- BULK_BLOCK_RX (R205): A bulk block is received and accepted, acknowledged as duplicate, or NAKed. -/
  | bulkBlockRx (lane : Fin 22) (b : BulkBlk) (crcOk : Bool)
  /-- BULK_BLOCK_SEND (R205): A new bulk block is sent once a credit and retry-buffer room are available. -/
  | bulkBlockSend (assoc : Fin 21)
  /-- ACK_RX (R206): An ACK or NAK is received; kept blocks are dropped or replayed. -/
  | ackRx (lane : Fin 22) (seq : Byte) (nak : Bool)
  /-- ACK_SEND (R206): An ACK is sent after 8 blocks or 0.5 µs since the oldest unacknowledged block. -/
  | ackSend (assoc : Fin 21)
  /-- CREDIT_RX (R204): A CREDIT block updates the sender's LIMIT. -/
  | creditRx (lane : Fin 22) (vc : Fin 4) (limit : BitVec 16)
  /-- CREDIT_SEND (R204): A CREDIT is sent on an advance of 4, after 2.0 µs, or every 100 µs. -/
  | creditSend (assoc : Fin 21) (vc : Fin 4)
  /-- RETRY_TIMEOUT (R205): No acknowledgement advance for LNH_RTO, so the kept blocks are replayed. -/
  | retryTimeout (assoc : Fin 21)
  /-- AUDIT_RX (R208): The partner's AUDITs are processed; blocks are dropped, LIMIT taken, CONSUMED corrected and replay begins. -/
  | auditRx (lane : Fin 22) (audits : List Audit)
  /-- AUDIT_REPEAT (R208): 20 µs pass without DONE, so the AUDITs are repeated. -/
  | auditRepeat (assoc : Fin 21)
  /-- ECHO_RSP_RX (R197): An ECHO_RSP is received, and d is computed. -/
  | echoRspRx (lane : Fin 22) (tag : BitVec 16) (turn : BitVec 24) (rttPs : Nat)
  /-- ECHO_TIMEOUT (R197): No ECHO_RSP within 10 µs, so the echo is counted as lost. -/
  | echoTimeout (lane : Fin 22)
  /-- ECHO_NOW (R197): A write of LNK_CTRL.ECHO starts a measurement of d at once. -/
  | echoNow (lane : Fin 20)
  /-- DECLARE_RX (R199): A DECLARE is received, and the lane is assessed. -/
  | declareRx (lane : Fin 20) (dDn dUp : BitVec 12) (conc : BitVec 16) (cport : BitVec 4) (alt : Bool)
  /-- WITNESS_RX (R213): A WITNESS report from a concentrator is received. -/
  | witnessRx (lane : Fin 20) (presA presB owner ownValid : Bool) (epoch : BitVec 16) (win : Fin 8) (step : Fin 1024)
  /-- ROUTE_WRITE (R211): A write of LNK_CTRL.ROUTE moves the route to the lane written. -/
  | routeWrite (lane : Fin 20)
  /-- CONC_MARK_RX (R212): A concentrator receives a STEP_MARK, applies the ownership rules and disciplines its local angle. -/
  | concMarkRx (c : Fin 20) (lane : Fin 20) (m : Mark) (tPs : Nat)
  /-- CONC_CYC_DN_RX (R214): A concentrator receives a CYC_DN run and relays it cut-through to its submodules. -/
  | concCycDnRx (c : Fin 20) (unitB : Bool) (epoch : BitVec 16) (step : Fin 1024) (first : Fin 256) (words : List (BitVec 128))
  /-- CONC_OOS_RUN_RX (R215): A concentrator receives an out-of-slot run and relays it at once. -/
  | concOosRunRx (c : Fin 20) (unitB : Bool) (epoch : BitVec 16) (step : Fin 1024) (first : Fin 256) (words : List (BitVec 128))
  /-- CONC_RESTRICT_RX (R202): A concentrator relays a RESTRICT from its owner to the slots named. -/
  | concRestrictRx (c : Fin 20) (unitB set neg : Bool) (arm : Fin 8) (first last rseq : Byte)
  /-- CONC_WITNESS_WINDOW (R213): A witness window ends, and the concentrator sends WITNESS to each unit. -/
  | concWitnessWindow (c : Fin 20) (leftA leftB : Bool)
  /-- CONC_ECHO_REPLY (R197): A concentrator receives ECHO_REQ and answers with ECHO_RSP and TURN. -/
  | concEchoReply (c : Fin 20) (lane : Fin 20) (tag : BitVec 16) (turn : BitVec 24)
  /-- CONC_DECLARE (R199): A concentrator sends DECLARE at LINK_UP and once per row. -/
  | concDeclare (c : Fin 20) (lane : Fin 20) (dDn dUp : BitVec 12) (cport : BitVec 4) (alt : Bool)
  /-- CONC_AUDIT_RX (R210): A concentrator receives an AUDIT and makes that lane its route. -/
  | concAuditRx (c : Fin 20) (unitB : Bool) (lane : Fin 20)
  /-- CONC_LOOP_LOST (R373): A concentrator takes its owner's loop as de-energised and signals its submodules. -/
  | concLoopLost (c : Fin 20)
  /-- SWEEP_VISIT (R225): The paced sweep sends SWEEP_RD for the next group of endpoints. -/
  | sweepVisit (lane : Fin 20)
  /-- REPORT_RX (R225): A REPORT is received, merged, and answered with RECONCILE. -/
  | reportRx (smn : Fin 4096) (first : BitVec 13) (tag : Word) (items : List LdgItem)
  /-- REPORT_TIMEOUT (R226): No REPORT within 5 ms, so the group's records are marked MISSED. -/
  | reportTimeout (smn : Fin 4096) (first : BitVec 13)
  /-- IDENT_RX (R230): An IDENT is checked and the submodule is classed and accepted or not. -/
  | identRx (smn : Fin 4096) (b : IdentBody)
  /-- IDENT_TIMEOUT (R230): No IDENT within 100 ms of IDENT_REQ, so the submodule is classed UNSIGNED. -/
  | identTimeout (smn : Fin 4096)
  /-- WEAR_RELEASE (R232): A held wear request is released once a spare is ready and the gap has passed. -/
  | wearRelease (smn : Fin 4096)
  /-- LDG_IMAGE_DONE (R236): An image write completes or fails. -/
  | ldgImageDone (ok : Bool)
  /-- PERIOD_START (R241): A PWM counter reaches PER and begins a new period. -/
  | periodStart (n : Fin 24)
  /-- CMP_MATCH (R242): The count reaches CMP, and the raw signal falls. -/
  | cmpMatch (n : Fin 24)
  /-- DEAD_TIME_EXPIRE (R243): A delayed rising edge of A or B reaches the output after DT. -/
  | deadTimeExpire (n : Fin 24) (outB : Bool)
  /-- XC_MATCH (R252): An extra compare matches and starts the routed scans. -/
  | xcMatch (n : Fin 24) (k : Fin 2)
  /-- PWM_ENABLE (R250): A write of PWMn_CFG.EN starts or stops a counter. -/
  | pwmEnable (n : Fin 24) (en : Bool)
  /-- TRIP_INPUT (R257): An enabled trip input becomes active unblanked, latches and forces its counters. -/
  | tripInput (i : Fin 8) (active : Bool)
  /-- BLANK_CLOSE (R258): A blanking window closes, and a still active input latches. -/
  | blankClose (i : Fin 8)
  /-- TRIP_CLR (R257): A write of PWM_TRIP_CLR clears the latches of inactive inputs. -/
  | tripClr (mask : BitVec 8)
  /-- SCAN_TRIGGER (R265): A scan trigger reaches a core and starts a scan, or is dropped. -/
  | scanTrigger (groups : BitVec 5)
  /-- TRIG_IN_EDGE (R265): An edge on TRIG_IN starts the scans named in ADC_TRIGIN. -/
  | trigInEdge (level : Bool)
  /-- ADC_SWTRIG (R265): A firmware write of ADC_SWTRIG starts scans. -/
  | adcSwtrig (mask : BitVec 5)
  /-- CONVERSION_DONE (R263): A conversion completes and its result word is delivered. -/
  | conversionDone (core : Fin 5) (code : Int)
  /-- CONVERSION_TIMEOUT (R272): A conversion does not complete within 150 ns and counts as a failed check. -/
  | conversionTimeout (core : Fin 5)
  /-- URGENT_REQUEST (R268): A write of GRPg_URG requests one conversion, which pre-empts or is dropped. -/
  | urgentRequest (g : Fin 4) (pos : Fin 8)
  /-- ADC_PATCH_GO (R274): ADC_PATCH.GO patches the spare to a named group. -/
  | adcPatchGo (g : Fin 4)
  /-- CLAMP_OVERDRIVE (R270): An input's clamp conducts, and the core's results for 2 µs carry NBR. -/
  | clampOverdrive (input : Fin 32) (active : Bool)
  /-- REF_SELECT (R271): A write of GRPg_REF selects a reference and starts its settling. -/
  | refSelect (g : Fin 4) (src : Fin 3)
  /-- REF_SETTLED (R271): The settling time of a group's reference ends. -/
  | refSettled (g : Fin 4)
  /-- REF_FAULT (R271): The reference differs by more than 0.5 % for 10 µs, and the group may fall back. -/
  | refFault (g : Fin 4)
  /-- MISSING_SAMPLE (R285): An angle-locked position passes without its sample, which is entered as a repeat and counted. -/
  | missingSample (n : Fin 32)
  /-- FILTER_OUTPUT (R280): A filter channel's output is complete and delivered to its consumers. -/
  | filterOutput (n : Fin 32)
  /-- FLT_SYNC_SOFT (R287): A soft synchronising reset of the named channels resets their decimation phase. -/
  | fltSyncSoft (mask : Word)
  /-- FLT_SYNC_HARD (R288): A hard synchronising reset clears the channels' history and phase. -/
  | fltSyncHard (mask : Word)
  /-- RECORD_CLOSE (R299): A record is closed once room exists, and the slot returns to FILL. -/
  | recordClose (k : Fin 16)
  /-- ACQ_TRG_ARM (R292): A write of ACQ_TRG_ARM arms single-shot units. -/
  | acqTrgArm (mask : BitVec 8)
  /-- CAP_DATA_RX (R305): A CAP_DATA block with remote frames is received. -/
  | capDataRx (smn : Fin 4096) (tag : BitVec 16) (n : Byte) (first : Word) (data : List Word)
  /-- CAP_END_RX (R305): A CAP_END closes a remote capture. -/
  | capEndRx (smn : Fin 4096) (tag : BitVec 16) (status : Byte) (sent : Word)
  /-- REMOTE_TIMEOUT (R304): Frames not received by 100 ms after the last position become gaps. -/
  | remoteTimeout (k : Fin 16)
  /-- SNAP_IN_EDGE (R306): An edge on SNAP_IN raises SNAP. -/
  | snapInEdge (level : Bool)
  /-- HEARTBEAT_RX (R340): A HEARTBEAT is received from the partner. -/
  | heartbeatRx (path : Bool) (h : Heartbeat)
  /-- PATH_SILENT (R348): 6.00 µs pass without a heartbeat on a path; with both silent the partner is lost. -/
  | pathSilent (path : Bool)
  /-- SAMPLE_RX (R344): A standby receives the active's SAMPLE for its shadow computation. -/
  | sampleRx (unitB : Bool) (row : BitVec 22) (step : Fin 1024) (inputs : List Word)
  /-- REACH_RX (R341): The partner's REACH is received. -/
  | reachRx (unitB meterM : Bool) (reach linked : BitVec 20)
  /-- STEP_RECORD_RX (R342): The active's step record completes at the standby and is compared. -/
  | stepRecordRx (r : Sys2Proof.Machine.StepRec) (digest : Word)
  /-- HANDOVER_RX (R355): A standby receives a HANDOVER block and commits with HO_ACK. -/
  | handoverRx (unitB : Bool) (reason : BitVec 3) (row : BitVec 22) (step : Fin 1024)
  /-- STATE_TRANSFER_DONE (R360): The state transfer completes, and the SYNCING unit becomes STANDBY. -/
  | stateTransferDone (x : Sys2Proof.Machine.Transfer)
  /-- PAIR_HANDOVER (R354): A host request for a planned handover, by PAIR_ACTION 0 or PAIR_CTRL.HANDOVER. -/
  | pairHandover (q : Option Req)
  /-- PAIR_PROOF (R363): A proof takeover is started by PAIR_ACTION 1 or PAIR_CTRL.PROOF. -/
  | pairProof (q : Option Req)
  /-- PAIR_ISOLATE (R361): A unit leaves the pair for ISOLATED by PAIR_ACTION 2 or PAIR_CTRL.ISOLATE. -/
  | pairIsolate (q : Option Req)
  /-- PAIR_REJOIN (R361): An ISOLATED unit returns through SYNCING by PAIR_ACTION 3 or PAIR_CTRL.REJOIN. -/
  | pairRejoin (q : Option Req)
  /-- SAF_START_TEST (R367): The safety start test completes, and SAF enters XCHK or FAULT. -/
  | safStartTest (pass : Bool) (sw1 : BitVec 16)
  /-- SH_LOST (R370): SH fails its self-test or plausibility check and loses qualification. -/
  | shLost (why : ShMeasure)
  /-- SIN_CHANGE (R384): A safety input channel has held a new level for 1.00 ms. -/
  | sinChange (k : Fin 8) (chB : Bool) (level : Bool)
  /-- SIN_FAULT (R385): A channel disagreement exceeds t_disc and latches the input fault. -/
  | sinFault (k : Fin 8)
  /-- SLF_VIOLATION (R379): The rate stays outside the SLF limits for SPS_SLF_T. -/
  | slfViolation (sh : Bool)
  /-- SLA_VIOLATION (R380): |δ| stays above SPS_SLA_MAX for SPS_SLA_T. -/
  | slaViolation (sh : Bool)
  /-- SDP_VIOLATION (R381): The power flows in the forbidden direction for SPS_SDP_T. -/
  | sdpViolation (sh : Bool)
  /-- SW1_READ (R391): SW1 is read every 100 ms; a change in service demands SS-R. -/
  | sw1Read (sw1 : BitVec 16)
  /-- PACKET_RX (R397): A UDP command packet is received, authenticated and sorted by its SEQ. -/
  | packetRx (port : HostPort) (d : List Byte)
  /-- REORDER_TIMEOUT (R398): A SEQ gap stays open 20 ms, so the held commands are discarded. -/
  | reorderTimeout (session : Fin 9)
  /-- SESSION_TIMEOUT (R395): No valid packet for CMD_SESS_TMO, so the session closes. -/
  | sessionTimeout (session : Fin 9)
  /-- PING (R409): Returns unit, role, mode, position and module time. -/
  | ping (q : Req)
  /-- IDENT (R409): Returns the module identity and firmware versions. -/
  | ident (q : Req)
  /-- OWN_CLAIM (R403): Makes the session the owner of the mode or setpoint class. -/
  | ownClaim (q : Req) (cls : Byte)
  /-- OWN_RELEASE (R403): Ends the session's ownership of a class. -/
  | ownRelease (q : Req) (cls : Byte)
  /-- EVLOG_READ (R409): Returns event-log entries from an index. -/
  | evlogRead (q : Req) (first : BitVec 64) (n : Byte)
  /-- MGMT_SEND (R411): Sends a management request over VC3 to a concentrator or submodule. -/
  | mgmtSend (q : Req) (conc : Bool) (id code : BitVec 16) (body : List Byte)
  /-- MGMT_ANSWER_RX (R411): A management answer arrives and completes its MGMT_SEND. -/
  | mgmtAnswerRx (tag : Word) (code : BitVec 16) (body : List Byte)
  /-- MGMT_TIMEOUT (R411): No answer within 100 ms, so MGMT_SEND completes with NO_RESPONSE. -/
  | mgmtTimeout (tag : Word)
  /-- MGMT_EVENT_RX (R411): A far-end event message arrives and is written to the event log. -/
  | mgmtEventRx (smn code : BitVec 16) (body : List Byte)
  /-- RESET (R409): The RESET command performs a module reset, after a handover where possible. -/
  | reset (q : Req)
  /-- MODE_SET (R97): Requests a mode transition at a boundary. -/
  | modeSet (q : Req) (code : Byte)
  /-- BRK_REPORT (R93): Reports the converter and tie breaker positions. -/
  | brkReport (q : Req) (conv tie : Byte)
  /-- SET_P (R81): Sets the P target. -/
  | setP (q : Req) (v : Word)
  /-- SET_Q (R81): Sets the Q target. -/
  | setQ (q : Req) (v : Word)
  /-- SET_V (R81): Sets the V target. -/
  | setV (q : Req) (v : Word)
  /-- SET_F (R81): Sets the F target. -/
  | setF (q : Req) (v : Word)
  /-- SET_MULTI (R409): Sets several targets at one boundary. -/
  | setMulti (q : Req) (mask : Byte) (p qq v f : Word)
  /-- REG_ACCESS (R406): Reads, writes and modifies up to 64 registers as one access. -/
  | regAccess (q : Req) (es : List RegEntry)
  /-- REG_READ_RANGE (R408): Reads up to 64 consecutive registers at one read instant. -/
  | regReadRange (q : Req) (first : Word) (n : Byte)
  /-- LDG_READ (R409): Returns ledger records. -/
  | ldgRead (q : Req) (addr : Word) (n : BitVec 16)
  /-- LDG_ARCH_READ (R409): Returns archived ledger records. -/
  | ldgArchRead (q : Req) (first : Word) (n : Byte)
  /-- LDG_RETIRE (R232): Makes a wear retirement request for a named ACTIVE submodule. -/
  | ldgRetire (q : Req) (smn : BitVec 16)
  /-- LDG_REPLACE (R233): Opens a submodule number for replacement. -/
  | ldgReplace (q : Req) (smn : BitVec 16)
  /-- LDG_KEY_SET (R228): Installs the OEM identity public key. -/
  | ldgKeySet (q : Req) (key : List Byte)
  /-- ACQ_HEAD (R409): Returns the lowest unread complete record. -/
  | acqHead (q : Req)
  /-- ACQ_READ (R409): Returns bytes of the head record. -/
  | acqRead (q : Req) (num off : Word) (n : BitVec 16)
  /-- ACQ_FREE (R303): Frees the head record. -/
  | acqFree (q : Req) (num : Word)
  /-- ACQ_STREAM (R409): Returns frames and gap entries of a continuous slot. -/
  | acqStream (q : Req) (slot : Byte) (first : BitVec 64) (n : BitVec 16)
  /-- MTR_READOUT (R332): Returns a signed meter readout. -/
  | mtrReadout (q : Req)
  /-- MTR_PROFILE (R332): Returns a signed profile readout. -/
  | mtrProfile (q : Req) (first : Word) (n : Byte)
  /-- MTR_AUDIT_READ (R330): Returns metering audit entries. -/
  | mtrAuditRead (q : Req) (first : Word) (n : Byte)
  /-- MTR_SEAL (R330): Computes the seal digest and sets SEALED. -/
  | mtrSeal (q : Req)
  /-- MTR_FWHASH (R331): Records the hash of the staged image's legally relevant part. -/
  | mtrFwhash (q : Req)
  /-- SPS_WRITE (R388): Writes registers of the safety parameter set. -/
  | spsWrite (q : Req) (off : BitVec 16) (vals : List Word)
  /-- SPS_CONFIRM (R389): Confirms the safety check value. -/
  | spsConfirm (q : Req) (chk : Word)
  /-- SAF_RESET (R386): Requests a safety reset. -/
  | safReset (q : Req)
  /-- SAF_SPB (R377): Demands a safe pulse block with cause 9. -/
  | safSpb (q : Req)
  /-- SAF_PROOF (R392): Starts a proof test of the safety functions. -/
  | safProof (q : Req) (test : Byte)
  /-- SAF_PROOF_OUT (R392): Confirms whether the awaited safety output was seen in test 5. -/
  | safProofOut (q : Req) (out seen : Byte)
  /-- FW_BEGIN (R409): Begins staging a firmware image into the image not running. -/
  | fwBegin (q : Req) (len ver : Word)
  /-- FW_DATA (R409): Writes bytes of the staged image. -/
  | fwData (q : Req) (off : Word) (data : List Byte)
  /-- FW_END (R473): Checks the staged image. -/
  | fwEnd (q : Req)
  /-- FW_ACTIVATE (R473): Chooses an image to boot at the next start. -/
  | fwActivate (q : Req) (img : Byte)
  /-- HELLO (R474): Begins a session handshake. -/
  | hello (port : HostPort) (p : List Byte)
  /-- FINISH (R474): Completes a session handshake. -/
  | finish (port : HostPort) (session : Fin 9) (sig : List Byte)
  /-- CLOSE (R395): Closes the session and releases its ownership. -/
  | close (q : Req)
  /-- TRUST_SET (R474): Installs the trust anchor. -/
  | trustSet (q : Req) (anchor : List Byte)
  /-- KEY_GEN (R471): Generates a device or metrology key and returns a certificate request. -/
  | keyGen (q : Req) (kind : Byte)
  /-- CERT_SET (R471): Installs the certificate for a generated key. -/
  | certSet (q : Req) (cert : List Byte)
  /-- DEBUG_UNLOCK (R478): Checks a debug token, zeroises the keys and resets with the port open. -/
  | debugUnlock (q : Req) (token : List Byte)
  /-- SRAM_ECC_ERROR (R431): An SRAM read finds a corrected or uncorrectable error, and the requester acts. -/
  | sramEccError (addr : BitVec 20) (corrected : Bool) (user : SramUser)
  /-- SCRUB_STEP (R432): The scrubber reads the next SRAM word on its paced schedule. -/
  | scrubStep (err : Option Bool)
  /-- MT_SLICE_RETURN (R436): The slice's shadow line is written back, and faults make the bank due. -/
  | mtSliceReturn (fails : List (Fin 32))
  /-- DRAM_PATROL (R438): The DRAM patrol scrub reads a burst and handles its errors. -/
  | dramPatrol (addr : Word) (err : Option Bool)
  /-- EMMC_LIFE_CHECK (R440): Once an hour the eMMC life estimates are read. -/
  | emmcLifeCheck (a b : BitVec 4) (eol : BitVec 2)
  /-- BK_MEASURE (R442): Once per second the backup oscillator is measured against the TCXO. -/
  | bkMeasure (ppm : Word)
  /-- BAND_REJ (R445): A PLL fails to lock on its overridden band within 100 µs. -/
  | bandRej (n : Fin 10)
  /-- QPLL_LOSS (R446): A quad PLL loses lock, and its ports leave LINK_UP. -/
  | qpllLoss (q : Fin 6)
  /-- QPLL_RELOCK (R446): A quad PLL relock is attempted every 1 ms. -/
  | qpllRelock (q : Fin 6) (ok : Bool)
  /-- INPUT_LOST (R450): One supply input falls below 33.0 V. -/
  | inputLost (b : Bool) (mv : Word)
  /-- POWER_WARN (R452): Both inputs stay below 33.0 V for 10 µs; the lifeline save starts. -/
  | powerWarn (mvA mvB : Word)
  /-- POWER_WARN_CLEAR (R455): The inputs recover before the reset level, and the brownout is survived. -/
  | powerWarnClear (mvA mvB : Word)
  /-- LIFELINE_DONE (R453): The lifeline save completes or fails. -/
  | lifelineDone (ok : Bool)
  /-- RAIL_FAULT (R456): An internal rail leaves its window for 10 µs. -/
  | railFault (rail : Fin 6)
  /-- INIT_COMPLETE (R95): INIT ends, and the unit takes READY, COMMISSION or SAFE_STOP. -/
  | initComplete (pass : Bool)
  /-- BAT_MEASURE (R462): The coin cell is measured daily and at start. -/
  | batMeasure (mv : Option Word)
  /-- PTP_MESSAGE_RX (R464): A PTP event message is received, stamped, and fed to the servo. -/
  | ptpMessageRx (m : PtpMsg)
  /-- SM_BULK_REQUEST_RX (R225): A submodule receives a request on VC1, VC2 or VC3 (SWEEP_RD, RECONCILE, IDENT_REQ, REOPEN, CAP_REQ or a management request) and answers or acts on it as its obligations require. -/
  | smBulkRequestRx (n : Fin 4096) (r : SmRequest)
  /-- CONC_LAT_RX (R200): A concentrator receives LAT and takes its d as the latest delay for recovering the module's boundary. -/
  | concLatRx (c : Fin 20) (lane : Fin 20) (d : BitVec 18) (tag : BitVec 16)
  /-- PAIR_ECHO_REQ_RX (R339): A unit receives the partner's ECHO_REQ on a pair-link path and answers with ECHO_RSP carrying its turnaround. -/
  | pairEchoReqRx (path : Bool) (tag : BitVec 16) (turn : BitVec 24)
  /-- PROOF_TEST_DECIDED (R392): A running proof test 1, 2 or 4 is decided within 100 ms of its boundary, or a 100 ms low hold of a test-5 output channel ends, and SAF records the result or moves on. -/
  | proofTestDecided (pass : Bool)
  /-- CONC_LOOP_RESTORED (R159): The owner's pulse-block loop returns to energised at the concentrator input, and the concentrator lets its submodules start counting valid commands to leave BLOCK. -/
  | concLoopRestored (c : Fin 20)
  /-- INPUT_RESTORED (R450): A supply input that was lost returns to 33.0 V or above, and its VIN_OK status and the PWR lamp return to normal. -/
  | inputRestored (b : Bool) (mv : Word)
  /-- STEP_BOUNDARY (R26): θ reaches ac 0 of a step; the angle base advances and the fixed boundary sequence runs in the order of R26. -/
  | stepBoundary
  /-- CONTROL_SAMPLE_DELIVERY (R282): At 1.20 µs the control outputs are handed to the GFE; an output that is not complete is marked absent and unsettled. -/
  | controlSampleDelivery
  /-- RESPONSE_DEADLINE (R25): ac 256 passes, and the response words of the step that are complete are taken for use. -/
  | responseDeadline
  /-- ARM_COMPLETE (R147): The arm manager completes ranking and builds every command word, or the compare values in direct mode. -/
  | armComplete
  /-- DISPATCH_DEADLINE (R33): ac 800 passes; slots of a lane queued late are withheld and counted. -/
  | dispatchDeadline
  /-- PIPE_MARGIN_RST (R35): A write of PIPE_CTRL.MARGIN_RST sets PIPE_MARGIN back to 800. -/
  | pipeMarginRst
  /-- ANG_THETA_READ (R46): A read of ANG_THETA latches ROW and module time on the same edge. -/
  | angThetaRead
  /-- ANGLE_LOCKED (R57): After 1,024 consecutive boundaries within 5 ns, the standby's angle base enters LOCKED. -/
  | angleLocked
  /-- LOCK_LOST (R57): The phase error exceeds the limits, so the angle base leaves LOCKED for TRACK. -/
  | lockLost
  /-- ANGLE_HOLD (R59): No valid mark arrives for 2 consecutive steps, so the standby's angle base enters HOLD. -/
  | angleHold
  /-- BUS_QUALIFIED (R92): The bus has met the dead or live criterion for MODE_BUS_T, and DEAD or LIVE is set. -/
  | busQualified
  /-- BRK_DISAGREE (R93): Current in 8 consecutive steps shows the breaker closed against an open report. -/
  | brkDisagree
  /-- CASTON_COMPLETE (R100): GFE_KV has been 1.0 for 1,024 steps, so cast-on completes. -/
  | castonComplete
  /-- CASTON_FAIL (R100): The pause time exceeds MODE_CO_TPAUSE, so cast-on fails to READY. -/
  | castonFail
  /-- SYNC_OK (R104): The angle, slip and voltage windows have held for MODE_SY_TOK, so SYNC_OK is set. -/
  | syncOk
  /-- SYNC_TIMEOUT (R105): SYNC has lasted MODE_SY_TMAX without a closure. -/
  | syncTimeout
  /-- BIND_OFF_COMPLETE (R112): |i| has stayed at or below MODE_BO_IMIN for 1,024 steps. -/
  | bindOffComplete
  /-- BO_TIMEOUT (R112): The bind-off has lasted MODE_BO_TMAX. -/
  | boTimeout
  /-- RIDE_THROUGH_ENTRY (R121): The entry condition holds in 2 consecutive steps. -/
  | rideThroughEntry
  /-- RIDE_THROUGH_EXIT (R121): The exit condition has held for RTSn_T_EXIT. -/
  | rideThroughExit
  /-- EXCURSION_END (R126): The exit level has held for RTSn_T_EXIT, so the excursion ends. -/
  | excursionEnd
  /-- HOLD_EXPIRED (R132): The COAST holdover time reaches RT_HOLD. -/
  | holdExpired
  /-- REJOIN (R133): After 256 consecutive valid samples the machine rejoins from COAST. -/
  | rejoin
  /-- KZ_TERM_END (R124): A recovery or phase-jump term of k_z decays to 1.0 and ends. -/
  | kzTermEnd
  /-- PRECH_OK (R152): The precharge criterion has held in 8 consecutive steps. -/
  | prechOk
  /-- LDG_DECISION_APPLY (R223): A ledger decision from step s reaches the arm manager at the boundary of step s+4. -/
  | ldgDecisionApply
  /-- LDG_MIRROR_TIMEOUT (R235): A ledger change unacknowledged for 20 µs is applied all the same. -/
  | ldgMirrorTimeout
  /-- LDG_IMAGE_START (R236): Every 10 minutes the ledger starts writing its image to the other slot. -/
  | ldgImageStart
  /-- PWM_LOAD_ALL (R246): A write of LOAD_ALL arms every counter for transfer. -/
  | pwmLoadAll
  /-- SPARE_PATCH (R273): At the next boundary the spare core is connected to a faulted group and calibrates. -/
  | sparePatch
  /-- SPARE_CAL_DONE (R273): The spare's calibration ends, and it serves the group from the next boundary. -/
  | spareCalDone
  /-- ADC_PATCH_RELEASE (R274): ADC_PATCH.RELEASE returns a group to its own core. -/
  | adcPatchRelease
  /-- ACQ_MFIFO_POP (R301): A write of ACQ_MFIFO_POP removes the head of the missed-trigger FIFO. -/
  | acqMfifoPop
  /-- SNAP_CMD (R306): A write of SNAP_CMD.GO raises SNAP. -/
  | snapCmd
  /-- SNAP_COPY_DONE (R307): The snapshot copy into a buffer completes. -/
  | snapCopyDone
  /-- HEARTBEAT_SEND (R339): A HEARTBEAT is sent on both paths every 2.000 µs. -/
  | heartbeatSend
  /-- WITNESS_DECISION (R350): All witness reports are in or 4.00 µs pass, and the unit decides its action. -/
  | witnessDecision
  /-- REACH_SEND (R341): A REACH block is sent at ac 128 of each step. -/
  | reachSend
  /-- REC_MISS (R342): ac 1000 passes without a complete step record. -/
  | recMiss
  /-- MEAS_DIV (R346): An input differs beyond PAIR_MEAS_TOL in 8 consecutive steps. -/
  | measDiv
  /-- ACK_LATE (R343): A journal acknowledgement does not arrive within 20 µs. -/
  | ackLate
  /-- REVERT (R358): Unit A has shown HO_OK for PAIR_REVERT_T, so unit B hands over. -/
  | revert
  /-- LONE_START (R359): PAIR_START_T passes with no partner seen, so unit B becomes ACTIVE. -/
  | loneStart
  /-- PROOF_RESULT (R363): After 8 steps the new active records the proof result. -/
  | proofResult
  /-- SH_QUALIFY (R368): SH has agreed for 1,024 steps, so SAF enters DIVERSE. -/
  | shQualify
  /-- CH_DISC (R371): SPa and SH disagree for 100 ms, so SS-R is demanded. -/
  | chDisc
  /-- SSR_TIMEOUT (R378): SPS_SSR_T expires before the bind-off ends, so SPB is demanded. -/
  | ssrTimeout
  /-- PBL_REVERSAL (R372): The energised loop reverses its polarity every 500 µs. -/
  | pblReversal
  /-- PBL_OPEN (R374): The loop feedback is lost while the loop is energised, so SPB is demanded. -/
  | pblOpen
  /-- PBL_STUCK (R374): The feedback stays above 12 V 100 µs after de-energising. -/
  | pblStuck
  /-- SOUT_TEST_PULSE (R387): Every 100 ms each safety output is tested with a 300 µs low pulse. -/
  | soutTestPulse
  /-- PROOF_TIMEOUT (R392): A proof test 3 or 5 is undecided 600 s after its boundary and fails. -/
  | proofTimeout
  /-- REMAP_DONE (R433): The copy ends, and the remap table takes the spare. -/
  | remapDone
  /-- MT_SLICE_BORROW (R436): The background test borrows the next slice and tests its cells. -/
  | mtSliceBorrow
  /-- CLK_GO (R443): A write of CLK_GO arms a divider transfer. -/
  | clkGo
  /-- DIVIDER_TRANSFER (R443): The dividers align and take their shadows. -/
  | dividerTransfer
  /-- SPLL_LOSS (R446): SPLL loses lock, and SYS passes to BPLL. -/
  | spllLoss
  /-- REF_LOST (R446): The TCXO is lost, and the PLLs move to the backup reference. -/
  | refLost
  /-- APLL_LOSS (R446): The converter PLL loses lock, and no conversion is delivered. -/
  | apllLoss
  /-- APLL_RELOCK_TIMEOUT (R446): The APLL has not relocked within 1 ms, which is a hard clock cause. -/
  | apllRelockTimeout
  /-- DPLL_LOSS (R446): The DRAM PLL loses lock, leading to a module reset. -/
  | dpllLoss
  /-- BPLL_LOSS (R446): The backup oscillator or BPLL is lost. -/
  | bpllLoss
  /-- SUPPLY_RESET (R454): The hold-up rail falls below 26.0 V. -/
  | supplyReset
  /-- UNIT_START (R458): The rail holds 34.0 V for 100 ms, and the unit powers up and boots. -/
  | unitStart
  /-- RESET_IN_PRESS (R460): A RESET_IN closure held 50 ms resets the unit, after a handover where possible. -/
  | resetInPress
  /-- RESET_IN_HANDOVER_TIMEOUT (R460): The handover has not happened after 8 boundaries, so the unit resets. -/
  | resetInHandoverTimeout
  /-- RST_STUCK (R460): RESET_IN held 10 s is treated as failed closed. -/
  | rstStuck
  /-- RST_STUCK_CLEAR (R460): RESET_IN seen open for 1 s clears RST_STUCK. -/
  | rstStuckClear
  /-- WATCHDOG_RESET (R461): A missed watchdog service causes a reset. -/
  | watchdogReset
  /-- TIME_RECORD (R463): Module time is recorded to MRAM once per second. -/
  | timeRecord
  /-- CAL_TIME_READ (R463): A read of CAL_TIME_LO latches CAL_TIME_HI. -/
  | calTimeRead
  /-- PPS_IN_EDGE (R464): A PPS_IN rising edge is stamped and disciplines module time. -/
  | ppsInEdge
  /-- CAL_LOCKED (R465): The offset stays within CAL_TRACE_LIM for 10 s. -/
  | calLocked
  /-- CAL_HOLDOVER (R465): The source is lost for 3 s while LOCKED. -/
  | calHoldover
  /-- CAL_SET (R464): A write of CAL_SET_HI sets module time at its boundary. -/
  | calSet
  /-- PPS_OUT_PULSE (R468): PPS_OUT rises at each whole second of module time. -/
  | ppsOutPulse
  /-- TAMPER_OPEN (R477): The tamper latch sets, and the keys are zeroised. -/
  | tamperOpen
  /-- TAMPER_CLR (R477): A write of SEC_CTRL.TAMPER_CLR clears the latch with the cover closed. -/
  | tamperClr
  /-- PROOF_SILENCE_END (R363): The 100 µs in which the proving active sends only IDLE with DISP = 0 end, and the old active resumes its heartbeats and passes through SYNCING. -/
  | proofSilenceEnd
  /-- APLL_RELOCK (R446): The converter PLL regains lock within 1 ms, and the event ends with conversions delivered again. -/
  | apllRelock
  /-- CAL_HOLDOVER_EXPIRE (R466): HOLDOVER has lasted CAL_HOLDOVER, so module time stops being traceable and TIME_OK falls to 0. -/
  | calHoldoverExpire
  deriving DecidableEq, Repr

end Sys2Proof
end

