-- ==== Sys2Proof/WellFormed.lean ====
section
/-! DEFINITION. Which commands are well formed: the operands that the formats of the specification can carry. -/
namespace Sys2Proof

/-- A list of `lo` to `hi` elements. -/
def lenIn {α : Type} (lo hi : Nat) (l : List α) : Bool := decide (lo ≤ l.length) && decide (l.length ≤ hi)

/-- A STEP_MARK's step is below 1,024 and its TXOFS has eight bits (R196). -/
def Mark.wf (m : Mark) : Bool := decide (m.step < 1024) && decide (m.txofs < 256)

/-- A bulk block carries 1 to 32 data blocks of 8 bytes (R203). -/
def BulkBlk.wf (b : BulkBlk) : Bool := lenIn 8 256 b.payload && decide (b.payload.length % 8 = 0)

/-- A request to a submodule: one to five items or endpoints (R227), a message of one bulk block (R411). -/
def SmRequest.wf : SmRequest → Bool
  | .sweepRd _ n _ => decide (1 ≤ n.val)
  | .reconcile _ items _ => lenIn 1 5 items
  | .identReq => true
  | .reopen _ => true
  | .capReq _ _ _ _ _ => true
  | .mgmt _ _ body => lenIn 0 256 body

/-- A step record names a step of a row (R342). -/
def Machine.StepRec.wf (r : Machine.StepRec) : Bool := decide (r.step < 1024)

/-- The command is well formed. -/
def Instr.wf : Instr → Bool
  | .registerWrite es => lenIn 1 64 es
  | .pairMarkRx _ m _ => m.wf
  | .cycUpRx _ first count _ words => decide (1 ≤ count.val) && decide (first.val + count.val ≤ 256) && decide (words.length = count.val)
  | .bulkBlockRx _ b _ => b.wf
  | .auditRx _ audits => lenIn 1 3 audits
  | .concMarkRx _ _ m _ => m.wf
  | .concCycDnRx _ _ _ _ first words => lenIn 1 (256 - first.val) words
  | .concOosRunRx _ _ _ _ first words => lenIn 1 (256 - first.val) words
  | .concRestrictRx _ _ _ _ arm _ _ _ => decide (arm.val < 6)
  | .reportRx _ _ _ items => lenIn 1 5 items
  | .identRx _ b => decide (b.sig.length = 96)
  | .conversionDone _ code => decide (-32768 ≤ code) && decide (code ≤ 32767)
  | .capDataRx _ _ _ _ data => lenIn 1 64 data
  | .sampleRx _ _ _ inputs => lenIn 1 12 inputs
  | .stepRecordRx r _ => r.wf
  | .stateTransferDone x => x.srec.wf
  | .packetRx _ d => lenIn 0 65535 d
  | .mgmtSend _ _ _ _ body => lenIn 0 1400 body
  | .mgmtAnswerRx _ _ body => lenIn 0 256 body
  | .mgmtEventRx _ _ body => lenIn 0 256 body
  | .regAccess _ es => lenIn 0 116 es
  | .ldgKeySet _ key => lenIn 0 1400 key
  | .spsWrite _ _ vals => lenIn 0 349 vals
  | .fwData _ _ data => lenIn 0 1396 data
  | .hello _ p => lenIn 0 1400 p
  | .finish _ _ sig => lenIn 0 1400 sig
  | .trustSet _ anchor => lenIn 0 1400 anchor
  | .certSet _ cert => lenIn 0 1400 cert
  | .debugUnlock _ token => lenIn 0 1400 token
  | .mtSliceReturn fails => lenIn 0 32 fails
  | .smBulkRequestRx _ r => r.wf
  | .stitchFire _ | .gfeComplete _ | .slotRelease _ _ | .hwcTrip _ _ _ | .hwcRelease _ _ | .responseWordRx _ _ _ _
  | .smRetire _ | .sparePromote _ | .smCmdRx _ _ | .smLocalAc0 _ _ | .smPblLost _ | .smRestrict _ _ _ _
  | .smOwnProtection _ _ | .sfpInsert _ _ _ _ | .sfpWithdraw _ | .losAssert _ | .losClear _ | .lol _ | .blockLock _
  | .rxPolarityInvert _ | .hiBer _ _ | .trainingBlockRx _ _ | .requestTimeout _ | .adaptTimeout _ | .attemptTimeout _
  | .failedExpire _ | .fallbackPresetWindow _ _ | .confirmDone _ | .phyRetrain _ | .ctlBlockDiscard _ | .orphanBlock _
  | .idleRx _ _ _ _ _ | .bulkBlockSend _ | .ackRx _ _ _ | .ackSend _ | .creditRx _ _ _ | .creditSend _ _
  | .retryTimeout _ | .auditRepeat _ | .echoRspRx _ _ _ _ | .echoTimeout _ | .echoNow _ | .declareRx _ _ _ _ _ _
  | .witnessRx _ _ _ _ _ _ _ _ | .routeWrite _ | .concWitnessWindow _ _ _ | .concEchoReply _ _ _ _
  | .concDeclare _ _ _ _ _ _ | .concAuditRx _ _ _ | .concLoopLost _ | .sweepVisit _ | .reportTimeout _ _
  | .identTimeout _ | .wearRelease _ | .ldgImageDone _ | .periodStart _ | .cmpMatch _ | .deadTimeExpire _ _
  | .xcMatch _ _ | .pwmEnable _ _ | .tripInput _ _ | .blankClose _ | .tripClr _ | .scanTrigger _ | .trigInEdge _
  | .adcSwtrig _ | .conversionTimeout _ | .urgentRequest _ _ | .adcPatchGo _ | .clampOverdrive _ _ | .refSelect _ _
  | .refSettled _ | .refFault _ | .missingSample _ | .filterOutput _ | .fltSyncSoft _ | .fltSyncHard _
  | .recordClose _ | .acqTrgArm _ | .capEndRx _ _ _ _ | .remoteTimeout _ | .snapInEdge _ | .heartbeatRx _ _
  | .pathSilent _ | .reachRx _ _ _ _ | .handoverRx _ _ _ _ | .pairHandover _ | .pairProof _ | .pairIsolate _
  | .pairRejoin _ | .safStartTest _ _ | .shLost _ | .sinChange _ _ _ | .sinFault _ | .slfViolation _ | .slaViolation _
  | .sdpViolation _ | .sw1Read _ | .reorderTimeout _ | .sessionTimeout _ | .ping _ | .ident _ | .ownClaim _ _
  | .ownRelease _ _ | .evlogRead _ _ _ | .mgmtTimeout _ | .reset _ | .modeSet _ _ | .brkReport _ _ _ | .setP _ _
  | .setQ _ _ | .setV _ _ | .setF _ _ | .setMulti _ _ _ _ _ _ | .regReadRange _ _ _ | .ldgRead _ _ _
  | .ldgArchRead _ _ _ | .ldgRetire _ _ | .ldgReplace _ _ | .acqHead _ | .acqRead _ _ _ _ | .acqFree _ _
  | .acqStream _ _ _ _ | .mtrReadout _ | .mtrProfile _ _ _ | .mtrAuditRead _ _ _ | .mtrSeal _ | .mtrFwhash _
  | .spsConfirm _ _ | .safReset _ | .safSpb _ | .safProof _ _ | .safProofOut _ _ _ | .fwBegin _ _ _ | .fwEnd _
  | .fwActivate _ _ | .close _ | .keyGen _ _ | .sramEccError _ _ _ | .scrubStep _ | .dramPatrol _ _
  | .emmcLifeCheck _ _ _ | .bkMeasure _ | .bandRej _ | .qpllLoss _ | .qpllRelock _ _ | .inputLost _ _ | .powerWarn _ _
  | .powerWarnClear _ _ | .lifelineDone _ | .railFault _ | .initComplete _ | .batMeasure _ | .ptpMessageRx _
  | .concLatRx _ _ _ _ | .pairEchoReqRx _ _ _ | .proofTestDecided _ | .concLoopRestored _ | .inputRestored _ _
  | .stepBoundary | .controlSampleDelivery | .responseDeadline | .armComplete | .dispatchDeadline | .pipeMarginRst
  | .angThetaRead | .angleLocked | .lockLost | .angleHold | .busQualified | .brkDisagree | .castonComplete
  | .castonFail | .syncOk | .syncTimeout | .bindOffComplete | .boTimeout | .rideThroughEntry | .rideThroughExit
  | .excursionEnd | .holdExpired | .rejoin | .kzTermEnd | .prechOk | .ldgDecisionApply | .ldgMirrorTimeout
  | .ldgImageStart | .pwmLoadAll | .sparePatch | .spareCalDone | .adcPatchRelease | .acqMfifoPop | .snapCmd
  | .snapCopyDone | .heartbeatSend | .witnessDecision | .reachSend | .recMiss | .measDiv | .ackLate | .revert
  | .loneStart | .proofResult | .shQualify | .chDisc | .ssrTimeout | .pblReversal | .pblOpen | .pblStuck
  | .soutTestPulse | .proofTimeout | .remapDone | .mtSliceBorrow | .clkGo | .dividerTransfer | .spllLoss | .refLost
  | .apllLoss | .apllRelockTimeout | .dpllLoss | .bpllLoss | .supplyReset | .unitStart | .resetInPress
  | .resetInHandoverTimeout | .rstStuck | .rstStuckClear | .watchdogReset | .timeRecord | .calTimeRead | .ppsInEdge
  | .calLocked | .calHoldover | .calSet | .ppsOutPulse | .tamperOpen | .tamperClr | .proofSilenceEnd | .apllRelock
  | .calHoldoverExpire => true

end Sys2Proof
end

