-- ==== Sys2Proof/Decode.lean ====
section
/-! DEFINITION. The command that a word of the opcode table spells. The table gives no row any bits: it lists commands and
events, not encodings, so no word spells one. -/
namespace Sys2Proof

/-- The command spelled by `nbits` bits numbered as the opcode table numbers them: none, for every word. -/
def decodeTableWord (_nbits _w : Nat) : Option Instr := none

end Sys2Proof
end

