-- ==== Sys2Proof/Machine/Bits.lean ====
section
/-! DEFINITION. Bit fields, sparse maps in canonical form, and the small integer helpers every block uses. -/
namespace Sys2Proof

/-- The value of the field of `n` bits whose lowest bit is `lo` (R9). -/
def bits (w : Word) (lo n : Nat) : Nat := (w.toNat >>> lo) % 2 ^ n

/-- Bit `i` of a register. -/
def bit (w : Word) (i : Nat) : Bool := w.getLsbD i

/-- A register word from a natural number, wrapping. -/
def word (n : Nat) : Word := BitVec.ofNat 32 n

/-- A Boolean as a field of one bit. -/
def b2n (b : Bool) : Nat := if b then 1 else 0

/-- `w` with the field of `n` bits at `lo` replaced by `v`. -/
def setBits (w : Word) (lo n v : Nat) : Word :=
  let m := word ((2 ^ n - 1) <<< lo)
  (w &&& ~~~m) ||| (word (v <<< lo) &&& m)

/-- `w` with bit `i` set to `b`. -/
def putBit (w : Word) (i : Nat) (b : Bool) : Word := setBits w i 1 (b2n b)

/-- A saturating count of events (R423: a counter that records a loss saturates and never wraps). -/
def satInc (w : Word) : Word := if w = 0xFFFF_FFFF then w else w + 1

/-- A saturating addition to a counter. -/
def satAdd (w : Word) (n : Nat) : Word := word (min 0xFFFF_FFFF (w.toNat + n))

/-- A two's complement word as an integer. -/
def sx (w : Word) : Int := w.toInt

/-- An integer as a word that saturates at the two's complement limits (R11). -/
def satWord (i : Int) : Word :=
  if i ≥ 0x7FFF_FFFF then 0x7FFF_FFFF
  else if i ≤ -0x8000_0000 then 0x8000_0000
  else BitVec.ofInt 32 i

/-- Division of `a` by `b` > 0 rounded to nearest, a half away from zero (R11). -/
def divRound (a : Int) (b : Nat) : Int :=
  if a ≥ 0 then Int.ofNat ((2 * a.toNat + b) / (2 * b))
  else - Int.ofNat ((2 * (-a).toNat + b) / (2 * b))

/-- Division rounded towards minus infinity. -/
def divFloor (a : Int) (b : Nat) : Int := Int.fdiv a (Int.ofNat b)

/-- The bytes of `v`, least significant first. -/
def leBytes : Nat → Nat → List Byte
  | 0, _ => []
  | n + 1, v => BitVec.ofNat 8 v :: leBytes n (v / 256)

/-- The number a list of bytes spells, least significant first. -/
def ofLe : List Byte → Nat
  | [] => 0
  | b :: t => b.toNat + 256 * ofLe t

/-- The bytes of `v`, most significant first. -/
def beBytes (n v : Nat) : List Byte := (leBytes n v).reverse

/-- The number a list of bytes spells, most significant first. -/
def ofBe (l : List Byte) : Nat := ofLe l.reverse

/-- A sparse map: what key `k` holds, `d` where the list has no entry. -/
def mget {α : Type} (d : α) : List (Nat × α) → Nat → α
  | [], _ => d
  | (a, v) :: t, k => if k = a then v else mget d t k

/-- A sparse map with entry `k` removed. -/
def mdel {α : Type} : List (Nat × α) → Nat → List (Nat × α)
  | [], _ => []
  | (a, v) :: t, k => if k = a then t else if k < a then (a, v) :: t else (a, v) :: mdel t k

/-- A sparse map with entry `k` put at its place in rising order. -/
def mins {α : Type} : List (Nat × α) → Nat → α → List (Nat × α)
  | [], k, v => [(k, v)]
  | (a, w) :: t, k, v =>
    if k < a then (k, v) :: (a, w) :: t else if k = a then (k, v) :: t else (a, w) :: mins t k v

/-- Write of a sparse map in canonical form: an entry equal to the default `d` is not listed. -/
def mset {α : Type} [DecidableEq α] (d : α) (m : List (Nat × α)) (k : Nat) (v : α) : List (Nat × α) :=
  if v = d then mdel m k else mins m k v

/-- The canonical form of a sparse map with default `d k` at key `k`: keys strictly rising, no entry at its default. -/
def mwf {α : Type} [DecidableEq α] (d : Nat → α) : List (Nat × α) → Bool
  | [] => true
  | [(a, v)] => decide (v ≠ d a)
  | (a, v) :: (b, w) :: t => decide (v ≠ d a) && decide (a < b) && mwf d ((b, w) :: t)

/-- The element of a list at `i`, or the default. -/
def nth {α : Type} (d : α) (l : List α) (i : Nat) : α := l.getD i d

/-- A list with its element `i` replaced by `f` of it. -/
def upd {α : Type} (l : List α) (i : Nat) (f : α → α) : List α := l.modify i f

/-- Insertion into a list sorted by `le`, after the entries not above `x` (a stable sort when applied from the left). -/
def insSorted {α : Type} (le : α → α → Bool) (x : α) : List α → List α
  | [] => [x]
  | y :: t => if le y x then y :: insSorted le x t else x :: y :: t

/-- A stable sort. -/
def sortBy {α : Type} (le : α → α → Bool) (l : List α) : List α :=
  l.foldl (fun acc x => insSorted le x acc) []

/-- The numbers 0 to n − 1 (structural, so that the kernel evaluates it). -/
def upto (n : Nat) : List Nat := List.range n

end Sys2Proof
end

