-- ==== Sys2Proof/Config.lean ====
section
/-! DEFINITION. What the specification leaves open (free values: constants without a body, so that no proof can
see a value of them) and what an implementation fixes. -/
namespace Sys2Proof.Config

/-- Whether an inexact result of the engine takes the upper of its two neighbours on the 2^-40 grid. R61 gives the
resolution of the states and R67 makes every result a function of its inputs; the rounding itself is not stated
(log entry 8). -/
opaque gfeUp : Int → Nat → Bool

/-- Coefficient `t` of response `i` (R284): 24-bit values that the specification does not list (log entry 9). -/
opaque coef : Nat → Nat → Int

/-- A free value of 64 bits for a value the specification leaves open, drawn with the counter of State
(log entry 6). -/
opaque freeValue : Nat → BitVec 64

/-- The nonzero state from which a port's scrambler starts, less its lowest bit, and that of its PRBS-31 (R167, R171, log entry 83). -/
opaque scrStart : Nat → BitVec 58

/-- The state from which a port's PRBS-31 sequence starts, less its lowest bit (R171, log entry 83). -/
opaque prbsStart : Nat → BitVec 31

/-- The identity the integrator gave a concentrator (R199, log entry 84). -/
opaque concId : Nat → BitVec 16

/-- A concentrator's receive buffer per VC, less 1, before it is held to 1 to 255 credits (R204, log entry 84). -/
opaque concBuf : Nat → Nat → Nat

/-- A quotient by 0, to which no rule gives a result (log entry 8). -/
opaque divZero : Int → Int

/-- The tariff, less 1, on a day on which switch points are enabled and none applies (R321, log entry 6). -/
opaque openTariff : Int → Nat

/-- The word of a member in a frame that lies in a gap: record number, frame, member (R300, log entry 6). -/
opaque gapWord : Nat → Nat → Nat → Word

/-- SHA-384 (R329, R331, R471), as bytes (log entry 10). -/
opaque sha384 : List Byte → List Byte

/-- ECDSA P-384 verification: key, message, signature (R228, R472, log entry 10). -/
opaque ecdsaVerify : List Byte → List Byte → List Byte → Bool

/-- ECDSA P-384 signature by a key held in the module: key identifier, message (R332, R474, log entry 10). -/
opaque ecdsaSign : Nat → List Byte → List Byte

/-- The tag of AES-256-GCM: key, nonce, additional data, text (R397, log entry 10). -/
opaque gcmTag : List Byte → List Byte → List Byte → List Byte → List Byte

/-- AES-256-GCM decryption: key, nonce, text (R397, log entry 10). -/
opaque gcmDecrypt : List Byte → List Byte → List Byte → List Byte

/-- AES-256-GCM (R397): key, nonce and plain text to cipher text. -/
opaque gcmEncrypt : List Byte → List Byte → List Byte → List Byte

/-- The 16 bytes that stand in the place of the tag on session 0, which R397 leaves without a key: of header and data. -/
opaque clearTag : List Byte → List Byte → List Byte

/-- The session keys and salts of a handshake: the host's key and random, and the module's draw (R474, log entry 10). -/
opaque kdf : List Byte → List Byte

/-- A certificate request for a generated key: kind, counter (R471, log entry 10). -/
opaque certRequest : Nat → Nat → List Byte

/-- The public key of a generated key: kind, counter (R471, log entry 10). -/
opaque pubKey : Nat → Nat → List Byte

/-- The CRC-32 digest of a step record (R342) over an internal layout that the specification does not give: a
function of the items it covers (log entry 24). -/
opaque recDigest : Machine.Gfe → List Int → List (Option Nat) → List (Nat × Nat) → List Nat → Option Word → Word

/-- A certificate chain against a trust anchor (R474): the leaf's public key, its role bits, its serial, the bounds of
its validity in module time; none where the chain fails (log entry 10). -/
opaque certChain : List Byte → List Byte → Option (List Byte × Nat × List Byte × Nat × Nat)

/-- The serial number of a certificate (R471, R480, log entry 10). -/
opaque certSerial : List Byte → List Byte

/-- The public key of a certificate (R471, log entry 10). -/
opaque certPub : List Byte → List Byte

/-- The module's ephemeral public key and its random, as drawn for a handshake (R474, log entry 10). -/
opaque ephemeral : Nat → List Byte

/-- An image decrypted inside the secure element under AES-256-GCM (R472); none on a bad tag (log entry 10). -/
opaque imgDecrypt : List Byte → Option (List Byte)

/-- The legally relevant part of an image (R329, R472, log entry 10). -/
opaque legalPart : List Byte → List Byte

end Sys2Proof.Config
end

