-- ==== Sys2Proof/Machine/Regs.lean ====
section
/-! DEFINITION. The registers of the block register space (R412): name, address, reset value and access of each
field, from the register and field tables of every chapter (R14, R15). PIPE_CFG resets to 2: the register table of
R35 and its field table differ (log entry 7). -/
namespace Sys2Proof

/-- One line of a register table (R14): the offset in the block, the strides and counts of its indices, the reset
value, the masks of its RW, RW/L, W1C, W1S and WO fields (R15), whether a read clears it (RC), and whether its
RW and RW/L fields belong to the configuration store (R505). -/
structure RegFam where
  off : Nat
  dims : List (Nat × Nat)
  rst : Nat
  rw : Nat
  rwl : Nat
  w1c : Nat
  w1s : Nat
  wo : Nat
  rc : Bool
  deriving DecidableEq, Repr

namespace Reg

/-- R35 -/
abbrev PIPE_CFG : Nat := 0x200
/-- R35 -/
abbrev PIPE_STAT : Nat := 0x204
/-- R35 -/
abbrev PIPE_LATE_CNT : Nat := 0x208
/-- R35 -/
abbrev PIPE_RESP_LATE : Nat := 0x20C
/-- R35 -/
abbrev PIPE_MARGIN : Nat := 0x210
/-- R35 -/
abbrev PIPE_CTRL : Nat := 0x214
/-- R60 -/
abbrev ANG_CFG : Nat := 0x10000
/-- R60 -/
abbrev ANG_STAT : Nat := 0x10004
/-- R60 -/
abbrev ANG_THETA : Nat := 0x10008
/-- R60 -/
abbrev ANG_ROW_LO : Nat := 0x1000C
/-- R60 -/
abbrev ANG_ROW_HI : Nat := 0x10010
/-- R60 -/
abbrev ANG_RATE : Nat := 0x10014
/-- R60 -/
abbrev ANG_RATE_CMD : Nat := 0x10018
/-- R60 -/
abbrev ANG_ROCOF : Nat := 0x1001C
/-- R60 -/
abbrev ANG_CLAMP_CNT : Nat := 0x10020
/-- R60 -/
abbrev ANG_FLAGS : Nat := 0x10024
/-- R60 -/
abbrev ANG_BOUND_TAI_LO : Nat := 0x10028
/-- R60 -/
abbrev ANG_BOUND_TAI_HI : Nat := 0x1002C
/-- R60 -/
abbrev ANG_TAI_LATCH_LO : Nat := 0x10030
/-- R60 -/
abbrev ANG_TAI_LATCH_HI : Nat := 0x10034
/-- R60 -/
abbrev ANG_CASTON_ROW_LO : Nat := 0x10038
/-- R60 -/
abbrev ANG_CASTON_ROW_HI : Nat := 0x1003C
/-- R60 -/
abbrev ANG_PHASE_ERR : Nat := 0x10040
/-- R60 -/
abbrev ANG_PAIR_LAT : Nat := 0x10044
/-- R60 -/
abbrev ANG_TRIM : Nat := 0x10048
/-- R60 -/
abbrev ANG_GROUP_EN : Nat := 0x1004C
/-- R60 -/
abbrev ANG_LOCK_LOST_CNT : Nat := 0x10050
/-- R60 -/
abbrev ANG_ONCE_LATE_CNT : Nat := 0x10054
/-- R60 -/
abbrev STn_CTL (i : Nat) : Nat := 0x18000 + 0x10 * i
/-- R60 -/
abbrev STn_TGT (i : Nat) : Nat := 0x18004 + 0x10 * i
/-- R60 -/
abbrev STn_POS (i : Nat) : Nat := 0x18008 + 0x10 * i
/-- R60 -/
abbrev STn_ROW (i : Nat) : Nat := 0x1800C + 0x10 * i
/-- R85 -/
abbrev GFE_CFG : Nat := 0x20000
/-- R85 -/
abbrev GFE_STAT : Nat := 0x20004
/-- R85 -/
abbrev GFE_FLAGS : Nat := 0x20008
/-- R85 -/
abbrev GFE_SIG_STEP : Nat := 0x2000C
/-- R85 -/
abbrev GFE_SBASE : Nat := 0x20010
/-- R85 -/
abbrev GFE_VBASE : Nat := 0x20014
/-- R85 -/
abbrev GFE_MAP : Nat := 0x20018
/-- R85 -/
abbrev GFE_VIN_FS : Nat := 0x2001C
/-- R85 -/
abbrev GFE_IIN_FS : Nat := 0x20020
/-- R85 -/
abbrev GFE_AIN_FS : Nat := 0x20024
/-- R85 -/
abbrev GFE_VDC : Nat := 0x20028
/-- R85 -/
abbrev GFE_H : Nat := 0x20040
/-- R85 -/
abbrev GFE_D : Nat := 0x20044
/-- R85 -/
abbrev GFE_TD : Nat := 0x20048
/-- R85 -/
abbrev GFE_MP : Nat := 0x2004C
/-- R85 -/
abbrev GFE_NQ : Nat := 0x20050
/-- R85 -/
abbrev GFE_TPQ : Nat := 0x20054
/-- R85 -/
abbrev GFE_PVMAX : Nat := 0x20058
/-- R85 -/
abbrev GFE_KPV : Nat := 0x20060
/-- R85 -/
abbrev GFE_TIV : Nat := 0x20064
/-- R85 -/
abbrev GFE_EMIN : Nat := 0x20068
/-- R85 -/
abbrev GFE_EMAX : Nat := 0x2006C
/-- R85 -/
abbrev GFE_RV : Nat := 0x20070
/-- R85 -/
abbrev GFE_XV : Nat := 0x20074
/-- R85 -/
abbrev GFE_ILIM : Nat := 0x20078
/-- R85 -/
abbrev GFE_KPI : Nat := 0x20080
/-- R85 -/
abbrev GFE_TII : Nat := 0x20084
/-- R85 -/
abbrev GFE_RF : Nat := 0x20088
/-- R85 -/
abbrev GFE_XF : Nat := 0x2008C
/-- R85 -/
abbrev GFE_XVN : Nat := 0x20090
/-- R85 -/
abbrev GFE_INMAX : Nat := 0x20094
/-- R85 -/
abbrev GFE_KPC : Nat := 0x200A0
/-- R85 -/
abbrev GFE_TIC : Nat := 0x200A4
/-- R85 -/
abbrev GFE_KWS : Nat := 0x200A8
/-- R85 -/
abbrev GFE_TIW : Nat := 0x200AC
/-- R85 -/
abbrev GFE_KWD : Nat := 0x200B0
/-- R85 -/
abbrev GFE_P_TGT : Nat := 0x200C0
/-- R85 -/
abbrev GFE_P_SET : Nat := 0x200C4
/-- R85 -/
abbrev GFE_Q_TGT : Nat := 0x200C8
/-- R85 -/
abbrev GFE_Q_SET : Nat := 0x200CC
/-- R85 -/
abbrev GFE_V_TGT : Nat := 0x200D0
/-- R85 -/
abbrev GFE_V_SET : Nat := 0x200D4
/-- R85 -/
abbrev GFE_F_TGT : Nat := 0x200D8
/-- R85 -/
abbrev GFE_F_SET : Nat := 0x200DC
/-- R85 -/
abbrev GFE_P_RAMP : Nat := 0x200E0
/-- R85 -/
abbrev GFE_Q_RAMP : Nat := 0x200E4
/-- R85 -/
abbrev GFE_FV_RAMP : Nat := 0x200E8
/-- R85 -/
abbrev GFE_KV : Nat := 0x20100
/-- R85 -/
abbrev GFE_WSY : Nat := 0x20104
/-- R85 -/
abbrev GFE_KZ : Nat := 0x20108
/-- R85 -/
abbrev GFE_KN : Nat := 0x2010C
/-- R85 -/
abbrev GFE_LIM_CNT : Nat := 0x20120
/-- R85 -/
abbrev GFE_MSAT_CNT : Nat := 0x20124
/-- R85 -/
abbrev GFE_PVSAT_CNT : Nat := 0x20128
/-- R85 -/
abbrev GFE_MEAS_INV_CNT : Nat := 0x2012C
/-- R85 -/
abbrev GFE_SIGn (i : Nat) : Nat := 0x21000 + 0x4 * i
/-- R114 -/
abbrev MODE_STAT : Nat := 0x300
/-- R114 -/
abbrev MODE_FLAGS : Nat := 0x304
/-- R114 -/
abbrev MODE_CFG : Nat := 0x308
/-- R114 -/
abbrev MODE_BRK : Nat := 0x30C
/-- R114 -/
abbrev MODE_TRANS_CNT : Nat := 0x310
/-- R114 -/
abbrev MODE_ENTRY : Nat := 0x314
/-- R114 -/
abbrev MODE_FBUS : Nat := 0x318
/-- R114 -/
abbrev MODE_CO_PAUSED : Nat := 0x31C
/-- R114 -/
abbrev MODE_BUS_V_DEAD : Nat := 0x320
/-- R114 -/
abbrev MODE_BUS_V_LIVE : Nat := 0x324
/-- R114 -/
abbrev MODE_BUS_T : Nat := 0x328
/-- R114 -/
abbrev MODE_CO_TRAMP : Nat := 0x330
/-- R114 -/
abbrev MODE_CO_TPAUSE : Nat := 0x334
/-- R114 -/
abbrev MODE_SY_KSY : Nat := 0x340
/-- R114 -/
abbrev MODE_SY_PMAX : Nat := 0x344
/-- R114 -/
abbrev MODE_SY_DMAX : Nat := 0x348
/-- R114 -/
abbrev MODE_SY_FMAX : Nat := 0x34C
/-- R114 -/
abbrev MODE_SY_VMAX : Nat := 0x350
/-- R114 -/
abbrev MODE_SY_TOK : Nat := 0x354
/-- R114 -/
abbrev MODE_SY_TMAX : Nat := 0x358
/-- R114 -/
abbrev MODE_BO_IMIN : Nat := 0x360
/-- R114 -/
abbrev MODE_BO_TMAX : Nat := 0x364
/-- R114 -/
abbrev MODE_BO_FDEV : Nat := 0x368
/-- R114 -/
abbrev MODE_BO_VDEV : Nat := 0x36C
/-- R114 -/
abbrev MODE_HOST_P : Nat := 0x370
/-- R114 -/
abbrev MODE_HOST_Q : Nat := 0x374
/-- R114 -/
abbrev MODE_HOST_V : Nat := 0x378
/-- R114 -/
abbrev MODE_HOST_F : Nat := 0x37C
/-- R134 -/
abbrev RT_CFG : Nat := 0x20400
/-- R134 -/
abbrev RT_STAT : Nat := 0x20404
/-- R134 -/
abbrev RT_FLAGS : Nat := 0x20408
/-- R134 -/
abbrev RT_HOLD : Nat := 0x2040C
/-- R134 -/
abbrev RT_DREJOIN : Nat := 0x20410
/-- R134 -/
abbrev RT_PJ_KZMAX : Nat := 0x20414
/-- R134 -/
abbrev RT_PJ_TDEC : Nat := 0x20418
/-- R134 -/
abbrev RT_T_REC : Nat := 0x2041C
/-- R134 -/
abbrev RT_HWC_ARM : Nat := 0x20420
/-- R134 -/
abbrev RT_HWC_LINE : Nat := 0x20424
/-- R134 -/
abbrev RT_HWC_CNT : Nat := 0x20428
/-- R134 -/
abbrev RT_COAST_MS : Nat := 0x2042C
/-- R134 -/
abbrev RT_DELTA_REJ : Nat := 0x20430
/-- R134 -/
abbrev RT_KZ0 : Nat := 0x20434
/-- R134 -/
abbrev RT_EXC_V_MS : Nat := 0x20438
/-- R134 -/
abbrev RT_EXC_F_MS : Nat := 0x2043C
/-- R134 -/
abbrev RTSn_CFG (i : Nat) : Nat := 0x20500 + 0x100 * i
/-- R134 -/
abbrev RTSn_KN (i : Nat) : Nat := 0x20504 + 0x100 * i
/-- R134 -/
abbrev RTSn_KZ (i : Nat) : Nat := 0x20508 + 0x100 * i
/-- R134 -/
abbrev RTSn_VLO_IN (i : Nat) : Nat := 0x2050C + 0x100 * i
/-- R134 -/
abbrev RTSn_VLO_OUT (i : Nat) : Nat := 0x20510 + 0x100 * i
/-- R134 -/
abbrev RTSn_VHI_IN (i : Nat) : Nat := 0x20514 + 0x100 * i
/-- R134 -/
abbrev RTSn_VHI_OUT (i : Nat) : Nat := 0x20518 + 0x100 * i
/-- R134 -/
abbrev RTSn_VN_IN (i : Nat) : Nat := 0x2051C + 0x100 * i
/-- R134 -/
abbrev RTSn_VN_OUT (i : Nat) : Nat := 0x20520 + 0x100 * i
/-- R134 -/
abbrev RTSn_T_EXIT (i : Nat) : Nat := 0x20524 + 0x100 * i
/-- R134 -/
abbrev RTSn_F_CONT (i : Nat) : Nat := 0x20528 + 0x100 * i
/-- R134 -/
abbrev RTSn_LV_Tk (i : Nat) (j : Nat) : Nat := 0x20540 + 0x100 * i + 0x8 * j
/-- R134 -/
abbrev RTSn_LV_Lk (i : Nat) (j : Nat) : Nat := 0x20544 + 0x100 * i + 0x8 * j
/-- R134 -/
abbrev RTSn_HV_Tk (i : Nat) (j : Nat) : Nat := 0x20580 + 0x100 * i + 0x8 * j
/-- R134 -/
abbrev RTSn_HV_Lk (i : Nat) (j : Nat) : Nat := 0x20584 + 0x100 * i + 0x8 * j
/-- R134 -/
abbrev RTSn_F_Tk (i : Nat) (j : Nat) : Nat := 0x205C0 + 0x100 * i + 0x8 * j
/-- R134 -/
abbrev RTSn_F_Lk (i : Nat) (j : Nat) : Nat := 0x205C4 + 0x100 * i + 0x8 * j
/-- R161 -/
abbrev ARM_CFG : Nat := 0x30000
/-- R161 -/
abbrev ARM_STAT : Nat := 0x30004
/-- R161 -/
abbrev ARM_FLAGS : Nat := 0x30008
/-- R161 -/
abbrev ARM_VAV : Nat := 0x3000C
/-- R161 -/
abbrev ARM_KW : Nat := 0x30010
/-- R161 -/
abbrev ARM_HSW : Nat := 0x30014
/-- R161 -/
abbrev ARM_KSW : Nat := 0x30018
/-- R161 -/
abbrev ARM_PWM_POOL : Nat := 0x3001C
/-- R161 -/
abbrev ARM_MINPULSE : Nat := 0x30020
/-- R161 -/
abbrev ARM_RESP_LOSS : Nat := 0x30024
/-- R161 -/
abbrev ARM_FAIL_STEPS : Nat := 0x30028
/-- R161 -/
abbrev ARM_SP_VLO : Nat := 0x3002C
/-- R161 -/
abbrev ARM_SP_VHI : Nat := 0x30030
/-- R161 -/
abbrev ARM_PRECH_VMIN : Nat := 0x30034
/-- R161 -/
abbrev ARM_DCL : Nat := 0x30038
/-- R161 -/
abbrev ARM_RESP_MISS : Nat := 0x30040
/-- R161 -/
abbrev ARM_RETIRE_CNT : Nat := 0x30044
/-- R161 -/
abbrev ARM_PCI_CNT : Nat := 0x30048
/-- R161 -/
abbrev ARM_CLAMP_CNT : Nat := 0x3004C
/-- R161 -/
abbrev ARMa_BASE (i : Nat) : Nat := 0x30100 + 0x40 * i
/-- R161 -/
abbrev ARMa_N (i : Nat) : Nat := 0x30104 + 0x40 * i
/-- R161 -/
abbrev ARMa_K (i : Nat) : Nat := 0x30108 + 0x40 * i
/-- R161 -/
abbrev ARMa_SMCFG (i : Nat) : Nat := 0x3010C + 0x40 * i
/-- R161 -/
abbrev ARMa_C (i : Nat) : Nat := 0x30110 + 0x40 * i
/-- R161 -/
abbrev ARMa_VNOM (i : Nat) : Nat := 0x30114 + 0x40 * i
/-- R161 -/
abbrev ARMa_WRATED (i : Nat) : Nat := 0x30118 + 0x40 * i
/-- R161 -/
abbrev ARMa_COUNT (i : Nat) : Nat := 0x3011C + 0x40 * i
/-- R161 -/
abbrev ARMa_SETS (i : Nat) : Nat := 0x30120 + 0x40 * i
/-- R161 -/
abbrev ARMa_LEVEL (i : Nat) : Nat := 0x30124 + 0x40 * i
/-- R161 -/
abbrev ARMa_PWMSM (i : Nat) : Nat := 0x30128 + 0x40 * i
/-- R161 -/
abbrev ARMa_VBAR (i : Nat) : Nat := 0x3012C + 0x40 * i
/-- R161 -/
abbrev ARMa_W (i : Nat) : Nat := 0x30130 + 0x40 * i
/-- R161 -/
abbrev ARMa_VAV (i : Nat) : Nat := 0x30134 + 0x40 * i
/-- R161 -/
abbrev ARM_SMn (i : Nat) : Nat := 0x34000 + 0x4 * i
/-- R187 -/
abbrev PHY_CFG (i : Nat) : Nat := 0x40300 + 0x400 * i
/-- R187 -/
abbrev PHY_STAT (i : Nat) : Nat := 0x40304 + 0x400 * i
/-- R187 -/
abbrev PHY_FLAGS (i : Nat) : Nat := 0x40308 + 0x400 * i
/-- R187 -/
abbrev PHY_TXEQ (i : Nat) : Nat := 0x4030C + 0x400 * i
/-- R187 -/
abbrev PHY_FAR_TXEQ (i : Nat) : Nat := 0x40310 + 0x400 * i
/-- R187 -/
abbrev PHY_EYE (i : Nat) : Nat := 0x40314 + 0x400 * i
/-- R187 -/
abbrev PHY_TRN_MS (i : Nat) : Nat := 0x40318 + 0x400 * i
/-- R187 -/
abbrev PHY_TRN_CNT (i : Nat) : Nat := 0x4031C + 0x400 * i
/-- R187 -/
abbrev PHY_TRN_FAIL_CNT (i : Nat) : Nat := 0x40320 + 0x400 * i
/-- R187 -/
abbrev PHY_LOS_CNT (i : Nat) : Nat := 0x40324 + 0x400 * i
/-- R187 -/
abbrev PHY_LOL_CNT (i : Nat) : Nat := 0x40328 + 0x400 * i
/-- R187 -/
abbrev PHY_SH_ERR (i : Nat) : Nat := 0x4032C + 0x400 * i
/-- R187 -/
abbrev PHY_TRN_CRC (i : Nat) : Nat := 0x40330 + 0x400 * i
/-- R187 -/
abbrev PHY_SFP (i : Nat) : Nat := 0x40334 + 0x400 * i
/-- R187 -/
abbrev PHY_CTRL (i : Nat) : Nat := 0x40338 + 0x400 * i
/-- R217 -/
abbrev LNK_CFG (i : Nat) : Nat := 0x40000 + 0x400 * i
/-- R217 -/
abbrev LNK_MAP (i : Nat) : Nat := 0x40004 + 0x400 * i
/-- R217 -/
abbrev LNK_STAT (i : Nat) : Nat := 0x40008 + 0x400 * i
/-- R217 -/
abbrev LNK_FLAGS (i : Nat) : Nat := 0x4000C + 0x400 * i
/-- R217 -/
abbrev LNK_DLY (i : Nat) : Nat := 0x40010 + 0x400 * i
/-- R217 -/
abbrev LNK_RTT (i : Nat) : Nat := 0x40014 + 0x400 * i
/-- R217 -/
abbrev LNK_DECL (i : Nat) : Nat := 0x40018 + 0x400 * i
/-- R217 -/
abbrev LNK_CONC (i : Nat) : Nat := 0x4001C + 0x400 * i
/-- R217 -/
abbrev LNK_WIT (i : Nat) : Nat := 0x40020 + 0x400 * i
/-- R217 -/
abbrev LNK_CTL_ERR (i : Nat) : Nat := 0x40024 + 0x400 * i
/-- R217 -/
abbrev LNK_ORPHAN (i : Nat) : Nat := 0x40028 + 0x400 * i
/-- R217 -/
abbrev LNK_RETRY_CNT (i : Nat) : Nat := 0x4002C + 0x400 * i
/-- R217 -/
abbrev LNK_NAK_CNT (i : Nat) : Nat := 0x40030 + 0x400 * i
/-- R217 -/
abbrev LNK_CREDIT_FIX (i : Nat) : Nat := 0x40034 + 0x400 * i
/-- R217 -/
abbrev LNK_ECHO_LOST (i : Nat) : Nat := 0x40038 + 0x400 * i
/-- R217 -/
abbrev LNK_SEQ (i : Nat) : Nat := 0x4003C + 0x400 * i
/-- R217 -/
abbrev LNK_VCv_TX (i : Nat) (j : Nat) : Nat := 0x40048 + 0x400 * i + 0x8 * j
/-- R217 -/
abbrev LNK_VCv_RX (i : Nat) (j : Nat) : Nat := 0x4004C + 0x400 * i + 0x8 * j
/-- R217 -/
abbrev LNK_RXBUF (i : Nat) : Nat := 0x40060 + 0x400 * i
/-- R217 -/
abbrev LNK_CTRL (i : Nat) : Nat := 0x40064 + 0x400 * i
/-- R217 -/
abbrev LNH_CFG : Nat := 0x48000
/-- R217 -/
abbrev LNH_STAT : Nat := 0x48004
/-- R217 -/
abbrev LNH_FLAGS : Nat := 0x48008
/-- R217 -/
abbrev LNH_EPOCH : Nat := 0x4800C
/-- R217 -/
abbrev LNH_MOVE_CNT : Nat := 0x48010
/-- R240 -/
abbrev LDG_CFG : Nat := 0x50000
/-- R240 -/
abbrev LDG_STAT : Nat := 0x50004
/-- R240 -/
abbrev LDG_FLAGS : Nat := 0x50008
/-- R240 -/
abbrev LDG_SWEEP : Nat := 0x5000C
/-- R240 -/
abbrev LDG_WEAR_GAP : Nat := 0x50010
/-- R240 -/
abbrev LDG_LIVE : Nat := 0x50014
/-- R240 -/
abbrev LDG_PASS_CNT : Nat := 0x50018
/-- R240 -/
abbrev LDG_PASS_MS : Nat := 0x5001C
/-- R240 -/
abbrev LDG_SWEEP_MISS : Nat := 0x50020
/-- R240 -/
abbrev LDG_RECON_CNT : Nat := 0x50024
/-- R240 -/
abbrev LDG_IMG_SEQ : Nat := 0x50028
/-- R240 -/
abbrev LDG_IMG_TAI_LO : Nat := 0x5002C
/-- R240 -/
abbrev LDG_IMG_TAI_HI : Nat := 0x50030
/-- R240 -/
abbrev LDG_ARCH_CNT : Nat := 0x50034
/-- R240 -/
abbrev LDG_ID_FAIL : Nat := 0x50038
/-- R240 -/
abbrev LDG_ADDR : Nat := 0x5003C
/-- R240 -/
abbrev LDG_RECw (i : Nat) : Nat := 0x50040 + 0x4 * i
/-- R240 -/
abbrev LDG_TYPEMAPj (i : Nat) : Nat := 0x50080 + 0x4 * i
/-- R240 -/
abbrev LDG_LSs_NSW (i : Nat) : Nat := 0x50100 + 0x20 * i
/-- R240 -/
abbrev LDG_LSs_QAH (i : Nat) : Nat := 0x50104 + 0x20 * i
/-- R240 -/
abbrev LDG_LSs_NTH (i : Nat) : Nat := 0x50108 + 0x20 * i
/-- R240 -/
abbrev LDG_LSs_HRS (i : Nat) : Nat := 0x5010C + 0x20 * i
/-- R240 -/
abbrev LDG_LSs_CFG (i : Nat) : Nat := 0x50110 + 0x20 * i
/-- R240 -/
abbrev LDG_SMn (i : Nat) : Nat := 0x54000 + 0x4 * i
/-- R240 -/
abbrev LDG_OWNk_w (i : Nat) (j : Nat) : Nat := 0x58000 + 0x20 * i + 0x4 * j
/-- R261 -/
abbrev PWM_MAIN_CFG : Nat := 0x60000
/-- R261 -/
abbrev PWM_MAINx (i : Nat) : Nat := 0x60004 + 0x4 * i
/-- R261 -/
abbrev PWM_LOAD : Nat := 0x60010
/-- R261 -/
abbrev PWM_PEND : Nat := 0x60014
/-- R261 -/
abbrev PWM_BEYOND : Nat := 0x60018
/-- R261 -/
abbrev PWM_FORCED : Nat := 0x6001C
/-- R261 -/
abbrev PWM_TRIP_STAT : Nat := 0x60020
/-- R261 -/
abbrev PWM_TRIP_CLR : Nat := 0x60024
/-- R261 -/
abbrev PWM_TRIP_CNT : Nat := 0x60028
/-- R261 -/
abbrev PWM_VDC_FS : Nat := 0x6002C
/-- R261 -/
abbrev PWM_FLAGS : Nat := 0x60030
/-- R261 -/
abbrev TRIPi_CFG (i : Nat) : Nat := 0x60040 + 0x8 * i
/-- R261 -/
abbrev TRIPi_MASK (i : Nat) : Nat := 0x60044 + 0x8 * i
/-- R261 -/
abbrev PWMn_CFG (i : Nat) : Nat := 0x60100 + 0x40 * i
/-- R261 -/
abbrev PWMn_PER_SH (i : Nat) : Nat := 0x60104 + 0x40 * i
/-- R261 -/
abbrev PWMn_CMP_SH (i : Nat) : Nat := 0x60108 + 0x40 * i
/-- R261 -/
abbrev PWMn_XC0_SH (i : Nat) : Nat := 0x6010C + 0x40 * i
/-- R261 -/
abbrev PWMn_XC1_SH (i : Nat) : Nat := 0x60110 + 0x40 * i
/-- R261 -/
abbrev PWMn_OST_SH (i : Nat) : Nat := 0x60114 + 0x40 * i
/-- R261 -/
abbrev PWMn_PER (i : Nat) : Nat := 0x60118 + 0x40 * i
/-- R261 -/
abbrev PWMn_CMP (i : Nat) : Nat := 0x6011C + 0x40 * i
/-- R261 -/
abbrev PWMn_XC0 (i : Nat) : Nat := 0x60120 + 0x40 * i
/-- R261 -/
abbrev PWMn_XC1 (i : Nat) : Nat := 0x60124 + 0x40 * i
/-- R261 -/
abbrev PWMn_CNT (i : Nat) : Nat := 0x60128 + 0x40 * i
/-- R261 -/
abbrev PWMn_DT (i : Nat) : Nat := 0x6012C + 0x40 * i
/-- R261 -/
abbrev PWMn_OUT (i : Nat) : Nat := 0x60130 + 0x40 * i
/-- R261 -/
abbrev PWMn_XROUTE (i : Nat) : Nat := 0x60134 + 0x40 * i
/-- R261 -/
abbrev PWMn_STAT (i : Nat) : Nat := 0x60138 + 0x40 * i
/-- R276 -/
abbrev ADC_CFG : Nat := 0x70000
/-- R276 -/
abbrev ADC_STAT : Nat := 0x70004
/-- R276 -/
abbrev ADC_FLAGS : Nat := 0x70008
/-- R276 -/
abbrev ADC_ANGLE : Nat := 0x7000C
/-- R276 -/
abbrev ADC_TRIGIN : Nat := 0x70010
/-- R276 -/
abbrev ADC_SWTRIG : Nat := 0x70014
/-- R276 -/
abbrev ADC_PATCH : Nat := 0x70018
/-- R276 -/
abbrev ADC_TRIG_OVR : Nat := 0x7001C
/-- R276 -/
abbrev ADC_URG_DROP : Nat := 0x70020
/-- R276 -/
abbrev ADC_OVR_CNT : Nat := 0x70024
/-- R276 -/
abbrev ADC_CLAMP_CNT : Nat := 0x70028
/-- R276 -/
abbrev ADC_CHECK_FAIL : Nat := 0x7002C
/-- R276 -/
abbrev ADC_CLAMP_STAT : Nat := 0x70030
/-- R276 -/
abbrev GRPg_SCAN (i : Nat) : Nat := 0x70100 + 0x40 * i
/-- R276 -/
abbrev GRPg_REF (i : Nat) : Nat := 0x70104 + 0x40 * i
/-- R276 -/
abbrev GRPg_URG (i : Nat) : Nat := 0x70108 + 0x40 * i
/-- R276 -/
abbrev GRPg_URG_RES (i : Nat) : Nat := 0x7010C + 0x40 * i
/-- R276 -/
abbrev GRPg_SEQ (i : Nat) : Nat := 0x70110 + 0x40 * i
/-- R276 -/
abbrev GRPg_RESj (i : Nat) (j : Nat) : Nat := 0x70120 + 0x40 * i + 0x4 * j
/-- R290 -/
abbrev FLT_CTL_CFG : Nat := 0x80000
/-- R290 -/
abbrev FLT_MTR_CFG : Nat := 0x80004
/-- R290 -/
abbrev FLT_STAT : Nat := 0x80008
/-- R290 -/
abbrev FLT_OSTAT : Nat := 0x8000C
/-- R290 -/
abbrev FLT_FLAGS : Nat := 0x80010
/-- R290 -/
abbrev FLT_SYNC_SOFT : Nat := 0x80014
/-- R290 -/
abbrev FLT_SYNC_HARD : Nat := 0x80018
/-- R290 -/
abbrev FLT_CTL_GD : Nat := 0x8001C
/-- R290 -/
abbrev FLT_MISS_CNT : Nat := 0x80020
/-- R290 -/
abbrev FLT_LATE_CNT : Nat := 0x80024
/-- R290 -/
abbrev FLT_ROM_CRC : Nat := 0x80028
/-- R290 -/
abbrev FLTn_CFG (i : Nat) : Nat := 0x80100 + 0x10 * i
/-- R290 -/
abbrev FLTn_OUT (i : Nat) : Nat := 0x80104 + 0x10 * i
/-- R290 -/
abbrev FLTn_GD (i : Nat) : Nat := 0x80108 + 0x10 * i
/-- R290 -/
abbrev FLTn_STAT (i : Nat) : Nat := 0x8010C + 0x10 * i
/-- R290 -/
abbrev FLT_COEFi_t (i : Nat) (j : Nat) : Nat := 0x84000 + 0x600 * i + 0x4 * j
/-- R309 -/
abbrev ACQ_CFG : Nat := 0x90000
/-- R309 -/
abbrev ACQ_STAT : Nat := 0x90004
/-- R309 -/
abbrev ACQ_FLAGS : Nat := 0x90008
/-- R309 -/
abbrev ACQ_MISSED : Nat := 0x9000C
/-- R309 -/
abbrev ACQ_MFIFO_CNT : Nat := 0x90010
/-- R309 -/
abbrev ACQ_MFIFO_POP : Nat := 0x90014
/-- R309 -/
abbrev ACQ_MF_ID : Nat := 0x90018
/-- R309 -/
abbrev ACQ_MF_THETA : Nat := 0x9001C
/-- R309 -/
abbrev ACQ_MF_ROW : Nat := 0x90020
/-- R309 -/
abbrev ACQ_MF_TAI_LO : Nat := 0x90024
/-- R309 -/
abbrev ACQ_MF_TAI_HI : Nat := 0x90028
/-- R309 -/
abbrev ACQ_TRG_ARM : Nat := 0x9002C
/-- R309 -/
abbrev ACQ_REC_NEXT : Nat := 0x90030
/-- R309 -/
abbrev ACQ_GAP_CNT : Nat := 0x90034
/-- R309 -/
abbrev ACQ_REM_ERR : Nat := 0x90038
/-- R309 -/
abbrev TRGu_CFG (i : Nat) : Nat := 0x90040 + 0x10 * i
/-- R309 -/
abbrev TRGu_LVL (i : Nat) : Nat := 0x90044 + 0x10 * i
/-- R309 -/
abbrev TRGu_HYST (i : Nat) : Nat := 0x90048 + 0x10 * i
/-- R309 -/
abbrev TRGu_STAT (i : Nat) : Nat := 0x9004C + 0x10 * i
/-- R309 -/
abbrev SLOTk_CFG (i : Nat) : Nat := 0x90100 + 0x40 * i
/-- R309 -/
abbrev SLOTk_SIZE (i : Nat) : Nat := 0x90104 + 0x40 * i
/-- R309 -/
abbrev SLOTk_NFR (i : Nat) : Nat := 0x90108 + 0x40 * i
/-- R309 -/
abbrev SLOTk_REM (i : Nat) : Nat := 0x9010C + 0x40 * i
/-- R309 -/
abbrev SLOTk_MEMj (i : Nat) (j : Nat) : Nat := 0x90110 + 0x40 * i + 0x4 * j
/-- R309 -/
abbrev SLOTk_STAT (i : Nat) : Nat := 0x90120 + 0x40 * i
/-- R309 -/
abbrev SLOTk_MISSED (i : Nat) : Nat := 0x90124 + 0x40 * i
/-- R309 -/
abbrev SLOTk_DISCARD (i : Nat) : Nat := 0x90128 + 0x40 * i
/-- R309 -/
abbrev SLOTk_UNREAD (i : Nat) : Nat := 0x9012C + 0x40 * i
/-- R310 -/
abbrev SNAP_CFG : Nat := 0x120000
/-- R310 -/
abbrev SNAP_STAT : Nat := 0x120004
/-- R310 -/
abbrev SNAP_SEQ : Nat := 0x120008
/-- R310 -/
abbrev SNAP_BUSY_CNT : Nat := 0x12000C
/-- R310 -/
abbrev SNAP_SEL : Nat := 0x120010
/-- R310 -/
abbrev SNAP_CMD : Nat := 0x120014
/-- R310 -/
abbrev SNAP_B_SEQ : Nat := 0x120100
/-- R310 -/
abbrev SNAP_B_SRC : Nat := 0x120104
/-- R310 -/
abbrev SNAP_B_LATE : Nat := 0x120108
/-- R310 -/
abbrev SNAP_B_TAI_LO : Nat := 0x12010C
/-- R310 -/
abbrev SNAP_B_TAI_HI : Nat := 0x120110
/-- R310 -/
abbrev SNAP_WIN (i : Nat) : Nat := 0x121000 + 0x4 * i
/-- R335 -/
abbrev MTR_STAT : Nat := 0xA0000
/-- R335 -/
abbrev MTR_FLAGS : Nat := 0xA0004
/-- R335 -/
abbrev MTR_MAP : Nat := 0xA0008
/-- R335 -/
abbrev MTR_VFS : Nat := 0xA000C
/-- R335 -/
abbrev MTR_IFS : Nat := 0xA0010
/-- R335 -/
abbrev MTR_UN : Nat := 0xA0014
/-- R335 -/
abbrev MTR_IN : Nat := 0xA0018
/-- R335 -/
abbrev MTR_TZ : Nat := 0xA001C
/-- R335 -/
abbrev MTR_INTV : Nat := 0xA0020
/-- R335 -/
abbrev MTR_AUDIT : Nat := 0xA0024
/-- R335 -/
abbrev MTR_DIGEST : Nat := 0xA0028
/-- R335 -/
abbrev MTR_INT_NO : Nat := 0xA002C
/-- R335 -/
abbrev MTR_TARIFF : Nat := 0xA0030
/-- R335 -/
abbrev MTR_SUBST_CNT : Nat := 0xA0034
/-- R335 -/
abbrev MTR_PAIR_SUBST : Nat := 0xA0038
/-- R335 -/
abbrev MTR_PROF_HEAD : Nat := 0xA003C
/-- R335 -/
abbrev MTR_PROF_LOST : Nat := 0xA0040
/-- R335 -/
abbrev MTR_AUDIT_HEAD : Nat := 0xA0044
/-- R335 -/
abbrev MTR_TSWt (i : Nat) : Nat := 0xA0080 + 0x4 * i
/-- R335 -/
abbrev MTR_FWHASHw (i : Nat) : Nat := 0xA00C0 + 0x4 * i
/-- R335 -/
abbrev MTR_REGr_q_j (i : Nat) (j : Nat) (k : Nat) : Nat := 0xA1000 + 0x80 * i + 0x10 * j + 0x4 * k
/-- R335 -/
abbrev MTR_OPENq_j (i : Nat) (j : Nat) : Nat := 0xA1800 + 0x10 * i + 0x4 * j
/-- R364 -/
abbrev PAIR_CFG : Nat := 0xB0000
/-- R364 -/
abbrev PAIR_STAT : Nat := 0xB0004
/-- R364 -/
abbrev PAIR_FLAGS : Nat := 0xB0008
/-- R364 -/
abbrev PAIR_EPOCH : Nat := 0xB000C
/-- R364 -/
abbrev PAIR_DISQ : Nat := 0xB0010
/-- R364 -/
abbrev PAIR_HB_MISS : Nat := 0xB0014
/-- R364 -/
abbrev PAIR_WIT : Nat := 0xB0018
/-- R364 -/
abbrev PAIR_REACH : Nat := 0xB001C
/-- R364 -/
abbrev PAIR_PREACH : Nat := 0xB0020
/-- R364 -/
abbrev PAIR_REVERT_T : Nat := 0xB0024
/-- R364 -/
abbrev PAIR_START_T : Nat := 0xB0028
/-- R364 -/
abbrev PAIR_MEAS_TOL : Nat := 0xB002C
/-- R364 -/
abbrev PAIR_QSTEPS : Nat := 0xB0030
/-- R364 -/
abbrev PAIR_TKO_CNT : Nat := 0xB0034
/-- R364 -/
abbrev PAIR_HO_CNT : Nat := 0xB0038
/-- R364 -/
abbrev PAIR_DIV_CNT : Nat := 0xB003C
/-- R364 -/
abbrev PAIR_SMP_MISS : Nat := 0xB0040
/-- R364 -/
abbrev PAIR_REC_MISS : Nat := 0xB0044
/-- R364 -/
abbrev PAIR_PATH_CNT : Nat := 0xB0048
/-- R364 -/
abbrev PAIR_CTL_ERR : Nat := 0xB004C
/-- R364 -/
abbrev PAIR_TKO_DET : Nat := 0xB0050
/-- R364 -/
abbrev PAIR_TKO_DISP : Nat := 0xB0054
/-- R364 -/
abbrev PAIR_XFER : Nat := 0xB0058
/-- R364 -/
abbrev PAIR_PROOF : Nat := 0xB005C
/-- R364 -/
abbrev PAIR_CTRL : Nat := 0xB0060
/-- R364 -/
abbrev PAIR_PLINKED : Nat := 0xB0064
/-- R393 -/
abbrev SAF_STATE : Nat := 0xC0000
/-- R393 -/
abbrev SAF_SIN_STAT : Nat := 0xC0004
/-- R393 -/
abbrev SAF_PBL_STAT : Nat := 0xC0008
/-- R393 -/
abbrev SAF_QUAL : Nat := 0xC000C
/-- R393 -/
abbrev SAF_FLAGS : Nat := 0xC0010
/-- R393 -/
abbrev SAF_DEM_CNT : Nat := 0xC0014
/-- R393 -/
abbrev SAF_CHK : Nat := 0xC0018
/-- R393 -/
abbrev SAF_CHK_CONF : Nat := 0xC001C
/-- R393 -/
abbrev SAF_SW1 : Nat := 0xC0020
/-- R393 -/
abbrev SAF_LAST_DEM : Nat := 0xC0024
/-- R393 -/
abbrev SAF_PROOF : Nat := 0xC0028
/-- R393 -/
abbrev SAF_PROOF_AGE : Nat := 0xC002C
/-- R393 -/
abbrev SPS_CFG : Nat := 0xC0100
/-- R393 -/
abbrev SPS_SSR_T : Nat := 0xC0104
/-- R393 -/
abbrev SPS_SLF_LO : Nat := 0xC0108
/-- R393 -/
abbrev SPS_SLF_HI : Nat := 0xC010C
/-- R393 -/
abbrev SPS_SLF_T : Nat := 0xC0110
/-- R393 -/
abbrev SPS_SLA_MAX : Nat := 0xC0114
/-- R393 -/
abbrev SPS_SLA_T : Nat := 0xC0118
/-- R393 -/
abbrev SPS_SDP_PMAX : Nat := 0xC011C
/-- R393 -/
abbrev SPS_SDP_T : Nat := 0xC0120
/-- R393 -/
abbrev SPS_PLAUS : Nat := 0xC0124
/-- R393 -/
abbrev SPS_PWM_MASK : Nat := 0xC0128
/-- R393 -/
abbrev SPS_SINk (i : Nat) : Nat := 0xC0140 + 0x4 * i
/-- R393 -/
abbrev SPS_SOUTj (i : Nat) : Nat := 0xC0160 + 0x4 * i
/-- R413 -/
abbrev SYS_ID : Nat := 0x0
/-- R413 -/
abbrev SYS_ORDER : Nat := 0x4
/-- R413 -/
abbrev SYS_SERIAL_LO : Nat := 0x8
/-- R413 -/
abbrev SYS_SERIAL_HI : Nat := 0xC
/-- R413 -/
abbrev SYS_FWVER : Nat := 0x10
/-- R413 -/
abbrev SYS_HWREV : Nat := 0x14
/-- R413 -/
abbrev SYS_IMAGE : Nat := 0x18
/-- R413 -/
abbrev NET_CFG : Nat := 0x100
/-- R413 -/
abbrev NET_H0_ADDR : Nat := 0x104
/-- R413 -/
abbrev NET_H0_MASK : Nat := 0x108
/-- R413 -/
abbrev NET_H0_GW : Nat := 0x10C
/-- R413 -/
abbrev NET_H1_ADDR : Nat := 0x110
/-- R413 -/
abbrev NET_H1_MASK : Nat := 0x114
/-- R413 -/
abbrev NET_H1_GW : Nat := 0x118
/-- R413 -/
abbrev CMD_SESS_TMO : Nat := 0x140
/-- R413 -/
abbrev CMD_STAT : Nat := 0x144
/-- R413 -/
abbrev CMD_AUTH_FAIL : Nat := 0x148
/-- R413 -/
abbrev CMD_MALFORMED : Nat := 0x14C
/-- R413 -/
abbrev CMD_DUP_CNT : Nat := 0x150
/-- R413 -/
abbrev CMD_GAP_DROP : Nat := 0x154
/-- R413 -/
abbrev CMD_PENDING : Nat := 0x158
/-- R413 -/
abbrev CMD_SESSn (i : Nat) : Nat := 0x180 + 0x4 * i
/-- R428 -/
abbrev EVLOG_NEXT_LO : Nat := 0x1C0
/-- R428 -/
abbrev EVLOG_NEXT_HI : Nat := 0x1C4
/-- R428 -/
abbrev EVLOG_OLDEST_LO : Nat := 0x1C8
/-- R428 -/
abbrev EVLOG_OLDEST_HI : Nat := 0x1CC
/-- R428 -/
abbrev EVLOG_RUN : Nat := 0x1D0
/-- R428 -/
abbrev EVLOG_STAGED : Nat := 0x1D4
/-- R428 -/
abbrev EVLOG_LOST : Nat := 0x1D8
/-- R428 -/
abbrev EVLOG_FLAGS : Nat := 0x1DC
/-- R448 -/
abbrev MEM_CFG : Nat := 0xD0000
/-- R448 -/
abbrev MEM_STAT : Nat := 0xD0004
/-- R448 -/
abbrev MEM_FLAGS : Nat := 0xD0008
/-- R448 -/
abbrev MEM_SRAM_CE : Nat := 0xD000C
/-- R448 -/
abbrev MEM_SRAM_UE : Nat := 0xD0010
/-- R448 -/
abbrev MEM_UE_ADDR : Nat := 0xD0014
/-- R448 -/
abbrev MEM_SCRUB_T : Nat := 0xD0018
/-- R448 -/
abbrev MEM_SCRUB_POS : Nat := 0xD001C
/-- R448 -/
abbrev MEM_REMAP_CE : Nat := 0xD0020
/-- R448 -/
abbrev MEM_MT_GAP : Nat := 0xD0024
/-- R448 -/
abbrev MEM_MT_POS : Nat := 0xD0028
/-- R448 -/
abbrev MEM_MT_PASS : Nat := 0xD002C
/-- R448 -/
abbrev MEM_MT_FAIL : Nat := 0xD0030
/-- R448 -/
abbrev MEM_WW_CNT : Nat := 0xD0034
/-- R448 -/
abbrev MEM_DRAM_CE : Nat := 0xD0038
/-- R448 -/
abbrev MEM_DRAM_UE : Nat := 0xD003C
/-- R448 -/
abbrev MEM_DRAM_UE_ADDR : Nat := 0xD0040
/-- R448 -/
abbrev MEM_EMMC_LIFE : Nat := 0xD0044
/-- R448 -/
abbrev MEM_REMAP_SUM : Nat := 0xD0048
/-- R448 -/
abbrev MEM_REMAPb (i : Nat) : Nat := 0xD0100 + 0x4 * i
/-- R448 -/
abbrev MEM_BANKp (i : Nat) : Nat := 0xD0200 + 0x4 * i
/-- R449 -/
abbrev CLK_CFG : Nat := 0xE0000
/-- R449 -/
abbrev CLK_STAT : Nat := 0xE0004
/-- R449 -/
abbrev CLK_FLAGS : Nat := 0xE0008
/-- R449 -/
abbrev CLK_BK_PPM : Nat := 0xE000C
/-- R449 -/
abbrev CLK_BK_AGE : Nat := 0xE0010
/-- R449 -/
abbrev CLK_LOL_CNT : Nat := 0xE0014
/-- R449 -/
abbrev CLK_DIV_SH : Nat := 0xE0018
/-- R449 -/
abbrev CLK_DIV : Nat := 0xE001C
/-- R449 -/
abbrev CLK_GO : Nat := 0xE0020
/-- R449 -/
abbrev CLK_BANDn (i : Nat) : Nat := 0xE0040 + 0x4 * i
/-- R449 -/
abbrev CLK_BANDOVRn (i : Nat) : Nat := 0xE0080 + 0x4 * i
/-- R469 -/
abbrev PWR_STAT : Nat := 0xF0000
/-- R469 -/
abbrev PWR_FLAGS : Nat := 0xF0004
/-- R469 -/
abbrev PWR_VIN_A : Nat := 0xF0008
/-- R469 -/
abbrev PWR_VIN_B : Nat := 0xF000C
/-- R469 -/
abbrev PWR_VHU : Nat := 0xF0010
/-- R469 -/
abbrev PWR_PIN : Nat := 0xF0014
/-- R469 -/
abbrev PWR_RST_CAUSE : Nat := 0xF0018
/-- R469 -/
abbrev PWR_RST_CNT : Nat := 0xF001C
/-- R469 -/
abbrev PWR_WARN_CNT : Nat := 0xF0020
/-- R469 -/
abbrev PWR_BOS_CNT : Nat := 0xF0024
/-- R469 -/
abbrev PWR_WDT_T : Nat := 0xF0028
/-- R469 -/
abbrev PWR_LL_ROW : Nat := 0xF002C
/-- R469 -/
abbrev PWR_LL_INFO : Nat := 0xF0030
/-- R470 -/
abbrev CAL_CFG : Nat := 0x100000
/-- R470 -/
abbrev CAL_STAT : Nat := 0x100004
/-- R470 -/
abbrev CAL_FLAGS : Nat := 0x100008
/-- R470 -/
abbrev CAL_TIME_LO : Nat := 0x10000C
/-- R470 -/
abbrev CAL_TIME_HI : Nat := 0x100010
/-- R470 -/
abbrev CAL_UTC_OFS : Nat := 0x100014
/-- R470 -/
abbrev CAL_OFFSET : Nat := 0x100018
/-- R470 -/
abbrev CAL_FREQ : Nat := 0x10001C
/-- R470 -/
abbrev CAL_STEP_LIM : Nat := 0x100020
/-- R470 -/
abbrev CAL_TRACE_LIM : Nat := 0x100024
/-- R470 -/
abbrev CAL_HOLDOVER : Nat := 0x100028
/-- R470 -/
abbrev CAL_SET_LO : Nat := 0x10002C
/-- R470 -/
abbrev CAL_SET_HI : Nat := 0x100030
/-- R470 -/
abbrev CAL_BAT_MV : Nat := 0x100034
/-- R470 -/
abbrev CAL_STEP_CNT : Nat := 0x100038
/-- R480 -/
abbrev SEC_STAT : Nat := 0x110000
/-- R480 -/
abbrev SEC_FLAGS : Nat := 0x110004
/-- R480 -/
abbrev SEC_MINVER : Nat := 0x110008
/-- R480 -/
abbrev SEC_TRUST_ID : Nat := 0x11000C
/-- R480 -/
abbrev SEC_DEV_SN : Nat := 0x110010
/-- R480 -/
abbrev SEC_DBG_NONCE_LO : Nat := 0x110014
/-- R480 -/
abbrev SEC_DBG_NONCE_HI : Nat := 0x110018
/-- R480 -/
abbrev SEC_TAMPER_CNT : Nat := 0x11001C
/-- R480 -/
abbrev SEC_ZERO_TAI_LO : Nat := 0x110020
/-- R480 -/
abbrev SEC_ZERO_TAI_HI : Nat := 0x110024
/-- R480 -/
abbrev SEC_CTRL : Nat := 0x110028

end Reg

/-- Register families of block 0, part 0. -/
def regFams0p0 : List RegFam := [
  ⟨0x200, [], 0x2, 0x0, 0x3, 0x0, 0x0, 0x0, false⟩,
  ⟨0x204, [], 0x10, 0x0, 0x0, 0x8, 0x0, 0x0, false⟩,
  ⟨0x208, [], 0x0, 0x0, 0x0, 0x0, 0x0, 0x0, true⟩,
  ⟨0x20C, [], 0x0, 0x0, 0x0, 0x0, 0x0, 0x0, true⟩,
  ⟨0x210, [], 0x320, 0x0, 0x0, 0x0, 0x0, 0x0, false⟩,
  ⟨0x214, [], 0x0, 0x0, 0x0, 0x0, 0x0, 0x1, false⟩,
  ⟨0x300, [], 0x0, 0x0, 0x0, 0x0, 0x0, 0x0, false⟩,
  ⟨0x304, [], 0x0, 0x0, 0x0, 0x3FF, 0x0, 0x0, false⟩,
  ⟨0x308, [], 0x0, 0x0, 0x3, 0x0, 0x0, 0x0, false⟩,
  ⟨0x30C, [], 0x0, 0x0, 0x0, 0x0, 0x0, 0x0, false⟩,
  ⟨0x310, [], 0x0, 0x0, 0x0, 0x0, 0x0, 0x0, true⟩,
  ⟨0x314, [], 0x0, 0x0, 0x0, 0x0, 0x0, 0x0, false⟩,
  ⟨0x318, [], 0x32000000, 0x0, 0x0, 0x0, 0x0, 0x0, false⟩,
  ⟨0x31C, [], 0x0, 0x0, 0x0, 0x0, 0x0, 0x0, false⟩,
  ⟨0x320, [], 0xCCCCD, 0xFFFFFFFF, 0x0, 0x0, 0x0, 0x0, false⟩,
  ⟨0x324, [], 0xD9999A, 0xFFFFFFFF, 0x0, 0x0, 0x0, 0x0, false⟩,
  ⟨0x328, [], 0xC8, 0xFFFFFFFF, 0x0, 0x0, 0x0, 0x0, false⟩,
  ⟨0x330, [], 0x1388, 0xFFFFFFFF, 0x0, 0x0, 0x0, 0x0, false⟩,
  ⟨0x334, [], 0xA, 0xFFFFFFFF, 0x0, 0x0, 0x0, 0x0, false⟩,
  ⟨0x340, [], 0x333333, 0xFFFFFFFF, 0x0, 0x0, 0x0, 0x0, false⟩,
  ⟨0x344, [], 0xCCCCD, 0xFFFFFFFF, 0x0, 0x0, 0x0, 0x0, false⟩,
  ⟨0x348, [], 0x64, 0xFFFFFFFF, 0x0, 0x0, 0x0, 0x0, false⟩,
  ⟨0x34C, [], 0xCCCCD, 0xFFFFFFFF, 0x0, 0x0, 0x0, 0x0, false⟩,
  ⟨0x350, [], 0x7AE14, 0xFFFFFFFF, 0x0, 0x0, 0x0, 0x0, false⟩,
  ⟨0x354, [], 0x64, 0xFFFFFFFF, 0x0, 0x0, 0x0, 0x0, false⟩,
  ⟨0x358, [], 0x3C, 0xFFFFFFFF, 0x0, 0x0, 0x0, 0x0, false⟩,
  ⟨0x360, [], 0xCCCCD, 0xFFFFFFFF, 0x0, 0x0, 0x0, 0x0, false⟩,
  ⟨0x364, [], 0x3C, 0xFFFFFFFF, 0x0, 0x0, 0x0, 0x0, false⟩,
  ⟨0x368, [], 0x800000, 0xFFFFFFFF, 0x0, 0x0, 0x0, 0x0, false⟩,
  ⟨0x36C, [], 0xCCCCD, 0xFFFFFFFF, 0x0, 0x0, 0x0, 0x0, false⟩]

/-- Register families of block 0, part 1. -/
def regFams0p1 : List RegFam := [
  ⟨0x370, [], 0x0, 0x0, 0x0, 0x0, 0x0, 0x0, false⟩,
  ⟨0x374, [], 0x0, 0x0, 0x0, 0x0, 0x0, 0x0, false⟩,
  ⟨0x378, [], 0x1000000, 0x0, 0x0, 0x0, 0x0, 0x0, false⟩,
  ⟨0x37C, [], 0x32000000, 0x0, 0x0, 0x0, 0x0, 0x0, false⟩,
  ⟨0x0, [], 0x4D474634, 0x0, 0x0, 0x0, 0x0, 0x0, false⟩,
  ⟨0x4, [], 0x0, 0x0, 0x0, 0x0, 0x0, 0x0, false⟩,
  ⟨0x8, [], 0x0, 0x0, 0x0, 0x0, 0x0, 0x0, false⟩,
  ⟨0xC, [], 0x0, 0x0, 0x0, 0x0, 0x0, 0x0, false⟩,
  ⟨0x10, [], 0x0, 0x0, 0x0, 0x0, 0x0, 0x0, false⟩,
  ⟨0x14, [], 0x0, 0x0, 0x0, 0x0, 0x0, 0x0, false⟩,
  ⟨0x18, [], 0x0, 0x0, 0x0, 0x0, 0x0, 0x0, false⟩,
  ⟨0x100, [], 0x15, 0x0, 0x1F, 0x0, 0x0, 0x0, false⟩,
  ⟨0x104, [], 0x0, 0x0, 0xFFFFFFFF, 0x0, 0x0, 0x0, false⟩,
  ⟨0x108, [], 0xFFFFFF00, 0x0, 0xFFFFFFFF, 0x0, 0x0, 0x0, false⟩,
  ⟨0x10C, [], 0x0, 0x0, 0xFFFFFFFF, 0x0, 0x0, 0x0, false⟩,
  ⟨0x110, [], 0x0, 0x0, 0xFFFFFFFF, 0x0, 0x0, 0x0, false⟩,
  ⟨0x114, [], 0xFFFFFF00, 0x0, 0xFFFFFFFF, 0x0, 0x0, 0x0, false⟩,
  ⟨0x118, [], 0x0, 0x0, 0xFFFFFFFF, 0x0, 0x0, 0x0, false⟩,
  ⟨0x140, [], 0x1E, 0x3FF, 0x0, 0x0, 0x0, 0x0, false⟩,
  ⟨0x144, [], 0x0, 0x0, 0x0, 0x0, 0x0, 0x0, false⟩,
  ⟨0x148, [], 0x0, 0x0, 0x0, 0x0, 0x0, 0x0, true⟩,
  ⟨0x14C, [], 0x0, 0x0, 0x0, 0x0, 0x0, 0x0, true⟩,
  ⟨0x150, [], 0x0, 0x0, 0x0, 0x0, 0x0, 0x0, true⟩,
  ⟨0x154, [], 0x0, 0x0, 0x0, 0x0, 0x0, 0x0, true⟩,
  ⟨0x158, [], 0x0, 0x0, 0x0, 0x0, 0x0, 0x0, false⟩,
  ⟨0x180, [(0x4, 8)], 0x0, 0x0, 0x0, 0x0, 0x0, 0x0, false⟩,
  ⟨0x1C0, [], 0x0, 0x0, 0x0, 0x0, 0x0, 0x0, false⟩,
  ⟨0x1C4, [], 0x0, 0x0, 0x0, 0x0, 0x0, 0x0, false⟩,
  ⟨0x1C8, [], 0x0, 0x0, 0x0, 0x0, 0x0, 0x0, false⟩,
  ⟨0x1CC, [], 0x0, 0x0, 0x0, 0x0, 0x0, 0x0, false⟩]

/-- Register families of block 0, part 2. -/
def regFams0p2 : List RegFam := [
  ⟨0x1D0, [], 0x0, 0x0, 0x0, 0x0, 0x0, 0x0, false⟩,
  ⟨0x1D4, [], 0x0, 0x0, 0x0, 0x0, 0x0, 0x0, false⟩,
  ⟨0x1D8, [], 0x0, 0x0, 0x0, 0x0, 0x0, 0x0, false⟩,
  ⟨0x1DC, [], 0x0, 0x0, 0x0, 0x3, 0x0, 0x0, false⟩]

/-- Register families of block 1, part 0. -/
def regFams1p0 : List RegFam := [
  ⟨0x0, [], 0x2, 0x0, 0x3, 0x0, 0x0, 0x0, false⟩,
  ⟨0x4, [], 0x0, 0x0, 0x0, 0x0, 0x0, 0x0, false⟩,
  ⟨0x8, [], 0x0, 0x0, 0x0, 0x0, 0x0, 0x0, false⟩,
  ⟨0xC, [], 0x0, 0x0, 0x0, 0x0, 0x0, 0x0, false⟩,
  ⟨0x10, [], 0x0, 0x0, 0x0, 0x0, 0x0, 0x0, false⟩,
  ⟨0x14, [], 0x32000000, 0x0, 0x0, 0x0, 0x0, 0x0, false⟩,
  ⟨0x18, [], 0x32000000, 0x0, 0x0, 0x0, 0x0, 0x0, false⟩,
  ⟨0x1C, [], 0x190, 0x0, 0x3FF, 0x0, 0x0, 0x0, false⟩,
  ⟨0x20, [], 0x0, 0x0, 0x0, 0x0, 0x0, 0x0, true⟩,
  ⟨0x24, [], 0x0, 0x0, 0x0, 0x1F, 0x0, 0x0, false⟩,
  ⟨0x28, [], 0x0, 0x0, 0x0, 0x0, 0x0, 0x0, false⟩,
  ⟨0x2C, [], 0x0, 0x0, 0x0, 0x0, 0x0, 0x0, false⟩,
  ⟨0x30, [], 0x0, 0x0, 0x0, 0x0, 0x0, 0x0, false⟩,
  ⟨0x34, [], 0x0, 0x0, 0x0, 0x0, 0x0, 0x0, false⟩,
  ⟨0x38, [], 0xFFFFFFFF, 0x0, 0x0, 0x0, 0x0, 0x0, false⟩,
  ⟨0x3C, [], 0xFFFFFFFF, 0x0, 0x0, 0x0, 0x0, 0x0, false⟩,
  ⟨0x40, [], 0x0, 0x0, 0x0, 0x0, 0x0, 0x0, false⟩,
  ⟨0x44, [], 0x0, 0x0, 0x0, 0x0, 0x0, 0x0, false⟩,
  ⟨0x48, [], 0x0, 0x0, 0x0, 0x0, 0x0, 0x0, false⟩,
  ⟨0x4C, [], 0x1, 0xFFFF, 0x0, 0x0, 0x0, 0x0, false⟩,
  ⟨0x50, [], 0x0, 0x0, 0x0, 0x0, 0x0, 0x0, true⟩,
  ⟨0x54, [], 0x0, 0x0, 0x0, 0x0, 0x0, 0x0, true⟩,
  ⟨0x8000, [(0x10, 2048)], 0x0, 0xF077, 0x0, 0x0, 0x0, 0x0, false⟩,
  ⟨0x8004, [(0x10, 2048)], 0x0, 0xFFFFFF, 0x0, 0x0, 0x0, 0x0, false⟩,
  ⟨0x8008, [(0x10, 2048)], 0x0, 0xFFFFF, 0x0, 0x0, 0x0, 0x0, false⟩,
  ⟨0x800C, [(0x10, 2048)], 0x0, 0xFFFFFFFF, 0x0, 0x0, 0x0, 0x0, false⟩]

/-- Register families of block 2, part 0. -/
def regFams2p0 : List RegFam := [
  ⟨0x0, [], 0x33, 0x0, 0xF7F, 0x0, 0x0, 0x0, false⟩,
  ⟨0x4, [], 0x0, 0x0, 0x0, 0x0, 0x0, 0x0, false⟩,
  ⟨0x8, [], 0x0, 0x0, 0x0, 0x33E, 0x0, 0x0, false⟩,
  ⟨0xC, [], 0x0, 0x0, 0x0, 0x0, 0x0, 0x0, false⟩,
  ⟨0x10, [], 0x0, 0x0, 0x1FFFFF, 0x0, 0x0, 0x0, false⟩,
  ⟨0x14, [], 0x0, 0x0, 0xFFFFF, 0x0, 0x0, 0x0, false⟩,
  ⟨0x18, [], 0x0, 0x0, 0x11F1F1F, 0x0, 0x0, 0x0, false⟩,
  ⟨0x1C, [], 0x0, 0x0, 0xFFFFFFFF, 0x0, 0x0, 0x0, false⟩,
  ⟨0x20, [], 0x0, 0x0, 0xFFFFFFFF, 0x0, 0x0, 0x0, false⟩,
  ⟨0x24, [], 0x0, 0x0, 0xFFFFFFFF, 0x0, 0x0, 0x0, false⟩,
  ⟨0x28, [], 0x2000000, 0x0, 0xFFFFFFFF, 0x0, 0x0, 0x0, false⟩,
  ⟨0x40, [], 0xFA0, 0xFFFFFFFF, 0x0, 0x0, 0x0, 0x0, false⟩,
  ⟨0x44, [], 0x1F4, 0xFFFFFFFF, 0x0, 0x0, 0x0, 0x0, false⟩,
  ⟨0x48, [], 0xC8, 0xFFFFFFFF, 0x0, 0x0, 0x0, 0x0, false⟩,
  ⟨0x4C, [], 0x190, 0xFFFFFFFF, 0x0, 0x0, 0x0, 0x0, false⟩,
  ⟨0x50, [], 0x1F4, 0xFFFFFFFF, 0x0, 0x0, 0x0, 0x0, false⟩,
  ⟨0x54, [], 0x7D0, 0xFFFFFFFF, 0x0, 0x0, 0x0, 0x0, false⟩,
  ⟨0x58, [], 0x2000000, 0xFFFFFFFF, 0x0, 0x0, 0x0, 0x0, false⟩,
  ⟨0x60, [], 0x800000, 0xFFFFFFFF, 0x0, 0x0, 0x0, 0x0, false⟩,
  ⟨0x64, [], 0xC8, 0xFFFFFFFF, 0x0, 0x0, 0x0, 0x0, false⟩,
  ⟨0x68, [], 0x0, 0xFFFFFFFF, 0x0, 0x0, 0x0, 0x0, false⟩,
  ⟨0x6C, [], 0x1400000, 0xFFFFFFFF, 0x0, 0x0, 0x0, 0x0, false⟩,
  ⟨0x70, [], 0x51EB8, 0xFFFFFFFF, 0x0, 0x0, 0x0, 0x0, false⟩,
  ⟨0x74, [], 0x266666, 0xFFFFFFFF, 0x0, 0x0, 0x0, 0x0, false⟩,
  ⟨0x78, [], 0x119999A, 0xFFFFFFFF, 0x0, 0x0, 0x0, 0x0, false⟩,
  ⟨0x80, [], 0xCCCCCD, 0xFFFFFFFF, 0x0, 0x0, 0x0, 0x0, false⟩,
  ⟨0x84, [], 0x1388, 0xFFFFFFFF, 0x0, 0x0, 0x0, 0x0, false⟩,
  ⟨0x88, [], 0x147AE, 0xFFFFFFFF, 0x0, 0x0, 0x0, 0x0, false⟩,
  ⟨0x8C, [], 0x266666, 0xFFFFFFFF, 0x0, 0x0, 0x0, 0x0, false⟩,
  ⟨0x90, [], 0x266666, 0xFFFFFFFF, 0x0, 0x0, 0x0, 0x0, false⟩]

/-- Register families of block 2, part 1. -/
def regFams2p1 : List RegFam := [
  ⟨0x94, [], 0x4CCCCD, 0xFFFFFFFF, 0x0, 0x0, 0x0, 0x0, false⟩,
  ⟨0xA0, [], 0x4CCCCD, 0xFFFFFFFF, 0x0, 0x0, 0x0, 0x0, false⟩,
  ⟨0xA4, [], 0x2710, 0xFFFFFFFF, 0x0, 0x0, 0x0, 0x0, false⟩,
  ⟨0xA8, [], 0xA000000, 0xFFFFFFFF, 0x0, 0x0, 0x0, 0x0, false⟩,
  ⟨0xAC, [], 0x0, 0xFFFFFFFF, 0x0, 0x0, 0x0, 0x0, false⟩,
  ⟨0xB0, [], 0xA000000, 0xFFFFFFFF, 0x0, 0x0, 0x0, 0x0, false⟩,
  ⟨0xC0, [], 0x0, 0x0, 0x0, 0x0, 0x0, 0x0, false⟩,
  ⟨0xC4, [], 0x0, 0x0, 0x0, 0x0, 0x0, 0x0, false⟩,
  ⟨0xC8, [], 0x0, 0x0, 0x0, 0x0, 0x0, 0x0, false⟩,
  ⟨0xCC, [], 0x0, 0x0, 0x0, 0x0, 0x0, 0x0, false⟩,
  ⟨0xD0, [], 0x1000000, 0x0, 0x0, 0x0, 0x0, 0x0, false⟩,
  ⟨0xD4, [], 0x1000000, 0x0, 0x0, 0x0, 0x0, 0x0, false⟩,
  ⟨0xD8, [], 0x32000000, 0x0, 0x0, 0x0, 0x0, 0x0, false⟩,
  ⟨0xDC, [], 0x32000000, 0x0, 0x0, 0x0, 0x0, 0x0, false⟩,
  ⟨0xE0, [], 0x333333, 0xFFFFFFFF, 0x0, 0x0, 0x0, 0x0, false⟩,
  ⟨0xE4, [], 0x800000, 0xFFFFFFFF, 0x0, 0x0, 0x0, 0x0, false⟩,
  ⟨0xE8, [], 0x28F5C, 0xFFFFFFFF, 0x0, 0x0, 0x0, 0x0, false⟩,
  ⟨0x100, [], 0x1000000, 0x0, 0x0, 0x0, 0x0, 0x0, false⟩,
  ⟨0x104, [], 0x0, 0x0, 0x0, 0x0, 0x0, 0x0, false⟩,
  ⟨0x108, [], 0x1000000, 0x0, 0x0, 0x0, 0x0, 0x0, false⟩,
  ⟨0x10C, [], 0x0, 0x0, 0x0, 0x0, 0x0, 0x0, false⟩,
  ⟨0x120, [], 0x0, 0x0, 0x0, 0x0, 0x0, 0x0, true⟩,
  ⟨0x124, [], 0x0, 0x0, 0x0, 0x0, 0x0, 0x0, true⟩,
  ⟨0x128, [], 0x0, 0x0, 0x0, 0x0, 0x0, 0x0, true⟩,
  ⟨0x12C, [], 0x0, 0x0, 0x0, 0x0, 0x0, 0x0, true⟩,
  ⟨0x1000, [(0x4, 64)], 0x0, 0x0, 0x0, 0x0, 0x0, 0x0, false⟩,
  ⟨0x400, [], 0x0, 0x0, 0x1, 0x0, 0x0, 0x0, false⟩,
  ⟨0x404, [], 0x0, 0x0, 0x0, 0x0, 0x0, 0x0, false⟩,
  ⟨0x408, [], 0x0, 0x0, 0x0, 0xFF, 0x0, 0x0, false⟩,
  ⟨0x40C, [], 0xC8, 0xFFFFFFFF, 0x0, 0x0, 0x0, 0x0, false⟩]

/-- Register families of block 2, part 2. -/
def regFams2p2 : List RegFam := [
  ⟨0x410, [], 0xFA, 0xFFFFFFFF, 0x0, 0x0, 0x0, 0x0, false⟩,
  ⟨0x414, [], 0x4000000, 0xFFFFFFFF, 0x0, 0x0, 0x0, 0x0, false⟩,
  ⟨0x418, [], 0x64, 0xFFFFFFFF, 0x0, 0x0, 0x0, 0x0, false⟩,
  ⟨0x41C, [], 0x32, 0xFFFFFFFF, 0x0, 0x0, 0x0, 0x0, false⟩,
  ⟨0x420, [], 0x0, 0x0, 0xFFF0FFF, 0x0, 0x0, 0x0, false⟩,
  ⟨0x424, [], 0x0, 0x0, 0xFFF0FFF, 0x0, 0x0, 0x0, false⟩,
  ⟨0x428, [], 0x0, 0x0, 0x0, 0x0, 0x0, 0x0, true⟩,
  ⟨0x42C, [], 0x0, 0x0, 0x0, 0x0, 0x0, 0x0, false⟩,
  ⟨0x430, [], 0x0, 0x0, 0x0, 0x0, 0x0, 0x0, false⟩,
  ⟨0x434, [], 0x1000000, 0x0, 0x0, 0x0, 0x0, 0x0, false⟩,
  ⟨0x438, [], 0x0, 0x0, 0x0, 0x0, 0x0, 0x0, false⟩,
  ⟨0x43C, [], 0x0, 0x0, 0x0, 0x0, 0x0, 0x0, false⟩,
  ⟨0x500, [(0x100, 2)], 0x1, 0x7, 0x0, 0x0, 0x0, 0x0, false⟩,
  ⟨0x504, [(0x100, 2)], 0x2000000, 0xFFFFFFFF, 0x0, 0x0, 0x0, 0x0, false⟩,
  ⟨0x508, [(0x100, 2)], 0x1000000, 0xFFFFFFFF, 0x0, 0x0, 0x0, 0x0, false⟩,
  ⟨0x50C, [(0x100, 2)], 0xD9999A, 0xFFFFFFFF, 0x0, 0x0, 0x0, 0x0, false⟩,
  ⟨0x510, [(0x100, 2)], 0xE66666, 0xFFFFFFFF, 0x0, 0x0, 0x0, 0x0, false⟩,
  ⟨0x514, [(0x100, 2)], 0x1266666, 0xFFFFFFFF, 0x0, 0x0, 0x0, 0x0, false⟩,
  ⟨0x518, [(0x100, 2)], 0x119999A, 0xFFFFFFFF, 0x0, 0x0, 0x0, 0x0, false⟩,
  ⟨0x51C, [(0x100, 2)], 0x19999A, 0xFFFFFFFF, 0x0, 0x0, 0x0, 0x0, false⟩,
  ⟨0x520, [(0x100, 2)], 0xCCCCD, 0xFFFFFFFF, 0x0, 0x0, 0x0, 0x0, false⟩,
  ⟨0x524, [(0x100, 2)], 0x14, 0xFFFFFFFF, 0x0, 0x0, 0x0, 0x0, false⟩,
  ⟨0x528, [(0x100, 2)], 0x800000, 0xFFFFFFFF, 0x0, 0x0, 0x0, 0x0, false⟩,
  ⟨0x540, [(0x100, 2), (0x8, 8)], 0x0, 0xFFFFFFFF, 0x0, 0x0, 0x0, 0x0, false⟩,
  ⟨0x544, [(0x100, 2), (0x8, 8)], 0x0, 0xFFFFFFFF, 0x0, 0x0, 0x0, 0x0, false⟩,
  ⟨0x580, [(0x100, 2), (0x8, 8)], 0x0, 0xFFFFFFFF, 0x0, 0x0, 0x0, 0x0, false⟩,
  ⟨0x584, [(0x100, 2), (0x8, 8)], 0x7FFFFFFF, 0xFFFFFFFF, 0x0, 0x0, 0x0, 0x0, false⟩,
  ⟨0x5C0, [(0x100, 2), (0x8, 8)], 0x0, 0xFFFFFFFF, 0x0, 0x0, 0x0, 0x0, false⟩,
  ⟨0x5C4, [(0x100, 2), (0x8, 8)], 0x7FFFFFFF, 0xFFFFFFFF, 0x0, 0x0, 0x0, 0x0, false⟩]

/-- Register families of block 3, part 0. -/
def regFams3p0 : List RegFam := [
  ⟨0x0, [], 0x10, 0x0, 0x17, 0x0, 0x0, 0x0, false⟩,
  ⟨0x4, [], 0x0, 0x0, 0x0, 0x0, 0x0, 0x0, false⟩,
  ⟨0x8, [], 0x0, 0x0, 0x0, 0x3F, 0x0, 0x0, false⟩,
  ⟨0xC, [], 0x0, 0x0, 0x0, 0x0, 0x0, 0x0, false⟩,
  ⟨0x10, [], 0xCCD, 0xFFFF, 0x0, 0x0, 0x0, 0x0, false⟩,
  ⟨0x14, [], 0x42, 0xFFFF, 0x0, 0x0, 0x0, 0x0, false⟩,
  ⟨0x18, [], 0x100, 0xFFFF, 0x0, 0x0, 0x0, 0x0, false⟩,
  ⟨0x1C, [], 0x4, 0x1F, 0x0, 0x0, 0x0, 0x0, false⟩,
  ⟨0x20, [], 0x20, 0xFF, 0x0, 0x0, 0x0, 0x0, false⟩,
  ⟨0x24, [], 0x3, 0xF, 0x0, 0x0, 0x0, 0x0, false⟩,
  ⟨0x28, [], 0x400, 0xFFFF, 0x0, 0x0, 0x0, 0x0, false⟩,
  ⟨0x2C, [], 0xE666, 0xFFFF, 0x0, 0x0, 0x0, 0x0, false⟩,
  ⟨0x30, [], 0xFAE1, 0xFFFF, 0x0, 0x0, 0x0, 0x0, false⟩,
  ⟨0x34, [], 0xE666, 0xFFFF, 0x0, 0x0, 0x0, 0x0, false⟩,
  ⟨0x38, [], 0x0, 0x0, 0xFFFF001F, 0x0, 0x0, 0x0, false⟩,
  ⟨0x40, [], 0x0, 0x0, 0x0, 0x0, 0x0, 0x0, true⟩,
  ⟨0x44, [], 0x0, 0x0, 0x0, 0x0, 0x0, 0x0, true⟩,
  ⟨0x48, [], 0x0, 0x0, 0x0, 0x0, 0x0, 0x0, true⟩,
  ⟨0x4C, [], 0x0, 0x0, 0x0, 0x0, 0x0, 0x0, true⟩,
  ⟨0x100, [(0x40, 6)], 0x0, 0x0, 0xFFF, 0x0, 0x0, 0x0, false⟩,
  ⟨0x104, [(0x40, 6)], 0x0, 0x0, 0x7FF, 0x0, 0x0, 0x0, false⟩,
  ⟨0x108, [(0x40, 6)], 0x0, 0x0, 0x3FF, 0x0, 0x0, 0x0, false⟩,
  ⟨0x10C, [(0x40, 6)], 0x0, 0x0, 0x1, 0x0, 0x0, 0x0, false⟩,
  ⟨0x110, [(0x40, 6)], 0x0, 0x0, 0xFFFFFFFF, 0x0, 0x0, 0x0, false⟩,
  ⟨0x114, [(0x40, 6)], 0x0, 0x0, 0xFFFF, 0x0, 0x0, 0x0, false⟩,
  ⟨0x118, [(0x40, 6)], 0x0, 0x0, 0xFFFFFFFF, 0x0, 0x0, 0x0, false⟩,
  ⟨0x11C, [(0x40, 6)], 0x0, 0x0, 0x0, 0x0, 0x0, 0x0, false⟩,
  ⟨0x120, [(0x40, 6)], 0x0, 0x0, 0x0, 0x0, 0x0, 0x0, false⟩,
  ⟨0x124, [(0x40, 6)], 0x0, 0x0, 0x0, 0x0, 0x0, 0x0, false⟩,
  ⟨0x128, [(0x40, 6)], 0x80000000, 0x0, 0x0, 0x0, 0x0, 0x0, false⟩]

/-- Register families of block 3, part 1. -/
def regFams3p1 : List RegFam := [
  ⟨0x12C, [(0x40, 6)], 0x0, 0x0, 0x0, 0x0, 0x0, 0x0, false⟩,
  ⟨0x130, [(0x40, 6)], 0x0, 0x0, 0x0, 0x0, 0x0, 0x0, false⟩,
  ⟨0x134, [(0x40, 6)], 0x0, 0x0, 0x0, 0x0, 0x0, 0x0, false⟩,
  ⟨0x4000, [(0x4, 4096)], 0x0, 0x0, 0x0, 0x0, 0x0, 0x0, false⟩]

/-- Register families of block 4, part 0. -/
def regFams4p0 : List RegFam := [
  ⟨0x300, [(0x400, 22)], 0x1, 0x0, 0xF, 0x0, 0x0, 0x0, false⟩,
  ⟨0x304, [(0x400, 22)], 0x0, 0x0, 0x0, 0x0, 0x0, 0x0, false⟩,
  ⟨0x308, [(0x400, 22)], 0x0, 0x0, 0x0, 0x7F, 0x0, 0x0, false⟩,
  ⟨0x30C, [(0x400, 22)], 0xC3004, 0x0, 0x0, 0x0, 0x0, 0x0, false⟩,
  ⟨0x310, [(0x400, 22)], 0xC3004, 0x0, 0x0, 0x0, 0x0, 0x0, false⟩,
  ⟨0x314, [(0x400, 22)], 0x0, 0x0, 0x0, 0x0, 0x0, 0x0, false⟩,
  ⟨0x318, [(0x400, 22)], 0x0, 0x0, 0x0, 0x0, 0x0, 0x0, false⟩,
  ⟨0x31C, [(0x400, 22)], 0x0, 0x0, 0x0, 0x0, 0x0, 0x0, true⟩,
  ⟨0x320, [(0x400, 22)], 0x0, 0x0, 0x0, 0x0, 0x0, 0x0, true⟩,
  ⟨0x324, [(0x400, 22)], 0x0, 0x0, 0x0, 0x0, 0x0, 0x0, true⟩,
  ⟨0x328, [(0x400, 22)], 0x0, 0x0, 0x0, 0x0, 0x0, 0x0, true⟩,
  ⟨0x32C, [(0x400, 22)], 0x0, 0x0, 0x0, 0x0, 0x0, 0x0, true⟩,
  ⟨0x330, [(0x400, 22)], 0x0, 0x0, 0x0, 0x0, 0x0, 0x0, true⟩,
  ⟨0x334, [(0x400, 22)], 0x0, 0x0, 0x0, 0x0, 0x0, 0x0, false⟩,
  ⟨0x338, [(0x400, 22)], 0x0, 0x0, 0x0, 0x0, 0x0, 0x1, false⟩,
  ⟨0x0, [(0x400, 20)], 0x0, 0x0, 0xFFFF1F03, 0x0, 0x0, 0x0, false⟩,
  ⟨0x4, [(0x400, 20)], 0x0, 0x0, 0x1FF0FFF, 0x0, 0x0, 0x0, false⟩,
  ⟨0x8, [(0x400, 20)], 0x0, 0x0, 0x0, 0x0, 0x0, 0x0, false⟩,
  ⟨0xC, [(0x400, 20)], 0x0, 0x0, 0x0, 0x7F, 0x0, 0x0, false⟩,
  ⟨0x10, [(0x400, 20)], 0x0, 0x0, 0x0, 0x0, 0x0, 0x0, false⟩,
  ⟨0x14, [(0x400, 20)], 0x0, 0x0, 0x0, 0x0, 0x0, 0x0, false⟩,
  ⟨0x18, [(0x400, 20)], 0x0, 0x0, 0x0, 0x0, 0x0, 0x0, false⟩,
  ⟨0x1C, [(0x400, 20)], 0x0, 0x0, 0x0, 0x0, 0x0, 0x0, false⟩,
  ⟨0x20, [(0x400, 20)], 0x0, 0x0, 0x0, 0x0, 0x0, 0x0, false⟩,
  ⟨0x24, [(0x400, 20)], 0x0, 0x0, 0x0, 0x0, 0x0, 0x0, true⟩,
  ⟨0x28, [(0x400, 20)], 0x0, 0x0, 0x0, 0x0, 0x0, 0x0, true⟩,
  ⟨0x2C, [(0x400, 20)], 0x0, 0x0, 0x0, 0x0, 0x0, 0x0, true⟩,
  ⟨0x30, [(0x400, 20)], 0x0, 0x0, 0x0, 0x0, 0x0, 0x0, true⟩,
  ⟨0x34, [(0x400, 20)], 0x0, 0x0, 0x0, 0x0, 0x0, 0x0, true⟩,
  ⟨0x38, [(0x400, 20)], 0x0, 0x0, 0x0, 0x0, 0x0, 0x0, true⟩]

/-- Register families of block 4, part 1. -/
def regFams4p1 : List RegFam := [
  ⟨0x3C, [(0x400, 20)], 0x0, 0x0, 0x0, 0x0, 0x0, 0x0, false⟩,
  ⟨0x48, [(0x400, 20), (0x8, 3)], 0x0, 0x0, 0x0, 0x0, 0x0, 0x0, false⟩,
  ⟨0x4C, [(0x400, 20), (0x8, 3)], 0x0, 0x0, 0x0, 0x0, 0x0, 0x0, false⟩,
  ⟨0x60, [(0x400, 20)], 0x104040, 0x0, 0xFFFFFF, 0x0, 0x0, 0x0, false⟩,
  ⟨0x64, [(0x400, 20)], 0x0, 0x0, 0x0, 0x0, 0x0, 0x3, false⟩,
  ⟨0x8000, [], 0x2808, 0x0, 0xFF0F, 0x0, 0x0, 0x0, false⟩,
  ⟨0x8004, [], 0x0, 0x0, 0x0, 0x0, 0x0, 0x0, false⟩,
  ⟨0x8008, [], 0x0, 0x0, 0x0, 0x3, 0x0, 0x0, false⟩,
  ⟨0x800C, [], 0x0, 0x0, 0x0, 0x0, 0x0, 0x0, false⟩,
  ⟨0x8010, [], 0x0, 0x0, 0x0, 0x0, 0x0, 0x0, true⟩]

/-- Register families of block 5, part 0. -/
def regFams5p0 : List RegFam := [
  ⟨0x0, [], 0x5, 0x0, 0xF, 0x0, 0x0, 0x0, false⟩,
  ⟨0x4, [], 0x0, 0x0, 0x0, 0x0, 0x0, 0x0, false⟩,
  ⟨0x8, [], 0x0, 0x0, 0x0, 0x3F, 0x0, 0x0, false⟩,
  ⟨0xC, [], 0x3C, 0xFFF, 0x0, 0x0, 0x0, 0x0, false⟩,
  ⟨0x10, [], 0x3C, 0xFFFF, 0x0, 0x0, 0x0, 0x0, false⟩,
  ⟨0x14, [], 0x0, 0x0, 0x0, 0x0, 0x0, 0x0, false⟩,
  ⟨0x18, [], 0x0, 0x0, 0x0, 0x0, 0x0, 0x0, false⟩,
  ⟨0x1C, [], 0x0, 0x0, 0x0, 0x0, 0x0, 0x0, false⟩,
  ⟨0x20, [], 0x0, 0x0, 0x0, 0x0, 0x0, 0x0, true⟩,
  ⟨0x24, [], 0x0, 0x0, 0x0, 0x0, 0x0, 0x0, true⟩,
  ⟨0x28, [], 0x0, 0x0, 0x0, 0x0, 0x0, 0x0, false⟩,
  ⟨0x2C, [], 0x0, 0x0, 0x0, 0x0, 0x0, 0x0, false⟩,
  ⟨0x30, [], 0x0, 0x0, 0x0, 0x0, 0x0, 0x0, false⟩,
  ⟨0x34, [], 0x0, 0x0, 0x0, 0x0, 0x0, 0x0, false⟩,
  ⟨0x38, [], 0x0, 0x0, 0x0, 0x0, 0x0, 0x0, true⟩,
  ⟨0x3C, [], 0x0, 0x1FFFFFF, 0x0, 0x0, 0x0, 0x0, false⟩,
  ⟨0x40, [(0x4, 8)], 0x0, 0x0, 0x0, 0x0, 0x0, 0x0, false⟩,
  ⟨0x80, [(0x4, 32)], 0x0, 0x0, 0xFFFFFFFF, 0x0, 0x0, 0x0, false⟩,
  ⟨0x100, [(0x20, 16)], 0x0, 0xFFFFFFFF, 0x0, 0x0, 0x0, 0x0, false⟩,
  ⟨0x104, [(0x20, 16)], 0x0, 0xFFFFFFFF, 0x0, 0x0, 0x0, 0x0, false⟩,
  ⟨0x108, [(0x20, 16)], 0x0, 0xFFFFFF, 0x0, 0x0, 0x0, 0x0, false⟩,
  ⟨0x10C, [(0x20, 16)], 0x0, 0xFFFFFF, 0x0, 0x0, 0x0, 0x0, false⟩,
  ⟨0x110, [(0x20, 16)], 0xE666, 0x7FFFF, 0x0, 0x0, 0x0, 0x0, false⟩,
  ⟨0x4000, [(0x4, 4096)], 0x0, 0x0, 0x0, 0x0, 0x0, 0x0, false⟩,
  ⟨0x8000, [(0x20, 256), (0x4, 8)], 0x0, 0x0, 0x0, 0x0, 0x0, 0x0, false⟩]

/-- Register families of block 6, part 0. -/
def regFams6p0 : List RegFam := [
  ⟨0x0, [], 0x0, 0x0, 0x173, 0x0, 0x0, 0x0, false⟩,
  ⟨0x4, [(0x4, 3)], 0x0, 0x0, 0x1F1F, 0x0, 0x0, 0x0, false⟩,
  ⟨0x10, [], 0x0, 0x0, 0x0, 0x0, 0x1, 0x0, false⟩,
  ⟨0x14, [], 0x0, 0x0, 0x0, 0x0, 0x0, 0x0, false⟩,
  ⟨0x18, [], 0x0, 0x0, 0x0, 0xFFFFFF, 0x0, 0x0, false⟩,
  ⟨0x1C, [], 0xFFFFFF, 0x0, 0x0, 0x0, 0x0, 0x0, false⟩,
  ⟨0x20, [], 0x0, 0x0, 0x0, 0x0, 0x0, 0x0, false⟩,
  ⟨0x24, [], 0x0, 0x0, 0x0, 0x0, 0x0, 0xFF, false⟩,
  ⟨0x28, [], 0x0, 0x0, 0x0, 0x0, 0x0, 0x0, true⟩,
  ⟨0x2C, [], 0x0, 0x0, 0xFFFFFFFF, 0x0, 0x0, 0x0, false⟩,
  ⟨0x30, [], 0x0, 0x0, 0x0, 0x7, 0x0, 0x0, false⟩,
  ⟨0x40, [(0x8, 8)], 0x0, 0x0, 0x1FFF03, 0x0, 0x0, 0x0, false⟩,
  ⟨0x44, [(0x8, 8)], 0x0, 0x0, 0xFFFFFF, 0x0, 0x0, 0x0, false⟩,
  ⟨0x100, [(0x40, 24)], 0x0, 0x1, 0x6, 0x0, 0x0, 0x0, false⟩,
  ⟨0x104, [(0x40, 24)], 0x4000, 0x1FFFFFF, 0x0, 0x0, 0x0, 0x0, false⟩,
  ⟨0x108, [(0x40, 24)], 0x0, 0x1FFFFFF, 0x0, 0x0, 0x0, 0x0, false⟩,
  ⟨0x10C, [(0x40, 24)], 0x0, 0x1FFFFFF, 0x0, 0x0, 0x0, 0x0, false⟩,
  ⟨0x110, [(0x40, 24)], 0x0, 0x1FFFFFF, 0x0, 0x0, 0x0, 0x0, false⟩,
  ⟨0x114, [(0x40, 24)], 0x3, 0x3, 0x0, 0x0, 0x0, 0x0, false⟩,
  ⟨0x118, [(0x40, 24)], 0x4000, 0x0, 0x0, 0x0, 0x0, 0x0, false⟩,
  ⟨0x11C, [(0x40, 24)], 0x0, 0x0, 0x0, 0x0, 0x0, 0x0, false⟩,
  ⟨0x120, [(0x40, 24)], 0x0, 0x0, 0x0, 0x0, 0x0, 0x0, false⟩,
  ⟨0x124, [(0x40, 24)], 0x0, 0x0, 0x0, 0x0, 0x0, 0x0, false⟩,
  ⟨0x128, [(0x40, 24)], 0x0, 0x0, 0x0, 0x0, 0x0, 0x0, false⟩,
  ⟨0x12C, [(0x40, 24)], 0x0, 0x0, 0xFFF, 0x0, 0x0, 0x0, false⟩,
  ⟨0x130, [(0x40, 24)], 0xA, 0x0, 0xFF, 0x0, 0x0, 0x0, false⟩,
  ⟨0x134, [(0x40, 24)], 0x0, 0x0, 0x31F1F, 0x0, 0x0, 0x0, false⟩,
  ⟨0x138, [(0x40, 24)], 0x20B, 0x0, 0x0, 0x0, 0x0, 0x0, false⟩]

/-- Register families of block 7, part 0. -/
def regFams7p0 : List RegFam := [
  ⟨0x0, [], 0xB, 0x0, 0xF, 0x0, 0x0, 0x0, false⟩,
  ⟨0x4, [], 0x10, 0x0, 0x0, 0x0, 0x0, 0x0, false⟩,
  ⟨0x8, [], 0x0, 0x0, 0x0, 0x7F, 0x0, 0x0, false⟩,
  ⟨0xC, [], 0xF, 0x0, 0x1F, 0x0, 0x0, 0x0, false⟩,
  ⟨0x10, [], 0x0, 0x0, 0x31F, 0x0, 0x0, 0x0, false⟩,
  ⟨0x14, [], 0x0, 0x0, 0x0, 0x0, 0x0, 0x1F, false⟩,
  ⟨0x18, [], 0x0, 0x0, 0x0, 0x0, 0x0, 0x303, false⟩,
  ⟨0x1C, [], 0x0, 0x0, 0x0, 0x0, 0x0, 0x0, true⟩,
  ⟨0x20, [], 0x0, 0x0, 0x0, 0x0, 0x0, 0x0, true⟩,
  ⟨0x24, [], 0x0, 0x0, 0x0, 0x0, 0x0, 0x0, true⟩,
  ⟨0x28, [], 0x0, 0x0, 0x0, 0x0, 0x0, 0x0, true⟩,
  ⟨0x2C, [], 0x0, 0x0, 0x0, 0x0, 0x0, 0x0, true⟩,
  ⟨0x30, [], 0x0, 0x0, 0x0, 0x0, 0x0, 0x0, false⟩,
  ⟨0x100, [(0x40, 4)], 0xFF, 0xFFFF, 0x0, 0x0, 0x0, 0x0, false⟩,
  ⟨0x104, [(0x40, 4)], 0x0, 0x0, 0x3, 0x0, 0x0, 0x0, false⟩,
  ⟨0x108, [(0x40, 4)], 0x0, 0x0, 0x0, 0x0, 0x0, 0x107, false⟩,
  ⟨0x10C, [(0x40, 4)], 0x0, 0x0, 0x0, 0x0, 0x0, 0x0, false⟩,
  ⟨0x110, [(0x40, 4)], 0x0, 0x0, 0x0, 0x0, 0x0, 0x0, false⟩,
  ⟨0x120, [(0x40, 4), (0x4, 8)], 0x0, 0x0, 0x0, 0x0, 0x0, 0x0, false⟩]

/-- Register families of block 8, part 0. -/
def regFams8p0 : List RegFam := [
  ⟨0x0, [], 0x9, 0x0, 0x1F, 0x0, 0x0, 0x0, false⟩,
  ⟨0x4, [], 0x7, 0x0, 0x1F, 0x0, 0x0, 0x0, false⟩,
  ⟨0x8, [], 0x0, 0x0, 0x0, 0x0, 0x0, 0x0, false⟩,
  ⟨0xC, [], 0x0, 0x0, 0x0, 0x0, 0x0, 0x0, false⟩,
  ⟨0x10, [], 0x0, 0x0, 0x0, 0x1F, 0x0, 0x0, false⟩,
  ⟨0x14, [], 0x0, 0x0, 0x0, 0x0, 0x0, 0xFFFFFFFF, false⟩,
  ⟨0x18, [], 0x0, 0x0, 0x0, 0x0, 0x0, 0xFFFFFFFF, false⟩,
  ⟨0x1C, [], 0x0, 0x0, 0x0, 0x0, 0x0, 0x0, false⟩,
  ⟨0x20, [], 0x0, 0x0, 0x0, 0x0, 0x0, 0x0, true⟩,
  ⟨0x24, [], 0x0, 0x0, 0x0, 0x0, 0x0, 0x0, true⟩,
  ⟨0x28, [], 0x5E1A07C3, 0x0, 0x0, 0x0, 0x0, 0x0, false⟩,
  ⟨0x100, [(0x10, 32)], 0x0, 0x1F1DFF, 0x0, 0x0, 0x0, 0x0, false⟩,
  ⟨0x104, [(0x10, 32)], 0x0, 0x0, 0x0, 0x0, 0x0, 0x0, false⟩,
  ⟨0x108, [(0x10, 32)], 0x0, 0x0, 0x0, 0x0, 0x0, 0x0, false⟩,
  ⟨0x10C, [(0x10, 32)], 0x0, 0x0, 0x0, 0x0, 0x0, 0x0, false⟩,
  ⟨0x4000, [(0x600, 24), (0x4, 384)], 0x0, 0x0, 0x0, 0x0, 0x0, 0x0, false⟩]

/-- Register families of block 9, part 0. -/
def regFams9p0 : List RegFam := [
  ⟨0x0, [], 0x1, 0x0, 0x1, 0x0, 0x0, 0x0, false⟩,
  ⟨0x4, [], 0x0, 0x0, 0x0, 0x0, 0x0, 0x0, false⟩,
  ⟨0x8, [], 0x0, 0x0, 0x0, 0xF, 0x0, 0x0, false⟩,
  ⟨0xC, [], 0x0, 0x0, 0x0, 0x0, 0x0, 0x0, true⟩,
  ⟨0x10, [], 0x0, 0x0, 0x0, 0x0, 0x0, 0x0, false⟩,
  ⟨0x14, [], 0x0, 0x0, 0x0, 0x0, 0x0, 0x1, false⟩,
  ⟨0x18, [], 0x0, 0x0, 0x0, 0x0, 0x0, 0x0, false⟩,
  ⟨0x1C, [], 0x0, 0x0, 0x0, 0x0, 0x0, 0x0, false⟩,
  ⟨0x20, [], 0x0, 0x0, 0x0, 0x0, 0x0, 0x0, false⟩,
  ⟨0x24, [], 0x0, 0x0, 0x0, 0x0, 0x0, 0x0, false⟩,
  ⟨0x28, [], 0x0, 0x0, 0x0, 0x0, 0x0, 0x0, false⟩,
  ⟨0x2C, [], 0x0, 0x0, 0x0, 0x0, 0x0, 0xFF, false⟩,
  ⟨0x30, [], 0x0, 0x0, 0x0, 0x0, 0x0, 0x0, false⟩,
  ⟨0x34, [], 0x0, 0x0, 0x0, 0x0, 0x0, 0x0, true⟩,
  ⟨0x38, [], 0x0, 0x0, 0x0, 0x0, 0x0, 0x0, true⟩,
  ⟨0x40, [(0x10, 8)], 0x0, 0xF3FFF, 0x0, 0x0, 0x0, 0x0, false⟩,
  ⟨0x44, [(0x10, 8)], 0x0, 0xFFFFFFFF, 0x0, 0x0, 0x0, 0x0, false⟩,
  ⟨0x48, [(0x10, 8)], 0x0, 0xFFFFFFFF, 0x0, 0x0, 0x0, 0x0, false⟩,
  ⟨0x4C, [(0x10, 8)], 0x0, 0x0, 0x0, 0x0, 0x0, 0x0, false⟩,
  ⟨0x100, [(0x40, 16)], 0x0, 0x1F07FF, 0x0, 0x0, 0x0, 0x0, false⟩,
  ⟨0x104, [(0x40, 16)], 0x0, 0xFFF, 0x0, 0x0, 0x0, 0x0, false⟩,
  ⟨0x108, [(0x40, 16)], 0x0, 0xFFFFFF, 0x0, 0x0, 0x0, 0x0, false⟩,
  ⟨0x10C, [(0x40, 16)], 0x0, 0xF0FFF, 0x0, 0x0, 0x0, 0x0, false⟩,
  ⟨0x110, [(0x40, 16), (0x4, 4)], 0x0, 0xFFFFFFFF, 0x0, 0x0, 0x0, 0x0, false⟩,
  ⟨0x120, [(0x40, 16)], 0x0, 0x0, 0x0, 0x0, 0x0, 0x0, false⟩,
  ⟨0x124, [(0x40, 16)], 0x0, 0x0, 0x0, 0x0, 0x0, 0x0, true⟩,
  ⟨0x128, [(0x40, 16)], 0x0, 0x0, 0x0, 0x0, 0x0, 0x0, true⟩,
  ⟨0x12C, [(0x40, 16)], 0x0, 0x0, 0x0, 0x0, 0x0, 0x0, false⟩]

/-- Register families of block 10, part 0. -/
def regFams10p0 : List RegFam := [
  ⟨0x0, [], 0x0, 0x0, 0x0, 0x0, 0x0, 0x0, false⟩,
  ⟨0x4, [], 0x0, 0x0, 0x0, 0x3FF, 0x0, 0x0, false⟩,
  ⟨0x8, [], 0x0, 0x0, 0x1F1F, 0x0, 0x0, 0x0, false⟩,
  ⟨0xC, [], 0x0, 0x0, 0xFFFFFFFF, 0x0, 0x0, 0x0, false⟩,
  ⟨0x10, [], 0x0, 0x0, 0xFFFFFFFF, 0x0, 0x0, 0x0, false⟩,
  ⟨0x14, [], 0x0, 0x0, 0xFFFFFFFF, 0x0, 0x0, 0x0, false⟩,
  ⟨0x18, [], 0x0, 0x0, 0xFFFFFFFF, 0x0, 0x0, 0x0, false⟩,
  ⟨0x1C, [], 0x0, 0x0, 0xFFFF, 0x0, 0x0, 0x0, false⟩,
  ⟨0x20, [], 0xF, 0x0, 0x3F, 0x0, 0x0, 0x0, false⟩,
  ⟨0x24, [], 0x0, 0x0, 0x0, 0x0, 0x0, 0x0, false⟩,
  ⟨0x28, [], 0x0, 0x0, 0x0, 0x0, 0x0, 0x0, false⟩,
  ⟨0x2C, [], 0x0, 0x0, 0x0, 0x0, 0x0, 0x0, false⟩,
  ⟨0x30, [], 0x1, 0x0, 0x0, 0x0, 0x0, 0x0, false⟩,
  ⟨0x34, [], 0x0, 0x0, 0x0, 0x0, 0x0, 0x0, false⟩,
  ⟨0x38, [], 0x0, 0x0, 0x0, 0x0, 0x0, 0x0, false⟩,
  ⟨0x3C, [], 0x0, 0x0, 0x0, 0x0, 0x0, 0x0, false⟩,
  ⟨0x40, [], 0x0, 0x0, 0x0, 0x0, 0x0, 0x0, false⟩,
  ⟨0x44, [], 0x0, 0x0, 0x0, 0x0, 0x0, 0x0, false⟩,
  ⟨0x80, [(0x4, 16)], 0x0, 0x0, 0x7FF7FF, 0x0, 0x0, 0x0, false⟩,
  ⟨0xC0, [(0x4, 12)], 0x0, 0x0, 0x0, 0x0, 0x0, 0x0, false⟩,
  ⟨0x1000, [(0x80, 9), (0x10, 6), (0x4, 4)], 0x0, 0x0, 0x0, 0x0, 0x0, 0x0, false⟩,
  ⟨0x1800, [(0x10, 6), (0x4, 4)], 0x0, 0x0, 0x0, 0x0, 0x0, 0x0, false⟩]

/-- Register families of block 11, part 0. -/
def regFams11p0 : List RegFam := [
  ⟨0x0, [], 0xC, 0x0, 0xF, 0x0, 0x0, 0x0, false⟩,
  ⟨0x4, [], 0x3, 0x0, 0x0, 0x0, 0x0, 0x0, false⟩,
  ⟨0x8, [], 0x0, 0x0, 0x0, 0x3FFF, 0x0, 0x0, false⟩,
  ⟨0xC, [], 0x0, 0x0, 0x0, 0x0, 0x0, 0x0, false⟩,
  ⟨0x10, [], 0xFF, 0x0, 0x0, 0x0, 0x0, 0x0, false⟩,
  ⟨0x14, [], 0x0, 0x0, 0x0, 0x0, 0x0, 0x0, false⟩,
  ⟨0x18, [], 0x0, 0x0, 0x0, 0x0, 0x0, 0x0, false⟩,
  ⟨0x1C, [], 0x0, 0x0, 0x0, 0x0, 0x0, 0x0, false⟩,
  ⟨0x20, [], 0x0, 0x0, 0x0, 0x0, 0x0, 0x0, false⟩,
  ⟨0x24, [], 0x258, 0xFFFFFFFF, 0x0, 0x0, 0x0, 0x0, false⟩,
  ⟨0x28, [], 0xA, 0x0, 0xFFFFFFFF, 0x0, 0x0, 0x0, false⟩,
  ⟨0x2C, [], 0xA4, 0xFFFF, 0x0, 0x0, 0x0, 0x0, false⟩,
  ⟨0x30, [], 0x0, 0x0, 0x0, 0x0, 0x0, 0x0, false⟩,
  ⟨0x34, [], 0x0, 0x0, 0x0, 0x0, 0x0, 0x0, true⟩,
  ⟨0x38, [], 0x0, 0x0, 0x0, 0x0, 0x0, 0x0, true⟩,
  ⟨0x3C, [], 0x0, 0x0, 0x0, 0x0, 0x0, 0x0, true⟩,
  ⟨0x40, [], 0x0, 0x0, 0x0, 0x0, 0x0, 0x0, true⟩,
  ⟨0x44, [], 0x0, 0x0, 0x0, 0x0, 0x0, 0x0, true⟩,
  ⟨0x48, [], 0x0, 0x0, 0x0, 0x0, 0x0, 0x0, true⟩,
  ⟨0x4C, [], 0x0, 0x0, 0x0, 0x0, 0x0, 0x0, true⟩,
  ⟨0x50, [], 0x0, 0x0, 0x0, 0x0, 0x0, 0x0, false⟩,
  ⟨0x54, [], 0x0, 0x0, 0x0, 0x0, 0x0, 0x0, false⟩,
  ⟨0x58, [], 0x0, 0x0, 0x0, 0x0, 0x0, 0x0, false⟩,
  ⟨0x5C, [], 0x0, 0x0, 0x0, 0x0, 0x0, 0x0, false⟩,
  ⟨0x60, [], 0x0, 0x0, 0x0, 0x0, 0x0, 0xF, false⟩,
  ⟨0x64, [], 0x0, 0x0, 0x0, 0x0, 0x0, 0x0, false⟩]

/-- Register families of block 12, part 0. -/
def regFams12p0 : List RegFam := [
  ⟨0x0, [], 0x0, 0x0, 0x0, 0x0, 0x0, 0x0, false⟩,
  ⟨0x4, [], 0x0, 0x0, 0x0, 0x0, 0x0, 0x0, false⟩,
  ⟨0x8, [], 0x0, 0x0, 0x0, 0x0, 0x0, 0x0, false⟩,
  ⟨0xC, [], 0x0, 0x0, 0x0, 0x0, 0x0, 0x0, false⟩,
  ⟨0x10, [], 0x0, 0x0, 0x0, 0x0, 0x0, 0x0, false⟩,
  ⟨0x14, [], 0x0, 0x0, 0x0, 0x0, 0x0, 0x0, false⟩,
  ⟨0x18, [], 0x0, 0x0, 0x0, 0x0, 0x0, 0x0, false⟩,
  ⟨0x1C, [], 0x0, 0x0, 0x0, 0x0, 0x0, 0x0, false⟩,
  ⟨0x20, [], 0x0, 0x0, 0x0, 0x0, 0x0, 0x0, false⟩,
  ⟨0x24, [], 0x0, 0x0, 0x0, 0x0, 0x0, 0x0, false⟩,
  ⟨0x28, [], 0x0, 0x0, 0x0, 0x0, 0x0, 0x0, false⟩,
  ⟨0x2C, [], 0xFFFF, 0x0, 0x0, 0x0, 0x0, 0x0, false⟩,
  ⟨0x100, [], 0xD, 0x0, 0x7F, 0x0, 0x0, 0x0, false⟩,
  ⟨0x104, [], 0x2710, 0x0, 0xFFFFFFFF, 0x0, 0x0, 0x0, false⟩,
  ⟨0x108, [], 0x0, 0x0, 0xFFFFFFFF, 0x0, 0x0, 0x0, false⟩,
  ⟨0x10C, [], 0x0, 0x0, 0xFFFFFFFF, 0x0, 0x0, 0x0, false⟩,
  ⟨0x110, [], 0x14, 0x0, 0xFFFFFFFF, 0x0, 0x0, 0x0, false⟩,
  ⟨0x114, [], 0x258, 0x0, 0xFFFFFFFF, 0x0, 0x0, 0x0, false⟩,
  ⟨0x118, [], 0x32, 0x0, 0xFFFFFFFF, 0x0, 0x0, 0x0, false⟩,
  ⟨0x11C, [], 0xCCCCD, 0x0, 0xFFFFFFFF, 0x0, 0x0, 0x0, false⟩,
  ⟨0x120, [], 0x64, 0x0, 0xFFFFFFFF, 0x0, 0x0, 0x0, false⟩,
  ⟨0x124, [], 0x520000, 0x0, 0xFFF1F1F, 0x0, 0x0, 0x0, false⟩,
  ⟨0x128, [], 0x0, 0x0, 0xFFFFFF, 0x0, 0x0, 0x0, false⟩,
  ⟨0x140, [(0x4, 8)], 0x320, 0x0, 0x1FFF, 0x0, 0x0, 0x0, false⟩,
  ⟨0x160, [(0x4, 4)], 0x0, 0x0, 0x7, 0x0, 0x0, 0x0, false⟩]

/-- Register families of block 13, part 0. -/
def regFams13p0 : List RegFam := [
  ⟨0x0, [], 0x7, 0x0, 0x7, 0x0, 0x0, 0x0, false⟩,
  ⟨0x4, [], 0x40, 0x0, 0x0, 0x0, 0x0, 0x0, false⟩,
  ⟨0x8, [], 0x0, 0x0, 0x0, 0xFF, 0x0, 0x0, false⟩,
  ⟨0xC, [], 0x0, 0x0, 0x0, 0x0, 0x0, 0x0, true⟩,
  ⟨0x10, [], 0x0, 0x0, 0x0, 0x0, 0x0, 0x0, true⟩,
  ⟨0x14, [], 0x0, 0x0, 0x0, 0x0, 0x0, 0x0, false⟩,
  ⟨0x18, [], 0x3C, 0xFFF, 0x0, 0x0, 0x0, 0x0, false⟩,
  ⟨0x1C, [], 0x0, 0x0, 0x0, 0x0, 0x0, 0x0, false⟩,
  ⟨0x20, [], 0x8, 0xFF, 0x0, 0x0, 0x0, 0x0, false⟩,
  ⟨0x24, [], 0xA, 0x3FF, 0x0, 0x0, 0x0, 0x0, false⟩,
  ⟨0x28, [], 0x0, 0x0, 0x0, 0x0, 0x0, 0x0, false⟩,
  ⟨0x2C, [], 0x0, 0x0, 0x0, 0x0, 0x0, 0x0, false⟩,
  ⟨0x30, [], 0x0, 0x0, 0x0, 0x0, 0x0, 0x0, true⟩,
  ⟨0x34, [], 0x0, 0x0, 0x0, 0x0, 0x0, 0x0, true⟩,
  ⟨0x38, [], 0x0, 0x0, 0x0, 0x0, 0x0, 0x0, true⟩,
  ⟨0x3C, [], 0x0, 0x0, 0x0, 0x0, 0x0, 0x0, true⟩,
  ⟨0x40, [], 0x0, 0x0, 0x0, 0x0, 0x0, 0x0, false⟩,
  ⟨0x44, [], 0x0, 0x0, 0x0, 0x0, 0x0, 0x0, false⟩,
  ⟨0x48, [], 0x0, 0x0, 0x0, 0x0, 0x0, 0x0, false⟩,
  ⟨0x100, [(0x4, 64)], 0x0, 0x0, 0x0, 0x0, 0x0, 0x0, false⟩,
  ⟨0x200, [(0x4, 68)], 0x0, 0x0, 0x0, 0x0, 0x0, 0x0, false⟩]

/-- Register families of block 14, part 0. -/
def regFams14p0 : List RegFam := [
  ⟨0x0, [], 0x1, 0x0, 0x1, 0x0, 0x0, 0x0, false⟩,
  ⟨0x4, [], 0x0, 0x0, 0x0, 0x0, 0x0, 0x0, false⟩,
  ⟨0x8, [], 0x0, 0x0, 0x0, 0x1FFF, 0x0, 0x0, false⟩,
  ⟨0xC, [], 0x0, 0x0, 0x0, 0x0, 0x0, 0x0, false⟩,
  ⟨0x10, [], 0x0, 0x0, 0x0, 0x0, 0x0, 0x0, false⟩,
  ⟨0x14, [], 0x0, 0x0, 0x0, 0x0, 0x0, 0x0, true⟩,
  ⟨0x18, [], 0x0, 0x0, 0x33, 0x0, 0x0, 0x0, false⟩,
  ⟨0x1C, [], 0x0, 0x0, 0x0, 0x0, 0x0, 0x0, false⟩,
  ⟨0x20, [], 0x0, 0x0, 0x0, 0x0, 0x0, 0x1, false⟩,
  ⟨0x40, [(0x4, 10)], 0x0, 0x0, 0x0, 0x0, 0x0, 0x0, false⟩,
  ⟨0x80, [(0x4, 10)], 0x0, 0x0, 0x9F, 0x0, 0x0, 0x0, false⟩]

/-- Register families of block 15, part 0. -/
def regFams15p0 : List RegFam := [
  ⟨0x0, [], 0x0, 0x0, 0x0, 0x0, 0x0, 0x0, false⟩,
  ⟨0x4, [], 0x0, 0x0, 0x0, 0x1F, 0x0, 0x0, false⟩,
  ⟨0x8, [], 0x0, 0x0, 0x0, 0x0, 0x0, 0x0, false⟩,
  ⟨0xC, [], 0x0, 0x0, 0x0, 0x0, 0x0, 0x0, false⟩,
  ⟨0x10, [], 0x0, 0x0, 0x0, 0x0, 0x0, 0x0, false⟩,
  ⟨0x14, [], 0x0, 0x0, 0x0, 0x0, 0x0, 0x0, false⟩,
  ⟨0x18, [], 0x0, 0x0, 0x0, 0x0, 0x0, 0x0, false⟩,
  ⟨0x1C, [], 0x0, 0x0, 0x0, 0x0, 0x0, 0x0, false⟩,
  ⟨0x20, [], 0x0, 0x0, 0x0, 0x0, 0x0, 0x0, true⟩,
  ⟨0x24, [], 0x0, 0x0, 0x0, 0x0, 0x0, 0x0, true⟩,
  ⟨0x28, [], 0x64, 0x0, 0x3FF, 0x0, 0x0, 0x0, false⟩,
  ⟨0x2C, [], 0x0, 0x0, 0x0, 0x0, 0x0, 0x0, false⟩,
  ⟨0x30, [], 0x0, 0x0, 0x0, 0x0, 0x0, 0x0, false⟩]

/-- Register families of block 16, part 0. -/
def regFams16p0 : List RegFam := [
  ⟨0x0, [], 0x0, 0x0, 0xFF3F, 0x0, 0x0, 0x0, false⟩,
  ⟨0x4, [], 0x0, 0x0, 0x0, 0x0, 0x0, 0x0, false⟩,
  ⟨0x8, [], 0x0, 0x0, 0x0, 0x1F, 0x0, 0x0, false⟩,
  ⟨0xC, [], 0x0, 0x0, 0x0, 0x0, 0x0, 0x0, false⟩,
  ⟨0x10, [], 0x0, 0x0, 0x0, 0x0, 0x0, 0x0, false⟩,
  ⟨0x14, [], 0x0, 0xFFFF, 0x0, 0x0, 0x0, 0x0, false⟩,
  ⟨0x18, [], 0x0, 0x0, 0x0, 0x0, 0x0, 0x0, false⟩,
  ⟨0x1C, [], 0x0, 0x0, 0x0, 0x0, 0x0, 0x0, false⟩,
  ⟨0x20, [], 0x3E8, 0xFFFFFFFF, 0x0, 0x0, 0x0, 0x0, false⟩,
  ⟨0x24, [], 0x3E8, 0xFFFFFFFF, 0x0, 0x0, 0x0, 0x0, false⟩,
  ⟨0x28, [], 0x12C, 0xFFFFFFFF, 0x0, 0x0, 0x0, 0x0, false⟩,
  ⟨0x2C, [], 0x0, 0xFFFFFFFF, 0x0, 0x0, 0x0, 0x0, false⟩,
  ⟨0x30, [], 0x0, 0xFFFFFFFF, 0x0, 0x0, 0x0, 0x0, false⟩,
  ⟨0x34, [], 0x0, 0x0, 0x0, 0x0, 0x0, 0x0, false⟩,
  ⟨0x38, [], 0x0, 0x0, 0x0, 0x0, 0x0, 0x0, true⟩]

/-- Register families of block 17, part 0. -/
def regFams17p0 : List RegFam := [
  ⟨0x0, [], 0x0, 0x0, 0x0, 0x0, 0x0, 0x0, false⟩,
  ⟨0x4, [], 0x0, 0x0, 0x0, 0xF, 0x0, 0x0, false⟩,
  ⟨0x8, [], 0x0, 0x0, 0x0, 0x0, 0x0, 0x0, false⟩,
  ⟨0xC, [], 0x0, 0x0, 0x0, 0x0, 0x0, 0x0, false⟩,
  ⟨0x10, [], 0x0, 0x0, 0x0, 0x0, 0x0, 0x0, false⟩,
  ⟨0x14, [], 0x0, 0x0, 0x0, 0x0, 0x0, 0x0, false⟩,
  ⟨0x18, [], 0x0, 0x0, 0x0, 0x0, 0x0, 0x0, false⟩,
  ⟨0x1C, [], 0x0, 0x0, 0x0, 0x0, 0x0, 0x0, false⟩,
  ⟨0x20, [], 0x0, 0x0, 0x0, 0x0, 0x0, 0x0, false⟩,
  ⟨0x24, [], 0x0, 0x0, 0x0, 0x0, 0x0, 0x0, false⟩,
  ⟨0x28, [], 0x0, 0x0, 0x0, 0x0, 0x0, 0x1, false⟩]

/-- Register families of block 18, part 0. -/
def regFams18p0 : List RegFam := [
  ⟨0x0, [], 0x0, 0x1F, 0x0, 0x0, 0x0, 0x0, false⟩,
  ⟨0x4, [], 0x0, 0x0, 0x0, 0x0, 0x0, 0x0, false⟩,
  ⟨0x8, [], 0x0, 0x0, 0x0, 0x0, 0x0, 0x0, false⟩,
  ⟨0xC, [], 0x0, 0x0, 0x0, 0x0, 0x0, 0x0, true⟩,
  ⟨0x10, [], 0x0, 0x3, 0x0, 0x0, 0x0, 0x0, false⟩,
  ⟨0x14, [], 0x0, 0x0, 0x0, 0x0, 0x0, 0x1, false⟩,
  ⟨0x100, [], 0x0, 0x0, 0x0, 0x0, 0x0, 0x0, false⟩,
  ⟨0x104, [], 0x0, 0x0, 0x0, 0x0, 0x0, 0x0, false⟩,
  ⟨0x108, [], 0x0, 0x0, 0x0, 0x0, 0x0, 0x0, false⟩,
  ⟨0x10C, [], 0x0, 0x0, 0x0, 0x0, 0x0, 0x0, false⟩,
  ⟨0x110, [], 0x0, 0x0, 0x0, 0x0, 0x0, 0x0, false⟩,
  ⟨0x1000, [(0x4, 932)], 0x0, 0x0, 0x0, 0x0, 0x0, 0x0, false⟩]

/-- The register families of a block window (R412). -/
def regFams (blk : Nat) : List RegFam :=
  match blk with
  | 0 => regFams0p0 ++ regFams0p1 ++ regFams0p2
  | 1 => regFams1p0
  | 2 => regFams2p0 ++ regFams2p1 ++ regFams2p2
  | 3 => regFams3p0 ++ regFams3p1
  | 4 => regFams4p0 ++ regFams4p1
  | 5 => regFams5p0
  | 6 => regFams6p0
  | 7 => regFams7p0
  | 8 => regFams8p0
  | 9 => regFams9p0
  | 10 => regFams10p0
  | 11 => regFams11p0
  | 12 => regFams12p0
  | 13 => regFams13p0
  | 14 => regFams14p0
  | 15 => regFams15p0
  | 16 => regFams16p0
  | 17 => regFams17p0
  | 18 => regFams18p0
  | _ => []

/-- Whether offset `d` from a family's first register names one of its registers. -/
def dimsMatch : List (Nat × Nat) → Nat → Bool
  | [], d => d == 0
  | (s, c) :: t, d => decide (d / s < c) && dimsMatch t (d % s)

/-- The register family at an address, if the address is listed. -/
def regFam (a : Nat) : Option RegFam :=
  (regFams (a / 0x10000)).find? (fun f => decide (f.off ≤ a % 0x10000) && dimsMatch f.dims (a % 0x10000 - f.off))

/-- The Reset column (R14), with the values that vary along a family. -/
def regReset (a : Nat) : Word :=
  if a / 0x10000 = 1 ∧ a % 0x10000 < 0x8090 ∧ a % 0x10000 ≥ 0x8000 then
    let n := (a % 0x10000 - 0x8000) / 16
    if a % 16 = 0 then (if n = 0 then 0x71 else 0x11)
    else if a % 16 = 8 ∧ n > 0 then word (128 * (n - 1)) else 0
  else if a / 0x10000 = 2 ∧ 0x540 ≤ a % 0x10000 ∧ a % 0x10000 < 0x700 ∧ a % 0x100 ≥ 0x40 ∧ a % 8 = 0 then
    (if a % 0x40 = 0 then 0 else 0xFFFF_FFFF)
  else if a / 0x10000 = 8 ∧ 0x100 ≤ a % 0x10000 ∧ a % 0x10000 < 0x300 ∧ a % 16 = 0 then
    word (((a % 0x10000 - 0x100) / 16) <<< 16)
  else match regFam a with
    | some f => word f.rst
    | none => 0

end Sys2Proof
end

