-- ==== Sys2Proof/Machine/State.lean ====
section
/-! DEFINITION. The state of the block as plain data (chapters 00 to 21): every register, buffer, counter, mode and pin
the specification gives it, and the queue of waiting commands. -/
namespace Sys2Proof.Machine

/-- A reason a step stops the machine. The specification gives every command of the table an effect or none, so
no meaning raises this; it is here because the interface asks for a type. -/
inductive Fault where
  /-- Raised by no meaning; safe, because nothing can be proved of a fault that does not occur. -/
  | none
  deriving DecidableEq, Repr

/-- A command without a meaning in the model. -/
inductive Refusal where
  /-- Raised by the dispatch for a command whose meaning is not written yet, by its mnemonic; safe: it stops. -/
  | notModelled (mnemonic : String)
  deriving DecidableEq, Repr

/-- The ordering key of an event-log entry (R415, R416): run, row, step, ac, then the place among the events of one
position: 1 an EVLOG_LOST entry, 2 to 6 the items of R26, 7 the others; then the block, the clock and the code. -/
structure EvKey where
  run : Word
  row : BitVec 64
  step : Nat
  ac : Nat
  item : Nat
  block : Nat
  clk : Nat
  code : Nat
  deriving DecidableEq, Repr

/-- An event-log entry (R418). `data` holds bytes 40 to 63, byte 40 least significant. -/
structure EvEntry where
  index : Nat
  key : EvKey
  subseq : Nat
  cls : Nat
  unit : Bool
  shadow : Bool
  fw : Bool
  restaged : Bool
  preAngle : Bool
  source : Nat
  code : Nat
  time : Nat
  data : Nat
  deriving DecidableEq, Repr

/-- The event log (R415 to R421). -/
structure Evlog where
  run : Word
  next : Nat
  oldest : Nat
  staged : List EvEntry
  indexed : List EvEntry
  lost : Word
  lostPend : Option (Nat × EvKey)
  /-- The boundary item of R26 in progress, 0 outside the boundary. -/
  item : Nat
  /-- An entry of class 4 to 6 has been written since the lamp ALARM was last cleared (R495). -/
  alarm : Bool
  deriving DecidableEq, Repr

/-- One copy of the configuration store (R505). -/
structure CfgCopy where
  seq : Nat
  /-- The CRC-32 of R203 over the rest of the copy. -/
  crc : Word
  regs : List (Nat × Word)
  marks : List Nat
  deriving DecidableEq, Repr

/-- A reply packet (R396, R399). -/
structure Reply where
  session : Nat
  seq : Word
  opcode : Nat
  completion : Bool
  last : Bool
  part : Nat
  status : Nat
  port : HostPort
  unit : Bool
  role : Nat
  mode : Nat
  trow : Word
  tstep : Nat
  time : Nat
  resend : Nat
  data : List Byte
  deriving DecidableEq, Repr

/-- What the unit puts out (the model's own record of outputs): pin levels, blocks on ports, blocks on the pair
link, released firmware tasks. Each names what was sent and the content the specification gives it as a list of
numbers in the order of its fields. -/
inductive Out where
  | pin (name : String) (level : Bool)
  | lane (port : Nat) (block : String) (fields : List Nat)
  | pair (block : String) (fields : List Nat)
  | conc (conc : Nat) (block : String) (fields : List Nat)
  | task (core : Nat) (task : Nat)
  | reply (r : Reply)
  /-- A datagram at a host port: the packet of a reply (R396, R397). -/
  | datagram (port : HostPort) (bytes : List Byte)
  | far (kind : String) (fields : List Nat)
  /-- 66-bit blocks on a port's line, scrambled (R167). -/
  | line (port : Nat) (blocks : List Nat)
  /-- The blocks a concentrator sends on a lane, before its own scrambler. -/
  | concLine (conc : Nat) (lane : Nat) (blocks : List Nat)
  /-- What an SRAM read returns to its requester: port A or B, the word address, the value (R430). -/
  | sram (portA : Bool) (word : Nat) (value : Nat)
  /-- The step record and its digest (R342). -/
  | record (r : StepRec) (digest : Word)
  /-- The state transfer as it starts (R360). -/
  | transfer (x : Transfer)
  deriving DecidableEq, Repr

/-- The part every block shares: the system clock and module time, the register file, identity, the configuration
store, the event log and the record of outputs. Module time is held in units of 10^-10 ns, so that one system
clock with its frequency correction is a whole number (R441, R465). -/
structure Sys where
  clk : Nat
  bclk : Nat
  tai : Nat
  regs : List (Nat × Word)
  order : Word
  serial : BitVec 64
  fwver : Word
  hwrev : Word
  marks : List Nat
  cfgA : Option CfgCopy
  cfgB : Option CfgCopy
  ev : Evlog
  out : List Out
  /-- How many free values have been drawn (the model's own counter). -/
  free : Nat
  deriving DecidableEq, Repr

/-- The states of the angle base (ANG_STAT.STATE, R60). -/
inductive AngState where
  | stopped | free | acquire | track | locked | hold
  deriving DecidableEq, Repr

/-- The latest valid mark of the partner while the angle awaits its load (R58): its position, the own boundary it
was measured from (in system clocks) and e of R54 in quarters of a ps. -/
structure MarkSeen where
  row : BitVec 64
  step : Nat
  bclk : Nat
  err : Int
  deriving DecidableEq, Repr

/-- The angle base (R36 to R59). -/
structure Ang where
  st : AngState
  /-- The 64-bit phase accumulator: θ above, the fraction of an angle unit below (R36). -/
  acc : BitVec 64
  row : BitVec 64
  /-- The rate in force, without the trim of R56. -/
  rate : Word
  /-- The rate command of the step (R40, R41): none when the GFE gave none. -/
  cmd : Option Word
  clamped : Bool
  boundTai : Nat
  /-- The latest boundaries, newest first: step number, module time in ns, rate code in force from it (R45). -/
  bounds : List (Nat × Nat × Nat)
  latchRow : BitVec 64
  latchTai : Nat
  castonRow : BitVec 64
  /-- The latest valid mark's rate, none before any (R42). -/
  markRate : Option Word
  /-- e of R54 in quarters of a ps (TXOFS counts 1/32 ns). -/
  err : Int
  lastMark : Option MarkSeen
  /-- The one-way delays of P0 and P1 in ps (R54). -/
  dP0 : Nat
  dP1 : Nat
  path : Bool
  trim : Int
  lockCnt : Nat
  outCnt : Nat
  noMark : Nat
  markSeen : Bool
  /-- e of R54 has been measured in this step: a valid mark on the path in use. -/
  eSeen : Bool
  loadPend : Bool
  /-- The first ac at which stitches have not fired yet, counted from ROW 0 (R49). -/
  fired : Nat
  trigOut : Bool
  backup : Bool
  deriving DecidableEq, Repr

/-- The control-step pipeline (R24 to R34). -/
structure Pipe where
  armDone : Bool
  /-- ARM completed by its fixed time (R24, R344). -/
  armIn : Bool
  /-- SHADOW_LATE has been judged for the step (R34, R344). -/
  shJudged : Bool
  lateLast : Bool
  shadowLate : Bool
  shadowCnt : Nat
  margin : Int
  respTaken : Bool
  /-- The dispatch deadline of the step has passed. -/
  judged : Bool
  deriving DecidableEq, Repr

/-- A response word's fields (R156). -/
structure Resp where
  vcap : Nat
  status : BitVec 16
  soe : Nat
  tmax : Nat
  vspread : Nat
  echo : Nat
  deriving DecidableEq, Repr

/-- A command word's fields (R153): patterns are the 28-bit codes of R154. -/
structure SmWord where
  stamp : Nat
  epoch : BitVec 16
  pat1 : Nat
  pat2 : Nat
  bal : Bool
  byp : Bool
  iso : Bool
  pci : Bool
  deriving DecidableEq, Repr

/-- What the module holds of one submodule: its set (R139: 0 none, 1 ACTIVE, 2 SPARE, 3 RETIRED), the response of
the step and the last valid one, predictions at 2^-40 V, and the ledger's identity and replacement state (R230,
R232, R233). -/
structure Sm where
  set : Nat
  acc : Nat
  signed : Bool
  foreign : Bool
  repl : Nat
  newId : BitVec 64
  nep : Nat
  wearReq : Bool
  lam : Nat
  /-- λ as the ledger last computed it. -/
  lamNew : Nat
  rx : Bool
  got : Option Resp
  resp : Option Resp
  /-- v_i as used in the step, and its prediction to ac 0 of the next (R141). -/
  v : Int
  vh : Int
  miss : Nat
  fail : Nat
  usable : Bool
  ready : Bool
  pci : Bool
  iso : Bool
  inc : Bool
  joining : Bool
  /-- A retirement asked for: 1 by R143, 2 on FAILED, 3 a wear request. -/
  retire : Nat
  words : List SmWord
  /-- IDENT_REQ sent and not answered, at this clock (R228). -/
  identAt : Option Nat
  /-- A response has shown SRC 0 and the echo of an own word since the proof takeover (R363). -/
  proofOk : Bool
  deriving DecidableEq, Repr

/-- The arm manager (R135 to R152). -/
structure Arm where
  sms : List (Nat × Sm)
  carry : List Int
  /-- The spare in precharge insertion per arm. -/
  pci : List (Option Nat)
  setsFormed : Bool
  prechCnt : Nat
  prechOk : Bool
  short : List Bool
  noSpare : List Bool
  n0 : List Int
  unmapped : Bool
  /-- LEVEL_CLAMP occurred in the step being built (R146). -/
  clampNow : Bool
  built : Bool
  deriving DecidableEq, Repr

/-- A submodule itself (R157 to R160, R233). `stamp` is its local step counted as in the STAMP; `pciOn` says that the step in
progress is one of a precharge insertion. -/
structure FarSm where
  stamp : Nat
  epoch : Option (BitVec 16)
  rx : Option SmWord
  prev : Option SmWord
  last : Option SmWord
  missed : Nat
  /-- The switching state (R138) and the pattern being applied. -/
  st : Nat
  pat : Nat
  /-- Local ac up to which the pattern's edges have been passed. -/
  done : Nat
  src : Nat
  echo : Nat
  pblLost : Bool
  pblOff : Bool
  pblCnt : Nat
  restr : Option Bool
  byp : Bool
  localBlk : Bool
  iso : Bool
  cont : Bool
  bal : Bool
  reopen : Bool
  pciOn : Bool
  byp0 : Nat
  id : BitVec 64
  /-- Own endpoint counters by index (R225). -/
  eps : List (Nat × LdgItem)
  deriving DecidableEq, Repr

/-- What a concentrator keeps as the receiver of one unit's bulk blocks (R204, R208): expect, USED per VC, and whether it has
processed the unit's AUDITs. -/
structure ConcRx where
  expect : Byte
  used : List (BitVec 16)
  done : Bool
  deriving DecidableEq, Repr

/-- A concentrator (R193 to R216): owner, the step at which its epoch was first accepted, recovered boundary in
quarters of a ps, the arrival t_SM0 it was recovered from in ps and the clock of that arrival, rate of the latest mark,
latest LAT per lane, loop, routes per unit, what the window in progress has seen, response words not yet sent up and their step, the
receive states per unit, and the bulk blocks kept for its owner. -/
structure Conc where
  owner : Option (BitVec 16 × Bool)
  firstStep : Nat
  tb : Int
  tSm0 : Nat
  markClk : Nat
  rate : Word
  row : BitVec 64
  step : Nat
  lats : List (Nat × Nat)
  loop : Bool
  routeA : Option Nat
  routeB : Option Nat
  presA : Bool
  presB : Bool
  win : Nat
  up : List (Nat × Nat)
  upStep : Nat
  rx : List ConcRx
  kept : List BulkBlk
  deriving DecidableEq, Repr

/-- Everything beyond the lanes: submodules and concentrators. -/
structure Far where
  sms : List (Nat × FarSm)
  concs : List Conc
  deriving DecidableEq, Repr

/-- The training states (R176). -/
inductive TState where
  | off | detect | lock | adapt | confirm | linkUp | fallback | failed
  deriving DecidableEq, Repr

/-- The taps of a transmitter (R169). -/
structure Taps where
  c1 : Nat
  c2 : Nat
  c3 : Nat
  deriving DecidableEq, Repr

/-- A lane port's physical layer (R162 to R187). `reqs` are the requests this receiver sends (C1, C2, C3), `sts` the
statuses its transmitter sends, `seen` the requests last seen. -/
structure Port where
  ts : TState
  present : Bool
  refused : Bool
  sfpId : Byte
  sfpTech : Byte
  hiPower : Bool
  los : Bool
  cdr : Bool
  blockLock : Bool
  hiBer : Bool
  lin : Bool
  linMode : Bool
  rxInv : Bool
  txFault : Bool
  adapted : Bool
  fresh : Bool
  own : Taps
  far : Taps
  reqs : List Nat
  reqSet : Nat
  psel : Nat
  sts : List Nat
  seen : List Nat
  seenSet : Nat
  rxReady : Bool
  valid : Nat
  readyCnt : Nat
  preset : Nat
  /-- Module clock at which the attempt began. -/
  began : Nat
  attempt : Bool
  /-- The attempt is the first after power-on or insertion (R180). -/
  first : Bool
  /-- The clock of the latest HI_BER report (R168). -/
  hiBerClk : Nat
  /-- The eye as last measured (R171, R187). -/
  eye : Word
  /-- TX_DISABLE, and the cage's supply (R164). -/
  txDis : Bool
  cage : Bool
  /-- The scrambler's state and the PRBS-31's, none before the first block sent; the frame count (R167, R171, R172). -/
  scr : Option (BitVec 58)
  prbs : Option (BitVec 31)
  fcnt : Byte
  deriving DecidableEq, Repr

/-- A DECLARE as held (R199). -/
structure Decl where
  dDn : Nat
  dUp : Nat
  conc : Nat
  cport : Nat
  alt : Bool
  deriving DecidableEq, Repr

/-- A WITNESS as received (R213), with the clock of its arrival. -/
structure Wit where
  presA : Bool
  presB : Bool
  owner : Bool
  valid : Bool
  epoch : BitVec 16
  win : Nat
  step : Nat
  clk : Nat
  deriving DecidableEq, Repr

/-- One lane of the hub: measured delay, echo in flight (TAG and the clock it was sent), declaration, witness. -/
structure Lane where
  d : Option Nat
  echo : Option (Nat × Nat)
  tag : Nat
  latSent : Bool
  decl : Option Decl
  /-- The latest DECLARE of any LINK_UP (R199). -/
  lastDecl : Option Decl
  /-- Data blocks still to come of the CYC_UP run that is open (R189). -/
  runLeft : Nat
  qual : Bool
  wit : Option Wit
  rseq : Nat
  singleHomed : Bool
  /-- A valid response arrived on the lane in this step (R143). -/
  alive : Bool
  /-- Slots queued in this step, as a bit mask, and the ac of the last. -/
  qmask : Nat
  qlate : Nat
  whole : Bool
  deriving DecidableEq, Repr

/-- The bulk engine of one association and direction pair (R203 to R208), indexed by the primary port; index 20 is
the pair link's. Lists of three are VC1 to VC3. -/
structure Assoc where
  route : Option Nat
  everQual : Bool
  noRoute : Bool
  consumed : List (BitVec 16)
  limit : List (BitVec 16)
  used : List (BitVec 16)
  limitTx : List (BitVec 16)
  next : Byte
  expect : Byte
  kept : List BulkBlk
  queue : List BulkBlk
  nakSent : Bool
  ackPend : Nat
  ackSince : Nat
  replays : Nat
  advClk : Nat
  creditClk : List Nat
  /-- The clock since which an advance of LIMIT waits to be sent, per VC (R204). -/
  limSince : List (Option Nat)
  /-- The kept blocks are to be replayed as soon as bulk blocks may begin (R31, R192). -/
  replayDue : Bool
  /-- The audit of the own sending direction is not complete; the own AUDITs are still repeated (R208). -/
  audit : Bool
  auditRx : Bool
  auditDone : Bool
  auditClk : Nat
  deriving DecidableEq, Repr

/-- The lane hub (chapters 07, 08): 22 ports, 20 lanes, 21 associations. -/
structure Lnk where
  ports : List Port
  lanes : List Lane
  assocs : List Assoc
  /-- The unit was ACTIVE and queued the cyclic region of the preceding step on some lane (R191). -/
  disp : Bool
  deriving DecidableEq, Repr

/-- A change that waits for the standby's acknowledgement (R235). -/
structure LdgMirror where
  addr : Nat
  r : Rec
  since : Nat
  deriving DecidableEq, Repr

/-- A visit in progress on a lane (R225, R226): submodule, first endpoint, group size, tag, and whether it is the
second try at the end of the pass. -/
structure Visit where
  smn : Nat
  first : Nat
  n : Nat
  tag : Nat
  again : Bool
  deriving DecidableEq, Repr

/-- The sweep of one lane: the next group, the visit awaiting its REPORT, groups to revisit, whether the pass has ended, groups
visited ahead of their place for their STALE records (R224 to R226, R236). -/
structure Sweep where
  smn : Nat
  ep : Nat
  visit : Option Visit
  miss : List (Nat × Nat × Nat)
  done : Bool
  seen : List (Nat × Nat)
  deriving DecidableEq, Repr

/-- A sweep that has not begun. -/
def Sweep.fresh : Sweep := { smn := 0, ep := 0, visit := none, miss := [], done := false, seen := [] }

/-- An archived record (R234). -/
structure Archived where
  addr : Nat
  r : Rec
  tai : Nat
  deriving DecidableEq, Repr

/-- The image of the ledger in one slot (R236). -/
structure LdgImage where
  seq : Nat
  recs : List (Nat × Rec)
  /-- The CRC-32 of each 4 KiB page that holds a live record, by page of the ledger region. -/
  crcs : List (Nat × Word)
  deriving DecidableEq, Repr

/-- The endpoint ledger (R218 to R240). Live records by endpoint address; own records of R238 by number. -/
structure Ldg where
  recs : List (Nat × Rec)
  /-- 1 plus the archive index of the record that quarantine created for an endpoint address (R230). -/
  quarantined : List (Nat × Nat)
  own : List (Nat × Rec)
  archive : List Archived
  /-- The archive index of the oldest record held: how many have been overwritten (R234). -/
  archBase : Nat
  decs : List (Nat × LdgDec)
  mirror : List LdgMirror
  sweeps : List Sweep
  tag : Nat
  passClk : Nat
  imgA : Option LdgImage
  imgB : Option LdgImage
  imgBusy : Option LdgImage
  /-- Step durations in fs since each arm's previous wear retirement; none before one (R232). -/
  wearT : List (Option Nat)
  /-- Whole seconds counted towards the HRS of each own record (R238). -/
  ownSec : List (Nat × Nat)
  key : Option (List Byte)
  deriving DecidableEq, Repr

/-- One PWM counter (R241 to R245, R259): the base its count is taken from (ticks or clocks), active registers, raw
signal, the signals A and B after dead time with rising edges still delayed (the clock they were asked for), extra
compares matched in this period, forces. The shadows are its registers. -/
structure Counter where
  base : Nat
  per : Nat
  cmp : Nat
  xc0 : Nat
  xc1 : Nat
  ost : Nat
  pend : Bool
  raw : Bool
  sigA : Bool
  sigB : Bool
  riseA : Option Nat
  riseB : Option Nat
  xm0 : Bool
  xm1 : Bool
  fTrip : Bool
  fHwc : Bool
  fSaf : Bool
  fMode : Bool
  fRole : Bool
  fDis : Bool
  shWritten : Bool
  edgesA : Nat
  edgesB : Nat
  deriving DecidableEq, Repr

/-- One trip input (R256 to R258): its level at X4 as active, its latch, and the clock at which an open blanking
window closes. -/
structure Trip where
  active : Bool
  latch : Bool
  blankEnd : Option Nat
  deriving DecidableEq, Repr

/-- The PWM array. -/
structure Pwm where
  ctrs : List Counter
  trips : List Trip
  deriving DecidableEq, Repr

/-- What a converter core is doing (R265, R268, R272): nothing, scan entry at a position, check conversion, or an
urgent conversion with its privilege; `alone` is an urgent conversion outside a scan. -/
inductive Conv where
  | idle
  | entry (pos : Nat)
  | check (k : Nat)
  | urgent (pos : Nat) (priv alone : Bool)
  deriving DecidableEq, Repr

/-- A converter core (R263 to R273): the conversion in progress and its sampling clock, the positions still to
scan, the entry abandoned for an urgent request, and the flags its next results carry. -/
structure AdcCore where
  conv : Conv
  sampled : Nat
  rest : List Nat
  /-- The ac since row 0 at which a fixed stitch started the scan; none for the other triggers (R279). -/
  angle : Option Nat
  resume : Option Nat
  resumed : Bool
  preempts : Nat
  /-- A trigger that waits for a privileged stand-alone conversion to end, with its fixed-stitch position. -/
  queued : Option (Option Nat)
  /-- The next conversion carries NBR (R269). -/
  nbrNext : Bool
  /-- The running scan, and the next one, carry NBR (R272). -/
  nbrScan : Bool
  nbrSoon : Bool
  chkBad : Bool
  chkVoid : Bool
  fails : Nat
  clampEnd : Nat
  faulted : Bool
  /-- The clock of the trigger that started the scan (R265). -/
  trigClk : Nat
  deriving DecidableEq, Repr

/-- The stages of the spare core (R273, R274); a calibration with the clock at which it ends. -/
inductive SpareSt where
  | free | wanted (g : Nat) | cal (g ends : Nat) | calDone (g : Nat) | serving (g : Nat) | release (g : Nat)
  deriving DecidableEq, Repr

/-- The analogue front end (R262 to R275): cores 0 to 3 and the spare, the source each group runs on and the one
its register last selected, clocks at which a settling ends, and the tag of the spare's own stream. -/
structure Adc where
  cores : List AdcCore
  spare : SpareSt
  src : List Nat
  settleEnd : List (Option Nat)
  lpEnd : Nat
  ownTag : Nat
  trigPin : Bool
  deriving DecidableEq, Repr


/-- One output of a filter channel on its way to its consumers (R278, R280): the clock at which it is complete, its
word, its position in angle units since row 0 and its module time. -/
structure FltOut where
  due : Nat
  w : Word
  pos : Nat
  tai : Nat
  deriving DecidableEq, Repr

/-- A filter channel (R277 to R289): history, newest first; the samples entered since the phase was set; resets that
wait; U and O counts; the next angle-locked position in units of 128 ac since row 0; outputs under way. -/
structure Chan where
  hist : List Int
  cnt : Nat
  soft : Bool
  hard : Bool
  p : Bool
  ucnt : Nat
  ocnt : Nat
  next : Nat
  newest : Nat
  outs : List FltOut
  deriving DecidableEq, Repr


/-- A sample as a trigger unit evaluated it (R291): value, position in angle units since row 0, module time. -/
structure TSample where
  x : Int
  pos : Nat
  tai : Nat
  deriving DecidableEq, Repr

/-- A trigger unit (R292, R293): armed, primed in either direction, the latest samples, newest first (none where one
carried U), and a cubic fire that waits for the sample after it (true: falling). -/
structure TrgUnit where
  armed : Bool
  primR : Bool
  primF : Bool
  prev : List (Option TSample)
  wait : Option Bool
  /-- The position from which it evaluates, in angle units since row 0 (R50). -/
  since : Nat
  deriving DecidableEq, Repr

/-- A frame of a slot: position, module time, one word per member, none where it could not be
stored (R300). -/
structure Frame where
  pos : Nat
  tai : Nat
  ws : List Word
  deriving DecidableEq, Repr

/-- An entry of a record's trigger list (R302): unit, position of the firing sample, crossing, how it was found, and
the trigger frame once known. -/
structure TrigEnt where
  unit : Nat
  fpos : Nat
  cpos : Nat
  ctai : Nat
  cubic : Bool
  linUsed : Bool
  tf : Option Nat
  deriving DecidableEq, Repr

/-- A record (R302): `got` marks the remote frames received; a local record's frames are all present. -/
structure AcqRec where
  num : Word
  slot : Nat
  kind : Nat
  nmem : Nat
  preLen : Nat
  preSet : Nat
  total : Nat
  extra : Nat
  short : Bool
  partial_ : Bool
  gapFull : Bool
  gaps : List (Nat × Nat)
  members : List Nat
  gd : List Word
  trigs : List TrigEnt
  tf : Option Nat
  frames : List Frame
  /-- Remote: submodule, request tag, received frames by number, and when the last position passed. -/
  smn : Nat
  tag : Nat
  got : List (Nat × List Word)
  lastClk : Option Nat
  /-- The clock at which its starting trigger was decided (R303). -/
  startClk : Nat
  deriving DecidableEq, Repr

/-- A record slot (R295 to R300): state (R309), frames held newest first, frames not complete, the record in
capture, and for a continuous slot the stored frames, the index of the next frame and the gap entries; the clock of REARM. -/
structure AcqSlot where
  st : Nat
  part : List (Nat × List (Nat × Word))
  mem : List Frame
  held : Nat
  cur : Option AcqRec
  ring : List (Nat × Frame)
  index : Nat
  gapRing : List (Nat × Nat)
  gapOpen : Option (Nat × Nat)
  /-- The clock at which REARM was entered (R299). -/
  rearm : Nat
  deriving DecidableEq, Repr

/-- An entry of the missed-trigger FIFO (R301). -/
structure Missed where
  unit : Nat
  slot : Nat
  pos : Nat
  tai : Nat
  deriving DecidableEq, Repr

/-- The acquisition engine (R291 to R305): `done` holds the complete records not read out, `lost` the first and last
number of the records a reset has lost, until the start that reports them (R426). -/
structure Acq where
  units : List TrgUnit
  slots : List AcqSlot
  done : List AcqRec
  mfifo : List Missed
  tag : Nat
  lost : Option (Nat × Nat)
  deriving DecidableEq, Repr


/-- One snapshot (R307): number, sources, late sources, module time, the sets as address and value pairs. -/
structure Snapshot where
  seq : Word
  src : Nat
  late : Nat
  tai : Nat
  sets : List (Nat × Word)
  deriving DecidableEq, Repr

/-- The snapshot block (R306 to R308): four buffers, the copy in progress, the clock of its latch edge, the pins SNAP_IN and SNAP_OUT. -/
structure Snap where
  bufs : List (Option Snapshot)
  newest : Nat
  busy : Option Nat
  latchClk : Nat
  seq : Word
  pinIn : Bool
  pinOut : Bool
  deriving DecidableEq, Repr

/-- The energies of a sample in 2^-32 mWh, as numerators over one denominator (R313, R314). -/
structure Energy where
  p : Int
  q : Int
  den : Nat
  deriving DecidableEq, Repr

/-- A sample of the metering stream as kept for the samples after it: voltages, currents, whether a voltage is
unsettled or missing, whether it was measured, and its energies (none: no-load). -/
structure MtrSample where
  v : List Int
  i : List Int
  vbad : Bool
  measured : Bool
  e : Option Energy
  deriving DecidableEq, Repr

/-- One accumulated sample of a step: its time, energies and marks. -/
structure MtrTake where
  t : Int
  e : Option Energy
  subst : Bool
  ovr : Bool
  stepped : Bool
  deriving DecidableEq, Repr

/-- An audit entry (R330). -/
structure MtrAudit where
  n : Word
  reg : Nat
  old : Word
  new : Word
  time : Nat
  serial : List Byte
  deriving DecidableEq, Repr

/-- One copy of the metering state in MRAM with its CRC-32 (R325). -/
structure MtrCopy where
  core : MtrCore
  crc : Word
  deriving DecidableEq, Repr

/-- The metering unit (R311 to R334). `part` holds metering outputs not yet taken, by position in units of 256 ac
since row 0; `own` accumulates the own samples of a standby; `recent` keeps the samples of the latest steps with whether each
met the conditions of R324, and `mramA`, `mramB` are the two copies in MRAM, of which `mramTurn` writes the second next. -/
structure Mtr where
  core : MtrCore
  own : MtrCore
  recent : List (Nat × List MtrTake × Bool)
  hist : List MtrSample
  nsamp : Nat
  part : List (Nat × List (Nat × Word))
  lastT : Option Int
  timeStep : Bool
  partNext : Bool
  mirror : Bool
  sealed : Bool
  everSealed : Bool
  broken : Bool
  digest : List Byte
  fwhash : List Byte
  audit : Word
  audits : List MtrAudit
  substCnt : Word
  pairSubst : Word
  /-- Ambient temperature in °C (R324), which no command of the table changes. -/
  ambient : Int
  mramA : Option MtrCopy
  mramB : Option MtrCopy
  mramTurn : Bool
  deriving DecidableEq, Repr


/-- One path of the pair link: the clock of the last valid heartbeat, and whether it is silent (R348). -/
structure HbPath where
  last : Option Nat
  silent : Bool
  sentEcho : Option (Nat × Nat)
  deriving DecidableEq, Repr

/-- A handover named for a boundary (R355): its step number and REASON. -/
structure Handover where
  target : Nat
  reason : Nat
  acked : Bool
  deriving DecidableEq, Repr

/-- The pair controller (R336 to R364). -/
structure Pair where
  paths : List HbPath
  hb : Option Heartbeat
  hseq : Nat
  epoch : BitVec 16
  epochMax : BitVec 16
  qualHb : Bool
  qual : Bool
  isolated : Bool
  clash : Bool
  meterClash : Bool
  version : Bool
  preach : Nat
  plinked : Nat
  reachAge : Option Nat
  sample : Option (Nat × List (Int × Bool))
  usedSample : Bool
  record : Option StepRec
  adopted : Nat
  recGot : Bool
  /-- Steps since a record was missed, a divergence, a MEAS_DIV or ACK_LATE, each up to 1,024. -/
  recOk : Nat
  qsteps : Nat
  measOk : Nat
  measCnt : Nat
  ho : Option Handover
  hoCommit : Option Handover
  hoWant : Option Nat
  okT : Nat
  detect : Option Nat
  lastHb : Nat
  decided : Bool
  startT : Nat
  waitLone : Bool
  silence : Bool
  /-- The clock at which that silence began (R363). -/
  silenceAt : Nat
  proofSteps : Option Nat
  proofDir : Bool
  /-- The active has started the transfer to a partner in SYNCING; the unit itself has one to adopt (R360). -/
  xferOn : Bool
  xferAdopt : Bool
  /-- Own protocol version and the oldest compatible one (R338). -/
  ver : Nat
  oldVer : Nat
  /-- Taken out of the pair by ISOLATE until REJOIN (R361). -/
  out : Bool
  /-- Step of the row and witness window at detection (R349). -/
  detStep : Nat
  detWin : Nat
  /-- The step began while the unit was not ACTIVE (R344). -/
  shadowStep : Bool
  /-- The mode inputs of the present step are still to be set in a shadow unit (R82, R90). -/
  modeDue : Bool
  /-- Steps for which the partner's QUAL counts as 0 after ACK_LATE (R343). -/
  ackBlock : Nat
  /-- A journal entry has come after the record held; command state of the partner has come since the unit became SYNCING; the
  changes to the ledger since then (R235, R343, R360). -/
  entryNew : Bool
  coreSeen : Bool
  xferRecs : List (Nat × Rec)
  deriving DecidableEq, Repr

/-- The architecture states of SAF (R367). -/
inductive Arch where
  | start | xchk | diverse | fault
  deriving DecidableEq, Repr

/-- One safety input (R384, R385): the filtered levels of both channels, the latched fault, when each channel left
rest (in clocks) for a RESET input, and what proof test 3 has seen. -/
structure SafIn where
  a : Bool
  b : Bool
  fault : Bool
  leftAt : Option Nat
  bothLeft : Bool
  seenA : Bool
  seenB : Bool
  /-- The clock from which the channels disagree, as far as the disagreement has latched no fault (R385). -/
  apart : Option Nat
  deriving DecidableEq, Repr

/-- A proof test in progress (R392): the test, the command that waits for its completion, the clock of its boundary, and
for test 5 the outputs still to do, the channel held low, from which clock, and whether SAF_PROOF_OUT is awaited. -/
structure Proof where
  test : Nat
  cmd : Accepted
  start : Nat
  outs : List Nat
  chB : Bool
  held : Nat
  await : Bool
  deriving DecidableEq, Repr

/-- The safety channels (chapter 16). Times of functions are in fs of step duration; other times in clocks. -/
structure Saf where
  arch : Arch
  spaOk : Bool
  spbOk : Bool
  shTest : Bool
  shQual : Bool
  agree : Nat
  swA : Bool
  swH : Bool
  polarity : Bool
  fbHigh : Bool
  fbRev : Bool
  stuck : Bool
  /-- The clock at which SAF de-energised the loop it had energised (R374). -/
  offAt : Option Nat
  spb : Bool
  ssr : Bool
  lastDem : Option Nat
  /-- The SS-R timer of R378: running from the boundary of the bind-off. -/
  ssrT : Option Nat
  ssrPend : Bool
  slfT : Nat
  slaT : Nat
  sdpT : Nat
  hist : List Cx
  vp : Cx
  phist : List Int
  words : List Word
  sins : List SafIn
  resetOk : Bool
  resetReady : Bool
  sout : List Bool
  sw1 : BitVec 16
  sw1Start : BitVec 16
  confirmed : Bool
  chkConf : Word
  proof : Option Proof
  proofDay : Nat
  deriving DecidableEq, Repr

/-- A first reply that has not left (R343, R399, R408, R411): the reply as far as it is known, the immediate command that
runs when the journal entry has been acknowledged, the read that is taken at the changeover of the step, whether the
acknowledgement is awaited, and the TAG of a management request without its answer. -/
structure Wait where
  q : Req
  reply : Reply
  run : Option HostOp
  read : Option HostOp
  ack : Bool
  tag : Option Nat
  /-- The clock from which it waits for an acknowledgement (R343). -/
  since : Nat
  deriving DecidableEq, Repr

/-- A command held at its port while the SRAM is in RETV (R435): a packet, an authenticated command, or a part of a
handshake. -/
inductive Parked where
  | packet (port : HostPort) (d : List Byte)
  | op (q : Req) (o : HostOp)
  | hello (port : HostPort) (p : List Byte)
  | finish (port : HostPort) (n : Fin 9) (sig : List Byte)
  deriving DecidableEq, Repr

/-- Command packets (chapter 17): what both units of a pair hold, the commands a unit that is not ACTIVE has accepted for
a boundary itself, first replies that wait, and the latest TAG of a management request. -/
structure Cmd where
  core : CmdCore
  own : List Accepted
  waits : List Wait
  tag : Nat
  /-- The journal or a session has changed since the latest step record. -/
  dirty : Bool
  /-- Commands that arrived during the retention of R435, oldest first. -/
  parked : List Parked
  deriving DecidableEq, Repr

/-- An access to an SRAM word (R429, R430): the word address and, of a write, the value. -/
structure SramReq where
  word : Nat
  data : Option (BitVec 64)
  deriving DecidableEq, Repr

/-- A physical SRAM bank (R433, R434): in service, retired, errors in the present pass, asked to be remapped. -/
structure Bank where
  inService : Bool
  retired : Bool
  retv : Bool
  ce : Nat
  due : Bool
  deriving DecidableEq, Repr

/-- The memory system (R429 to R440): which physical bank serves each logical bank, the banks, the copy in progress
(logical bank, spare), the slice borrowed, slices skipped, and the clock at which a wake from retention ends. -/
structure Mem where
  remap : List Nat
  /-- The SRAM words that differ from 0, by physical bank times 16,384 plus row (R429). -/
  sram : List (Nat × BitVec 64)
  /-- The words of the borrowed slice while the test holds its cells (R436, R437). -/
  line : List (BitVec 64)
  /-- Accesses that wait at port A and port B of the banks, in the order in which they are served (R430). -/
  reqA : List SramReq
  reqB : List SramReq
  banks : List Bank
  copy : Option (Nat × Nat)
  remaps : Nat
  slice : Option Nat
  skipped : List Nat
  mtPos : Nat
  mtPass : Nat
  scrubPos : Nat
  retv : Bool
  wakeEnd : Nat
  emmcLife : Nat
  deriving DecidableEq, Repr

/-- The clock tree (R441 to R447): TCXO and backup, the lock of the ten PLLs, SYS and REF on backup, the divider
transfer armed, the clock at which APLL was lost, and the clock of the latest backup measurement. -/
structure Clk where
  refOk : Bool
  bkOk : Bool
  lock : List Bool
  sysOnBk : Bool
  refOnBk : Bool
  go : Bool
  apllAt : Option Nat
  /-- The hard clock cause of that loss has acted (R446). -/
  apllLate : Bool
  measured : Option Nat
  deriving DecidableEq, Repr

/-- The states of the calendar discipline (R465). -/
inductive CalState where
  | invalid | free | acquire | locked | holdover
  deriving DecidableEq, Repr

/-- Calendar clock and discipline (R462 to R468): `since` is the clock since which the offset has stayed within the
limit, `holdSince` since which HOLDOVER lasts, `last` the clock of the latest source event. -/
structure Cal where
  st : CalState
  last : Option Nat
  since : Option Nat
  holdSince : Option Nat
  step : Option Int
  latchHi : Word
  utcValid : Bool
  leap : Option (Nat × Bool)
  batAbsent : Bool
  batLow : Bool
  scap : Bool
  port : Bool
  domainOk : Bool
  mramSec : Nat
  deriving DecidableEq, Repr

/-- One lifeline copy (R453): what the boundary fixes, the run and next index of the event log, whose staged entries the save
flushes, and the module time and numbers of the save, with its CRC-32. -/
structure Lifeline where
  mo : ModeSt
  epoch : BitVec 16
  rt : Rt
  gfe : Gfe
  arm : Arm
  mtr : MtrCore
  assocs : List Assoc
  run : Word
  next : Nat
  tai : Nat
  row : BitVec 64
  step : Nat
  seq : Nat
  crc : Word
  deriving DecidableEq, Repr

/-- Supply, reset and watchdog (R450 to R461). -/
structure Pwr where
  /-- Powered, released from reset, with a running system clock. -/
  on : Bool
  /-- UNIT_START has passed since the latest reset. -/
  booted : Bool
  vinA : Nat
  vinB : Nat
  vhu : Nat
  okA : Bool
  okB : Bool
  warn : Bool
  saving : Bool
  saved : Bool
  llA : Option Lifeline
  llB : Option Lifeline
  llSeq : Nat
  /-- The boundary the save in progress describes, once it has passed (R453). -/
  llCap : Option Lifeline
  cause : Nat
  rail : Nat
  resetIn : Bool
  armed : Bool
  stuck : Bool
  /-- A handover asked for before a reset: boundaries left, cause (R409, R460). -/
  handoverLeft : Option (Nat × Nat)
  relay : Bool
  deriving DecidableEq, Repr

/-- A firmware image (R472): its header values. -/
structure Image where
  ver : Word
  secver : Word
  pairVer : Nat
  pairOld : Nat
  legal : List Byte
  valid : Bool
  deriving DecidableEq, Repr

/-- An upload (R409): announced length and version, the bytes received by offset, and whether FW_END found it valid. -/
structure Upload where
  img : Bool
  len : Nat
  ver : Word
  data : List (Nat × Byte)
  ended : Option Nat
  deriving DecidableEq, Repr

/-- Keys, images, tamper and debug (chapter 21). `gen` counts generated keys. -/
structure Sec where
  imgA : Option Image
  imgB : Option Image
  running : Bool
  chosen : Bool
  up : Option Upload
  anchor : Option (List Byte)
  devKey : Option Nat
  devCert : Option (List Byte)
  mtrKey : Option Nat
  mtrCert : Option (List Byte)
  provKey : Nat
  gen : Nat
  root : List Byte
  coverOpen : Bool
  latch : Bool
  debug : Bool
  debugNext : Bool
  nonce : BitVec 64
  /-- The latch was set while the unit was unpowered: the keys are zeroised at the next start (R477). -/
  zeroDue : Bool
  /-- No image passed its checks: the unit stays in the boot loader (R472). -/
  loaderOnly : Bool
  deriving DecidableEq, Repr

/-! ### Reset -/

/-- A port with nothing plugged (R164, R187). -/
def Port.fresh0 : Port :=
  { ts := .off, present := false, refused := false, sfpId := 0, sfpTech := 0, hiPower := false, los := false,
    cdr := false, blockLock := false, hiBer := false, lin := false, linMode := false, rxInv := false,
    txFault := false, adapted := false, fresh := true, own := ⟨4, 48, 12⟩, far := ⟨4, 48, 12⟩, reqs := [0, 0, 0],
    reqSet := 0, psel := 0, sts := [0, 0, 0], seen := [0, 0, 0], seenSet := 0, rxReady := false, valid := 0,
    readyCnt := 0, preset := 0, began := 0, attempt := false, first := false,
    hiBerClk := 0, eye := 0, txDis := true, cage := false, scr := none, prbs := none, fcnt := 0 }

/-- A lane at reset. -/
def Lane.fresh : Lane :=
  { d := none, echo := none, tag := 0, latSent := false, decl := none, lastDecl := none, runLeft := 0, qual := false, wit := none,
    rseq := 0, singleHomed := false, alive := false, qmask := 0, qlate := 0, whole := false }

/-- An association at reset. -/
def Assoc.fresh : Assoc :=
  { route := none, everQual := false, noRoute := false, consumed := [0, 0, 0], limit := [0, 0, 0],
    used := [0, 0, 0], limitTx := [0, 0, 0], next := 0, expect := 0, kept := [], queue := [], nakSent := false,
    ackPend := 0, ackSince := 0, replays := 0, advClk := 0, creditClk := [0, 0, 0],
    limSince := [none, none, none], replayDue := false, audit := false, auditRx := false, auditDone := false, auditClk := 0 }

/-- A channel after reset. -/
def Chan.fresh : Chan :=
  { hist := [], cnt := 0, soft := false, hard := false, p := false, ucnt := 0, ocnt := 0, next := 0, newest := 0, outs := [] }

/-- A trigger unit after reset. -/
def TrgUnit.fresh : TrgUnit := { armed := false, primR := false, primF := false, prev := [], wait := none, since := 0 }

/-- A slot after reset. -/
def AcqSlot.fresh : AcqSlot :=
  { st := 0, part := [], mem := [], held := 0, cur := none, ring := [], index := 0, gapRing := [], gapOpen := none,
    rearm := 0 }

/-- A register at zero. -/
def MtrReg.zero : MtrReg := { count := 0, res := 0, errN := 0, errD := 1 }

/-- A core at rest. -/
def AdcCore.fresh : AdcCore :=
  { conv := .idle, sampled := 0, rest := [], angle := none, resume := none, resumed := false, preempts := 0, queued := none,
    nbrNext := false, nbrScan := false, nbrSoon := false, chkBad := false, chkVoid := false, fails := 0,
    clampEnd := 0, faulted := false, trigClk := 0 }

/-- A concentrator at reset. -/
def Conc.fresh : Conc :=
  { owner := none, firstStep := 0, tb := 0, tSm0 := 0, markClk := 0, rate := 0x32000000, row := 0, step := 0, lats := [], loop := false,
    routeA := none, routeB := none, presA := false, presB := false, win := 0, up := [], upStep := 0,
    rx := List.replicate 2 { expect := 0, used := [0, 0, 0], done := false }, kept := [] }

/-- Causes cleared. -/
def Causes.none0 : Causes :=
  { castonDone := false, castonFail := false, castonAbort := false, syncTimeout := false, syncLostBus := false,
    boEnd := none, rtEntry := false, rtExit := false, holdExp := false, rejoin := false, spb := false, ssr := false,
    selfFail := false }

/-- The metering state as the module leaves the factory (R317). -/
def MtrCore.zero : MtrCore :=
  { regs := List.replicate 54 MtrReg.zero, opn := none, prof := [], nrec := 0, plost := 0, stamp := 0 }

/-- A counter that has just been reset (R261). -/
def Counter.fresh : Counter :=
  { base := 0, per := 0x4000, cmp := 0, xc0 := 0, xc1 := 0, ost := 3, pend := false, raw := false, sigA := false,
    sigB := false, riseA := none, riseB := none, xm0 := false, xm1 := false, fTrip := false, fHwc := false,
    fSaf := false, fMode := false, fRole := false, fDis := true, shWritten := false, edgesA := 0, edgesB := 0 }

/-- The state of the block. -/
structure State where
  sys : Sys
  ang : Ang
  pipe : Pipe
  gfe : Gfe
  mo : ModeSt
  rt : Rt
  arm : Arm
  lnk : Lnk
  ldg : Ldg
  pair : Pair
  saf : Saf
  pwr : Pwr
  pwm : Pwm
  adc : Adc
  flt : List Chan
  acq : Acq
  mtr : Mtr
  snap : Snap
  far : Far
  cmd : Cmd
  mem : Mem
  clk : Clk
  cal : Cal
  sec : Sec
  pending : List Instr
  deriving DecidableEq, Repr

/-- The engine at reset: no result yet; GFE_V_SET and GFE_F_SET show the nominal voltage and frequency (R85). -/
def Gfe.fresh : Gfe :=
  { histV := [], histI := [], lastV := ⟨0, 0⟩, lastI := ⟨0, 0⟩, lastIz := [0, 0, 0], since := 0, invalid := false,
    v := ⟨0, 0⟩, vn := ⟨0, 0⟩, i := ⟨0, 0⟩, pf := 0, qf := 0, wd := 0, pr := 0, qr := 0, vr := 2 ^ 40, fr := 2 ^ 40, xv := 0,
    emag := 0, xip := ⟨0, 0⟩, xin := ⟨0, 0⟩, z0 := [0, 0, 0], z2 := ⟨0, 0⟩, xi0 := ⟨0, 0⟩, xs := [0, 0, 0], vc := ⟨0, 0⟩,
    vcn := ⟨0, 0⟩, vz := [0, 0, 0], lim := false, lastMachine := false, istar := ⟨0, 0⟩, ref1 := [], ref2 := [],
    refsValid := false, done := false, stat := 0, sig := List.replicate 64 0, sigStep := 0, inputs := [],
    delivered := false }

/-- The mode logic at reset (R86, R93): INIT, ISOLATED, both breaker positions open until reported. -/
def ModeSt.fresh : ModeSt :=
  { mode := .init, role := .isolated, origin := none, conv := false, tie := false, deadT := 0, liveT := 0,
    notLiveT := 0, dead := false, live := false, ocCnt := 0, ocDone := false, tRun := 0, tPause := 0, pause := false, pauseNext := false,
    kv1 := 0, deltas := [], fbus := 0x32000000, syOkT := 0, syncOk := false, syncT := 0, stall := false, boT := 0, boCnt := 0,
    ssr := false, causes := Causes.none0 }

/-- No excursion runs. -/
def Exc.none0 : Exc := { run := false, t := 0, exitT := 0, due := false, out := false, logged := false }

/-- Ride-through at reset. -/
def Rt.fresh : Rt :=
  let e := Exc.none0
  { lineTrip := List.replicate 3 none, armTrip := List.replicate 6 none, restr := List.replicate 6 none,
    lastNeg := false, entryCnt := 0, exitT := 0, lv := e, hv := e, f := e, kzFt := 0, recRun := false, rec0 := 0,
    recT := 0, pjRun := false, pj0 := 0, pjT := 0, coastT := 0, validCnt := 0, deltaRej := 0, kz0 := 0x01000000,
    fromRt := false }

/-- The pair controller at reset (R336, R364). -/
def Pair.fresh : Pair :=
  { paths := List.replicate 2 { last := none, silent := true, sentEcho := none }, hb := none, hseq := 0, epoch := 0,
    epochMax := 0, qualHb := false, qual := false, isolated := false, clash := false, meterClash := false,
    version := false, preach := 0, plinked := 0, reachAge := none, sample := none,
    usedSample := false, record := none, adopted := 0, recGot := false, recOk := 0, qsteps := 0, measOk := 0,
    measCnt := 0, ho := none, hoCommit := none, hoWant := none, okT := 0, detect := none, lastHb := 0,
    decided := false, startT := 0, waitLone := false, silence := false, silenceAt := 0, proofSteps := none, proofDir := false,
    xferOn := false, xferAdopt := false, ver := 1, oldVer := 1, out := false,
    detStep := 0, detWin := 0, shadowStep := false, modeDue := false, ackBlock := 0, entryNew := false, coreSeen := false, xferRecs := [] }

/-- The safety channels at reset (R367): ARCH START, both switches open, both channels of every input at rest. -/
def Saf.fresh : Saf :=
  { arch := .start, spaOk := false, spbOk := false, shTest := false, shQual := false, agree := 0, swA := false,
    swH := false, polarity := false, fbHigh := false, fbRev := false, stuck := false, offAt := none, spb := false, ssr := false,
    lastDem := none, ssrT := none, ssrPend := false, slfT := 0, slaT := 0, sdpT := 0, hist := [], vp := ⟨0, 0⟩,
    phist := [], words := List.replicate 32 0,
    sins := List.replicate 8 { a := true, b := true, fault := false, leftAt := none, bothLeft := false, seenA := false,
                               seenB := false, apart := none },
    resetOk := false, resetReady := false, sout := List.replicate 8 false, sw1 := 0, sw1Start := 0, confirmed := false,
    chkConf := 0, proof := none, proofDay := 0 }

/-- The SRAM banks as the module leaves the factory (R429, R434). -/
def Mem.fresh : Mem :=
  { sram := [], line := List.replicate 32 0, reqA := [], reqB := [], remap := List.range 64,
    banks := List.replicate 64 { inService := true, retired := false, retv := false, ce := 0, due := false }
      ++ List.replicate 4 { inService := false, retired := false, retv := true, ce := 0, due := false },
    copy := none, remaps := 0, slice := none, skipped := [], mtPos := 0, mtPass := 0, scrubPos := 0, retv := false,
    wakeEnd := 0, emmcLife := 0 }

/-- The unit right after a power-on reset as it leaves the factory (R14, R457, log entry 1): every register at its Reset
value, mode INIT, role ISOLATED, the angle stopped, no stored configuration, nothing listed in any memory, no
command waiting. -/
def State.reset : State :=
  { sys := { clk := 0, bclk := 0, tai := 0, regs := [], order := 3, serial := 0, fwver := 0x0100_0000, hwrev := 0,
             marks := [], cfgA := none, cfgB := none,
             ev := { run := 0, next := 0, oldest := 0, staged := [], indexed := [], lost := 0, lostPend := none, item := 0,
                     alarm := false },
             out := [], free := 0 }
    ang := { st := .stopped, acc := 0, row := 0, rate := 0x3200_0000, cmd := none, clamped := false, boundTai := 0, bounds := [],
             latchRow := 0, latchTai := 0, castonRow := 0xFFFF_FFFF_FFFF_FFFF, markRate := none, err := 0,
             lastMark := none, dP0 := 0, dP1 := 0, path := false, trim := 0, lockCnt := 0, outCnt := 0, noMark := 0,
             markSeen := false, eSeen := false, loadPend := false, fired := 0, trigOut := false, backup := false }
    pipe := { armDone := false, armIn := false, shJudged := false, lateLast := false, shadowLate := true, shadowCnt := 0, margin := 800,
              respTaken := false, judged := false }
    gfe := Gfe.fresh
    mo := ModeSt.fresh
    rt := Rt.fresh
    arm := { sms := [], carry := List.replicate 6 0, pci := List.replicate 6 none, setsFormed := false, prechCnt := 0,
             prechOk := false, short := List.replicate 6 false, noSpare := List.replicate 6 false,
             n0 := List.replicate 6 0, unmapped := false, clampNow := false, built := false }
    lnk := { ports := List.replicate 22 Port.fresh0, lanes := List.replicate 20 Lane.fresh,
             assocs := List.replicate 21 Assoc.fresh, disp := false }
    ldg := { recs := [], quarantined := [], own := [], archive := [], archBase := 0, decs := [], mirror := [],
             sweeps := List.replicate 20 Sweep.fresh,
             tag := 0, passClk := 0, imgA := none, imgB := none, imgBusy := none, wearT := List.replicate 6 none,
             ownSec := [], key := none }
    pair := Pair.fresh
    saf := Saf.fresh
    pwr := { on := true, booted := false, vinA := 0, vinB := 0, vhu := 0, okA := false, okB := false, warn := false,
             saving := false, saved := false, llA := none, llB := none, llSeq := 0, llCap := none, cause := 0, rail := 0,
             resetIn := false, armed := false, stuck := false, handoverLeft := none, relay := false }
    pwm := { ctrs := List.replicate 24 Counter.fresh,
             trips := List.replicate 8 { active := false, latch := false, blankEnd := none } }
    adc := { cores := List.replicate 5 AdcCore.fresh, spare := .free, src := [0, 0, 0, 0],
             settleEnd := List.replicate 4 (some 80000), lpEnd := 0, ownTag := 0,
             trigPin := false }
    flt := List.replicate 32 Chan.fresh
    acq := { units := List.replicate 8 TrgUnit.fresh, slots := List.replicate 16 AcqSlot.fresh, done := [], mfifo := [],
             tag := 0, lost := none }
    mtr := { core := MtrCore.zero, own := MtrCore.zero, recent := [], hist := [], nsamp := 0, part := [], lastT := none,
             timeStep := false, partNext := false, mirror := false, sealed := false, everSealed := false,
             broken := false, digest := [], fwhash := List.replicate 48 0, audit := 0, audits := [], substCnt := 0,
             pairSubst := 0, ambient := 25, mramA := none, mramB := none, mramTurn := false }
    snap := { bufs := List.replicate 4 none, newest := 0, busy := none, latchClk := 0, seq := 0, pinIn := false, pinOut := false }
    far := { sms := [], concs := List.replicate 20 Conc.fresh }
    cmd := { core := { sess := [], acc := [], jrn := [], modeOwn := 0, setOwn := 0 }, own := [], waits := [], tag := 0,
             dirty := false, parked := [] }
    mem := Mem.fresh
    clk := { refOk := false, bkOk := false, lock := List.replicate 10 false, sysOnBk := false, refOnBk := false,
             go := false, apllAt := none, apllLate := false, measured := none }
    cal := { st := .invalid, last := none, since := none, holdSince := none, step := none,
             latchHi := 0, utcValid := false, leap := none, batAbsent := false, batLow := false, scap := false,
             port := false, domainOk := true, mramSec := 0 }
    sec := { imgA := some { ver := 0x0100_0000, secver := 0, pairVer := 1, pairOld := 1, legal := List.replicate 48 0,
                            valid := true },
             imgB := none, running := false, chosen := false, up := none, anchor := none, devKey := none,
             devCert := none, mtrKey := none, mtrCert := none, provKey := 0, gen := 0, root := [], coverOpen := false,
             latch := false, debug := false, debugNext := false, nonce := 0, zeroDue := false, loaderOnly := false }
    pending := [] }

end Sys2Proof.Machine
end

