-- ==== Sys2Proof/Machine/Ops.lean ====
section
/-! DEFINITION. The named operations every meaning is written with: registers, flags and counters, the event log,
time and the position in the step, what the unit puts out, free values. -/
namespace Sys2Proof

/-! ### Modes and roles -/

/-- Mode codes (R86). -/
def Mode.code : Mode → Nat
  | .init => 0 | .commission => 1 | .ready => 2 | .castOn => 3 | .sync => 4 | .connected => 5 | .island => 6
  | .rideThrough => 7 | .coast => 8 | .bindOff => 9 | .safeStop => 10 | .maintain => 11

/-- Role codes (R89). -/
def Role.code : Role → Nat
  | .active => 0 | .standby => 1 | .syncing => 2 | .isolated => 3

/-- The modes in which the engine computes the machine (R41, R86): the modes with pulses released. -/
def Mode.machine : Mode → Bool
  | .castOn | .sync | .connected | .island | .rideThrough | .coast | .bindOff => true
  | .init | .commission | .ready | .safeStop | .maintain => false

end Sys2Proof

namespace Sys2Proof.Machine

/-! ### Registers -/

/-- What the register file holds at an address (R14: the Reset column where nothing has been written). -/
def State.reg (s : State) (a : Nat) : Word := mget (regReset a) s.sys.regs a

/-- The register file with `v` at an address, in canonical form. -/
def regsSet (m : List (Nat × Word)) (a : Nat) (v : Word) : List (Nat × Word) := mset (regReset a) m a v

/-- Put a value into the register file. -/
def State.setReg (s : State) (a : Nat) (v : Word) : State :=
  { s with sys := { s.sys with regs := regsSet s.sys.regs a v } }

/-- A register as a natural number. -/
def State.regN (s : State) (a : Nat) : Nat := (s.reg a).toNat

/-- A field of a register. -/
def State.fld (s : State) (a lo n : Nat) : Nat := bits (s.reg a) lo n

/-- A bit of a register. -/
def State.flag (s : State) (a i : Nat) : Bool := bit (s.reg a) i

/-- Count one event in a saturating counter register (R423). -/
def State.bump (s : State) (a : Nat) : State := s.setReg a (satInc (s.reg a))

/-- Count `n` events in a saturating counter register. -/
def State.bumpBy (s : State) (a n : Nat) : State := s.setReg a (satAdd (s.reg a) n)

/-! ### Time and position -/

/-- θ, the upper half of the accumulator (R36). -/
def State.theta (s : State) : Word := (s.ang.acc >>> 32).truncate 32

/-- The step within the row, θ[31:22] (R12). -/
def State.step10 (s : State) : Nat := s.ang.acc.toNat / 2 ^ 54

/-- The ac within the step, θ[21:12] (R12). -/
def State.ac (s : State) : Nat := (s.ang.acc.toNat / 2 ^ 44) % 1024

/-- The position in the step in ac, rounded up (R35 and its worked example). -/
def State.acUp (s : State) : Nat := (s.ang.acc.toNat % 2 ^ 54 + 2 ^ 44 - 1) / 2 ^ 44

/-- The ac within the row, θ[31:12] (R10). -/
def State.acRow (s : State) : Nat := s.ang.acc.toNat / 2 ^ 44

/-- A step counted from row 0: one number for (row, step). -/
def State.stepNo (s : State) : Nat := s.ang.row.toNat * 1024 + s.step10

/-- The increment of R36 for a rate code. -/
def incOf (rate : Nat) : Nat := (2 * rate * 2 ^ 40 + 400000000) / (2 * 400000000)

/-- The rate at which θ accumulates: the rate in force plus the trim of R56. -/
def State.trimRate (s : State) : Nat := (Int.ofNat s.ang.rate.toNat + s.ang.trim).toNat

/-- The increment per system clock, for the clock period in use: on the backup clock the period follows
CLK_BK_PPM (R39, R442), in units of 0.01 ppm. -/
def State.inc (s : State) : Nat :=
  if s.ang.backup then
    let ppm := sx (s.reg Reg.CLK_BK_PPM)
    (divRound (Int.ofNat (s.trimRate * 2 ^ 40 * 100000000)) (400000000 * (100000000 + ppm).toNat)).toNat
  else incOf s.trimRate

/-- Module time of one system clock in 10^-10 ns: 2.5 ns with the correction of CAL_FREQ in 0.001 ppm (R465). -/
def State.tick (s : State) : Nat := (25000000000 + 25 * sx (s.reg Reg.CAL_FREQ)).toNat

/-- Module time in ns (R10). -/
def State.taiNs (s : State) : Nat := s.sys.tai / 10000000000

/-- Let `k` system clocks pass inside the present step: θ accumulates, module time runs. -/
def State.pass (s : State) (k : Nat) : State :=
  { s with
    ang := { s.ang with acc := s.ang.acc + BitVec.ofNat 64 (k * s.inc) }
    sys := { s.sys with clk := s.sys.clk + k, tai := s.sys.tai + k * s.tick } }

/-- Clocks until θ reaches the accumulator value `target` or passes it, from the present one. -/
def State.clocksTo (s : State) (target : Nat) : Nat :=
  let a := s.ang.acc.toNat
  if target ≤ a then 0 else (target - a + s.inc - 1) / max 1 s.inc

/-- Clocks that remain before θ reaches the next boundary. -/
def State.toBoundary (s : State) : Nat := s.clocksTo ((s.step10 + 1) * 2 ^ 54)

/-- Whether θ runs (R37). -/
def State.running (s : State) : Bool := decide (s.ang.st ≠ .stopped)

/-- Let the clock run on to ac `n` of the present step; no effect when it has passed, or when θ stands still. -/
def State.toAc (s : State) (n : Nat) : State :=
  if s.running then s.pass (s.clocksTo (s.step10 * 2 ^ 54 + n * 2 ^ 44)) else s

/-- Let the clock run on to `k` clocks of 2.5 ns after the boundary, but not past the next boundary. -/
def State.toClk (s : State) (k : Nat) : State :=
  if s.running then s.pass (min (s.sys.bclk + k - s.sys.clk) (s.toBoundary - 1)) else s

/-- The clock runs to `t`, but not past the present step; without a limit while θ stands still. -/
def State.toSysClk (s : State) (t : Nat) : State :=
  if s.running then s.pass (min (t - s.sys.clk) (s.toBoundary - 1))
  else { s with sys := { s.sys with clk := s.sys.clk + (t - s.sys.clk), tai := s.sys.tai + (t - s.sys.clk) * s.tick } }

/-- What happens when a time limit has run out at clock `t`: the clock runs on to it, and `f` follows; where it does not lie in the
present step, nothing has run out yet (log entry 59). -/
def State.atDue (s : State) (t : Nat) (f : State → State) : State :=
  if t ≤ (s.toSysClk t).sys.clk then f (s.toSysClk t) else s

/-- The accumulator at the boundary of the present step. -/
def State.accBound (s : State) : Nat := s.ang.acc.toNat - (s.sys.clk - s.sys.bclk) * s.inc

/-- The clock of the present step at which the accumulator reaches `target`; that of the boundary for one passed earlier. -/
def State.accClk (s : State) (target : Nat) : Nat :=
  s.sys.bclk + (target - s.accBound + s.inc - 1) / max 1 s.inc

/-- The clock of a position of the present step, in angle units since row 0. -/
def State.posClk (s : State) (pos : Nat) : Nat := s.accClk ((pos - s.ang.row.toNat * 2 ^ 32) * 2 ^ 32)

/-- The state with the clock put back to `t`, inside the present step. -/
def State.backTo (s : State) (t : Nat) : State :=
  let k := s.sys.clk - max t s.sys.bclk
  { s with
    ang := { s.ang with acc := s.ang.acc - BitVec.ofNat 64 (k * s.inc) }
    sys := { s.sys with clk := s.sys.clk - k, tai := s.sys.tai - k * s.tick } }

/-- What came about at clock `t`, which the clock has passed since: it acts as at that clock, and the clock returns. -/
def State.actAt (s : State) (t : Nat) (f : State → State) : State :=
  if s.running ∧ t < s.sys.clk then
    let u := f (s.backTo t)
    u.pass (s.sys.clk - u.sys.clk)
  else f s

/-- The duration of one step at a rate, in fs, rounded down (R40: 2^14 / rate s). -/
def dtFs (rate : Nat) : Nat := 2 ^ 14 * 10 ^ 15 / max 1 rate

/-- One ms in fs. -/
def msFs (ms : Nat) : Nat := ms * 10 ^ 12

/-- The mode of the unit. -/
def State.mode (s : State) : Mode := s.mo.mode

/-- The role of the unit. -/
def State.role (s : State) : Role := s.mo.role

/-- Pulses are released (R86). -/
def State.released (s : State) : Bool := s.mo.mode.machine

/-- PIPE_CFG.CONV: lane mode (R20). -/
def State.laneMode (s : State) : Bool := s.flag Reg.PIPE_CFG 0

/-- PAIR_CFG: pairing enabled (R336). -/
def State.paired (s : State) : Bool := s.flag Reg.PAIR_CFG 0

/-- Which unit of the pair this is: false A, true B (R336). -/
def State.unitB (s : State) : Bool := s.flag Reg.PAIR_CFG 1

/-- The unit dispatches: ACTIVE, paired or not (R89). -/
def State.isActive (s : State) : Bool := decide (s.mo.role = .active)

/-- The unit shadows: STANDBY or SYNCING (R89). -/
def State.shadowing (s : State) : Bool := decide (s.mo.role = .standby) || decide (s.mo.role = .syncing)

/-- f_nom as a frequency code (ANG_CFG.FNOM, R60). -/
def State.fnom (s : State) : Nat := if s.flag Reg.ANG_CFG 0 then 0x3C000000 else 0x32000000

/-- The dispatch deadline of the step lies behind: judged, or ac 800 passed (R33). -/
def State.pastDeadline (s : State) : Bool := s.pipe.judged || decide (s.acUp > 800)

/-! ### Outputs and free values -/

/-- Record an output. -/
def State.emit (s : State) (o : Out) : State := { s with sys := { s.sys with out := s.sys.out ++ [o] } }

/-- Record several outputs. -/
def State.emits (s : State) (l : List Out) : State := { s with sys := { s.sys with out := s.sys.out ++ l } }

/-- Draw a free value: the value and the state with the counter advanced. -/
def State.draw (s : State) : BitVec 64 × State :=
  (Config.freeValue s.sys.free, { s with sys := { s.sys with free := s.sys.free + 1 } })

/-- The next state of a command to the unit: its effect while the unit is powered, released from reset and
clocked (R457, R458); none otherwise. -/
def State.live (s t : State) : Host.Outcome State Fault Refusal := .next (if s.pwr.on then t else s)

/-! ### The event log -/

/-- Classes of flag events other than INFO (R420): flag register, bit, class. The registers of a port stand for
those of every port. -/
def flagClasses : List (Nat × Nat × Nat) :=
  [(Reg.PIPE_STAT, 3, 6), (Reg.MODE_FLAGS, 0, 5), (Reg.MODE_FLAGS, 1, 5), (Reg.MODE_FLAGS, 9, 3),
   (Reg.RT_FLAGS, 0, 5), (Reg.RT_FLAGS, 1, 5), (Reg.RT_FLAGS, 2, 5), (Reg.RT_FLAGS, 3, 5), (Reg.RT_FLAGS, 6, 3),
   (Reg.ARM_FLAGS, 0, 2), (Reg.ARM_FLAGS, 1, 2), (Reg.ARM_FLAGS, 2, 2), (Reg.PHY_FLAGS 0, 3, 4),
   (Reg.PHY_FLAGS 0, 5, 4), (Reg.LNK_FLAGS 0, 0, 4), (Reg.LNK_FLAGS 0, 1, 4), (Reg.LNK_FLAGS 0, 4, 1),
   (Reg.LNK_FLAGS 0, 5, 1), (Reg.LNK_FLAGS 0, 6, 4), (Reg.LNH_FLAGS, 0, 2)] ++
  [(Reg.LDG_FLAGS, 0, 4), (Reg.LDG_FLAGS, 1, 2), (Reg.LDG_FLAGS, 2, 4), (Reg.LDG_FLAGS, 3, 4), (Reg.LDG_FLAGS, 4, 1),
   (Reg.LDG_FLAGS, 5, 3), (Reg.PWM_FLAGS, 1, 5), (Reg.ADC_FLAGS, 0, 4), (Reg.ADC_FLAGS, 1, 2),
   (Reg.ADC_FLAGS, 2, 2), (Reg.MTR_FLAGS, 4, 3), (Reg.MTR_FLAGS, 6, 4), (Reg.MTR_FLAGS, 7, 1)] ++
  [(Reg.PAIR_FLAGS, 1, 2), (Reg.PAIR_FLAGS, 2, 4), (Reg.PAIR_FLAGS, 3, 4), (Reg.PAIR_FLAGS, 7, 6),
   (Reg.PAIR_FLAGS, 8, 4), (Reg.PAIR_FLAGS, 9, 4), (Reg.PAIR_FLAGS, 12, 4), (Reg.SAF_FLAGS, 0, 5),
   (Reg.SAF_FLAGS, 1, 5), (Reg.SAF_FLAGS, 2, 5), (Reg.SAF_FLAGS, 3, 5), (Reg.SAF_FLAGS, 4, 5),
   (Reg.SAF_FLAGS, 7, 4), (Reg.SAF_FLAGS, 8, 5), (Reg.SAF_FLAGS, 9, 5), (Reg.MEM_FLAGS, 2, 2),
   (Reg.CLK_FLAGS, 0, 2), (Reg.CLK_FLAGS, 2, 2), (Reg.PWR_FLAGS, 0, 2)]

/-- The register of port 0 for a register of any port. -/
def portless (a : Nat) : Nat := if 0x40000 ≤ a ∧ a < 0x48000 then 0x40000 + a % 0x400 else a

/-- The class of a flag event (R420): INFO where the table names none. -/
def flagClass (a b : Nat) : Nat :=
  match flagClasses.find? (fun t => t.1 == portless a && t.2.1 == b) with
  | some t => t.2.2
  | none => 0

/-- The order of two keys, the decision order left to the stable sort (R415, R416). -/
def EvKey.le (x y : EvKey) : Bool :=
  let a := [x.run.toNat, x.row.toNat, x.step, x.ac, x.item, x.block, x.clk, x.code]
  let b := [y.run.toNat, y.row.toNat, y.step, y.ac, y.item, y.block, y.clk, y.code]
  decide (a ≤ b)

/-- Whether two keys share RUN and position. -/
def EvKey.samePos (x y : EvKey) : Bool :=
  decide (x.run = y.run ∧ x.row = y.row ∧ x.step = y.step ∧ x.ac = y.ac)

/-- The key of an event decided now (R415, R416). Before the angle base starts the position is (0, 0, 0) and the
order is the order of decision. -/
def State.evKey (s : State) (block code : Nat) : EvKey :=
  if s.running then
    { run := s.sys.ev.run, row := s.ang.row, step := s.step10, ac := s.ac,
      item := if s.sys.ev.item = 0 then 7 else s.sys.ev.item + 1,
      block := if s.sys.ev.item = 0 then block else 0, clk := s.sys.clk, code := code }
  else { run := s.sys.ev.run, row := 0, step := 0, ac := 0, item := 0, block := 0, clk := 0, code := 0 }

/-- The entry of an event decided now (R418). -/
def State.mkEntry (s : State) (cls source code data : Nat) (fw : Bool) : EvEntry :=
  { index := 0, key := s.evKey (source % 0x80) code, subseq := 0, cls := cls, unit := s.unitB,
    shadow := !s.isActive, fw := fw, code := code, restaged := false, preAngle := !s.running, source := source,
    time := s.taiNs, data := data }

/-- The staging of an entry (R417, R421): dropped and counted when the ring of 1,024 is full; the pending
EVLOG_LOST entry goes in ahead of the next entry for which the ring has room for both. -/
def Evlog.stage (ev : Evlog) (e : EvEntry) : Evlog × Bool :=
  match ev.lostPend with
  | none =>
    if ev.staged.length < 1024 then ({ ev with staged := ev.staged ++ [e] }, false)
    else ({ ev with lost := satInc ev.lost, lostPend := some (1, e.key) }, true)
  | some (n, k) =>
    if ev.staged.length + 2 ≤ 1024 then
      let d := n % 2 ^ 32 + k.run.toNat * 2 ^ 32 + k.row.toNat * 2 ^ 64 + k.step * 2 ^ 128 + k.ac * 2 ^ 144
      let l : EvEntry := { e with key := { e.key with item := min 1 e.key.item, block := 0, clk := 0, code := 0x105 * min 1 e.key.item },
                                  cls := 3, source := 0, code := 0x105, data := d }
      ({ ev with staged := ev.staged ++ [l, e], lostPend := none }, false)
    else ({ ev with lost := satInc ev.lost, lostPend := some (n + 1, k) }, true)

/-- Decide an event: its entry goes to the staging ring (R417); a dropped entry sets EVLOG_FLAGS.LOST, with no
entry of its own. -/
def State.logEv (s : State) (cls source code data : Nat) (fw : Bool := false) : State :=
  let r := s.sys.ev.stage (s.mkEntry cls source code data fw)
  let ev : Evlog := { r.1 with alarm := r.1.alarm || decide (4 ≤ cls) }
  let regs := if r.2 then regsSet s.sys.regs Reg.EVLOG_FLAGS (putBit (s.reg Reg.EVLOG_FLAGS) 0 true) else s.sys.regs
  { s with sys := { s.sys with ev := ev, regs := regs } }

/-- The entry of a flag event (R419): the flag's bit, its register's address, the qualifier. -/
def State.logFlag (s : State) (a b q : Nat) (cls : Option Nat := none) : State :=
  s.logEv (cls.getD (flagClass a b)) (a / 0x10000) b (a + (q % 2 ^ 32) * 2 ^ 32)

/-- Set a sticky flag; an entry is written when it goes from 0 to 1 (R419). -/
def State.setFlag (s : State) (a b : Nat) (q : Nat := 0) (cls : Option Nat := none) : State :=
  if s.flag a b then s else (s.setReg a (putBit (s.reg a) b true)).logFlag a b q cls

/-- Set a sticky flag whose rule writes an entry at each occurrence (R419). -/
def State.setFlagEach (s : State) (a b : Nat) (q : Nat := 0) (cls : Option Nat := none) : State :=
  (s.setReg a (putBit (s.reg a) b true)).logFlag a b q cls

/-- Set several flags in turn. -/
def State.setFlags (s : State) (l : List (Nat × Nat)) : State := l.foldl (fun s p => s.setFlag p.1 p.2) s

/-- Apply an action where a condition holds. -/
def State.when (s : State) (c : Bool) (f : State → State) : State := if c then f s else s

end Sys2Proof.Machine
end

