-- ==== Sys2Proof/Machine/Crc.lean ====
section
/-! DEFINITION. The check sums the rules name: CRC-8 of R188, CRC-16 of R155, CRC-32 of R203. -/

/-- The bytes of a lifeline copy in MRAM, whose layout the specification does not give (R453, log entry 100): a free value of
what the copy holds. -/
opaque Sys2Proof.Config.lifelineBytes : Sys2Proof.Machine.Lifeline → List Sys2Proof.Byte

namespace Sys2Proof.Machine

/-- One bit into a CRC register of `w` bits without reflection. -/
def crcBit (w poly c : Nat) (b : Bool) : Nat :=
  let top := (c >>> (w - 1)) % 2
  let c' := (c <<< 1) % 2 ^ w
  if (top == 1) != b then c' ^^^ poly else c'

/-- The bits of the lowest `n` bits of `v`, most significant first. -/
def msbBits (n v : Nat) : List Bool := ((upto n).reverse).map (fun i => v.testBit i)

/-- The CRC-8 of a control block over [55:0] (R188). -/
def crc8 (v : Nat) : Nat := (msbBits 56 v).foldl (crcBit 8 0x07) 0

/-- The CRC-16 of R155 over `n` bits of `v`, most significant first. -/
def crc16 (n v : Nat) : Nat := (msbBits n v).foldl (crcBit 16 0x1021) 0xFFFF

/-- One byte into the reflected CRC-32 register. -/
def crc32Byte (c : Nat) (b : Byte) : Nat :=
  (upto 8).foldl (fun c _ => if c % 2 = 1 then (c / 2) ^^^ 0xEDB88320 else c / 2) (c ^^^ b.toNat)

/-- The CRC-32 of R203: polynomial 0x04C1_1DB7, initial value 0xFFFF_FFFF, reflected, final inversion. -/
def crc32 (l : List Byte) : Word := word ((l.foldl crc32Byte 0xFFFFFFFF) ^^^ 0xFFFFFFFF)

/-- The bytes of a journal entry in MRAM (their layout is internal, log entry 24). -/
def Jrn.bytes (j : Jrn) : List Byte :=
  j.serial ++ leBytes 1 j.session ++ leBytes 4 j.seq.toNat ++ leBytes 2 j.opcode ++ leBytes 1 (b2n j.accepted) ++
    leBytes 2 (match j.outcome with | some k => k + 1 | none => 0)

/-- An entry written whole, with its CRC-32 (R203, R424). -/
def Jrn.sealed (j : Jrn) : Jrn := { j with crc := crc32 j.bytes }

/-- The CRC of an entry holds (R424). -/
def Jrn.valid (j : Jrn) : Bool := decide (j.crc = crc32 j.bytes)

end Sys2Proof.Machine
end

