-- ==== Sys2Proof/Machine/Num.lean ====
section
/-! DEFINITION. The engine's arithmetic: values at 2^-40 (R61), results on the neighbouring grid points
(Config.gfeUp, log entry 8), rotations by angle units, Clarke transforms (R63), publication in pu24 (R11). -/
namespace Sys2Proof.Machine

/-- 1.0 at 2^-40. -/
def one : Int := 2 ^ 40

/-- The exact quotient `n` / `d` on the 2^-40 grid: exact where it lies on it, else a neighbour (log entry 8). -/
def rnd (n : Int) (d : Nat) : Int :=
  if Int.emod n d = 0 then Int.fdiv n d else Int.fdiv n d + (if Config.gfeUp n d then 1 else 0)

/-- The exact quotient with a signed divisor; a divisor of 0, to which the rules give no result, gives a free
value (log entry 8). -/
def rndQ (n d : Int) : Int :=
  if d > 0 then rnd n d.toNat else if d < 0 then rnd (-n) (-d).toNat
  else Config.divZero n

/-- The quotient rounded to nearest, a half away from zero (R11); a divisor of 0 gives a free value (log entry 8). -/
def roundQ (n d : Int) : Int :=
  if d > 0 then divRound n d.toNat else if d < 0 then divRound (-n) (-d).toNat
  else Config.divZero n

/-- Product of two values. -/
def qmul (a b : Int) : Int := rnd (a * b) (2 ^ 40)

/-- Quotient of two values. -/
def qdiv (a b : Int) : Int := rndQ (a * 2 ^ 40) b

/-- Integer square root by bits, from bit `k` down. -/
def isqrtGo (n : Nat) : Nat → Nat → Nat
  | 0, r => r
  | k + 1, r => let t := r + 2 ^ k; isqrtGo n k (if t * t ≤ n then t else r)

/-- Integer square root, rounded down (arguments below 2^200). -/
def isqrt (n : Nat) : Nat := isqrtGo n 100 0

/-- Square root of a value given at 2^-80, at 2^-40. -/
def qsqrt (n : Int) : Int :=
  let r := isqrt n.toNat
  if r * r = n.toNat then r else r + (if Config.gfeUp n 0 then 1 else 0)

/-- A pu24 code as a value at 2^-40. -/
def pu (w : Word) : Int := sx w * 2 ^ 16

/-- Publication in pu24 (R11, R61): nearest code, a half away from zero, saturating. -/
def toPu24 (x : Int) : Word := satWord (divRound x (2 ^ 16))

/-- Limit to a range. -/
def clampI (x lo hi : Int) : Int := if x < lo then lo else if x > hi then hi else x

namespace Cx

/-- Sum. -/
def add (a b : Cx) : Cx := ⟨a.re + b.re, a.im + b.im⟩
/-- Difference. -/
def sub (a b : Cx) : Cx := ⟨a.re - b.re, a.im - b.im⟩
/-- Product with a real. -/
def scale (k : Int) (a : Cx) : Cx := ⟨qmul k a.re, qmul k a.im⟩
/-- Product with j. -/
def mulJ (a : Cx) : Cx := ⟨-a.im, a.re⟩
/-- Half. -/
def half (a : Cx) : Cx := ⟨rnd a.re 2, rnd a.im 2⟩
/-- Product. -/
def mul (a b : Cx) : Cx :=
  ⟨rnd (a.re * b.re - a.im * b.im) (2 ^ 40), rnd (a.re * b.im + a.im * b.re) (2 ^ 40)⟩
/-- Quotient. -/
def div (a b : Cx) : Cx :=
  let d := b.re * b.re + b.im * b.im
  ⟨rndQ ((a.re * b.re + a.im * b.im) * 2 ^ 40) d, rndQ ((a.im * b.re - a.re * b.im) * 2 ^ 40) d⟩
/-- Magnitude. -/
def abs (a : Cx) : Int := qsqrt (a.re * a.re + a.im * a.im)
/-- Zero. -/
def zero : Cx := ⟨0, 0⟩

end Cx

/-- One twelfth of an angle unit: one turn is 12 × 2^32 of them (the displacement of R76 is a twelfth turn). -/
def fullTurn : Nat := 12 * 2 ^ 32

/-- 2π at 2^-64. -/
def twoPi64 : Nat := 115904311329233965478

/-- The alternating Taylor sum at 2^-64 of sine or cosine: `t` the term, `k` its last factor, `m` terms. -/
def taylor (x2 : Nat) : Nat → Nat → Nat → Int
  | 0, _, _ => 0
  | m + 1, k, t => Int.ofNat t - taylor x2 m (k + 2) (t * x2 / 2 ^ 64 / ((k + 1) * (k + 2)))

/-- Sine and cosine at 2^-64 of `r` twelfths of an angle unit, for `r` up to an eighth turn. -/
def sinCosSmall (r : Nat) : Int × Int :=
  let x := r * twoPi64 / fullTurn
  let x2 := x * x / 2 ^ 64
  (taylor x2 13 1 x, taylor x2 13 0 (2 ^ 64))

/-- Cosine and sine at 2^-64 of an angle in twelfths of an angle unit, as a complex value. -/
def cosSin (a : Int) : Int × Int :=
  let u := (Int.emod a fullTurn).toNat
  let q := fullTurn / 4
  let r := u % q
  let sc : Int × Int :=
    if 2 * r ≤ q then sinCosSmall r else let t := sinCosSmall (q - r); (t.2, t.1)
  match u / q with
  | 0 => (sc.2, sc.1)
  | 1 => (-sc.1, sc.2)
  | 2 => (-sc.2, -sc.1)
  | _ => (sc.1, -sc.2)

/-- `rot(x, a)` with `a` in twelfths of an angle unit: the product with e^(ja). -/
def rot12 (x : Cx) (a : Int) : Cx :=
  let c := cosSin a
  ⟨rnd (x.re * c.1 - x.im * c.2) (2 ^ 64), rnd (x.re * c.2 + x.im * c.1) (2 ^ 64)⟩

/-- `rot(x, a)` with `a` in angle units. -/
def rot (x : Cx) (a : Int) : Cx := rot12 x (12 * a)

/-- The largest `t` below 2^k from `t0` whose angle, in halves of an angle unit, does not exceed that of (x, y) in
the first quadrant. -/
def atanGo (x y : Int) : Nat → Nat → Nat
  | 0, t => t
  | k + 1, t =>
    let c := cosSin (6 * Int.ofNat (t + 2 ^ k))
    atanGo x y k (if y * c.1 - x * c.2 ≥ 0 then t + 2 ^ k else t)

/-- The argument of a complex value in angle units, nearest; 0 for 0. -/
def argUnits (a : Cx) : Int :=
  if a.re = 0 ∧ a.im = 0 then 0
  else
    let q : Int := 2 ^ 31
    let h : Int :=
      if a.re ≥ 0 ∧ a.im ≥ 0 then atanGo a.re a.im 31 0
      else if a.re < 0 ∧ a.im ≥ 0 then q + atanGo a.im (-a.re) 31 0
      else if a.re < 0 then -(2 * q) + atanGo (-a.re) (-a.im) 31 0
      else -q + atanGo (-a.im) a.re 31 0
    Int.fdiv (h + 1) 2

/-- 1/√3 at 2^-64. -/
def invSqrt3 : Int := 10650232656628343401

/-- √3/2 at 2^-64. -/
def halfSqrt3 : Int := 15975348984942515102

/-- The amplitude-invariant Clarke transform, α on phase a (R63). -/
def clarke (a b c : Int) : Cx := ⟨rnd (2 * a - b - c) 3, rnd ((b - c) * invSqrt3) (2 ^ 64)⟩

/-- Its inverse. -/
def iclarke (x : Cx) : List Int :=
  [x.re, rnd (-x.re * 2 ^ 63 + x.im * halfSqrt3) (2 ^ 64), rnd (-x.re * 2 ^ 63 - x.im * halfSqrt3) (2 ^ 64)]

/-- `x × dt / T` with the step at `rate` (dt = 2^14 / rate s) and T = `tn` / `td` seconds. -/
def dtOver (x : Int) (rate tn td : Nat) : Int := rndQ (x * 2 ^ 14 * td) (rate * tn)

end Sys2Proof.Machine
end

