-- ==== Sys2Proof/Machine/Gfe.lean ====
section
/-! DEFINITION. The grid-forming engine (chapter 03): measurement, limiter, swing, voltage and current control,
references, energy balancing, published signals. -/
namespace Sys2Proof.Machine

/-- The rate the engine takes as the rotor speed of the step (R42). -/
def State.gfeRate (s : State) : Nat :=
  if s.shadowing ∧ s.ang.st ≠ .free ∧ s.ang.st ≠ .stopped then (s.ang.markRate.getD s.ang.rate).toNat
  else s.ang.rate.toNat

/-- Converter topology of ARM_CFG (R135): 0 MMC, 1 cascaded H-bridge in star, 2 in delta. -/
def State.topo (s : State) : Nat := s.fld Reg.ARM_CFG 0 2

/-- A control input as a per-unit value (R62): full scale `fs` at code +0x7FFF. -/
def sampleOf (inp : List (Int × Bool)) (fs : Word) (ch : Nat) : Int :=
  rnd ((inp.getD ch (0, true)).1 * pu fs) (0x7FFF * 256)

/-- The inputs GFE_MAP names (R62): voltages, line currents, and the arm currents when measured. -/
def State.mapInputs (s : State) : List Nat :=
  let v := s.fld Reg.GFE_MAP 0 5
  let i := s.fld Reg.GFE_MAP 8 5
  let a := s.fld Reg.GFE_MAP 16 5
  (upto 3).map (v + ·) ++ (upto 3).map (i + ·) ++ (if s.flag Reg.GFE_MAP 24 then (upto 6).map (a + ·) else [])

/-- A control sample is invalid when any named input is unsettled, absent or over-range (R69). -/
def State.sampleInvalid (s : State) : Bool := s.mapInputs.any (fun i => (s.gfe.inputs.getD i (0, true)).2)

/-- The measurements of one step (R68, R69). -/
structure Meas where
  invalid : Bool
  xab : Cx
  iab : Cx
  v : Cx
  vn : Cx
  i : Cx
  inn : Cx
  p : Int
  q : Int
  phi : Int
  iarm : List Int
  iz : List Int
  vabc : List Int
  iabc : List Int
  deriving DecidableEq, Repr

/-- The measurement stage (R68) with the replacement of an invalid sample (R69); the sampled values stay as signals (R83, log
entry 89). -/
def State.measure (s : State) : Meas :=
  let g := s.gfe
  let vch := s.fld Reg.GFE_MAP 0 5
  let ich := s.fld Reg.GFE_MAP 8 5
  let ach := s.fld Reg.GFE_MAP 16 5
  let armEn := s.flag Reg.GFE_MAP 24
  let bad := s.sampleInvalid
  let va := (upto 3).map (fun k => sampleOf g.inputs (s.reg Reg.GFE_VIN_FS) (vch + k))
  let ia := (upto 3).map (fun k => sampleOf g.inputs (s.reg Reg.GFE_IIN_FS) (ich + k))
  let turn : Int := 2 ^ 22 * (g.since + 1)
  let xab := if bad then rot g.lastV turn else clarke (nth 0 va 0) (nth 0 va 1) (nth 0 va 2)
  let iab := if bad then rot g.lastI turn else clarke (nth 0 ia 0) (nth 0 ia 1) (nth 0 ia 2)
  let ic := iclarke iab
  let x256 := g.histV.getD 255 Cx.zero
  let i256 := g.histI.getD 255 Cx.zero
  let xp := (xab.add x256.mulJ).half
  let xn := (xab.sub x256.mulJ).half
  let ip := (iab.add i256.mulJ).half
  let inq := (iab.sub i256.mulJ).half
  let th : Int := Int.ofNat (s.step10 * 2 ^ 22)
  let phi := th - (if s.flag Reg.GFE_CFG 0 then Int.ofNat (s.regN Reg.FLT_CTL_GD * 2 ^ 11) else 0)
  let v := rot xp (-phi)
  let vn := rot xn phi
  let i := rot ip (-phi)
  let inn := rot inq phi
  let held := (upto 3).map (fun x => nth 0 g.lastIz x)
  let meas := (upto 6).map (fun k => sampleOf g.inputs (s.reg Reg.GFE_AIN_FS) (ach + k))
  let iarm : List Int :=
    if !armEn then List.replicate 6 0
    else if !bad then meas
    else if s.topo = 0 then
      (upto 6).map (fun k => (if k % 2 = 0 then rnd (nth 0 ic (k / 2)) 2 else rnd (-(nth 0 ic (k / 2))) 2) + nth 0 held (k / 2))
    else if s.topo = 1 then ic ++ [0, 0, 0]
    else (upto 3).map (fun k => rnd (nth 0 ic ((k + 1) % 3) - nth 0 ic k) 3 + nth 0 held 0) ++ [0, 0, 0]
  let iz : List Int :=
    if s.topo = 0 then (upto 3).map (fun x => rnd (nth 0 iarm (2 * x) + nth 0 iarm (2 * x + 1)) 2)
    else List.replicate 3 (rnd (nth 0 iarm 0 + nth 0 iarm 1 + nth 0 iarm 2) 3)
  { invalid := bad, xab := xab, iab := iab, v := v, vn := vn, i := i, inn := inn,
    p := rnd (v.re * i.re + v.im * i.im) (2 ^ 40), q := rnd (v.im * i.re - v.re * i.im) (2 ^ 40), phi := phi,
    iarm := iarm, iz := if bad then held else iz,
    vabc := va, iabc := ia }

/-- A ramped setpoint one step nearer its target (R81): `d` is the largest change. -/
def rampTo (x target d : Int) : Int :=
  if target > x + d then x + d else if target < x - d then x - d else target

/-- A frequency code in per unit of f_nom. -/
def State.fPu (s : State) (code : Nat) : Int := rnd (Int.ofNat code * 2 ^ 40) s.fnom

/-- The state right after R65: the machine entered from a mode that computes none. -/
def State.gfeInit (s : State) (m : Meas) : Gfe :=
  let w := rnd (Int.ofNat s.gfeRate * 2 ^ 40) s.fnom
  let lim : Int := pu 0x01333333
  { s.gfe with
    wd := w, pf := m.p, qf := m.q, pr := clampI m.p (-lim) lim, qr := clampI m.q (-lim) lim,
    vr := pu (s.reg Reg.GFE_V_TGT), fr := s.fPu (s.regN Reg.GFE_F_TGT), xv := 0,
    xip := Cx.zero, xin := Cx.zero, z0 := [0, 0, 0], z2 := Cx.zero, xi0 := Cx.zero, xs := [0, 0, 0], lim := false,
    emag := if s.mode = .castOn then 0 else if m.invalid then pu (s.reg Reg.GFE_V_TGT) else m.v.abs }

/-- The limited current reference (R73, R116): the share `a` of the limit, split by QPRIO in RIDE_THROUGH. -/
def limitCurrent (istar : Cx) (mag a : Int) (prio : Option Nat) : Cx :=
  if mag ≤ a then istar
  else
    let rest (x : Int) : Int := qsqrt (a * a - x * x)
    match prio with
    | some 1 =>
      let iq := clampI istar.im (-a) a
      ⟨clampI istar.re (-(rest iq)) (rest iq), iq⟩
    | some 2 =>
      let d := clampI istar.re (-a) a
      ⟨d, clampI istar.im (-(rest d)) (rest d)⟩
    | _ => ⟨rndQ (istar.re * a) mag, rndQ (istar.im * a) mag⟩

/-- The bounds `m` must meet so that |c + m g| ≤ v (R75): lower and upper, at 2^-40; none when no m does. -/
def mBounds (c g v : Int) : Option (Int × Int) :=
  if g = 0 then (if c ≤ v ∧ -v ≤ c then some (0, one) else none)
  else
    let lo := if g > 0 then -(Int.fdiv ((v + c) * 2 ^ 40) g) else -(Int.fdiv ((c - v) * 2 ^ 40) g)
    let hi := if g > 0 then Int.fdiv ((v - c) * 2 ^ 40) g else Int.fdiv (((-v) - c) * 2 ^ 40) g
    some (lo, hi)

/-- The largest factor below 1 that meets every bound, 0 where none does (R75). -/
def mFactor (l : List (Int × Int)) (v : Int) : Int :=
  let r := l.foldl (fun acc cg => match acc, mBounds cg.1 cg.2 v with
    | some (lo, hi), some (a, b) => some (max lo a, min hi b)
    | _, _ => none) (some ((0 : Int), one - 1))
  match r with
  | some (lo, hi) => if lo ≤ hi then hi else 0
  | none => 0

/-- V_dc of direct mode (R254). -/
def State.vdc (s : State) : Int :=
  if s.flag Reg.PWM_MAIN_CFG 8 then
    rnd ((s.gfe.inputs.getD (s.fld Reg.ARM_DCL 0 5) (0, true)).1 * pu (s.reg Reg.PWM_VDC_FS)) (32767 * 256)
  else pu (s.reg Reg.GFE_VDC)

/-- V_av of direct mode is V_dc (R75, R254); in lane mode the smallest available arm voltage (R144). -/
def State.vAv (s : State) : Int :=
  if s.laneMode then pu (s.reg Reg.ARM_VAV) else s.vdc

/-- Phase references at the middle of the step that begins `ac` ac after θ0 (R76). -/
def State.phaseRef (s : State) (vc vcn : Cx) (ac : Nat) : List Int :=
  let a12 : Int := 12 * (Int.ofNat (s.step10 * 2 ^ 22) + Int.ofNat (ac * 4096))
  let vg : Int := Int.ofNat (s.fld Reg.GFE_CFG 8 4) * 2 ^ 32
  iclarke ((rot12 vc (a12 - vg)).add (rot12 vcn (vg - a12)))

/-- The constant and the scaled part of each reference of R75 from the phase voltages `v` and the circulating or
zero-sequence voltages `vz`; in delta a cluster's is the phase voltage plus v_0 (R79, log entry 88). -/
def State.refParts (s : State) (v vz : List Int) : List (Int × Int) :=
  if !s.laneMode then (upto 3).map (fun x => (0, 2 * nth 0 v x))
  else if s.topo = 0 then
    let h := rnd (pu (s.reg Reg.GFE_VDC)) 2
    (upto 6).map (fun k => if k % 2 = 0 then (h - nth 0 vz (k / 2), -(nth 0 v (k / 2)))
                           else (h - nth 0 vz (k / 2), nth 0 v (k / 2)))
  else (upto 3).map (fun x => (nth 0 vz x, nth 0 v x))

/-- The references from their parts and the factor m; in direct mode the phase references themselves (R76). -/
def State.refOf (s : State) (parts : List (Int × Int)) (m : Int) : List Int :=
  if !s.laneMode then parts.map (fun p => rnd (qmul m p.2) 2) else parts.map (fun p => p.1 + (if m = one then p.2 else qmul m p.2))

/-- Arm energies in pu·h as the arm manager supplies them (R78). -/
def State.armW (s : State) (a : Nat) : Int := pu (s.reg (Reg.ARMa_W a))

/-- Energy sums (cluster energies in a cascaded H-bridge) and differences (R78, R79). -/
def State.energies (s : State) : List Int × List Int :=
  if s.topo = 0 then
    ((upto 3).map (fun x => s.armW (2 * x) + s.armW (2 * x + 1)),
     (upto 3).map (fun x => s.armW (2 * x) - s.armW (2 * x + 1)))
  else ((upto 3).map s.armW, [0, 0, 0])

/-- What the machine stage adds to the measurements for publication and control. -/
structure Mach where
  g : Gfe
  pv : Int
  pm : Int
  w : Int
  wcmd : Int
  vref : Int
  istar : Cx
  iref : Cx
  inref : Cx
  limr : Int
  lim : Bool
  nslim : Bool
  vsat : Bool
  msat : Bool
  pvsat : Bool
  deriving DecidableEq, Repr

/-- What the circulating-current and energy stage gives: its integrators and the voltages (R77 to R79). -/
structure Circ where
  z0 : List Int
  z2 : Cx
  xi0 : Cx
  xs : List Int
  vz : List Int
  deriving DecidableEq, Repr

/-- The peak of the line current reference of phase `x`, both sequences taken together (R79): |iref a^-x + conj(inref a^-x)|. -/
def phasePeak (iref inref : Cx) (x : Nat) : Int :=
  let a : Int := -(Int.ofNat x * 4 * 2 ^ 32)
  let p := rot12 iref a
  let n := rot12 inref a
  (Cx.mk (p.re + n.re) (p.im - n.im)).abs

/-- The zero-sequence circulating current of a delta under the current controller of R75: its proportional action, and its integral
action in both rotating frames, whose integrators are conjugate for a zero-sequence error (R79, log entry 80). -/
def State.deltaZero (s : State) (g : Gfe) (m : Meas) (i0 : Int) (rate : Nat) : Cx × Int :=
  let kpi := pu (s.reg Reg.GFE_KPI)
  let e := qmul kpi (i0 - nth 0 m.iz 0)
  let r := rot ⟨e, 0⟩ (-m.phi)
  let tii := s.regN Reg.GFE_TII
  let x := if m.invalid then g.xi0 else g.xi0.add ⟨dtOver r.re rate tii 1000000, dtOver r.im rate tii 1000000⟩
  (x, e + 2 * (rot x m.phi).re)

/-- The circulating-current controller and the energy balance (R77 to R79): new integrators and the voltages. -/
def State.circ (s : State) (g : Gfe) (m : Meas) (v1 : List Int) (iref inref : Cx) (rate : Nat) : Circ :=
  let we := s.energies
  let ws := we.1
  let mean := rnd (nth 0 ws 0 + nth 0 ws 1 + nth 0 ws 2) 3
  let wbal := s.flag Reg.GFE_CFG 5
  let kws := pu (s.reg Reg.GFE_KWS)
  let armEn := s.flag Reg.GFE_MAP 24
  let vmax := (v1.map Int.natAbs).foldl max 0
  let vhat := v1.map (fun x => qdiv x (Int.ofNat vmax))
  if s.topo = 0 then
    let tiw := s.regN Reg.GFE_TIW
    let xs := (upto 3).map (fun x =>
      if wbal ∧ tiw ≠ 0 ∧ !m.invalid then nth 0 g.xs x + dtOver (nth 0 ws x - mean) rate tiw 1 else nth 0 g.xs x)
    if armEn ∧ s.flag Reg.GFE_CFG 4 then
      let iz0 := (upto 3).map (fun x => if wbal then -(qmul kws (nth 0 ws x - mean + nth 0 xs x)) else 0)
      let iz1a := (upto 3).map (fun x =>
        if wbal then qmul (qmul (pu (s.reg Reg.GFE_KWD)) (nth 0 we.2 x)) (nth 0 vhat x) else 0)
      let mean1 := rnd (nth 0 iz1a 0 + nth 0 iz1a 1 + nth 0 iz1a 2) 3
      let izr := (upto 3).map (fun x =>
        nth 0 iz0 x + nth 0 iz1a x - (if s.flag Reg.GFE_CFG 6 then 0 else mean1))
      let ez := (upto 3).map (fun x => nth 0 izr x - nth 0 m.iz x)
      let kpc := pu (s.reg Reg.GFE_KPC)
      let tic := s.regN Reg.GFE_TIC
      let z0 := if m.invalid then g.z0
        else (upto 3).map (fun x => nth 0 g.z0 x + dtOver (qmul kpc (nth 0 ez x)) rate tic 1000000)
      let r2 := rot (clarke (nth 0 ez 0) (nth 0 ez 1) (nth 0 ez 2)) (2 * m.phi)
      let z2 := if m.invalid then g.z2
        else g.z2.add ⟨dtOver (qmul kpc r2.re) rate tic 1000000, dtOver (qmul kpc r2.im) rate tic 1000000⟩
      let back := iclarke (rot z2 (-2 * m.phi))
      let vz := (upto 3).map (fun x => qmul kpc (nth 0 ez x) + nth 0 z0 x + nth 0 back x)
      ⟨z0, z2, g.xi0, xs, vz⟩
    else ⟨if armEn then g.z0 else [0, 0, 0], if armEn then g.z2 else Cx.zero, g.xi0, if armEn then xs else g.xs, [0, 0, 0]⟩
  else if !wbal then ⟨g.z0, g.z2, g.xi0, g.xs, [0, 0, 0]⟩
  else if s.topo = 1 then
    let il := iclarke ((rot iref m.phi).add (rot inref (-m.phi)))
    let v0 := -(qmul kws ((upto 3).foldl (fun a x =>
      a + qmul (nth 0 ws x - mean) (qdiv (nth 0 il x) (phasePeak iref inref x))) 0))
    ⟨g.z0, g.z2, g.xi0, g.xs, [v0, v0, v0]⟩
  else
    let i0 := -(qmul kws ((upto 3).foldl (fun a x => a + qmul (nth 0 ws x - mean) (nth 0 vhat x)) 0))
    let r := if armEn then s.deltaZero g m i0 rate else (g.xi0, 0)
    ⟨g.z0, g.z2, r.1, g.xs, [r.2, r.2, r.2]⟩

/-- The negative-sequence current reference before its limit (R73, R74). -/
def State.negRef (s : State) (m : Meas) (w : Int) : Cx :=
  let set := if s.mo.origin = some .island then 1 else 0
  let inj := decide (s.mode = .rideThrough) && s.flag (Reg.RTSn_CFG set) 2
  let ns := if inj then 2 else s.fld Reg.GFE_CFG 2 2
  if ns = 0 then
    let d := qmul (pu (s.reg Reg.GFE_XVN)) w
    ⟨-(qdiv m.vn.im d), qdiv m.vn.re d⟩
  else if ns = 1 then Cx.zero
  else (m.vn.scale (pu (s.reg Reg.GFE_KN))).mulJ

/-- The machine stage outside COAST (R70 to R78), on references ramped first (R81, log entry 90). -/
def State.machine (s : State) (g : Gfe) (m : Meas) : Mach :=
  let rate := s.gfeRate
  let w := rnd (Int.ofNat rate * 2 ^ 40) s.fnom
  -- ramped setpoints (R81)
  let stepOf (a : Nat) : Int := dtOver (pu (s.reg a)) rate 1 1
  let pr := rampTo g.pr (pu (s.reg Reg.GFE_P_TGT)) (stepOf Reg.GFE_P_RAMP)
  let qr := rampTo g.qr (pu (s.reg Reg.GFE_Q_TGT)) (stepOf Reg.GFE_Q_RAMP)
  let vr := rampTo g.vr (pu (s.reg Reg.GFE_V_TGT)) (stepOf Reg.GFE_FV_RAMP)
  let fr := rampTo g.fr (s.fPu (s.regN Reg.GFE_F_TGT)) (stepOf Reg.GFE_FV_RAMP)
  -- voltage control (R72)
  let vref := qmul (pu (s.reg Reg.GFE_KV)) vr - rnd ((g.qf - qr) * s.regN Reg.GFE_NQ) 10000
  let u := vref - m.v.abs
  let emin := pu (s.reg Reg.GFE_EMIN)
  let emax := pu (s.reg Reg.GFE_EMAX)
  let kpv := pu (s.reg Reg.GFE_KPV)
  let vctl := s.flag Reg.GFE_CFG 1
  let e0 := vref + qmul kpv (u + g.xv)
  let hold := g.lim || (decide (e0 ≥ emax) && decide (u > 0)) || (decide (e0 ≤ emin) && decide (u < 0))
  let xv := if vctl && !hold then g.xv + dtOver u rate (s.regN Reg.GFE_TIV) 1000 else g.xv
  let emag := clampI (if vctl then vref + qmul kpv (u + xv) else vref) emin emax
  let vsat := decide (emag = emin) || decide (emag = emax)
  -- virtual impedance and limiter (R73, R74, R116)
  let kz := pu (s.reg Reg.GFE_KZ)
  let zr := qmul (pu (s.reg Reg.GFE_RV)) kz
  let zx := qmul (qmul (pu (s.reg Reg.GFE_XV)) kz) w
  let istar := Cx.div ⟨emag - m.v.re, -m.v.im⟩ ⟨zr, zx⟩
  let in0 := s.negRef m w
  let b0 := in0.abs
  let inmax := pu (s.reg Reg.GFE_INMAX)
  let nslim := decide (b0 > inmax)
  let b := if nslim then inmax else b0
  let inref := if nslim then ⟨rndQ (in0.re * inmax) b0, rndQ (in0.im * inmax) b0⟩ else in0
  let a := istar.abs
  let amax := pu (s.reg Reg.GFE_ILIM) - b
  let lim := decide (a > amax)
  let set := if s.mo.origin = some .island then 1 else 0
  let prio := if s.mode = .rideThrough then some (s.fld (Reg.RTSn_CFG set) 0 2) else none
  let iref := limitCurrent istar a amax prio
  let pstar := rnd (m.v.re * istar.re + m.v.im * istar.im) (2 ^ 40)
  -- swing (R70, R71)
  let pvmax := pu (s.reg Reg.GFE_PVMAX)
  let pv0 := if lim then pstar else g.pf
  let pv := clampI pv0 (-pvmax) pvmax
  let pm := pr + rndQ ((fr - w) * 10000) (s.regN Reg.GFE_MP)
  let wd := g.wd + dtOver (w - g.wd) rate (s.regN Reg.GFE_TD) 1000
  let pd := rnd ((w - wd) * s.regN Reg.GFE_D) 10
  let wsy := rnd (sx (s.reg Reg.GFE_WSY) * 2 ^ 40) s.fnom
  let wcmd := w + dtOver (pm - pv - pd) rate (2 * s.regN Reg.GFE_H) 1000 + wsy
  -- current control (R75)
  let irab := (rot iref m.phi).add (rot inref (-m.phi))
  let eab := irab.sub m.iab
  let kpi := pu (s.reg Reg.GFE_KPI)
  let tii := s.regN Reg.GFE_TII
  let ep := (rot eab (-m.phi)).scale kpi
  let en := (rot eab m.phi).scale kpi
  let dInt (x : Cx) : Cx := ⟨dtOver x.re rate tii 1000000, dtOver x.im rate tii 1000000⟩
  let xip := g.xip.add (dInt ep)
  let xin := g.xin.add (dInt en)
  let rf := pu (s.reg Reg.GFE_RF)
  let xf := qmul (pu (s.reg Reg.GFE_XF)) w
  let vc := ((m.v.add (Cx.mul ⟨rf, xf⟩ iref)).add ep).add xip
  let vcn := (m.vn.add (Cx.mul ⟨rf, -xf⟩ inref)).add xin
  -- circulating currents and energy (R77 to R79)
  let c := s.circ g m (s.phaseRef vc vcn 1536) iref inref rate
  let vz := c.vz
  let p1 := s.refParts (s.phaseRef vc vcn 1536) vz
  let p2 := s.refParts (s.phaseRef vc vcn 2560) vz
  let vav := s.vAv
  let msat := (p1 ++ p2).any (fun p => decide (Int.ofNat (p.1 + p.2).natAbs > vav))
  let f := if msat then mFactor (p1 ++ p2) vav else one
  let g' : Gfe := { g with
    pr := pr, qr := qr, vr := vr, fr := fr, xv := xv, emag := emag, wd := wd, lim := lim, istar := istar,
    xip := if msat then g.xip else xip, xin := if msat then g.xin else xin,
    z0 := c.z0, z2 := c.z2, xi0 := if msat then g.xi0 else c.xi0, xs := c.xs, vz := vz,
    vc := if msat then vc.scale f else vc, vcn := if msat then vcn.scale f else vcn,
    ref1 := s.refOf p1 f, ref2 := s.refOf p2 f }
  { g := g', pv := pv, pm := pm, w := w, wcmd := wcmd, vref := vref, istar := istar, iref := iref, inref := inref,
    limr := if lim then rndQ (iref.abs * 2 ^ 40) a else one, lim := lim, nslim := nslim, vsat := vsat, msat := msat,
    pvsat := decide (pv ≠ pv0) }

/-- The machine stage in COAST (R129): the held voltage turns with θ, the modulation limit still applies. -/
def State.machineCoast (s : State) (g : Gfe) : Gfe × Bool :=
  let p1 := s.refParts (s.phaseRef g.vc g.vcn 1536) g.vz
  let p2 := s.refParts (s.phaseRef g.vc g.vcn 2560) g.vz
  let msat := (p1 ++ p2).any (fun p => decide (Int.ofNat (p.1 + p.2).natAbs > s.vAv))
  let f := if msat then mFactor (p1 ++ p2) s.vAv else one
  ({ g with ref1 := s.refOf p1 f, ref2 := s.refOf p2 f }, msat)

/-- Signals 0 to 17, valid in every mode (R83). -/
def sigMeas (m : Meas) (g : Gfe) : List Word :=
  [toPu24 (nth 0 m.vabc 0), toPu24 (nth 0 m.vabc 1), toPu24 (nth 0 m.vabc 2), toPu24 (nth 0 m.iabc 0),
   toPu24 (nth 0 m.iabc 1), toPu24 (nth 0 m.iabc 2), toPu24 m.v.re, toPu24 m.v.im, toPu24 m.i.re, toPu24 m.i.im,
   toPu24 m.vn.re, toPu24 m.vn.im, toPu24 m.inn.re, toPu24 m.inn.im, toPu24 m.v.abs, toPu24 m.vn.abs,
   toPu24 g.pf, toPu24 g.qf]

/-- Signal 25: the load angle −arg(v) in signed angle units (R83). -/
def deltaOf (m : Meas) : Word := BitVec.ofInt 32 (-(argUnits m.v))

/-- Signals 18 to 39 in the machine modes but COAST (R83). -/
def State.sigMach (s : State) (m : Meas) (x : Mach) : List Word :=
  [toPu24 x.pv, toPu24 x.pm, toPu24 (rnd ((x.w - x.g.wd) * s.regN Reg.GFE_D) 10), toPu24 x.w, toPu24 x.g.wd,
   toPu24 x.wcmd, word s.gfeRate, deltaOf m, toPu24 x.g.emag, toPu24 x.vref, toPu24 x.g.xv, toPu24 x.istar.re,
   toPu24 x.istar.im, toPu24 x.iref.re, toPu24 x.iref.im, toPu24 x.inref.re, toPu24 x.inref.im, toPu24 x.limr,
   toPu24 x.g.vc.re, toPu24 x.g.vc.im, toPu24 x.g.vcn.re, toPu24 x.g.vcn.im]

/-- Signals 40 to 62 in the machine modes (R83). -/
def State.sigRefs (s : State) (m : Meas) (g : Gfe) : List Word :=
  let e := s.energies
  let wt := if s.topo = 0 then nth 0 e.1 0 + nth 0 e.1 1 + nth 0 e.1 2
    else nth 0 e.1 0 + nth 0 e.1 1 + nth 0 e.1 2
  [s.reg Reg.GFE_KZ] ++ (upto 6).map (fun k => toPu24 (nth 0 g.ref1 k)) ++ (upto 6).map (fun k => toPu24 (nth 0 m.iarm k))
    ++ (upto 3).map (fun k => toPu24 (nth 0 m.iz k)) ++ (upto 3).map (fun k => toPu24 (nth 0 e.1 k))
    ++ (upto 3).map (fun k => toPu24 (nth 0 e.2 k)) ++ [toPu24 wt]

/-- The status bits of the step that are sticky in GFE_FLAGS (R85). -/
def stickyBits (stat : Word) : List (Nat × Nat) :=
  ([1, 2, 3, 4, 5, 8].filter (fun b => bit stat b)).map (fun b => (Reg.GFE_FLAGS, b))

/-- A rate command as the angle base takes it (R41): one not delivered by the dispatch deadline is absent. -/
def State.inTime (s : State) (c : Word) : Option Word := if s.pastDeadline then none else some c

/-- One step of the engine (R64 to R84): measurement, machine in the machine modes, publication, rate command. In COAST the signals
that it does not compute keep their last values (R83, log entry 89). -/
def State.gfeStep (s : State) : State :=
  let m := s.measure
  let rate := s.gfeRate
  let mach := s.mode.machine
  let coast := decide (s.mode = .coast)
  let g0 := s.gfe
  let tpq := s.regN Reg.GFE_TPQ
  let g1 : Gfe := { g0 with
    histV := (m.xab :: g0.histV).take 256, histI := (m.iab :: g0.histI).take 256,
    lastV := if m.invalid then g0.lastV else m.xab, lastI := if m.invalid then g0.lastI else m.iab,
    lastIz := if m.invalid then g0.lastIz else m.iz, since := if m.invalid then g0.since + 1 else 0,
    invalid := m.invalid, v := m.v, vn := m.vn, i := m.i,
    pf := if coast then g0.pf else g0.pf + dtOver (m.p - g0.pf) rate tpq 1000000,
    qf := if coast then g0.qf else g0.qf + dtOver (m.q - g0.qf) rate tpq 1000000,
    done := true, lastMachine := mach }
  let g2 := if mach && !g0.lastMachine then
    { (({ s with gfe := g1 } : State).gfeInit m) with lastMachine := true } else g1
  let id := word (s.step10 + (s.ang.row.toNat % 2 ^ 22) * 1024)
  let inv : Nat := if m.invalid then 0x100 else 0
  let kzr : Nat := if sx (s.reg Reg.GFE_KZ) > 0x01000000 then 0x80 else 0
  let clp : Nat := if s.ang.clamped then 0x40 else 0
  let s1 := s.when m.invalid (fun s => s.bump Reg.GFE_MEAS_INV_CNT)
  if !mach then
    let st := word (clp + kzr + inv)
    let g3 := { g2 with stat := st, refsValid := false, ref1 := [], ref2 := [],
                        sig := sigMeas m g2 ++ List.replicate 46 0, sigStep := id }
    ({ s1 with gfe := g3, ang := { s1.ang with cmd := s1.inTime (word s.fnom) } } : State).setFlags (stickyBits st)
  else if coast then
    let r := s.machineCoast g2
    let vs : Nat := if g2.emag = pu (s.reg Reg.GFE_EMIN) ∨ g2.emag = pu (s.reg Reg.GFE_EMAX) then 8 else 0
    let st := word (1 + vs + (if r.2 then 0x10 else 0) + clp + kzr + inv)
    let w := rnd (Int.ofNat rate * 2 ^ 40) s.fnom
    let held := (upto 22).map (fun k => nth 0 g0.sig (18 + k))
    let pd := toPu24 (rnd ((w - g2.wd) * s.regN Reg.GFE_D) 10)
    let held := ((((((held.set 2 pd).set 3 (toPu24 w)).set 5 (toPu24 w)).set 6 (word rate)).set 7 (deltaOf m)).set 17 (toPu24 one))
    let g3 := { r.1 with lim := false, stat := st, refsValid := true,
                         sig := sigMeas m r.1 ++ held ++ s.sigRefs m r.1 ++ [st], sigStep := id }
    let s2 := s1.when r.2 (fun s => s.bump Reg.GFE_MSAT_CNT)
    ({ s2 with gfe := g3, ang := { s2.ang with cmd := s1.inTime (word rate) } } : State).setFlags (stickyBits st)
  else
    let x := s.machine g2 m
    let st := word (1 + b2n x.lim * 2 + b2n x.nslim * 4 + b2n x.vsat * 8 + b2n x.msat * 16 + b2n x.pvsat * 32
      + clp + kzr + inv)
    let g3 := { x.g with stat := st, refsValid := true,
                         sig := sigMeas m x.g ++ s.sigMach m x ++ s.sigRefs m x.g ++ [st], sigStep := id }
    let s2 := ((s1.when (x.lim || x.nslim) (fun s => s.bump Reg.GFE_LIM_CNT)).when x.msat
      (fun s => s.bump Reg.GFE_MSAT_CNT)).when x.pvsat (fun s => s.bump Reg.GFE_PVSAT_CNT)
    let cmd := word (divRound (x.wcmd * Int.ofNat s.fnom) (2 ^ 40)).toNat
    ({ s2 with gfe := g3, ang := { s2.ang with cmd := s1.inTime cmd } } : State).setFlags (stickyBits st)

/-- GFE FAULT of R66: no result in this step; the rate is held under R41. -/
def State.gfeFault (s : State) : State :=
  ({ s with gfe := { s.gfe with done := true, refsValid := false, stat := putBit s.gfe.stat 9 true },
            ang := { s.ang with cmd := none } } : State).setFlag Reg.GFE_FLAGS 9

end Sys2Proof.Machine
end

