-- ==== Sys2Proof/Machine/Rt.lean ====
section
/-! DEFINITION. Ride-through (chapter 05): the set in force, entry and exit, the impedance gain, excursions and
envelopes, coasting, and the level of TRIG_OUT. -/
namespace Sys2Proof.Machine

/-- A published signal of the latest step as an integer (R83). -/
def State.sigI (s : State) (n : Nat) : Int := sx (s.gfe.sig.getD n 0)

/-- The ride-through set in force (R120): 0 CONNECTED, 1 ISLAND. -/
def State.rtSet (s : State) : Option Nat :=
  match s.mode with
  | .connected => some 0
  | .island => some 1
  | .rideThrough | .coast => some (if s.mo.origin = some .island then 1 else 0)
  | _ => none

/-- |rate − f_nom| in frequency codes. -/
def State.fDev (s : State) : Int := Int.ofNat ((Int.ofNat s.ang.rate.toNat - Int.ofNat s.fnom).natAbs)

/-- The entry condition of row 14 in the step just computed (R121). -/
def State.rtBad (s : State) (n : Nat) : Bool :=
  decide (s.sigI 14 < sx (s.reg (Reg.RTSn_VLO_IN n))) || decide (s.sigI 14 > sx (s.reg (Reg.RTSn_VHI_IN n)))
    || decide (s.sigI 15 > sx (s.reg (Reg.RTSn_VN_IN n)))

/-- The levels of the exit condition hold in the step just computed (R121). -/
def State.rtGood (s : State) (n : Nat) : Bool :=
  decide (s.sigI 14 ≥ sx (s.reg (Reg.RTSn_VLO_OUT n))) && decide (s.sigI 14 ≤ sx (s.reg (Reg.RTSn_VHI_OUT n)))
    && decide (s.sigI 15 ≤ sx (s.reg (Reg.RTSn_VN_OUT n)))

/-- RTSn_T_EXIT of a set, in fs. -/
def State.tExit (s : State) (n : Nat) : Nat := msFs (s.regN (Reg.RTSn_T_EXIT n))

/-- The exit condition of row 15 holds now (R121). -/
def State.rtExitHolds (s : State) : Bool :=
  match s.rtSet with
  | some n => decide (s.rt.exitT ≥ s.tExit n)
  | none => true

/-- A decaying term of k_z: 1 + (k0 − 1) × max(0, 1 − T / Td), `td` in ms (R124, R133). -/
def kzTerm (k0 : Int) (t td : Nat) : Int :=
  if t ≥ msFs td then one else one + rnd ((k0 - one) * Int.ofNat (msFs td - t)) (msFs td)

/-- The phase-jump term in force. -/
def State.kzPj (s : State) : Int :=
  if s.rt.pjRun then kzTerm s.rt.pj0 s.rt.pjT (s.regN Reg.RT_PJ_TDEC) else one

/-- The recovery term in force. -/
def State.kzRec (s : State) : Int :=
  if s.rt.recRun then kzTerm s.rt.rec0 s.rt.recT (s.regN Reg.RT_T_REC) else one

/-- A k_z term that has come to 1.0 ends (R124, R133). -/
def State.kzEnd (s : State) : State :=
  { s with rt := { s.rt with pjRun := s.rt.pjRun && decide (s.kzPj ≠ one), recRun := s.rt.recRun && decide (s.kzRec ≠ one) } }

/-- The duration of the step that has ended, at the boundary after it: at the rate that was in force in it (R40). -/
def State.endedDt (s : State) : Nat := dtFs (match s.ang.bounds.getD 1 (0, 0, s.ang.rate.toNat) with | (_, _, r) => r)

/-- The clocks of the running terms advance by the step that has ended, but not in COAST (R130): a term that starts at this
boundary starts from T = 0. -/
def State.kzClock (s : State) : State :=
  if s.mode = .coast then s
  else
    let dt := s.endedDt
    { s with rt := { s.rt with pjT := if s.rt.pjRun then s.rt.pjT + dt else s.rt.pjT,
                               recT := if s.rt.recRun then s.rt.recT + dt else s.rt.recT } }

/-- The fault term and the injection gain in RIDE_THROUGH, by the set in force (R123). -/
def State.ftInputs (s : State) : State :=
  if s.mode = .rideThrough then
    let n := if s.mo.origin = some .island then 1 else 0
    ({ s with rt := { s.rt with kzFt := pu (s.reg (Reg.RTSn_KZ n)) } } : State).setReg Reg.GFE_KN
      (if s.flag (Reg.RTSn_CFG n) 2 then s.reg (Reg.RTSn_KN n) else 0)
  else s

/-- GFE_KZ = max of the terms, as pu24 (R124), held in COAST (R130). -/
def State.kzWrite (s : State) : State :=
  if s.mode = .coast then s else s.setReg Reg.GFE_KZ (toPu24 (max s.rt.kzFt (max s.kzPj s.kzRec)))

/-- The boundary of a staircase at excursion time `t`, from the points in use (R125). -/
def stairGo (t : Nat) (time level : Nat → Word) : Nat → Nat → Word → Word
  | 0, _, l => l
  | k + 1, i, l =>
    stairGo t time level k (i + 1)
      (if time i ≠ 0xFFFF_FFFF ∧ msFs (time i).toNat ≤ t then level i else l)

/-- The boundary of envelope `e` (0 LV, 1 HV, 2 F) of set `n` at excursion time `t` (R125). -/
def State.envelope (s : State) (e n t : Nat) : Int :=
  match e with
  | 0 => sx (stairGo t (fun k => s.reg (Reg.RTSn_LV_Tk n k)) (fun k => s.reg (Reg.RTSn_LV_Lk n k)) 8 0 0)
  | 1 => sx (stairGo t (fun k => s.reg (Reg.RTSn_HV_Tk n k)) (fun k => s.reg (Reg.RTSn_HV_Lk n k)) 8 0 0x7FFF_FFFF)
  | _ => sx (stairGo t (fun k => s.reg (Reg.RTSn_F_Tk n k)) (fun k => s.reg (Reg.RTSn_F_Lk n k)) 8 0 0x7FFF_FFFF)

/-- One excursion over one step (R126): `begins`, `inside` (the exit level holds), `outside` at time t, and
whether the test is made in this step; a step of COAST, which makes none, freezes the exit time (log entry 93). -/
def Exc.advance (x : Exc) (begins inside tested : Bool) (outside : Nat → Bool) (dt : Nat) : Exc :=
  if !x.run then
    (if tested && begins then { run := true, t := 0, exitT := 0, due := outside 0, out := false, logged := false }
     else { x with due := false })
  else
    let t := x.t + dt
    if !tested then { x with t := t }
    else
      { x with t := t, exitT := if inside then x.exitT + dt else 0, due := x.due || outside t }

/-- An excursion ends when its exit level has held for the exit time (R126). -/
def Exc.finish (x : Exc) (tx : Nat) : Exc :=
  if x.run && decide (x.exitT ≥ tx) then Exc.none0 else x

/-- What was found outside in the step shows at the boundary (R127). -/
def Exc.show (x : Exc) : Exc := { x with out := x.due }

/-- The excursions over the step just computed (R126). -/
def State.excursions (s : State) : State :=
  match s.rtSet with
  | none => { s with rt := { s.rt with lv := Exc.none0, hv := Exc.none0, f := Exc.none0 } }
  | some n =>
    let dt := dtFs s.ang.rate.toNat
    let vt := decide (s.mode ≠ .coast)
    let v := s.sigI 14
    let fd := s.fDev
    let fc := sx (s.reg (Reg.RTSn_F_CONT n))
    { s with rt := { s.rt with
        lv := s.rt.lv.advance (decide (v < sx (s.reg (Reg.RTSn_VLO_IN n)))) (decide (v ≥ sx (s.reg (Reg.RTSn_VLO_OUT n))))
          vt (fun t => decide (v < s.envelope 0 n t)) dt
        hv := s.rt.hv.advance (decide (v > sx (s.reg (Reg.RTSn_VHI_IN n)))) (decide (v ≤ sx (s.reg (Reg.RTSn_VHI_OUT n))))
          vt (fun t => decide (v > s.envelope 1 n t)) dt
        f := s.rt.f.advance (decide (fd > fc)) (decide (fd ≤ fc)) true
          (fun t => decide (fd > s.envelope 2 n t)) dt } }

/-- A step without a result of the engine: its time passes for the running excursions, the holdover and the timers of SYNC and
BIND_OFF, and nothing is tested (R126, R132, R105, R112). -/
def State.stepMissed (s : State) : State :=
  let dt := dtFs s.ang.rate.toNat
  let go (x : Exc) : Exc := x.advance false false false (fun _ => false) dt
  { s with
    rt := { s.rt with lv := go s.rt.lv, hv := go s.rt.hv, f := go s.rt.f,
                      coastT := if s.mode = Mode.coast then s.rt.coastT + dt else s.rt.coastT }
    mo := { s.mo with syncT := if s.mode = Mode.sync then s.mo.syncT + dt else s.mo.syncT,
                      boT := if s.mode = Mode.bindOff then s.mo.boT + dt else s.mo.boT } }

/-- The excursions that have ended (R126); ENV_OUT and the pin follow (R127). -/
def State.excEnd (s : State) : State :=
  match s.rtSet with
  | none => s
  | some n =>
    let tx := s.tExit n
    { s with rt := { s.rt with lv := s.rt.lv.finish tx, hv := s.rt.hv.finish tx, f := s.rt.f.finish tx } }

/-- ENV_OUT (R127). -/
def State.envOut (s : State) : Bool := s.rt.lv.out || s.rt.hv.out || s.rt.f.out

/-- One envelope outside: its flag and one log entry per excursion (R127). -/
def State.envLog (s : State) : State :=
  let s := if s.rt.lv.out && !s.rt.lv.logged then
      ({ s with rt := { s.rt with lv := { s.rt.lv with logged := true } } } : State).setFlagEach Reg.RT_FLAGS 0 else s
  let s := if s.rt.hv.out && !s.rt.hv.logged then
      ({ s with rt := { s.rt with hv := { s.rt.hv with logged := true } } } : State).setFlagEach Reg.RT_FLAGS 1 else s
  if s.rt.f.out && !s.rt.f.logged then
      ({ s with rt := { s.rt with f := { s.rt.f with logged := true } } } : State).setFlagEach Reg.RT_FLAGS 2 else s

/-- The level TRIG_OUT carries where SYNC_OUT or TRIP_OUT claims the pin (R104, R127); none where DOUT drives it. -/
def State.trigClaim (s : State) : Option Bool :=
  if s.flag Reg.MODE_CFG 0 then some (decide (s.mode = .sync) && s.mo.syncOk)
  else if s.flag Reg.RT_CFG 0 then some s.envOut
  else none

/-- TRIG_OUT set to a level, recorded when it changes. -/
def State.setTrig (s : State) (b : Bool) : State :=
  if s.ang.trigOut = b then s
  else ({ s with ang := { s.ang with trigOut := b } } : State).emit (.pin "TRIG_OUT" b)

/-- TRIG_OUT brought to the level claimed (R104, R127). -/
def State.trigUpdate (s : State) : State :=
  match s.trigClaim with
  | some b => s.setTrig b
  | none => s

/-- What the step found outside its envelope shows, at the boundary (R127, log entry 97). -/
def State.envShow (s : State) : State :=
  { s with rt := { s.rt with lv := s.rt.lv.show, hv := s.rt.hv.show, f := s.rt.f.show } }

/-- The excursions that ended, ENV_OUT with its flags, and the pin (R126, R127); a shadow raises no flags of its own (R90). -/
def State.rtBoundary (s : State) : State :=
  let s := s.excEnd.envShow
  (if s.shadowing then s else s.envLog).trigUpdate

/-- EXCURSION_END (R126): an excursion whose exit level has held for the exit time ends. -/
def execExcursionEnd (s : State) : Host.Outcome State Fault Refusal := s.live s.excEnd.trigUpdate

/-- KZ_TERM_END (R124, R133): a decaying term of the impedance gain reaches 1.0 and ends. -/
def execKzTermEnd (s : State) : Host.Outcome State Fault Refusal := s.live s.kzEnd

/-- The step just computed counted towards entry, exit and rejoin (R121, R133). -/
def State.rtObserve (s : State) : State :=
  let dt := dtFs s.ang.rate.toNat
  let inv := s.gfe.invalid
  let vc := if inv then 0 else s.rt.validCnt + 1
  match s.rtSet with
  | none => { s with rt := { s.rt with entryCnt := 0, exitT := 0, validCnt := vc } }
  | some n =>
    let coast := decide (s.mode = .coast)
    { s with rt := { s.rt with
        entryCnt := if !coast && s.rtBad n then s.rt.entryCnt + 1 else 0
        exitT := if s.rtGood n then s.rt.exitT + dt else 0
        coastT := if coast then s.rt.coastT + dt else s.rt.coastT
        validCnt := vc } }

/-- δ at the rejoin beyond RT_DREJOIN (R133): |δ| in angle units against tenths of a degree. -/
def State.jumpAt (s : State) (d : Int) : Bool :=
  decide (Int.ofNat d.natAbs * 3600 > Int.ofNat (s.regN Reg.RT_DREJOIN) * 2 ^ 32)

/-- k_z0 of a phase jump (R133). -/
def State.kz0Of (s : State) : Int :=
  let w := rnd (Int.ofNat s.gfeRate * 2 ^ 40) s.fnom
  let e : Cx := ⟨s.gfe.emag - s.gfe.v.re, -s.gfe.v.im⟩
  let z : Cx := ⟨pu (s.reg Reg.GFE_RV), qmul (pu (s.reg Reg.GFE_XV)) w⟩
  let k := qdiv e.abs (qmul z.abs (pu (s.reg Reg.GFE_ILIM)))
  min (pu (s.reg Reg.RT_PJ_KZMAX)) (max one k)

/-- What a rejoin does to the mirrored state (R133): δ stored, and the phase-jump term where δ is too large; a running term whose
present value is not exceeded goes on. -/
def State.rejoinTerm (s : State) : State :=
  let d := s.gfe.sig.getD 25 0
  let s := { s with rt := { s.rt with deltaRej := d } }
  let k := s.kz0Of
  if !s.jumpAt (sx d) || (s.rt.pjRun && decide (k ≤ s.kzPj)) then s
  else { s with rt := { s.rt with pjRun := true, pj0 := k, pjT := 0, kz0 := toPu24 k } }

/-- The rejoin at its boundary (R133): REJOIN flagged, PHASE_JUMP where δ is too large. -/
def State.rejoinAct (s : State) : State :=
  let j := s.jumpAt (sx (s.gfe.sig.getD 25 0))
  let s := s.rejoinTerm.setFlag Reg.RT_FLAGS 7
  s.when j (fun s => s.setFlagEach Reg.RT_FLAGS 3)

end Sys2Proof.Machine
end

