-- ==== Sys2Proof/Machine/Pwm.lean ====
section
/-! DEFINITION. The direct PWM array (chapter 10). -/
namespace Sys2Proof.Machine

/-- Counter `n`. -/
def State.ctr (s : State) (n : Nat) : Counter := s.pwm.ctrs.getD n Counter.fresh

/-- Counter `n` replaced by `f` of it. -/
def State.updCtr (s : State) (n : Nat) (f : Counter → Counter) : State :=
  { s with pwm := { s.pwm with ctrs := upd s.pwm.ctrs n f } }

/-- Trip input `i`. -/
def State.trip (s : State) (i : Nat) : Trip := s.pwm.trips.getD i ⟨false, false, none⟩

/-- Trip input `i` replaced by `f` of it. -/
def State.updTrip (s : State) (i : Nat) (f : Trip → Trip) : State :=
  { s with pwm := { s.pwm with trips := upd s.pwm.trips i f } }

/-- PWMn_CFG.EN. -/
def State.ctrEn (s : State) (n : Nat) : Bool := s.flag (Reg.PWMn_CFG n) 0

/-- Angle ticks of 2^8 angle units since row 0 (R241). -/
def State.ticks (s : State) : Nat := s.ang.row.toNat * 2 ^ 24 + s.ang.acc.toNat / 2 ^ 40

/-- The time base of counter `n` now: ticks or clocks (R241). -/
def State.tbNow (s : State) (n : Nat) : Nat := if s.flag (Reg.PWMn_CFG n) 1 then s.sys.clk else s.ticks

/-- The count of counter `n`; 0 while disabled (R250). -/
def State.count (s : State) (n : Nat) : Nat := if s.ctrEn n then s.tbNow n - (s.ctr n).base else 0

/-- Clocks until counter `n` reaches count ≥ `v`. -/
def State.clocksToCount (s : State) (n v : Nat) : Nat :=
  if s.count n ≥ v then 0
  else if s.flag (Reg.PWMn_CFG n) 1 then v - s.count n
  else s.clocksTo (((s.ctr n).base + v - s.ang.row.toNat * 2 ^ 24) * 2 ^ 40)

/-- Let the clock run to count ≥ `v` of counter `n`, when that lies inside the present step; at once where it is reached. -/
def State.toCount (s : State) (n v : Nat) : Option State :=
  let k := s.clocksToCount n v
  if k = 0 then some s else if s.running && decide (k < s.toBoundary) then some (s.pass k) else none

/-- Counters that PWM_MAIN_CFG names while it is enabled, with their phase (R253); none in lane mode, where the array carries
auxiliary converters only (R20). -/
def State.mainCtrs (s : State) : List (Nat × Nat) :=
  if s.flag Reg.PWM_MAIN_CFG 0 && !s.laneMode then
    (upto 3).flatMap (fun x => (s.fld (Reg.PWM_MAINx x) 0 5, x) ::
      (if s.flag Reg.PWM_MAIN_CFG 1 then [(s.fld (Reg.PWM_MAINx x) 8 5, x)] else []))
  else []

/-- Counter `n` is one of the main converter's. -/
def State.isMain (s : State) (n : Nat) : Bool := s.mainCtrs.any (fun p => p.1 == n)

/-- PSTEPS in steps (R253). -/
def State.psteps (s : State) : Nat := 2 ^ s.fld Reg.PWM_MAIN_CFG 4 3

/-- The causes of the forces on counter `n` that hold now (R259), in the order trip, comparator, SPB, mode. -/
def State.forceCauses (s : State) (n : Nat) : Bool × Bool × Bool × Bool :=
  let tr := (upto 8).any (fun i => (s.trip i).latch && s.flag (Reg.TRIPi_MASK i) n)
  let hw := !s.laneMode && s.mainCtrs.any (fun p => p.1 == n && (s.rt.lineTrip.getD p.2 none).isSome)
  let sf := s.saf.spb && !s.laneMode && s.flag Reg.SPS_PWM_MASK n
  let md := !s.released && (s.isMain n || s.flag (Reg.PWMn_CFG n) 2)
  (tr, hw, sf, md)

/-- Counter `n` stands at its safe levels (R259). -/
def Counter.forced (c : Counter) : Bool := c.fTrip || c.fHwc || c.fSaf || c.fMode || c.fRole || c.fDis

/-- A and B of counter `n` after SWAP and INV, before output enable and forces (R244, R258). -/
def State.abOf (s : State) (n : Nat) : Bool × Bool :=
  let c := s.ctr n
  let o := s.reg (Reg.PWMn_OUT n)
  let p := if bit o 6 then (c.sigB, c.sigA) else (c.sigA, c.sigB)
  (p.1 != bit o 7, p.2 != bit o 7)

/-- The level of a pin: 0 LOW, 1 HIGH, 2 HIZ (R244). -/
def State.pinLevel (s : State) (n : Nat) (outB : Bool) : Nat :=
  let c := s.ctr n
  let o := s.reg (Reg.PWMn_OUT n)
  let sig := if outB then (s.abOf n).2 else (s.abOf n).1
  if c.fRole then 2
  else if c.forced then bits o (if outB then 2 else 0) 2
  else if !bit o (if outB then 5 else 4) then 2
  else b2n sig

/-- An own record at the factory (R238). -/
def Rec.ofModule : Rec :=
  { id := 0, typ := 0xF0, state := 1, limset := 0, stale := false, missed := false, last := 0, nsw := 0, nth := 0,
    qah := 0, hrs := 0 }

/-- Own record `k` takes a change (R238). -/
def State.ownUpd (s : State) (k : Nat) (f : Rec → Rec) : State :=
  { s with ldg := { s.ldg with own := mset Rec.ofModule s.ldg.own k (f (mget Rec.ofModule s.ldg.own k)) } }

/-- A life counter of the module's own record `k` (R238): NSW + 1. -/
def State.ownInc (s : State) (k : Nat) : State := s.ownUpd k (fun r => { r with nsw := min (2 ^ 40 - 1) (r.nsw + 1) })

/-- The gate outputs of counter `n` pass 2^20 rising edges: records 102 to 149 count (R238). -/
def State.edgeUnits (s : State) (n : Nat) : State :=
  let s := if (s.ctr n).edgesA < 2 ^ 20 then s
    else (s.updCtr n (fun c => { c with edgesA := c.edgesA - 2 ^ 20 })).ownInc (102 + 2 * n)
  if (s.ctr n).edgesB < 2 ^ 20 then s
  else (s.updCtr n (fun c => { c with edgesB := c.edgesB - 2 ^ 20 })).ownInc (103 + 2 * n)

/-- The changes an action makes to counter `n` seen at its pins: blanking windows open on edges (R258), rising pin
edges are counted (R238). -/
def State.pwmEdges (s0 s : State) (n : Nat) : State :=
  let s := if s0.abOf n = s.abOf n then s
    else { s with pwm := { s.pwm with trips := s.pwm.trips.mapIdx (fun i t =>
      let bl := s.fld (Reg.TRIPi_CFG i) 8 8
      if s.fld (Reg.TRIPi_CFG i) 16 5 = n ∧ bl > 0 then { t with blankEnd := some (s.sys.clk + 4 * bl) } else t) } }
  (s.updCtr n (fun c => { c with
    edgesA := c.edgesA + b2n (decide (s0.pinLevel n false ≠ 1) && decide (s.pinLevel n false = 1))
    edgesB := c.edgesB + b2n (decide (s0.pinLevel n true ≠ 1) && decide (s.pinLevel n true = 1)) })).edgeUnits n

/-- One of A and B asked to take a level at clock `t` with dead time `dt` (R243): the signal and the delayed edge. -/
def edgeOf (sig : Bool) (rise : Option Nat) (want : Bool) (t dt : Nat) : Bool × Option Nat :=
  if !want then (false, none)
  else if sig then (true, none)
  else if dt = 0 then (true, none)
  else (false, some (rise.getD t))

/-- Counter with A and B asked for, at clock `t`. -/
def Counter.want (c : Counter) (a b : Bool) (t dt : Nat) : Counter :=
  let ea := edgeOf c.sigA c.riseA a t dt
  let eb := edgeOf c.sigB c.riseB b t dt
  { c with sigA := ea.1, riseA := ea.2, sigB := eb.1, riseB := eb.2 }

/-- The transfer of the five shadows (R245, R246). -/
def State.transfer (s : State) (n : Nat) : State :=
  s.updCtr n (fun c => { c with
    per := s.fld (Reg.PWMn_PER_SH n) 0 25, cmp := s.fld (Reg.PWMn_CMP_SH n) 0 25,
    xc0 := s.fld (Reg.PWMn_XC0_SH n) 0 25, xc1 := s.fld (Reg.PWMn_XC1_SH n) 0 25,
    ost := s.fld (Reg.PWMn_OST_SH n) 0 2, pend := false })

/-- The forces set at once where their causes hold (R259). -/
def State.pwmRefresh (s : State) : State :=
  { s with pwm := { s.pwm with ctrs := s.pwm.ctrs.mapIdx (fun n c =>
      let f := s.forceCauses n
      { c with fTrip := c.fTrip || f.1, fHwc := c.fHwc || f.2.1, fSaf := c.fSaf || f.2.2.1,
               fMode := c.fMode || f.2.2.2, fDis := c.fDis || !s.ctrEn n }) } }

/-- The start of a period of an enabled counter, its base already moved (R241, R242, R246, R259, R260). -/
def State.periodBegin (s0 : State) (n : Nat) : State :=
  let s := if (s0.ctr n).pend then s0.transfer n else s0
  let f := s.forceCauses n
  let act := s.isActive
  let t := s.sys.clk
  let dt := s.fld (Reg.PWMn_DT n) 0 12
  let c0 := s.ctr n
  let beyond := decide (c0.ost = 0) && decide (c0.cmp ≥ c0.per)
  let raw := decide (c0.ost = 1) || (decide (c0.ost = 0) && decide (c0.cmp ≠ 0))
  let s := s.updCtr n (fun c =>
    let c := { c with raw := raw, xm0 := false, xm1 := false, fTrip := f.1, fHwc := f.2.1, fSaf := f.2.2.1,
                      fMode := f.2.2.2, fDis := !s.ctrEn n,
                      fRole := if act then c.fRole && !c.shWritten else c.fRole || !c.shWritten, shWritten := false }
    if c.ost = 3 then { c with sigA := false, sigB := false, riseA := none, riseB := none }
    else c.want raw (!raw) t dt)
  let s := if beyond then
      ((s.setReg Reg.PWM_BEYOND (putBit (s.reg Reg.PWM_BEYOND) n true)).setFlag Reg.PWM_FLAGS 0) else s
  State.pwmEdges s0 s n

/-- Counter `n` reaches PER: PER is subtracted from the count, the period starts (R241). -/
def State.periodRoll (s : State) (n : Nat) : State :=
  (s.updCtr n (fun c => { c with base := c.base + c.per })).periodBegin n

/-- A period of counter `n` ends with time: PER is subtracted as often as the count holds it (R241). -/
def State.periodDue (s : State) (n : Nat) : State :=
  if s.count n < 2 * (s.ctr n).per then s.periodRoll n
  else (s.updCtr n (fun c => { c with base := c.base + c.per * (s.count n / max 1 c.per) })).periodBegin n

/-- At a boundary the array makes the main counters' period starts fall at ac 0 of their steps (R253). -/
def State.mainPeriods (s : State) : State :=
  if !s.laneMode && decide (s.step10 % s.psteps = 0) then
    s.mainCtrs.foldl (fun s p =>
      if s.ctrEn p.1 && decide ((s.ctr p.1).base ≠ s.stepNo * 2 ^ 14) then
        (s.updCtr p.1 (fun c => { c with base := s.stepNo * 2 ^ 14 })).periodBegin p.1 else s) s
  else s

/-- EN of counter `n` changes (R250). -/
def State.pwmSetEn (s : State) (n : Nat) (en : Bool) : State :=
  let a := Reg.PWMn_CFG n
  if s.ctrEn n = en then s
  else
    let s1 := s.setReg a (putBit (s.reg a) 0 en)
    if en then (s1.updCtr n (fun c => { c with base := s1.tbNow n })).periodBegin n
    else State.pwmEdges s (s1.updCtr n (fun c => { c with fDis := true, raw := false, sigA := false, sigB := false,
                                                          riseA := none, riseB := none })) n

/-- PWM_SYNC of the counters in a mask (R251). -/
def State.pwmSync (s : State) (mask : Nat) : State :=
  (upto 24).foldl (fun s n =>
    if mask.testBit n && s.ctrEn n then
      let c := s.count n
      if c = 0 then s
      else
        let s := if c < (s.ctr n).per then s.setFlag Reg.PWM_FLAGS 2 else s
        (s.updCtr n (fun c => { c with base := s.tbNow n })).periodBegin n
    else s) s

/-- LOAD_ALL (R246): every counter pending; a disabled counter transfers on the next clock (State.timedNext). -/
def State.pwmLoadAllAct (s : State) : State :=
  { s with pwm := { s.pwm with ctrs := s.pwm.ctrs.map (fun c => { c with pend := true }) } }

/-- A trip latch sets (R257). -/
def State.tripLatch (s : State) (i : Nat) : State :=
  (((s.updTrip i (fun t => { t with latch := true })).bump Reg.PWM_TRIP_CNT).setFlagEach Reg.PWM_FLAGS 1 i).pwmRefresh

/-- The input is gated by an open blanking window (R258). -/
def State.blanked (s : State) (i : Nat) : Bool :=
  match (s.trip i).blankEnd with
  | some e => decide (s.sys.clk < e)
  | none => false

/-- TRIP_CLR (R257): latches of inactive inputs clear. -/
def State.tripClrAct (s : State) (mask : Nat) : State :=
  { s with pwm := { s.pwm with trips := s.pwm.trips.mapIdx (fun i t =>
      if mask.testBit i && !t.active then { t with latch := false } else t) } }

/-- PERIOD_START (R241): counter `n` reaches PER, at its clock inside the step. -/
def execPeriodStart (n : Fin 24) (s : State) : Host.Outcome State Fault Refusal :=
  s.live (if s.ctrEn n then
      match s.toCount n (s.ctr n).per with
      | some s => s.periodRoll n
      | none => s
    else s)

/-- CMP_MATCH (R242): the first clock with count ≥ CMP in a period of OST 0; the raw signal falls. -/
def State.cmpMatchAct (s : State) (n : Nat) : State :=
  let c := s.ctr n
  if s.ctrEn n && decide (c.ost = 0) && c.raw && decide (c.cmp < c.per) then
    match s.toCount n c.cmp with
    | some s1 =>
      State.pwmEdges s1 (s1.updCtr n (fun c =>
        { c with raw := false }.want false true s1.sys.clk (s1.fld (Reg.PWMn_DT n) 0 12))) n
    | none => s
  else s

/-- CMP_MATCH (R242). -/
def execCmpMatch (n : Fin 24) (s : State) : Host.Outcome State Fault Refusal := s.live (s.cmpMatchAct n)

/-- DEAD_TIME_EXPIRE (R243): a delayed rising edge of A or B reaches the output DT after it was asked for. -/
def State.deadTimeAct (s : State) (n : Nat) (outB : Bool) : State :=
  match (if outB then (s.ctr n).riseB else (s.ctr n).riseA) with
  | none => s
  | some t =>
    let k := t + s.fld (Reg.PWMn_DT n) 0 12 - s.sys.clk
    if s.running && decide (k < s.toBoundary) || decide (k = 0) then
      let s1 := s.pass k
      State.pwmEdges s1 (s1.updCtr n (fun c =>
        if outB then { c with sigB := true, riseB := none } else { c with sigA := true, riseA := none })) n
    else s

/-- DEAD_TIME_EXPIRE (R243). -/
def execDeadTimeExpire (n : Fin 24) (outB : Bool) (s : State) : Host.Outcome State Fault Refusal :=
  s.live (s.deadTimeAct n outB)

/-- PWM_LOAD_ALL (R246): a firmware write of LOAD_ALL. -/
def execPwmLoadAll (s : State) : Host.Outcome State Fault Refusal := s.live s.pwmLoadAllAct

/-- PWM_ENABLE (R249, R250): a firmware write of EN; refused for a main counter. -/
def execPwmEnable (n : Fin 24) (en : Bool) (s : State) : Host.Outcome State Fault Refusal :=
  s.live (if s.isMain n then s else s.pwmSetEn n en)

/-- TRIP_INPUT (R257, R258): the input changes level; an unblanked active enabled input latches. -/
def execTripInput (i : Fin 8) (active : Bool) (s : State) : Host.Outcome State Fault Refusal :=
  let s1 := s.updTrip i (fun t => { t with active := active })
  s.live (if active && s.flag (Reg.TRIPi_CFG i) 0 && !s.blanked i && !(s.trip i).latch then s1.tripLatch i else s1)

/-- BLANK_CLOSE (R258): the window closes; an input still active latches at that moment. -/
def State.blankCloseAct (s : State) (i : Nat) : State :=
  match (s.trip i).blankEnd with
  | none => s
  | some e =>
    let k := e - s.sys.clk
    if (s.running && decide (k < s.toBoundary)) || decide (k = 0) then
      let s1 := (s.pass k).updTrip i (fun t => { t with blankEnd := none })
      if (s.trip i).active && s.flag (Reg.TRIPi_CFG i) 0 && !(s.trip i).latch then s1.tripLatch i else s1
    else s

/-- BLANK_CLOSE (R258). -/
def execBlankClose (i : Fin 8) (s : State) : Host.Outcome State Fault Refusal := s.live (s.blankCloseAct i)

/-- TRIP_CLR (R257). -/
def execTripClr (mask : BitVec 8) (s : State) : Host.Outcome State Fault Refusal := s.live (s.tripClrAct mask.toNat)

end Sys2Proof.Machine
end

