-- ==== Sys2Proof/Machine/Acc.lean ====
section
/-! DEFINITION. Accessors of the blocks that registers show: ports, lanes and associations, submodules and records,
filter channels, slots, metering registers, safety inputs, the pair. -/
namespace Sys2Proof.Machine

/-- Port `n`. -/
def State.port (s : State) (n : Nat) : Port := s.lnk.ports.getD n Port.fresh0

/-- Lane `n`. -/
def State.lane (s : State) (n : Nat) : Lane := s.lnk.lanes.getD n Lane.fresh

/-- Association `n`. -/
def State.assoc (s : State) (n : Nat) : Assoc := s.lnk.assocs.getD n Assoc.fresh

/-- Port `n` is in LINK_UP. -/
def State.linkUp (s : State) (n : Nat) : Bool := decide ((s.port n).ts = .linkUp)

/-- PHY_STAT.TSTATE codes (R176). -/
def TState.code : TState → Nat
  | .off => 0 | .detect => 1 | .lock => 2 | .adapt => 3 | .confirm => 4 | .linkUp => 5 | .fallback => 6 | .failed => 7

/-- PHY_TXEQ's layout. -/
def Taps.encode (t : Taps) : Word := word (t.c1 + t.c2 * 2 ^ 8 + t.c3 * 2 ^ 16)

/-- The primary port of the association a lane belongs to (R209): its own number, or PRIM of an alternate. -/
def State.primaryOf (s : State) (n : Nat) : Option Nat :=
  match s.fld (Reg.LNK_CFG n) 0 2 with
  | 1 => some n
  | 2 => some (s.fld (Reg.LNK_CFG n) 8 5)
  | _ => none

/-- The primary lanes: the configured associations (R349: LNK_CFG.ROLE = 1). -/
def State.primaries (s : State) : List Nat := (upto 20).filter (fun n => s.fld (Reg.LNK_CFG n) 0 2 == 1)

/-- The lanes of an association, the primary first. -/
def State.lanesOf (s : State) (p : Nat) : List Nat :=
  p :: (upto 20).filter (fun n => s.fld (Reg.LNK_CFG n) 0 2 == 2 && s.fld (Reg.LNK_CFG n) 8 5 == p)

/-- LNK_MAP of a primary: first submodule and number of slots (R192). -/
def State.mapBase (s : State) (p : Nat) : Nat := s.fld (Reg.LNK_MAP p) 0 12

/-- LNK_MAP.NSLOT of a primary. -/
def State.mapN (s : State) (p : Nat) : Nat := s.fld (Reg.LNK_MAP p) 16 9

/-- The lane is the route of its association (R209). -/
def State.isRoute (s : State) (n : Nat) : Bool :=
  match s.primaryOf n with
  | some p => decide ((s.assoc p).route = some n)
  | none => false

/-- Module receive credits of a VC: LNK_RXBUF of the lane that carries the route, of the primary without one; the pair link takes
the default. -/
def State.rxBuf (s : State) (a v : Nat) : Nat :=
  if a = 20 then (if v = 2 then 16 else 64) else s.fld (Reg.LNK_RXBUF ((s.assoc a).route.getD a)) (8 * v) 8

/-- LIMIT of a receiver (R204): USED and the free buffer; accepted blocks are delivered onward at once. -/
def State.rxLimit (s : State) (a v : Nat) : BitVec 16 :=
  (s.assoc a).used.getD v 0 + BitVec.ofNat 16 (s.rxBuf a v)

/-- A submodule of which nothing is known. -/
def Sm.fresh : Sm :=
  { set := 0, acc := 0, signed := false, foreign := false, repl := 0, newId := 0, nep := 0, wearReq := false,
    lam := 0, lamNew := 0, rx := false, got := none, resp := none, v := 0, vh := 0, miss := 0, fail := 0, usable := false,
    ready := false, pci := false, iso := true, inc := false, joining := false, retire := 0, words := [],
    identAt := none, proofOk := false }

/-- Submodule `n`. -/
def State.sm (s : State) (n : Nat) : Sm := mget Sm.fresh s.arm.sms n

/-- No record (R218). -/
def Rec.empty : Rec :=
  { id := 0, typ := 0, state := 0, limset := 0, stale := false, missed := false, last := 0, nsw := 0, nth := 0,
    qah := 0, hrs := 0 }

/-- The endpoint address of R10: submodule number and endpoint index. -/
def epAddr (smn ep : Nat) : Nat := smn * 8192 + ep

/-- The record at an address as the host sees it (R218). -/
def State.recAt (s : State) (a : Nat) : Rec := mget Rec.empty s.ldg.recs a

/-- The 32-byte image of a record (R219). -/
def Rec.bytes (r : Rec) : List Byte :=
  leBytes 8 r.id.toNat ++ leBytes 1 r.typ.toNat ++ leBytes 1 (r.state + r.limset * 16)
    ++ leBytes 2 (b2n r.stale + 2 * b2n r.missed) ++ leBytes 4 r.last.toNat ++ leBytes 5 r.nsw ++ leBytes 3 r.nth
    ++ leBytes 4 r.qah ++ leBytes 4 r.hrs

/-- The pages of 4 KiB, 128 records each, that hold a live record. -/
def imgPages (recs : List (Nat × Rec)) : List Nat :=
  recs.foldr (fun p l => if l.contains (p.1 / 128) then l else p.1 / 128 :: l) []

/-- The CRC-32 of every page of an image, the records where R218 places them (R236, log entry 100). -/
def imgCrcs (recs : List (Nat × Rec)) : List (Nat × Word) :=
  (imgPages recs).map (fun g => (g, crc32 ((upto 128).flatMap (fun i => (mget Rec.empty recs (128 * g + i)).bytes))))

/-- An image written whole (R236). -/
def LdgImage.sealed (i : LdgImage) : LdgImage := { i with crcs := imgCrcs i.recs }

/-- Every page of an image slot holds (R236). -/
def LdgImage.valid (i : LdgImage) : Bool := decide (i.crcs = imgCrcs i.recs)

/-- The unit is ACTIVE with a qualified standby (R235, R343). -/
def State.mirrored (s : State) : Bool :=
  s.isActive && s.paired && (match s.pair.hb with | some h => h.qual | none => false) && !s.pair.isolated && decide (s.pair.ackBlock = 0)

/-- Channel `n`. -/
def State.chan (s : State) (n : Nat) : Chan := s.flt.getD n Chan.fresh

/-- FLTn_CFG. -/
def State.chCfg (s : State) (n : Nat) : Word := s.reg (Reg.FLTn_CFG n)

/-- FLTn_CFG.EN. -/
def State.chEn (s : State) (n : Nat) : Bool := bit (s.chCfg n) 0

/-- FLTn_CFG.ROLE: 0 general, 1 control, 2 metering. -/
def State.chRole (s : State) (n : Nat) : Nat := bits (s.chCfg n) 10 2

/-- FLTn_CFG.SRC. -/
def State.chSrc (s : State) (n : Nat) : Nat := bits (s.chCfg n) 16 5

/-- FLTn_CFG.CHAIN. -/
def State.chChain (s : State) (n : Nat) : Bool := bit (s.chCfg n) 12

/-- Taps L of the responses (R284). -/
def tapsOf : List Nat :=
  [1, 7, 11, 19, 31, 47, 63, 47, 63, 384, 103, 51, 128, 256, 384, 256, 256, 256, 256, 256, 256, 193, 256, 67]

/-- Coefficient `t` of response `i`, in units of 2^-22 (R284): the pass-through and the one-row mean follow from their
rows; the others are not listed (log entry 9). Taps at and beyond L read 0. -/
def coefOf (i t : Nat) : Int :=
  if t ≥ tapsOf.getD i 0 then 0
  else if i = 0 then 2 ^ 22
  else if i = 22 then 2 ^ 14
  else (BitVec.ofInt 24 (Config.coef i t)).toInt

/-- Whether a channel is angle-locked (R279), along its chain. -/
def State.alockGo (s : State) : Nat → Nat → Bool
  | 0, _ => false
  | k + 1, n => if s.chChain n then s.alockGo k (s.chSrc n) else s.flag Reg.ADC_ANGLE (s.chSrc n / 8)

/-- A channel is angle-locked (R279). -/
def State.alock (s : State) (n : Nat) : Bool := s.alockGo 33 n

/-- The input at the head of a chain. -/
def State.headGo (s : State) : Nat → Nat → Nat
  | 0, n => s.chSrc n
  | k + 1, n => if s.chChain n then s.headGo k (s.chSrc n) else s.chSrc n

/-- The spare core serves group `g` (R273). -/
def State.spareServes (s : State) (g : Nat) : Bool := decide (s.adc.spare = .serving g) || decide (s.adc.spare = .release g)

/-- A group's inputs are unavailable (R272, R273): its core faulted and not replaced, or the spare calibrating for
it. -/
def State.groupDown (s : State) (g : Nat) : Bool :=
  if s.spareServes g then s.flag Reg.ADC_STAT 9
  else s.flag Reg.ADC_STAT g || (match s.adc.spare with | .cal h _ => h == g | .calDone h => h == g | _ => false)

/-- Trigger unit `u`. -/
def State.unitOf (s : State) (u : Nat) : TrgUnit := s.acq.units.getD u TrgUnit.fresh

/-- Slot `k`. -/
def State.slotK (s : State) (k : Nat) : AcqSlot := s.acq.slots.getD k AcqSlot.fresh

/-- SLOTk_CFG.KIND (R295). -/
def State.slotKind (s : State) (k : Nat) : Nat := s.fld (Reg.SLOTk_CFG k) 1 2

/-- SLOTk_CFG.NMEM. -/
def State.slotNmem (s : State) (k : Nat) : Nat := s.fld (Reg.SLOTk_CFG k) 16 5

/-- PRE_SET (R296). -/
def State.preSet (s : State) (k : Nat) : Nat :=
  s.regN (Reg.SLOTk_NFR k) * s.fld (Reg.SLOTk_CFG k) 4 7 / 100

/-- The state SLOTk_STAT shows: FILL and READY by the frames held; a remote slot is READY, its submodule keeping the
samples before the trigger (R296, R304). -/
def State.slotState (s : State) (k : Nat) : Nat :=
  let x := s.slotK k
  if x.st = 1 then (if s.slotKind k = 2 ∨ x.held ≥ s.preSet k then 2 else 1) else x.st

/-- Unread complete records of a slot. -/
def State.unread (s : State) (k : Nat) : List AcqRec := s.acq.done.filter (fun r => decide (r.slot = k))

/-- Register of set `r`, quantity `q`. -/
def MtrCore.reg (c : MtrCore) (r q : Nat) : MtrReg := c.regs.getD (6 * r + q) MtrReg.zero

/-- The first 32 bits of a hash as a register shows them (R329). -/
def first32 (l : List Byte) : Word := word (ofBe (l.take 4))

/-- The registers of the safety parameter set in ascending address (R388). -/
def spsAddrs : List Nat :=
  (upto 11).map (fun k => 0xC0100 + 4 * k) ++ (upto 8).map (fun k => Reg.SPS_SINk k)
    ++ (upto 4).map (fun j => Reg.SPS_SOUTj j)

/-- SAF_CHK: the CRC-32 over the set, each register least significant byte first (R388). -/
def State.safChk (s : State) : Word := crc32 (spsAddrs.flatMap (fun a => leBytes 4 (s.regN a)))

/-- One safety input. -/
def State.sin (s : State) (k : Nat) : SafIn := s.saf.sins.getD k ⟨true, true, false, none, false, false, false, none⟩

/-- Channel A at rest: high (R384). -/
def State.restA (s : State) (k : Nat) : Bool := (s.sin k).a

/-- Channel B at rest: high, or low when antivalent (R384). -/
def State.restB (s : State) (k : Nat) : Bool := (s.sin k).b != s.flag (Reg.SPS_SINk k) 1

/-- Both channels at rest. -/
def State.atRest (s : State) (k : Nat) : Bool := s.restA k && s.restB k

/-- SPS_SINk.EN and FUNC. -/
def State.sinEn (s : State) (k : Nat) : Bool := s.flag (Reg.SPS_SINk k) 0

/-- The function of a safety input: 0 SPB, 1 SS-R, 2 RESET. -/
def State.sinFunc (s : State) (k : Nat) : Nat := s.fld (Reg.SPS_SINk k) 2 2

/-- t_disc in ms (R385). -/
def State.sinDisc (s : State) (k : Nat) : Nat := s.fld (Reg.SPS_SINk k) 4 9

/-- SAF acts: ARCH is XCHK or DIVERSE (R367). -/
def State.safActs (s : State) : Bool := decide (s.saf.arch = .xchk) || decide (s.saf.arch = .diverse)

/-- The loop is energised while both switches are closed (R372). -/
def State.loopOn (s : State) : Bool := s.saf.swA && s.saf.swH

/-- A path of the pair link is in LINK_UP. -/
def State.pathUp (s : State) (b : Bool) : Bool := s.linkUp (20 + b2n b)

/-- Routes that are qualified (R341): one bit per association, by the port of its primary. -/
def State.reachBits (s : State) : Nat :=
  s.primaries.foldl (fun m p => match (s.assoc p).route with
    | some n => if (s.lane n).qual then m + 2 ^ p else m
    | none => m) 0

/-- Associations linked in the sense of R22. -/
def State.linkedBits (s : State) : Nat :=
  s.primaries.foldl (fun m p =>
    if (s.lanesOf p).any (fun n => s.linkUp n && (match (s.lane n).decl with
        | some d => decide (d.conc = s.fld (Reg.LNK_CFG n) 16 16)
        | none => false)) then m + 2 ^ p else m) 0

/-- Whether a heartbeat is current on a path (R348). -/
def State.hbCurrent (s : State) (b : Bool) : Bool :=
  match s.pair.paths.getD (b2n b) ⟨none, true, none⟩ with
  | ⟨some t, false, _⟩ => decide (s.sys.clk < t + 2400)
  | _ => false

/-- HO_OK (R347): QUAL, and the own reach includes every association the active's REACH shows. -/
def State.hoOk (s : State) : Bool :=
  s.pair.qual && (upto 20).all (fun i => !s.pair.preach.testBit i || s.reachBits.testBit i)

end Sys2Proof.Machine
end

