-- ==== Sys2Proof/Machine/Read.lean ====
section
/-! DEFINITION. What a read of a register returns (R15): the register file with the live fields of each block. -/
namespace Sys2Proof.Machine

/-- A number below 2^32 of Booleans, bit 0 first. -/
def bitsOf (l : List Bool) : Nat := l.foldr (fun b acc => b2n b + 2 * acc) 0

/-- The upper half of a 64-bit value as a register shows it. -/
def hi32 (n : Nat) : Word := word (n / 2 ^ 32)

/-! ### System, commands, event log, mode (R35, R114, R413, R428) -/

/-- CMD_STAT, CMD_PENDING and CMD_SESSn (R413); a session counts as open once FINISH has been accepted. -/
def State.readCmd (s : State) (a : Nat) : Word :=
  let c := s.cmd.core
  if a = Reg.CMD_STAT then word ((c.sess.filter (·.fin)).length + c.modeOwn * 2 ^ 8 + c.setOwn * 2 ^ 12)
  else if a = Reg.CMD_PENDING then word (c.acc.length + s.cmd.own.length + b2n s.saf.proof.isSome)
  else
    let n := (a - 0x180) / 4 + 1
    match c.sess.find? (fun x => x.num == n && x.fin) with
    | some x =>
      let port := match x.port with | .h0 => 0 | .h1 => 1 | .s0 => 2
      let pend := ((c.acc ++ s.cmd.own).filter (fun q => q.q.session.val == n)).length +
        b2n (match s.saf.proof with | some p => p.cmd.q.session.val == n | none => false)
      word (1 + port * 2 + x.roles * 2 ^ 8 + min 63 pend * 2 ^ 16 + min 31 x.held.length * 2 ^ 22)
    | none => 0

/-- PIPE_STAT (R35). -/
def State.readPipe (s : State) : Word :=
  word (b2n s.laneMode + 2 * b2n s.shadowing + 4 * b2n s.pipe.lateLast + 8 * b2n (s.flag Reg.PIPE_STAT 3)
    + 16 * b2n s.pipe.shadowLate + s.step10 * 2 ^ 16)

/-- MODE_STAT (R114). Until INIT ends the unit has no role of R359, and the field reads its reset value (log entry 11). -/
def State.readMode (s : State) : Word :=
  word (s.mode.code + (if s.mode = Mode.init then 0 else s.role.code) * 2 ^ 4 + (match s.mo.origin with | some o => o.code | none => 0) * 2 ^ 8 +
    2 ^ 12 * bitsOf [s.arm.prechOk, s.saf.shQual, s.mo.syncOk, s.mo.dead, s.mo.live, s.mo.pause, s.mo.stall, s.mo.ssr])

/-- The live registers of the system window, by offset. -/
def State.readSys (s : State) (a : Nat) : Option Word :=
  if a < 0x140 then
    if a = Reg.SYS_ORDER then some s.sys.order
    else if a = Reg.SYS_SERIAL_LO then some (s.sys.serial.truncate 32)
    else if a = Reg.SYS_SERIAL_HI then some ((s.sys.serial >>> 32).truncate 32)
    else if a = Reg.SYS_FWVER then some s.sys.fwver
    else if a = Reg.SYS_HWREV then some s.sys.hwrev
    else if a = Reg.SYS_IMAGE then some (word (b2n s.sec.running))
    else none
  else if a = Reg.CMD_STAT ∨ a = Reg.CMD_PENDING ∨ (0x180 ≤ a ∧ a < 0x1A0) then some (s.readCmd a)
  else if 0x1C0 ≤ a ∧ a < 0x1DC then
    some (match (a - 0x1C0) / 4 with
      | 0 => word s.sys.ev.next
      | 1 => hi32 s.sys.ev.next
      | 2 => word s.sys.ev.oldest
      | 3 => hi32 s.sys.ev.oldest
      | 4 => s.sys.ev.run
      | 5 => word s.sys.ev.staged.length
      | _ => s.sys.ev.lost)
  else if a = Reg.PIPE_STAT then some s.readPipe
  else if a = Reg.PIPE_MARGIN then some (BitVec.ofInt 32 s.pipe.margin)
  else if a = Reg.MODE_STAT then some s.readMode
  else if a = Reg.MODE_BRK then some (word (b2n s.mo.conv + 2 * b2n s.mo.tie))
  else if a = Reg.MODE_FBUS then some s.mo.fbus
  else if a = Reg.MODE_CO_PAUSED then some (word (s.mo.tPause / 10 ^ 12))
  else none

/-! ### Angle, engine, arms (R60, R84, R134, R161) -/

/-- ANG_STAT.STATE codes (R60). -/
def AngState.code : AngState → Nat
  | .stopped => 0 | .free => 1 | .acquire => 2 | .track => 3 | .locked => 4 | .hold => 5

/-- The live registers of the ANG window (R46, R60). -/
def State.readAng (s : State) (a : Nat) : Option Word :=
  match (a - 0x10000) / 4 with
  | 1 => some (word (s.ang.st.code + 8 * b2n s.ang.path + 16 * b2n s.ang.backup))
  | 2 => some s.theta
  | 3 => some (s.ang.latchRow.truncate 32)
  | 4 => some ((s.ang.latchRow >>> 32).truncate 32)
  | 5 => some s.ang.rate
  | 10 => some (word s.ang.boundTai)
  | 11 => some (hi32 s.ang.boundTai)
  | 12 => some (word s.ang.latchTai)
  | 13 => some (hi32 s.ang.latchTai)
  | 14 => some (s.ang.castonRow.truncate 32)
  | 15 => some ((s.ang.castonRow >>> 32).truncate 32)
  | 18 => some (BitVec.ofInt 32 s.ang.trim)
  | _ => none

/-- RT_STAT (R134). -/
def State.readRt (s : State) : Word :=
  let set_ := s.rtSet
  word (bitsOf [s.rt.lv.run, s.rt.hv.run, s.rt.f.run, s.envOut, s.rt.pjRun, s.rt.recRun, decide (set_ = some 1), set_.isSome] +
    2 ^ 8 * bitsOf (s.rt.restr.map (·.isSome)) + 2 ^ 14 * b2n s.rt.lastNeg + 2 ^ 15 * bitsOf (s.rt.lineTrip.map (·.isSome)))

/-- The live registers of the GFE window (R84, R134). -/
def State.readGfe (s : State) (a : Nat) : Option Word :=
  let o := a - 0x20000
  if 0x1000 ≤ o ∧ o < 0x1100 then some (s.gfe.sig.getD ((o - 0x1000) / 4) 0)
  else if a = Reg.GFE_STAT then some s.gfe.stat
  else if a = Reg.GFE_SIG_STEP then some s.gfe.sigStep
  else if a = Reg.GFE_P_SET then some (toPu24 s.gfe.pr)
  else if a = Reg.GFE_Q_SET then some (toPu24 s.gfe.qr)
  else if a = Reg.GFE_V_SET then some (toPu24 s.gfe.vr)
  else if a = Reg.GFE_F_SET then some (satWord (divRound (s.gfe.fr * Int.ofNat s.fnom) (2 ^ 40)))
  else if a = Reg.RT_STAT then some s.readRt
  else if a = Reg.RT_COAST_MS then some (word (s.rt.coastT / 10 ^ 12))
  else if a = Reg.RT_DELTA_REJ then some s.rt.deltaRej
  else if a = Reg.RT_KZ0 then some s.rt.kz0
  else if a = Reg.RT_EXC_V_MS then
    some (word ((if s.rt.lv.run then s.rt.lv.t else if s.rt.hv.run then s.rt.hv.t else 0) / 10 ^ 12))
  else if a = Reg.RT_EXC_F_MS then some (word ((if s.rt.f.run then s.rt.f.t else 0) / 10 ^ 12))
  else none

/-- ARM_STAT and ARM_SMn (R161). -/
def State.readArm (s : State) (a : Nat) : Option Word :=
  if a = Reg.ARM_STAT then
    some (word (bitsOf (s.arm.short.take 6) + 2 ^ 8 * bitsOf (s.arm.noSpare.take 6) + 2 ^ 16 * b2n s.arm.prechOk))
  else if 0x34000 ≤ a ∧ a < 0x38000 then
    let m := s.sm ((a - 0x34000) / 4)
    some (word (m.set + 2 ^ 3 * bitsOf [m.usable, m.ready, m.pci] + 2 ^ 6 * min 15 m.miss + 2 ^ 16 * m.lam))
  else none

/-! ### Lanes and ledger (R187, R217, R240) -/

/-- PHY_STAT of a port (R187). The cages are read once the unit has started (log entry 11); HI_BER stands for 125 µs after a
report of it (R168, log entry 83). -/
def State.readPhy (s : State) (n : Nat) : Word :=
  let p := s.port n
  word (p.ts.code + 2 ^ 4 * bitsOf [p.los, p.cdr, p.blockLock, p.hiBer && decide (s.sys.clk < p.hiBerClk + 50000), s.pwr.booted && !p.present, p.linMode, p.rxInv, p.txFault, p.adapted])

/-- The live link registers of a lane (R217), by offset in its port's window. -/
def State.readLink (s : State) (n o : Nat) : Option Word :=
  let p := (s.primaryOf n).getD n
  let x := s.assoc p
  let l := s.lane n
  let known := (s.primaryOf n).isSome
  match o / 4 with
  | 2 => some (word (bitsOf [l.qual, s.isRoute n, known && (x.audit || x.auditRx), l.decl.isSome, l.singleHomed]))
  | 8 => some (match l.wit with
      | some w => word (bitsOf [w.presA, w.presB, w.owner, w.valid] + 2 ^ 4 * w.win + 2 ^ 16 * w.epoch.toNat)
      | none => 0)
  | 15 => some (if known then word (x.next.toNat + 2 ^ 8 * (match x.kept with | b :: _ => b.seq.toNat | [] => x.next.toNat)
      + 2 ^ 16 * x.expect.toNat) else 0)
  | k =>
    if 18 ≤ k ∧ k < 24 ∧ known then
      let v := (k - 18) / 2
      some (if k % 2 = 0 then word ((x.consumed.getD v 0).toNat + 2 ^ 16 * (x.limit.getD v 0).toNat)
        else word ((x.used.getD v 0).toNat + 2 ^ 16 * (x.limitTx.getD v 0).toNat))
    else none

/-- The live registers of the LNH window: ports, then the common ones. -/
def State.readLnh (s : State) (a : Nat) : Option Word :=
  let o := a - 0x40000
  if o < 0x5800 then
    let n := o / 0x400
    let r := o % 0x400
    if r = 0x304 then some (s.readPhy n)
    else if r = 0x30C then some (s.port n).own.encode
    else if r = 0x310 then some (s.port n).far.encode
    else if r = 0x314 then some (s.port n).eye
    else if n < 20 ∧ r < 0x100 then s.readLink n r
    else none
  else if a = Reg.LNH_STAT then some (word (bitsOf (s.lnk.lanes.map (·.qual))))
  else if a = Reg.LNH_EPOCH then some (word s.pair.epoch.toNat)
  else none

/-- One word of a record's image (R219). -/
def Rec.word (r : Rec) (w : Nat) : Word := Sys2Proof.word (ofLe ((r.bytes.drop (4 * w)).take 4))

/-- LDG_STAT (R240). -/
def State.readLdgStat (s : State) : Word :=
  word (bitsOf [s.flag Reg.LDG_CFG 2 && s.isActive && s.laneMode, s.ldg.imgBusy.isSome, s.ldg.recs.any (fun p => p.2.stale), s.mirrored] +
    2 ^ 8 * min 255 (s.arm.sms.filter (fun p => p.2.wearReq)).length)

/-- The live registers of the LDG window (R240). -/
def State.readLdg (s : State) (a : Nat) : Option Word :=
  let o := a - 0x50000
  if o = 4 then some s.readLdgStat
  else if o = 0x14 then some (word (s.ldg.recs.filter (fun p => p.2.state != 0)).length)
  else if o = 0x34 then some (word s.ldg.archive.length)
  else if 0x40 ≤ o ∧ o < 0x60 then some ((s.recAt (s.fld Reg.LDG_ADDR 0 25)).word ((o - 0x40) / 4))
  else if 0x4000 ≤ o ∧ o < 0x8000 then
    let n := (o - 0x4000) / 4
    let m := s.sm n
    let stale := s.ldg.recs.any (fun p => p.1 / 8192 == n && p.2.stale)
    some (word (m.acc + 4 * b2n m.signed + 8 * b2n m.foreign + 16 * m.repl + 64 * b2n stale + 128 * b2n m.wearReq
      + 2 ^ 8 * m.nep))
  else if 0x8000 ≤ o ∧ o < 0xA000 then
    let k := (o - 0x8000) / 32
    some (if k < 150 then (mget Rec.ofModule s.ldg.own k).word ((o % 32) / 4) else 0)
  else none

/-! ### PWM, converters, filters, acquisition (R261, R276, R290, R309, R310) -/

/-- PWMn_STAT (R261). -/
def State.readPwmStat (s : State) (n : Nat) : Word :=
  let c := s.ctr n
  word (c.ost + 2 ^ 2 * bitsOf [c.pend, c.forced, c.fTrip, c.fHwc, c.fSaf, c.fMode, c.fRole, c.fDis,
    decide (c.cmp ≥ c.per) && decide (c.ost = 0)])

/-- The live registers of the PWM window (R261). -/
def State.readPwm (s : State) (a : Nat) : Option Word :=
  let o := a - 0x60000
  if o < 0x100 then
    match o / 4 with
    | 4 => some (word (b2n (s.pwm.ctrs.any (·.pend))))
    | 5 => some (word (bitsOf (s.pwm.ctrs.map (·.pend))))
    | 7 => some (word (bitsOf (s.pwm.ctrs.map (·.forced))))
    | 8 => some (word (bitsOf (s.pwm.trips.map (·.latch)) + 2 ^ 8 * bitsOf (s.pwm.trips.map (·.active))
        + 2 ^ 16 * bitsOf ((upto 8).map s.blanked)))
    | _ => none
  else if o < 0x700 then
    let n := (o - 0x100) / 0x40
    match (o % 0x40) / 4 with
    | 6 => some (word (s.ctr n).per)
    | 7 => some (word (s.ctr n).cmp)
    | 8 => some (word (s.ctr n).xc0)
    | 9 => some (word (s.ctr n).xc1)
    | 10 => some (word (s.count n % 2 ^ 25))
    | 14 => some (s.readPwmStat n)
    | _ => none
  else none

/-- The live registers of the FLT window (R290): FLTn_STAT and the coefficients. -/
def State.readFlt (s : State) (a : Nat) : Option Word :=
  let o := a - 0x80000
  if 0x100 ≤ o ∧ o < 0x300 ∧ o % 16 = 0xC then
    let n := (o - 0x100) / 16
    let c := s.chan n
    some (word (min 511 c.ucnt + 2 ^ 9 * min 511 c.ocnt + 2 ^ 18 * b2n (s.chEn n && s.alock n) + 2 ^ 19 * b2n (s.groupDown (s.headGo 33 n / 8))))
  else if 0x4000 ≤ o ∧ o < 0xD000 ∧ o % 4 = 0 then
    some (BitVec.ofInt 32 (coefOf ((o - 0x4000) / 0x600) ((o - 0x4000) % 0x600 / 4)))
  else none

/-- The live registers of the ACQ window (R309). -/
def State.readAcq (s : State) (a : Nat) : Option Word :=
  let o := a - 0x90000
  let h := s.acq.mfifo.head?.getD ⟨0, 0, 0, 0⟩
  if o < 0x40 then
    match o / 4 with
    | 1 => some (word (bitsOf ((upto 16).map (fun k => !(s.unread k).isEmpty))))
    | 4 => some (word s.acq.mfifo.length)
    | 6 => some (word (h.unit + h.slot * 2 ^ 8))
    | 7 => some (word h.pos)
    | 8 => some (word (h.pos / 2 ^ 32))
    | 9 => some (word h.tai)
    | 10 => some (hi32 h.tai)
    | _ => none
  else if o < 0xC0 ∧ o % 16 = 0xC then
    let u := s.unitOf ((o - 0x40) / 16)
    some (word (bitsOf [u.armed, u.primR, u.primF] + 2 ^ 16 * bits (s.reg a) 16 16))
  else if 0x100 ≤ o ∧ o < 0x500 ∧ o % 0x40 = 0x20 then
    let k := (o - 0x100) / 0x40
    some (word (s.slotState k + 2 ^ 8 * min (2 ^ 24 - 1) (s.slotK k).held))
  else if 0x100 ≤ o ∧ o < 0x500 ∧ o % 0x40 = 0x2C then some (word (s.unread ((o - 0x100) / 0x40)).length)
  else none

/-- The snapshot windows (R310): 0 until the selected buffer has been filled. -/
def State.readSnap (s : State) (a : Nat) : Option Word :=
  let o := a - 0x120000
  let sel := s.fld Reg.SNAP_SEL 0 2
  let b : Option Snapshot := if s.snap.busy = some sel then none else s.snap.bufs.getD sel none
  if o = 4 then some (word (s.snap.newest + 4 * b2n s.snap.busy.isSome))
  else if o = 8 then some (match s.snap.bufs.getD s.snap.newest none with
    | some x => x.seq
    | none => 0)
  else if o < 0x100 then none
  else match b with
    | none => some 0
    | some x =>
      if o = 0x100 then some x.seq
      else if o = 0x104 then some (word x.src)
      else if o = 0x108 then some (word x.late)
      else if o = 0x10C then some (word x.tai)
      else if o = 0x110 then some (hi32 x.tai)
      else match x.sets.find? (fun p => p.1 == o) with
        | some p => some p.2
        | none => some 0

/-! ### Metering and the pair (R335, R364) -/

/-- A register of the metering windows (R335): count, residue, 0. -/
def mtrWord (count res j : Nat) : Word :=
  match j with
  | 0 => word count
  | 1 => hi32 count
  | 2 => word res
  | _ => 0

/-- The live registers of the MTR window (R335). -/
def State.readMtr (s : State) (a : Nat) : Option Word :=
  let o := a - 0xA0000
  let c := s.mtr.core
  if o < 0xC0 then
    match o / 4 with
    | 0 => some (word (bitsOf [s.mtr.sealed, s.mtr.broken, !bit s.sys.order 1, s.flag Reg.CAL_STAT 3,
        s.flag Reg.MTR_STAT 4, s.mtr.mirror]))
    | 9 => some s.mtr.audit
    | 10 => some (first32 s.mtr.digest)
    | 11 => some (word (match c.opn with | some i => i.no | none => 0))
    | 12 => some (word (match c.opn with | some i => i.tariff | none => 1))
    | 13 => some s.mtr.substCnt
    | 14 => some s.mtr.pairSubst
    | 15 => some (word ((c.nrec - 1) % 40960))
    | 16 => some (word c.plost)
    | 17 => some (word ((s.mtr.audit.toNat - 1) % 1024))
    | _ => none
  else if o < 0xF0 then some (word (ofBe ((s.mtr.fwhash.drop (o - 0xC0)).take 4)))
  else if 0x1000 ≤ o ∧ o < 0x1480 then
    let x := c.reg ((o - 0x1000) / 0x80) ((o % 0x80) / 16)
    if (o % 0x80) / 16 < 6 then some (mtrWord x.count x.res (o % 16 / 4)) else none
  else if 0x1800 ≤ o ∧ o < 0x1860 then
    let q := (o - 0x1800) / 16
    let x := c.reg 0 q
    some (match c.opn with
      | some i => mtrWord (x.count - i.base.getD q 0) x.res (o % 16 / 4)
      | none => 0)
  else none

/-- Heartbeat periods missed in a row on a path (R364): 2.000 µs are 800 clocks. -/
def State.hbMissed (s : State) (b : Bool) : Nat :=
  match s.pair.paths.getD (b2n b) ⟨none, true, none⟩ with
  | ⟨some t, _, _⟩ => min 255 ((s.sys.clk - t) / 800)
  | ⟨none, _, _⟩ => if s.paired then 255 else 0

/-- PAIR_STAT (R364). -/
def State.readPairStat (s : State) : Word :=
  word (s.role.code + 2 ^ 2 * bitsOf [s.pair.qual, s.hoOk, !s.pathUp false && s.pathUp true, s.hbCurrent false,
    s.hbCurrent true, s.pair.isolated, s.pair.hoCommit.isSome || (match s.pair.ho with | some h => h.acked | none => false),
    (match s.pair.hb with | some h => h.qual | none => false)])

/-- The live registers of the PAIR window (R364). -/
def State.readPair (s : State) (a : Nat) : Option Word :=
  match (a - 0xB0000) / 4 with
  | 1 => some s.readPairStat
  | 3 => some (word (s.pair.epoch.toNat + 2 ^ 16 * (match s.pair.hb with | some h => h.epoch.toNat | none => 0)))
  | 5 => some (word (s.hbMissed false + 2 ^ 8 * s.hbMissed true))
  | 7 => some (word s.reachBits)
  | 8 => some (word s.pair.preach)
  | 12 => some (word s.pair.qsteps)
  | 25 => some (word s.pair.plinked)
  | _ => none

/-! ### Safety, memory, clocks, supply, calendar, security (R393, R448, R449, R469, R470, R480) -/

/-- SAF_STATE.ARCH codes (R367). -/
def Arch.code : Arch → Nat
  | .start => 0 | .xchk => 1 | .diverse => 2 | .fault => 3

/-- The live registers of the SAF window (R393). -/
def State.readSaf (s : State) (a : Nat) : Option Word :=
  match (a - 0xC0000) / 4 with
  | 0 => some (word (s.saf.arch.code + 2 ^ 2 * bitsOf [s.saf.spb, s.saf.ssr, s.loopOn, decide (s.saf.slfT > 0),
      decide (s.saf.slaT > 0), decide (s.saf.sdpT > 0), s.saf.confirmed,
      decide (s.mode ≠ Mode.init) && !s.isActive]))
  | 1 => some (if s.saf.arch = Arch.start then 0 else word (bitsOf ((upto 8).map s.restA) + 2 ^ 8 * bitsOf ((upto 8).map s.restB) +
      2 ^ 16 * bitsOf ((upto 8).map (fun k => !s.atRest k)) + 2 ^ 24 * bitsOf (s.saf.sins.map (·.fault))))
  | 2 => some (word (bitsOf [s.loopOn, s.saf.fbHigh, s.saf.fbRev, s.saf.stuck, s.saf.swA, s.saf.swH]))
  | 3 => some (word (bitsOf [s.saf.shQual, s.saf.spaOk, s.saf.spbOk, s.saf.shTest] + 2 ^ 16 * s.saf.agree))
  | 6 => some (if s.saf.arch = Arch.start then 0 else s.safChk)
  | 7 => some s.saf.chkConf
  | 8 => some (word s.saf.sw1.toNat)
  | _ => none

/-- MEM_BANKp.STATE (R434): a retired bank is OFF, the spare being copied to is ON, free spares and all banks in
retention are RETV, the others RET between accesses. -/
def State.bankState (s : State) (p : Nat) : Nat :=
  let b := s.mem.banks.getD p ⟨false, false, true, 0, false⟩
  if b.retired then 3
  else if (match s.mem.copy with | some c => c.2 == p | none => false) then 0
  else if !b.inService || s.mem.retv then 2 else 1

/-- The live registers of the MEM window (R448). -/
def State.readMem (s : State) (a : Nat) : Option Word :=
  let o := a - 0xD0000
  let spare (p : Nat) : Bank := s.mem.banks.getD p ⟨false, false, true, 0, false⟩
  if o < 0x100 then
    match o / 4 with
    | 1 =>
      let free := ((upto 4).filter (fun k => !(spare (64 + k)).inService && !(spare (64 + k)).retired)).length
      some (word (bitsOf [s.mem.slice.isSome, s.mem.copy.isSome, s.mem.retv] + 2 ^ 4 * free))
    | 7 => some (word s.mem.scrubPos)
    | 10 => some (word s.mem.mtPos)
    | 11 => some (word s.mem.mtPass)
    | 17 => some (word s.mem.emmcLife)
    | 18 => some (word (bitsOf ((upto 4).map (fun k => (spare (64 + k)).inService)) +
        2 ^ 8 * (s.mem.banks.filter (·.retired)).length + 2 ^ 16 * min 255 s.mem.remaps))
    | _ => none
  else if o < 0x200 then some (word (s.mem.remap.getD ((o - 0x100) / 4) 0))
  else if o < 0x310 then
    let p := (o - 0x200) / 4
    let b := spare p
    some (word (s.bankState p + 4 * b2n b.inService + 8 * b2n b.retired + 2 ^ 8 * min 255 b.ce))
  else none

/-- A PLL is in lock (R449). -/
def State.pll (s : State) (n : Nat) : Bool := s.clk.lock.getD n false

/-- The live registers of the CLK window (R449). -/
def State.readClk (s : State) (a : Nat) : Option Word :=
  match (a - 0xE0000) / 4 with
  | 1 => some (word (bitsOf ([s.clk.refOk, s.clk.bkOk && s.pll 1, s.pll 0, s.pll 2, s.pll 3] ++
      (upto 6).map (fun q => s.pll (4 + q)) ++ [false, s.clk.sysOnBk, s.clk.refOnBk])))
  | 4 => some (match s.clk.measured with
      | some t => word (min 0xFFFF_FFFF ((s.sys.clk - t) / 400000))
      | none => 0)
  | _ => none

/-- A copy written whole: the CRC-32 of R203 over its bytes, whose layout is internal (R453, log entry 100). -/
def Lifeline.sealed (x : Lifeline) : Lifeline := { x with crc := crc32 (Config.lifelineBytes { x with crc := 0 }) }

/-- The CRC of a copy holds (R453). -/
def Lifeline.valid (x : Lifeline) : Bool := decide (x.crc = crc32 (Config.lifelineBytes { x with crc := 0 }))

/-- The lifeline copy in force: the valid one with the higher sequence number (R453). -/
def State.lifeline (s : State) : Option Lifeline :=
  match s.pwr.llA.filter (·.valid), s.pwr.llB.filter (·.valid) with
  | some x, some y => some (if y.seq > x.seq then y else x)
  | some x, none => some x
  | none, o => o

/-- The hold-up rail, mV: 0.1 V below the higher input (R450); while both inputs are lost the bank discharges and the
rail is a free value between 26.0 V and where it stood (R451, R454; DESIGN CHOICE, log entry 6). -/
def State.railNow (s : State) : Nat :=
  let low := max 26000 (max s.pwr.vinA s.pwr.vinB - 100)
  if s.pwr.okA || s.pwr.okB || s.pwr.vhu ≤ low then s.pwr.vhu
  else low + (Config.freeValue s.sys.free).toNat % (s.pwr.vhu - low + 1)

/-- The live registers of the PWR window (R469); the input power is a free value (log entry 6). -/
def State.readPwr (s : State) (a : Nat) : Option Word :=
  match (a - 0xF0000) / 4 with
  | 0 => some (word (bitsOf [s.pwr.warn, s.pwr.okA, s.pwr.okB, s.pwr.saving, s.lifeline.isSome, s.pwr.resetIn, s.pwr.stuck,
      s.pwr.relay]))
  | 2 => some (word s.pwr.vinA)
  | 3 => some (word s.pwr.vinB)
  | 4 => some (word s.railNow)
  | 5 => some (word ((Config.freeValue s.sys.free).toNat % 2 ^ 16))
  | 6 => some (word (s.pwr.cause + 2 ^ 4 * (if s.pwr.cause = 7 then s.pwr.rail else 0)))
  | 11 => some (match s.lifeline with | some x => x.row.truncate 32 | none => 0)
  | 12 => some (match s.lifeline with
      | some x => word (x.step + x.mo.mode.code * 2 ^ 12 + x.seq % 2 ^ 16 * 2 ^ 16)
      | none => 0)
  | _ => none

/-- The live registers of the CAL window (R470). -/
def State.readCal (s : State) (a : Nat) : Option Word :=
  match (a - 0x100000) / 4 with
  | 3 => some (word s.taiNs)
  | 4 => some s.cal.latchHi
  | _ => none

/-- Device key and certificate present (R471). -/
def State.devReady (s : State) : Bool := s.sec.devKey.isSome && s.sec.devCert.isSome
/-- Metrology key and certificate present (R471). -/
def State.mtrReady (s : State) : Bool := s.sec.mtrKey.isSome && s.sec.mtrCert.isSome

/-- The live registers of the CPU and security window (R480). -/
def State.readSec (s : State) (a : Nat) : Option Word :=
  match (a - 0x110000) / 4 with
  | 0 => some (word (bitsOf [s.devReady, s.mtrReady, s.pwr.booted && !s.devReady, s.sec.coverOpen, s.sec.latch, s.sec.debug]))
  | 3 => some (match s.sec.anchor with | some c => first32 (Config.sha384 c) | none => 0)
  | 4 => some (match s.sec.devCert with | some c => word (ofBe ((Config.certSerial c).take 4)) | none => 0)
  | 5 => some (s.sec.nonce.truncate 32)
  | 6 => some ((s.sec.nonce >>> 32).truncate 32)
  | _ => none

/-- The live value at an address; none where the register file holds it. -/
def State.live? (s : State) (a : Nat) : Option Word :=
  match a / 0x10000 with
  | 0 => s.readSys a
  | 1 => if a < 0x11000 then s.readAng a else none
  | 2 => s.readGfe a
  | 3 => s.readArm a
  | 4 => s.readLnh a
  | 5 => s.readLdg a
  | 6 => s.readPwm a
  | 8 => s.readFlt a
  | 9 => s.readAcq a
  | 10 => s.readMtr a
  | 11 => s.readPair a
  | 12 => s.readSaf a
  | 13 => s.readMem a
  | 14 => s.readClk a
  | 15 => s.readPwr a
  | 16 => s.readCal a
  | 17 => s.readSec a
  | 18 => s.readSnap a
  | _ => none

/-- The value a read of an address returns, without its side effects: WO registers read as 0 (R15), unlisted addresses
as 0 (R16). -/
def State.readReg (s : State) (a : Nat) : Word :=
  match s.live? a with
  | some w => w
  | none =>
    match regFam a with
    | some f => s.reg a &&& ~~~word f.wo
    | none => 0

/-! ### The status lamps (R495) -/

/-- What a lamp shows: off, steady, flashing at 2 Hz or at 0.5 Hz. -/
inductive Lamp where
  | off | steady | flash | slow
  deriving DecidableEq, Repr

/-- PWR (R495). -/
def State.lampPwr (s : State) : Lamp :=
  if s.pwr.warn || (s.pwr.okA != s.pwr.okB) then .flash else if s.pwr.okA then .steady else .off

/-- RUN (R495). -/
def State.lampRun (s : State) : Lamp :=
  if !s.pwr.booted || decide (s.mode = .init) then .off
  else match s.role with
    | .active => .steady
    | .standby | .syncing => .flash
    | .isolated => .slow

/-- SAFE (R495). -/
def State.lampSafe (s : State) : Lamp :=
  if s.saf.arch = .fault ∨ s.saf.arch = .start then .flash else if s.loopOn then .off else .steady

/-- ALARM (R495). -/
def State.lampAlarm (s : State) : Lamp :=
  if s.sec.latch || s.sec.debug then .flash else if s.sys.ev.alarm then .steady else .off

end Sys2Proof.Machine
end

