-- ==== Sys2Proof/Machine/Snap.lean ====
section
/-! DEFINITION. The common snapshot trigger SNAP (R306 to R308). -/
namespace Sys2Proof.Machine

/-- The registers of the snapshot sets with their place in the window (R308): window offset, register address. -/
def snapSet : List (Nat × Nat) :=
  [(0x1000, Reg.MODE_STAT), (0x1004, Reg.MODE_BRK), (0x1008, Reg.PIPE_STAT), (0x100C, Reg.PIPE_MARGIN),
   (0x1040, Reg.ANG_STAT), (0x1044, Reg.ANG_THETA), (0x1050, Reg.ANG_RATE), (0x1054, Reg.ANG_BOUND_TAI_LO),
   (0x1058, Reg.ANG_BOUND_TAI_HI), (0x105C, Reg.ANG_PHASE_ERR), (0x1100, Reg.GFE_STAT), (0x1104, Reg.GFE_SIG_STEP)]
  ++ (upto 64).map (fun n => (0x1108 + 4 * n, Reg.GFE_SIGn n))
  ++ [(0x1208, Reg.GFE_KZ), (0x120C, Reg.GFE_KN), (0x1300, Reg.ARM_STAT), (0x1304, Reg.ARM_VAV)]
  ++ (upto 6).flatMap (fun a => [(0x1308 + 12 * a, Reg.ARMa_W a), (0x130C + 12 * a, Reg.ARMa_VAV a),
      (0x1310 + 12 * a, Reg.ARMa_LEVEL a)])
  ++ (upto 22).flatMap (fun p => (0x1400 + 16 * p, Reg.PHY_STAT p) ::
      (if p < 20 then [(0x1404 + 16 * p, Reg.LNK_STAT p), (0x1408 + 16 * p, Reg.LNK_SEQ p),
        (0x140C + 16 * p, Reg.LNK_VCv_TX p 0)] else []))
  ++ [(0x1600, Reg.LDG_STAT), (0x1604, Reg.LDG_PASS_CNT), (0x1608, Reg.LDG_LIVE), (0x160C, Reg.LDG_IMG_SEQ)]
  ++ (upto 24).map (fun n => (0x1700 + 4 * n, Reg.PWMn_CNT n))
  ++ [(0x1760, Reg.PWM_FORCED), (0x1764, Reg.PWM_PEND), (0x1768, Reg.PWM_TRIP_STAT), (0x176C, Reg.PWM_BEYOND)]
  ++ (upto 4).flatMap (fun g => (upto 8).map (fun j => (0x1800 + 32 * g + 4 * j, Reg.GRPg_RESj g j)))
  ++ [(0x1880, Reg.ADC_STAT), (0x1884, Reg.ADC_CLAMP_STAT)]
  ++ (upto 32).map (fun n => (0x1900 + 4 * n, Reg.FLTn_OUT n))
  ++ [(0x1980, Reg.FLT_STAT), (0x1984, Reg.FLT_OSTAT)]
  ++ (upto 16).map (fun k => (0x1A00 + 4 * k, Reg.SLOTk_STAT k)) ++ [(0x1A40, Reg.ACQ_REC_NEXT)]

/-- The sets of the blocks whose content R308 names by quantity: the meter's first registers, the pair, the safety
channels, memory, clock and power. -/
def snapSet2 : List (Nat × Nat) :=
  [0, 1, 2, 3, 4, 5].flatMap (fun q => [(0x1B00 + 12 * q, Reg.MTR_REGr_q_j 0 q 0),
    (0x1B04 + 12 * q, Reg.MTR_REGr_q_j 0 q 1), (0x1B08 + 12 * q, Reg.MTR_REGr_q_j 0 q 2)])
  ++ [(0x1B48, Reg.MTR_INT_NO), (0x1B4C, Reg.MTR_TARIFF), (0x1C00, Reg.PAIR_STAT), (0x1C04, Reg.PAIR_EPOCH),
      (0x1D00, Reg.SAF_STATE),
      (0x1D04, Reg.SAF_SIN_STAT), (0x1D08, Reg.SAF_PBL_STAT), (0x1D0C, Reg.SAF_QUAL), (0x1E00, Reg.MEM_SRAM_CE),
      (0x1E04, Reg.MEM_SRAM_UE), (0x1E08, Reg.MEM_REMAP_SUM), (0x1E0C, Reg.MEM_SCRUB_POS), (0x1E40, Reg.CLK_STAT),
      (0x1E44, Reg.CLK_BK_PPM), (0x1E80, Reg.PWR_VIN_A), (0x1E84, Reg.PWR_VIN_B), (0x1E88, Reg.PWR_VHU),
      (0x1E8C, Reg.PWR_STAT)]

/-- Every set as its registers read now; ROW and the scan tags are put together (R308). -/
def State.capture (s : State) : List (Nat × Word) :=
  (snapSet ++ snapSet2).map (fun p => (p.1, s.readReg p.2)) ++
  [(0x1048, s.ang.row.truncate 32), (0x104C, (s.ang.row >>> 32).truncate 32),
   (0x1888, word ((upto 4).foldl (fun acc g => acc + (s.readReg (Reg.GRPg_SEQ g)).toNat % 256 * 2 ^ (8 * g)) 0)),
   (0x1C08, word (bits (s.readReg Reg.PAIR_HB_MISS) 0 8)), (0x1C0C, word (bits (s.readReg Reg.PAIR_HB_MISS) 8 8)),
   (0x1C10, word (bits (s.readReg Reg.PAIR_WIT) 8 5)), (0x1C14, word (bits (s.readReg Reg.PAIR_FLAGS) 2 2))]

/-- Raise SNAP with source bits `src` (R306, R307): latch all sets, or count during a copy; raisings on one clock
make one snapshot. -/
def State.snapRaise (s : State) (src : Nat) : State :=
  match s.snap.busy with
  | some b =>
    if s.snap.latchClk = s.sys.clk then
      { s with snap := { s.snap with
          bufs := upd s.snap.bufs b (fun o => o.map (fun x => { x with src := x.src ||| src })) } }
    else
      ({ s with snap := { s.snap with
          bufs := upd s.snap.bufs b (fun o => o.map (fun x => { x with late := x.late ||| src })) } } : State).bump
        Reg.SNAP_BUSY_CNT
  | none =>
    let b := if s.snap.seq = 0 then 0 else (s.snap.newest + 1) % 4
    let x : Snapshot := { seq := s.snap.seq + 1, src := src, late := 0, tai := s.taiNs, sets := s.capture }
    let s := { s with snap := { s.snap with bufs := upd s.snap.bufs b (fun _ => some x), busy := some b,
                                            latchClk := s.sys.clk, seq := s.snap.seq + 1 } }
    if s.flag Reg.SNAP_CFG 4 then
      ({ s with snap := { s.snap with pinOut := true } } : State).emit (.pin "SNAP_OUT" true) else s

/-- SNAP_OUT goes low 1.0 µs after its latch edge (R307). -/
def State.snapLow (s : State) : State := ({ s with snap := { s.snap with pinOut := false } } : State).emit (.pin "SNAP_OUT" false)

/-- SNAP source 11, when enabled (R306): a safety event. -/
def State.snapSafety (s : State) : State := if s.flag Reg.SNAP_CFG 2 then s.snapRaise 0x800 else s

/-- SNAP source 12, when enabled (R306): a takeover. -/
def State.snapTakeover (s : State) : State := if s.flag Reg.SNAP_CFG 3 then s.snapRaise 0x1000 else s

/-- The copy completes; the buffer becomes the newest (R307). -/
def State.snapDone (s : State) : State :=
  match s.snap.busy with
  | some b => { s with snap := { s.snap with busy := none, newest := b } }
  | none => s

end Sys2Proof.Machine
end

