-- ==== Sys2Proof/Machine/Saf.lean ====
section
/-! DEFINITION. The safety channels (chapter 16). -/
namespace Sys2Proof.Machine

/-- Safety input `k` replaced by `f` of it. -/
def State.updSin (s : State) (k : Nat) (f : SafIn → SafIn) : State :=
  { s with saf := { s.saf with sins := upd s.saf.sins k f } }

/-- SW1 is valid (R391): positions 5 to 8 complement positions 1 to 4, 9 to 16 off, preset defined. -/
def sw1Valid (w : BitVec 16) : Bool :=
  let p := w.toNat % 16
  decide (w.toNat / 16 % 16 = 15 - p) && decide (w.toNat / 256 = 0) && decide (p ≤ 4)

/-- The set is in force: confirmed in lane mode, SW1 valid in direct mode (R375). -/
def State.setValid (s : State) : Bool := if s.laneMode then s.saf.confirmed else sw1Valid s.saf.sw1Start

/-- A proof test of the loop that has not passed keeps a stuck loop off (R374). -/
def State.loopWanted (s : State) : Bool :=
  s.safActs && s.setValid && !s.saf.spb && decide (s.mode ≠ .safeStop) && !s.saf.stuck

/-- The switches brought to what R375 asks, with the tests of R392 holding one open; the feedback follows. -/
def State.loopUpdate (s : State) : State :=
  let tA := match s.saf.proof with | some p => decide (p.test = 1) | none => false
  let tH := match s.saf.proof with | some p => decide (p.test = 2) | none => false
  let a := s.loopWanted && !tA
  let h := s.loopWanted && !tH
  if s.saf.swA = a ∧ s.saf.swH = h then s
  else
    let on := a && h
    let s1 : State := { s with saf := { s.saf with
      swA := a, swH := h, fbHigh := on, fbRev := on
      offAt := if on then none else if s.loopOn then some s.sys.clk else s.saf.offAt } }
    if on = s.loopOn then s1 else s1.emit (.pin "PBL" on)

/-- The function of a safety output holds (R387). -/
def State.soutHolds (s : State) (f : Nat) : Bool :=
  s.safActs &&
  match f with
  | 1 => s.released
  | 2 => s.saf.spb
  | 3 => s.saf.ssr
  | 4 => !s.saf.stuck && s.saf.sins.all (fun i => !i.fault)
  | 5 => decide (s.saf.arch = .diverse)
  | _ => false

/-- The safety outputs brought to their functions: channel A at 2j, channel B at 2j + 1 (R387); a channel under
test 5 stays low (R392). -/
def State.soutUpdate (s : State) : State :=
  let lv := (upto 8).map (fun i =>
    let held := match s.saf.proof with
      | some p => decide (p.test = 5) && !p.await && decide (p.outs.head? = some (i / 2)) && (p.chB == decide (i % 2 = 1))
      | none => false
    s.soutHolds (s.fld (Reg.SPS_SOUTj (i / 2)) 0 3) && !held)
  if lv = s.saf.sout then s
  else
    let ch := (upto 8).filter (fun i => s.saf.sout.getD i false ≠ lv.getD i false)
    ({ s with saf := { s.saf with sout := lv } } : State).emits
      (ch.map (fun i => .pin ("SOUT" ++ toString (i / 2) ++ (if i % 2 = 0 then "A" else "B")) (lv.getD i false)))

/-- What follows from a change in SAF: loop, PWM force, outputs. -/
def State.safSettle (s : State) : State := s.loopUpdate.pwmRefresh.soutUpdate

/-- A demand recorded: count, SAF_LAST_DEM, and in shadow SHADOW_DEM with its entry (R376, R377). -/
def State.demRecord (s : State) (cause input : Nat) (sh : Bool) : State :=
  let s := (s.bump Reg.SAF_DEM_CNT).setReg Reg.SAF_LAST_DEM (word (cause + input * 256 + b2n sh * 2048))
  if s.shadowing then s.setFlagEach Reg.SAF_FLAGS 9 else s

/-- A demand for a safe pulse block (R377). -/
def State.spbDemand (s : State) (cause : Nat) (input : Nat := 0) (sh : Bool := false) : State :=
  if s.saf.spb then
    let s : State := { s with saf := { s.saf with lastDem := some s.sys.clk } }
    (s.bump Reg.SAF_DEM_CNT).setReg Reg.SAF_LAST_DEM (word (cause + input * 256 + b2n sh * 2048))
  else
    let s := s.demRecord cause input sh
    (({ s with saf := { s.saf with spb := true, resetOk := false, lastDem := some s.sys.clk } } : State).safSettle).snapSafety

/-- A demand for a safe stop with ramp (R378): in a mode with pulses blocked it acts as an SPB demand, cause 7. -/
def State.ssrDemand (s : State) (input : Nat := 0) (sh : Bool := false) : State :=
  if s.released then
    if s.saf.ssr then (s.bump Reg.SAF_DEM_CNT).setReg Reg.SAF_LAST_DEM (word (12 + input * 256 + b2n sh * 2048))
    else
      let s := s.demRecord 12 input sh
      (({ s with saf := { s.saf with ssr := true, ssrPend := true } } : State).soutUpdate).snapSafety
  else s.spbDemand 7 input sh

/-- The reaction of a function (R379 to R381): 0 SPB with its cause, 1 SS-R. -/
def State.react (s : State) (ssr : Bool) (cause : Nat) (sh : Bool) : State :=
  if ssr then s.ssrDemand 0 sh else s.spbDemand cause 0 sh

/-- A latched discrepancy fault of input `k` (R385): a demand of the input's function, none for RESET. -/
def State.sinFaultAct (s : State) (k : Nat) : State :=
  let s := (s.updSin k (fun i => { i with fault := true })).setFlag Reg.SAF_FLAGS 4 k
  let s := s.snapSafety
  let s := match s.sinFunc k with
    | 0 => s.spbDemand 1 k
    | 1 => s.ssrDemand k
    | _ => s
  s.soutUpdate

/-- The conditions of an accepted safety reset (R386); 1.0 s is 400,000,000 clocks. -/
def State.resetAccepts (s : State) : Bool :=
  s.safActs && (upto 8).all (fun k => !s.sinEn k || s.atRest k) && !s.saf.fbHigh
    && decide (s.saf.slfT = 0) && decide (s.saf.slaT = 0) && decide (s.saf.sdpT = 0)
    && (match s.saf.lastDem with | some t => decide (s.sys.clk ≥ t + 400000000) | none => true)

/-- An accepted reset (R386): latches, input faults and flags clear; what SAF_PBL_STAT shows of a stuck loop stands until a
proof test of the loop has passed (R374). -/
def State.resetClear (s : State) : State :=
  let s : State := { s with saf := { s.saf with spb := false, sins := s.saf.sins.map (fun i => { i with fault := false }) } }
  let s : State := if s.shadowing then { s with saf := { s.saf with ssr := false, ssrPend := false } } else s
  (s.setReg Reg.SAF_FLAGS 0).safSettle

/-- A reset pulse on input `k` (R386): accepted, it leads to READY under row 26; refused, RST_REFUSED. -/
def State.resetInput (s : State) : State :=
  if s.resetAccepts then
    let s := s.resetClear
    if s.mode = .safeStop ∧ !s.shadowing then { s with saf := { s.saf with resetReady := true, resetOk := true } } else s
  else s.setFlag Reg.SAF_FLAGS 5

/-- The channels of an enabled input disagree from now on, go on disagreeing, or agree (R385). -/
def State.sinApart (s : State) (k : Nat) : State :=
  s.updSin k (fun i => { i with
    apart := if s.sinEn k && (s.restA k != s.restB k) then some (i.apart.getD s.sys.clk) else none })

/-- SIN_CHANGE (R384, R386): a filtered channel has taken a new level. -/
def State.sinChangeAct (s : State) (k : Nat) (chB level : Bool) : State :=
  let was := s.atRest k
  let s := s.updSin k (fun i => if chB then { i with b := level } else { i with a := level })
  let now := s.atRest k
  let t := s.sys.clk
  let dem := !now
  let s := s.updSin k (fun i => { i with
    leftAt := if was && !now then some t else i.leftAt,
    bothLeft := if was && !now then false else (i.bothLeft || (!s.restA k && !s.restB k)) })
  let s := s.sinApart k
  let s := if !s.sinEn k || !s.safActs then s
    else match s.sinFunc k with
      | 0 => if dem && was then s.spbDemand 1 k else s
      | 1 => if dem && was then s.ssrDemand k else s
      | 2 =>
        let i := s.sin k
        let ok := match i.leftAt with
          | some t0 => i.bothLeft && decide (t - t0 ≥ 40000000) && decide (t - t0 ≤ 800000000)
          | none => false
        if now && !was && ok && !i.fault then s.resetInput else s
      | _ => s
  s.soutUpdate

/-- The preset of SW1 loaded into the set in direct mode (R391); it writes no mark of R8 (log entry 87). -/
def State.loadPreset (s : State) : State :=
  let p := s.saf.sw1Start.toNat % 16
  let fn := s.fnom
  let d := (if p = 4 then 5 else 3) * 2 ^ 24
  let sinOf (k : Nat) : Nat :=
    if k = 7 then 1 + 2 * 4 + 50 * 16
    else if k = 0 then 1 + 50 * 16
    else if k = 1 then (if p = 0 then 0 else if p = 4 then 1 + 50 * 16 else 1 + 4 + 50 * 16)
    else if k = 2 then (if p = 4 then 1 + 4 + 50 * 16 else 0) else 0
  let cfg := 1 + (if p = 0 then 0 else 4 + 8) + (if p = 2 then 16 else if p = 3 then 16 + 64 else 0)
  let mask := s.mainCtrs.foldl (fun m c => m ||| 2 ^ c.1) 0
  let l : List (Nat × Nat) :=
    [(Reg.SPS_CFG, cfg), (Reg.SPS_SSR_T, 10000), (Reg.SPS_SLF_LO, fn - d), (Reg.SPS_SLF_HI, fn + d),
     (Reg.SPS_SLF_T, 20), (Reg.SPS_SLA_MAX, if p = 4 then 900 else 600), (Reg.SPS_SLA_T, 50),
     (Reg.SPS_SDP_PMAX, 0x000CCCCD), (Reg.SPS_SDP_T, 100), (Reg.SPS_PLAUS, 0x00520300), (Reg.SPS_PWM_MASK, mask)]
    ++ (upto 8).map (fun k => (Reg.SPS_SINk k, sinOf k))
  l.foldl (fun s r => s.setReg r.1 (word r.2)) s

/-- SAF_START_TEST (R367, R391): the start test completes; SAF enters XCHK or FAULT. In direct mode the position of
SW1 is taken and its set loaded. -/
def State.startTest (s : State) (pass : Bool) (sw1 : BitVec 16) : State :=
  if s.saf.arch ≠ .start then s
  else
    let s : State := { s with saf := { s.saf with sw1 := sw1, sw1Start := sw1, spaOk := pass, spbOk := pass } }
    let s := if s.laneMode then s
      else if sw1Valid sw1 then s.loadPreset else s.setFlag Reg.SAF_FLAGS 7
    let s := (upto 8).foldl State.sinApart s
    let ok := decide (s.safChk = s.saf.chkConf)
    let s : State := { s with saf := { s.saf with confirmed := ok && s.saf.confirmed || ok && decide (s.saf.chkConf ≠ 0) } }
    if pass && !s.saf.fbHigh then (({ s with saf := { s.saf with arch := .xchk, shTest := true } } : State)).safSettle
    else ({ s with saf := { s.saf with arch := .fault, spb := true },
                   mo := { s.mo with causes := { s.mo.causes with selfFail := true } } } : State).safSettle

/-- SAF_START_TEST (R367). -/
def execSafStartTest (pass : Bool) (sw1 : BitVec 16) (s : State) : Host.Outcome State Fault Refusal :=
  s.live (s.startTest pass sw1)

/-- SH qualifies after 1,024 agreeing steps (R368). -/
def State.shQualAct (s : State) : State :=
  if s.saf.arch = .xchk && s.saf.shTest && decide (s.saf.agree ≥ 1024) then
    { s with saf := { s.saf with shQual := true } } else s

/-- SH_QUALIFY (R368): DIVERSE follows at the boundary after. -/
def execShQualify (s : State) : Host.Outcome State Fault Refusal := s.live s.shQualAct

/-- SH_LOST (R370): XCHK, SH_QUAL 0, the flag, and SS-R in an ACTIVE unit with pulses released. -/
def State.shLostAct (s : State) (why : ShMeasure) : State :=
  if s.safActs then
    let was := s.saf.shQual || decide (s.saf.arch = .diverse)
    let s : State := { s with saf := { s.saf with arch := .xchk, shQual := false, agree := 0,
                                                  shTest := s.saf.shTest && decide (why ≠ .selfTest) } }
    if was then
      let s := s.setFlag Reg.SAF_FLAGS 0
      (if s.isActive && s.released then s.ssrDemand 0 true else s).soutUpdate
    else s
  else s

/-- SH_LOST (R370). -/
def execShLost (why : ShMeasure) (s : State) : Host.Outcome State Fault Refusal := s.live (s.shLostAct why)

/-- CH_DISC (R371): SPa and SH disagree for 100 ms. -/
def execChDisc (s : State) : Host.Outcome State Fault Refusal :=
  s.live (if s.saf.arch = .diverse then (s.setFlag Reg.SAF_FLAGS 1).ssrDemand else s)

/-- The clock at which the time limit of a bind-off under SS-R expires (R378). -/
def State.ssrLimit (s : State) : Option Nat :=
  match s.saf.ssrT with
  | some t => if s.mode = Mode.bindOff then
      some (s.sys.bclk + (msFs (s.regN Reg.SPS_SSR_T) - t + 2499999) / 2500000) else none
  | none => none

/-- The limit expires while the bind-off still runs (R378). -/
def State.ssrExpired (s : State) : State := ({ s with saf := { s.saf with ssrT := none } } : State).spbDemand 5

/-- SSR_TIMEOUT (R378). -/
def execSsrTimeout (s : State) : Host.Outcome State Fault Refusal :=
  s.live (match s.ssrLimit with
    | some t => s.atDue t State.ssrExpired
    | none => s)

/-- SLF acts in CAST_ON to BIND_OFF (R379), SDP too (R381). -/
def State.slfActs (s : State) : Bool := s.released && s.flag Reg.SPS_CFG 0 && s.safActs

/-- The rate lies outside the SLF limits (R379). -/
def State.slfOut (s : State) : Bool :=
  decide (s.ang.rate.toNat < s.regN Reg.SPS_SLF_LO) || decide (s.ang.rate.toNat > s.regN Reg.SPS_SLF_HI)

/-- SLA acts in CONNECTED, ISLAND and RIDE_THROUGH (R380). -/
def State.slaActs (s : State) : Bool :=
  s.safActs && s.flag Reg.SPS_CFG 2 &&
    (decide (s.mode = .connected) || decide (s.mode = .island) || decide (s.mode = .rideThrough))

/-- SDP acts (R381). -/
def State.sdpActs (s : State) : Bool := s.released && s.flag Reg.SPS_CFG 4 && s.safActs

/-- SLF_VIOLATION (R379): of SPa when its timer has run out, of SH in DIVERSE as the event says. -/
def State.slfAct (s : State) (sh : Bool) : State :=
  if s.slfActs && (if sh then decide (s.saf.arch = .diverse) else decide (s.saf.slfT ≥ msFs (s.regN Reg.SPS_SLF_T)))
  then s.react (s.flag Reg.SPS_CFG 1) 2 sh else s

/-- SLA_VIOLATION (R380). -/
def State.slaAct (s : State) (sh : Bool) : State :=
  if s.slaActs && (if sh then decide (s.saf.arch = .diverse) else decide (s.saf.slaT ≥ msFs (s.regN Reg.SPS_SLA_T)))
  then s.react (s.flag Reg.SPS_CFG 3) 3 sh else s

/-- SDP_VIOLATION (R381). -/
def State.sdpAct (s : State) (sh : Bool) : State :=
  if s.sdpActs && (if sh then decide (s.saf.arch = .diverse) else decide (s.saf.sdpT ≥ msFs (s.regN Reg.SPS_SDP_T)))
  then s.react (s.flag Reg.SPS_CFG 5) 4 sh else s

/-- SLF_VIOLATION (R379). -/
def execSlfViolation (sh : Bool) (s : State) : Host.Outcome State Fault Refusal := s.live (s.slfAct sh)
/-- SLA_VIOLATION (R380). -/
def execSlaViolation (sh : Bool) (s : State) : Host.Outcome State Fault Refusal := s.live (s.slaAct sh)
/-- SDP_VIOLATION (R381). -/
def execSdpViolation (sh : Bool) (s : State) : Host.Outcome State Fault Refusal := s.live (s.sdpAct sh)

/-- PBL_REVERSAL (R372): the energised loop reverses. -/
def execPblReversal (s : State) : Host.Outcome State Fault Refusal :=
  s.live (if s.loopOn then { s with saf := { s.saf with polarity := !s.saf.polarity, fbRev := true } } else s)

/-- PBL_OPEN (R374): the feedback is lost while the loop is energised. -/
def execPblOpen (s : State) : Host.Outcome State Fault Refusal :=
  s.live (if s.loopOn then
      (({ s with saf := { s.saf with fbHigh := false, fbRev := false } } : State).setFlag Reg.SAF_FLAGS 2).spbDemand 8
    else s)

/-- The feedback still above 12 V 100 µs after SAF has de-energised a loop that it had energised (R374). -/
def State.stuckAct (s : State) : State :=
  match s.saf.offAt with
  | some t => s.atDue (t + 40000) (fun s =>
      (({ s with saf := { s.saf with fbHigh := true, stuck := true, offAt := none } } : State).setFlag Reg.SAF_FLAGS 3).safSettle)
  | none => s

/-- PBL_STUCK (R374). -/
def execPblStuck (s : State) : Host.Outcome State Fault Refusal := s.live s.stuckAct

/-- SOUT_TEST_PULSE (R387): every high output goes low for 300 µs and back. -/
def execSoutTestPulse (s : State) : Host.Outcome State Fault Refusal :=
  s.live (s.emits (((upto 8).filter (fun i => s.saf.sout.getD i false)).flatMap (fun i =>
    let n := "SOUT" ++ toString (i / 2) ++ (if i % 2 = 0 then "A" else "B")
    [.pin n false, .pin n true])))

/-- SW1_READ (R391): the periodic reading; a change in service demands SS-R. -/
def execSw1Read (sw1 : BitVec 16) (s : State) : Host.Outcome State Fault Refusal :=
  s.live (if sw1 = s.saf.sw1 then s
    else
      let s1 := { s with saf := { s.saf with sw1 := sw1 } }
      if s1.safActs && !s1.laneMode then (s1.setFlag Reg.SAF_FLAGS 8).ssrDemand else s1)

/-! ### The functions measured by SPa in every step -/

/-- A result word as a per-unit value (R62, R264). -/
def State.safVal (s : State) (fs : Nat) (ch : Nat) : Int :=
  rnd (sx (s.saf.words.getD ch 0 &&& 0xFFFF_0000) * pu (s.reg fs)) (0x7FFF * 65536)

/-- SPa's measurement of the step from the copied words (R380, R381): its own separation over 256 steps, power as
a sliding mean over one row. -/
def State.safMeasure (s : State) : State :=
  let v := s.fld Reg.GFE_MAP 0 5
  let i := s.fld Reg.GFE_MAP 8 5
  let va := clarke (s.safVal Reg.GFE_VIN_FS v) (s.safVal Reg.GFE_VIN_FS (v + 1)) (s.safVal Reg.GFE_VIN_FS (v + 2))
  let ia := clarke (s.safVal Reg.GFE_IIN_FS i) (s.safVal Reg.GFE_IIN_FS (i + 1)) (s.safVal Reg.GFE_IIN_FS (i + 2))
  let xp := (va.add (s.saf.hist.getD 255 Cx.zero).mulJ).half
  let p := rnd (va.re * ia.re + va.im * ia.im) (2 ^ 40)
  { s with saf := { s.saf with hist := (va :: s.saf.hist).take 256, vp := xp, phist := (p :: s.saf.phist).take 1024 } }

/-- A voltage word carries OVR or NBR (R380): bits 15 and 14 of the copied word as SAF keeps it. -/
def State.safBad (s : State) : Bool :=
  (upto 3).any (fun k => (s.saf.words.getD (s.fld Reg.GFE_MAP 0 5 + k) 0) &&& 0x0000_0C00 ≠ 0)

/-- δ of SPa in angle units (R380): θ0 − VG × 30° against the positive-sequence voltage. -/
def State.safDelta (s : State) : Int :=
  let th : Int := Int.ofNat (s.step10 * 2 ^ 22) - divRound (Int.ofNat (s.fld Reg.GFE_CFG 8 4) * 2 ^ 32) 12
  (BitVec.ofInt 32 (th - argUnits s.saf.vp)).toInt

/-- The sliding mean of the power over one row (R381). -/
def State.safPower (s : State) : Int := rnd (s.saf.phist.foldl (· + ·) 0) 1024

/-- The timers of the functions over the step that ends (R379 to R381), and the demand of each that passes its time in it. -/
def State.safStep (s0 : State) : State :=
  let s := s0.safMeasure
  let dt := dtFs s.ang.rate.toNat
  let d := s.safDelta
  let small := decide (s.saf.vp.abs < rnd one 5)
  let slaOut := decide (Int.ofNat d.natAbs * 3600 > Int.ofNat (s.regN Reg.SPS_SLA_MAX) * 2 ^ 32)
  let p := s.safPower
  let pm := pu (s.reg Reg.SPS_SDP_PMAX)
  let sdpOut := if s.flag Reg.SPS_CFG 6 then decide (p < -pm) else decide (p > pm)
  let s : State := { s with saf := { s.saf with
    slfT := if s.slfActs && s.slfOut then s.saf.slfT + dt else 0
    slaT := if decide (s.mode = Mode.coast) then s.saf.slaT
      else if !s.slaActs then 0
      else if small || s.safBad then s.saf.slaT
      else if slaOut then s.saf.slaT + dt else 0
    sdpT := if s.sdpActs && sdpOut then s.saf.sdpT + dt else 0
    ssrT := s.saf.ssrT.map (· + dt) } }
  let s := if s0.saf.slfT < msFs (s.regN Reg.SPS_SLF_T) then s.slfAct false else s
  let s := if s0.saf.slaT < msFs (s.regN Reg.SPS_SLA_T) then s.slaAct false else s
  let s := if s0.saf.sdpT < msFs (s.regN Reg.SPS_SDP_T) then s.sdpAct false else s
  if s.ssrLimit.any (fun t => decide (t ≤ s.sys.bclk)) then s.ssrExpired else s

/-- SAF at a boundary: the cross-comparison of XCHK (R368), DIVERSE after qualification, the count of agreeing
steps, then the functions of the step that ends. -/
def State.safBoundary (s : State) : State :=
  let s := if s.saf.arch = .xchk && (!s.saf.spaOk || !s.saf.spbOk) then
      let s := s.spbDemand 6
      ({ s with saf := { s.saf with arch := .fault } } : State).safSettle
    else if s.saf.arch = .xchk && s.saf.shQual then ({ s with saf := { s.saf with arch := .diverse } } : State).soutUpdate
    else s
  let s := if s.safActs && s.saf.shTest && s.saf.proof.isNone then { s with saf := { s.saf with agree := min 1024 (s.saf.agree + 1) } } else s
  if s.safActs then s.shQualAct.safStep else s

end Sys2Proof.Machine
end

