-- ==== Sys2Proof/Machine/Ang.lean ====
section
/-! DEFINITION. The angle base (chapter 02): the rate and its limits, the boundary's item 1, calendar stamping, the
discipline of a standby's angle. -/
namespace Sys2Proof.Machine

/-- 40 Hz and 70 Hz as rate codes (R40). -/
def rateMin : Nat := 0x28000000
/-- 70 Hz as a rate code (R40). -/
def rateMax : Nat := 0x46000000

/-- dmax of R40: the ROCOF limit as a change of the rate code over one step. -/
def dmaxOf (rocof rate : Nat) : Nat := rocof * 2 ^ 38 / (100 * rate)

/-- The ROCOF clamp of R40. -/
def rocofClamp (rate dmax cmd : Nat) : Nat := max (min cmd (rate + dmax)) (rate - dmax)

/-- The clamp at 40 Hz and 70 Hz of R40. -/
def absClamp (f : Nat) : Nat := max rateMin (min rateMax f)

/-- The rate of the next step under R40, from the rate in force and the command. -/
def nextRate (rocof rate cmd : Nat) : Nat := absClamp (rocofClamp rate (dmaxOf rocof rate) cmd)

/-- The command of the step (R41): the engine's in the modes that compute the machine, held when it gave none, the
nominal frequency in the others. -/
def State.rateCmd (s : State) : Nat :=
  if s.mode.machine then (s.ang.cmd.getD s.ang.rate).toNat else s.fnom

/-- The command received in the step (R41): the engine's in the modes that compute the machine, none when it gave none; the
nominal frequency in the others. -/
def State.cmdIn (s : State) : Option Word := if s.mode.machine then s.ang.cmd else some (word s.fnom)

/-- ANG_RATE_CMD shows the last command received (R60). -/
def State.cmdShow (s : State) : State :=
  match s.cmdIn with
  | some c => s.setReg Reg.ANG_RATE_CMD c
  | none => s

/-- R40 applied at a boundary: the rate, the flags and the count. -/
def State.rateApply (s : State) (cmd : Nat) : State :=
  let rate := s.ang.rate.toNat
  let rocof := s.fld Reg.ANG_ROCOF 0 10
  let r1 := rocofClamp rate (dmaxOf rocof rate) cmd
  let r2 := absClamp r1
  let c1 := decide (r1 ≠ cmd)
  let c2 := decide (r2 ≠ r1)
  let s := { s with ang := { s.ang with rate := word r2, clamped := c1 || c2 } }
  let s := s.when (c1 || c2) (fun s => s.bump Reg.ANG_CLAMP_CNT)
  (s.when c1 (fun s => s.setFlag Reg.ANG_FLAGS 0)).when c2 (fun s => s.setFlag Reg.ANG_FLAGS 1)

/-- The trim of the next step (R56): a value of the second-order loop, whose gains the specification does not give,
within ±2 ppm of the rate and within dmax of the present trim (log entry 6). -/
def State.trimNext (s : State) : State :=
  let rate := s.ang.rate.toNat
  let dm : Int := Int.ofNat (dmaxOf (s.fld Reg.ANG_ROCOF 0 10) rate)
  let b : Int := Int.ofNat (2 * rate / 1000000)
  let (v, s) := s.draw
  let t := clampI (clampI v.toInt (s.ang.trim - dm) (s.ang.trim + dm)) (-b) b
  { s with ang := { s.ang with trim := t } }

/-- The rate of the step that begins (R40, R56, R59). -/
def State.rateUpdate (s : State) : State :=
  match s.ang.st with
  | .stopped => s
  | .free | .acquire => s.rateApply s.rateCmd
  | .track | .locked =>
    let r := absClamp (s.ang.markRate.getD s.ang.rate).toNat
    ({ s with ang := { s.ang with rate := word r, clamped := false } } : State).trimNext
  | .hold => { s with ang := { s.ang with clamped := false } }

/-- Item 1 of R26: the clocks that remain pass, θ stands in the next step, ROW counts a wrap, the boundary's module
time is latched (R36, R45), and the rate of the step is taken. -/
def State.angBoundary (s : State) : State :=
  let t := (s.step10 + 1) * 2 ^ 54
  let k := s.clocksTo t
  let wrap := decide (s.step10 = 1023)
  let s := s.pass k
  let s := { s with
    ang := { s.ang with row := if wrap then s.ang.row + 1 else s.ang.row, boundTai := s.taiNs }
    sys := { s.sys with bclk := s.sys.clk } }
  let s := s.cmdShow.rateUpdate
  { s with ang := { s.ang with cmd := none, markSeen := false, eSeen := false } }

/-- The angle base starts at the end of INIT (R37). -/
def State.angStart (s : State) : State :=
  { s with
    ang := { s.ang with
      st := .free, acc := 0, row := 0, rate := word s.fnom, cmd := none, trim := 0, boundTai := s.taiNs, fired := 0 }
    sys := { s.sys with bclk := s.sys.clk } }

/-- The angle continues as FREE (R59): the new active's rate code is its own, trim included. -/
def State.angFree (s : State) : State :=
  if s.ang.st = .stopped then s
  else { s with ang := { s.ang with
           st := .free, rate := word (absClamp s.trimRate), trim := 0, lockCnt := 0, outCnt := 0 } }

/-- The discipline begins (R54, R58): a unit that enters SYNCING waits for its acquisition load, one that becomes
STANDBY by a handover tracks at once. -/
def State.angDiscipline (s : State) (load : Bool) : State :=
  if s.ang.st = .stopped || !s.flag Reg.ANG_CFG 1 then s
  else { s with ang := { s.ang with
           st := if load then .acquire else .track, lockCnt := 0, outCnt := 0, noMark := 0, markRate := none,
           lastMark := none, loadPend := load } }

/-- Discipline acts (R54, ANG_CFG.DISC_EN). -/
def State.disciplined (s : State) : Bool :=
  s.shadowing && s.flag Reg.ANG_CFG 1 && decide (s.ang.st ≠ .stopped) && decide (s.ang.st ≠ .free)

/-- e of R54 in quarters of a ps, for a mark that arrived `a` ps after the own boundary over a path with delay `d`. -/
def phaseErr4 (a d txofs : Nat) : Int :=
  -(4 * Int.ofNat a - 4 * 24000 - 4 * Int.ofNat d - (160000 + 125 * Int.ofNat txofs))

/-- The own boundaries of a mark's step and of the present step apart, in quarters of a ps at the rate in force (R54, log
entry 74): positive where the mark's lies behind. -/
def State.stepsApart4 (s : State) (m : Mark) : Int :=
  divRound ((Int.ofNat s.stepNo - Int.ofNat (m.row.toNat * 1024 + m.step)) * (4 * 2 ^ 14 * 10 ^ 12)) (max 1 s.ang.rate.toNat)

/-- e of R54 for a mark that arrived `a` ps after the boundary of the present step: the arrival counts from the own boundary
of the mark's own (row, step). -/
def State.phaseErrOf (s : State) (m : Mark) (a d : Nat) : Int := phaseErr4 a d m.txofs - s.stepsApart4 m

/-- A standby qualified for a load: not ACTIVE, not a qualified STANDBY, |e| beyond 1.0 µs or on entry (R58). -/
def State.loadWanted (s : State) (qual : Bool) (e4 : Int) : Bool :=
  s.shadowing && !(qual && decide (s.role = Role.standby)) && decide (e4.natAbs > 4000000)

/-- Lock lost (R57): TRACK, flag, count. -/
def State.lockLostAct (s : State) : State :=
  if s.ang.st = .locked then
    ((({ s with ang := { s.ang with st := .track, lockCnt := 0, outCnt := 0 } } : State).bump
      Reg.ANG_LOCK_LOST_CNT).setFlag Reg.ANG_FLAGS 2)
  else s

/-- The conditions of R57 for leaving LOCKED. -/
def State.lockBad (s : State) : Bool := decide (s.ang.outCnt ≥ 4) || decide (s.ang.err.natAbs > 80000)

/-- Lock gained (R57). -/
def State.lockGain (s : State) : State :=
  if s.ang.st = .track && decide (s.ang.lockCnt ≥ 1024) then
    { s with ang := { s.ang with st := .locked, outCnt := 0 } } else s

/-- HOLD entered (R59). -/
def State.holdAct (s : State) : State :=
  if s.disciplined && decide (s.ang.noMark ≥ 2) && decide (s.ang.st ≠ .hold) then
    { s with ang := { s.ang with st := .hold, lockCnt := 0 } } else s

/-- The delay d of a path (R54). -/
def State.pathDelay (s : State) (path : Bool) : Nat := if path then s.ang.dP1 else s.ang.dP0

/-- What e demands of the state (R57 to R59): an unqualified unit beyond 1.0 µs awaits a load, having lost its lock first; HOLD
ends in TRACK. -/
def State.errJudge (s : State) (qual : Bool) (e : Int) : State :=
  if s.ang.st = .free || s.ang.st = .acquire || s.ang.st = .stopped then s
  else if s.loadWanted qual e then
    let t := s.lockLostAct
    { t with ang := { t.ang with st := .acquire, loadPend := true } }
  else if s.ang.st = .hold then { s with ang := { s.ang with st := .track, lockCnt := 0 } }
  else s

/-- The counts of R57 after a measurement of e. -/
def State.errCount (s : State) (e : Int) : State :=
  if s.ang.st = .track || s.ang.st = .locked then
    let good := decide (e.natAbs ≤ 20000)
    { s with ang := { s.ang with
        lockCnt := if good then min 1024 (s.ang.lockCnt + 1) else 0,
        outCnt := if good then 0 else s.ang.outCnt + 1 } }
  else s

/-- A valid mark of the partner (R42, R54 to R59): its rate on either path; on the path in use e, its registers and the counts
of R57; on the other path it ends HOLD. A mark whose rate lies outside R43 is not valid. -/
def State.markRx (s : State) (path : Bool) (m : Mark) (a : Nat) (qual : Bool) : State :=
  if !s.shadowing || s.ang.st = .stopped || decide (m.rate.toNat < rateMin) || decide (m.rate.toNat > rateMax) then s
  else
    let d := s.pathDelay path
    let e := s.phaseErrOf m a d
    let s := { s with ang := { s.ang with markRate := some m.rate, markSeen := true, noMark := 0 } }
    if path ≠ s.ang.path then (if s.ang.st = .hold then s.errJudge qual e else s)
    else
      let seen : MarkSeen := { row := m.row, step := m.step, bclk := s.sys.bclk, err := phaseErr4 a d m.txofs }
      let s := { s with ang := { s.ang with err := e, eSeen := true, lastMark := some seen } }
      let s := (s.setReg Reg.ANG_PHASE_ERR (satWord (divRound e 4))).setReg Reg.ANG_PAIR_LAT (word d)
      (s.errJudge qual e).errCount e

/-! ### The acquisition load -/

/-- A ONCE entry that lies in the past (R48, R53): before ac `lim` of the present row, or in a row behind. It does not fire: EN
clears, LATE, the flag and the count. -/
def State.oncePast (s : State) (lim n : Nat) : State :=
  let ctl := Reg.STn_CTL n
  let d := (s.reg (Reg.STn_ROW n) - s.ang.row.truncate 32).toNat
  let ahead := decide (1 ≤ d ∧ d ≤ 2 ^ 31 - 1) || (decide (d = 0) && decide (s.fld (Reg.STn_POS n) 0 20 ≥ lim))
  if s.flag ctl 0 && decide (s.fld ctl 1 2 = 2) && !ahead then
    ((s.setReg ctl (putBit (putBit (s.reg ctl) 0 false) 9 true)).bump Reg.ANG_ONCE_LATE_CNT).setFlag Reg.ANG_FLAGS 4 n
  else s

/-- A ONCE entry in the past at the boundary of its write does not fire (R53). -/
def State.onceCheck (s : State) (n : Nat) : State := s.oncePast (s.step10 * 1024) n

/-- The entries 9 to 2047 whose EN is set, ascending. -/
def State.enabledEntries (s : State) : List Nat :=
  sortBy (fun a b => decide (a ≤ b)) (s.sys.regs.filterMap (fun p =>
    if 0x18090 ≤ p.1 ∧ p.1 < 0x20000 ∧ p.1 % 16 = 0 ∧ bit p.2 0 then some ((p.1 - 0x18000) / 16) else none))

/-- ONCE entries that the load has passed over are handled as in R53 (R58). -/
def State.oncePassed (s : State) : State := s.enabledEntries.foldl (fun s n => s.oncePast (s.acRow + 1) n) s

/-- The acquisition load of R58 at this boundary: θ, ROW and the rate taken from the mark, advanced by the time that
has passed at the active since the boundary it describes. -/
def State.angLoad (s : State) : State :=
  match s.ang.st, s.ang.lastMark with
  | .acquire, some m =>
    if s.ang.loadPend then
      let r := s.ang.markRate.getD s.ang.rate
      let ps4 : Int := Int.ofNat ((s.sys.clk - m.bclk) * 10000) + m.err
      let pos : Nat := m.row.toNat * 2 ^ 64 + m.step * 2 ^ 54 + (ps4 * Int.ofNat (incOf r.toNat) / 10000).toNat
      let s := { s with ang := { s.ang with
        acc := BitVec.ofNat 64 pos, row := BitVec.ofNat 64 (pos / 2 ^ 64), rate := word (absClamp r.toNat),
        st := .track, loadPend := false, lockCnt := 0, outCnt := 0, fired := pos / 2 ^ 44 + 1 } }
      (s.setFlagEach Reg.ANG_FLAGS 3).oncePassed
    else s
  | _, _ => s

/-- The path in use from this boundary on (R54): P0 while its heartbeat is current, P1 otherwise. -/
def State.pathChoose (s : State) : State := { s with ang := { s.ang with path := !s.hbCurrent false } }

/-- The discipline at a boundary (R54, R57 to R59): steps without a mark; a boundary at which e was not measured ends a run of
boundaries within 5 ns, and neither counts towards the four beyond it nor ends them (log entry 75); then lock lost or gained,
the load, and the path of the step that begins. -/
def State.angDiscBoundary (s : State) (seen eSeen : Bool) : State :=
  if s.disciplined then
    let s := { s with ang := { s.ang with noMark := if seen then 0 else s.ang.noMark + 1,
                                          lockCnt := if eSeen then s.ang.lockCnt else 0 } }
    let s := s.holdAct
    let s := if s.lockBad then s.lockLostAct else s
    s.lockGain.angLoad.pathChoose
  else s

/-- The latch of a read of ANG_THETA (R46). -/
def State.thetaLatch (s : State) : State :=
  { s with ang := { s.ang with latchRow := s.ang.row, latchTai := s.taiNs } }

/-- ANG_THETA_READ (R46): the read latches ROW and module time on the same edge. -/
def execAngThetaRead (s : State) : Host.Outcome State Fault Refusal := s.live s.thetaLatch

/-- ANGLE_LOCKED (R57): 1,024 consecutive boundaries within 5 ns. -/
def execAngleLocked (s : State) : Host.Outcome State Fault Refusal :=
  s.live (if s.disciplined then s.lockGain else s)

/-- LOCK_LOST (R57): more than 5 ns at 4 consecutive boundaries, or more than 20 ns at one. -/
def execLockLost (s : State) : Host.Outcome State Fault Refusal :=
  s.live (if s.disciplined && s.lockBad then s.lockLostAct else s)

/-- ANGLE_HOLD (R59): no valid mark for 2 consecutive steps. -/
def execAngleHold (s : State) : Host.Outcome State Fault Refusal := s.live s.holdAct

end Sys2Proof.Machine
end

