-- ==== Sys2Proof/Machine/Wire.lean ====
section
/-! DEFINITION. The blocks on the wire, bit by bit: control and data blocks (R167, R188), run headers and words (R194), every
block the unit and a concentrator send (R191 to R213, R339 to R355), the scrambler (R167), PRBS-31 (R171). A 66-bit block is a
number: the sync header in bits 65:64, the payload below. -/
namespace Sys2Proof.Machine

/-- Fields at their places: each is its lowest bit, its width, its value. -/
def bitsAt (l : List (Nat × Nat × Nat)) : Nat := l.foldl (fun a x => a + x.2.2 % 2 ^ x.2.1 * 2 ^ x.1) 0

/-- A control block (R188): sync header 10, TYPE, fields in [55:8], CRC-8 over [55:0]. -/
def ctlBlock (typ : Nat) (l : List (Nat × Nat × Nat)) : Nat :=
  let v := typ + bitsAt l
  2 * 2 ^ 64 + v + crc8 v * 2 ^ 56

/-- The TYPE and the 48 field bits of a control payload whose CRC-8 holds (R188). -/
def parseCtl (b : BitVec 64) : Option (Nat × Nat) :=
  let v := b.toNat % 2 ^ 56
  if b.toNat / 2 ^ 56 = crc8 v then some (v % 2 ^ 8, v / 2 ^ 8) else none

/-- A data block (R167): sync header 01. -/
def dataBlock (v : Nat) : Nat := 2 ^ 64 + v % 2 ^ 64

/-- The data blocks of a run of words `w` bits wide (R194): one concatenation, bit 63 of the first payload first, zeros after
the last word. -/
def packWords (w : Nat) (ws : List Nat) : List Nat :=
  let k := (ws.length * w + 63) / 64
  let v := (ws.foldl (fun a x => a * 2 ^ w + x % 2 ^ w) 0) * 2 ^ (64 * k - ws.length * w)
  (upto k).map (fun i => dataBlock (v >>> (64 * (k - 1 - i))))

/-- The data blocks of a bulk payload (R203): eight bytes each, the first in [7:0] (log entry 83). -/
def packBytes (l : List Nat) : List Nat :=
  (upto ((l.length + 7) / 8)).map (fun i => dataBlock (((l.drop (8 * i)).take 8).foldr (fun b a => b % 256 + 256 * a) 0))

/-- A run header (R194): TYPE 0x78 downstream. -/
def cycDnHeader (oos unit first count epoch step : Nat) : Nat :=
  ctlBlock 0x78 [(8, 1, oos), (9, 1, unit), (10, 8, first), (18, 9, count), (27, 16, epoch), (43, 10, step)]

/-- A CYC_UP run with its data blocks (R194). -/
def cycUpRun (first count step : Nat) (ws : List Nat) : List Nat :=
  ctlBlock 0x87 [(10, 8, first), (18, 9, count), (27, 10, step)] :: packWords 96 ws

/-- A bulk block (R203): BULK_SOF, the data blocks, BULK_EOF with the CRC-32. -/
def bulkWire (vc seq conc slot crc : Nat) (p : List Nat) : List Nat :=
  ctlBlock 0x2D [(8, 2, vc), (10, 8, seq), (18, 6, (p.length + 7) / 8 - 1), (24, 1, conc), (25, 8, slot)] :: packBytes p
    ++ [ctlBlock 0x33 [(8, 2, vc), (10, 8, seq), (18, 32, crc)]]

/-- The STEP_MARK pair (R196). -/
def markWire (step row epoch rate mode unit txofs : Nat) : List Nat :=
  [ctlBlock 0xB4 [(8, 10, step), (18, 22, row), (40, 16, epoch)],
   ctlBlock 0xB5 [(8, 32, rate), (40, 4, mode), (44, 1, unit), (45, 8, txofs)]]

/-- The blocks of what a lane port sends, by name and the record's fields; none for a record that is no block. -/
def laneWire (name : String) (f : List Nat) : List Nat :=
  match name, f with
  | "IDLE", [disp, unit, epoch] => [ctlBlock 0x1E [(8, 1, disp), (9, 1, unit), (10, 16, epoch)]]
  | "STEP_MARK", [step, row, epoch, rate, mode, unit, txofs] => markWire step row epoch rate mode unit txofs
  | "CYC_HDR", [oos, unit, first, count, epoch, step] => [cycDnHeader oos unit first count epoch step]
  | "CYC_SLOT", [_, _, w] => packWords 128 [w]
  | "CYC_DN", oos :: unit :: first :: count :: epoch :: step :: ws =>
    cycDnHeader oos unit first count epoch step :: packWords 128 ws
  | "RESTRICT", [set, dir, arm, first, last, rseq] =>
    [ctlBlock 0x4B [(8, 1, set), (9, 1, dir), (10, 3, arm), (13, 8, first), (21, 8, last), (29, 8, rseq)]]
  | "BULK", vc :: seq :: conc :: slot :: crc :: p => bulkWire vc seq conc slot crc p
  | "BULK_REPLAY", vc :: seq :: conc :: slot :: crc :: p => bulkWire vc seq conc slot crc p
  | "ACK", [seq, nak] => [ctlBlock 0x55 [(8, 8, seq), (16, 1, nak)]]
  | "CREDIT", [vc, limit] => [ctlBlock 0x66 [(8, 2, vc), (10, 16, limit)]]
  | "AUDIT", [vc, limit, used, next, done] =>
    [ctlBlock 0x99 [(8, 2, vc), (10, 16, limit), (26, 16, used), (42, 8, next), (50, 1, done)]]
  | "ECHO_REQ", [tag] => [ctlBlock 0xAA [(8, 16, tag)]]
  | "LAT", [d, tag] => [ctlBlock 0xE1 [(8, 18, d), (26, 16, tag)]]
  | _, _ => []

/-- The blocks the pair link alone carries (R339 to R341, R355); the path stands before the fields. -/
def pairWire (name : String) (f : List Nat) : List Nat :=
  match name, f with
  | "HEARTBEAT", [_, unit, role, qual, hoOk, hoAck, warn, iso, epoch, mode, step, hseq, ver] =>
    [ctlBlock 0x5A [(8, 1, unit), (9, 2, role), (11, 1, qual), (12, 1, hoOk), (13, 1, hoAck), (14, 1, warn), (15, 1, iso),
      (16, 16, epoch), (32, 4, mode), (36, 10, step), (46, 6, hseq), (52, 4, ver)]]
  | "HANDOVER", [_, unit, reason, step, row] => [ctlBlock 0x69 [(8, 1, unit), (9, 3, reason), (12, 10, step), (22, 22, row)]]
  | "SAMPLE", _ :: unit :: step :: count :: row :: ws =>
    ctlBlock 0xA5 [(8, 1, unit), (9, 10, step), (19, 5, count), (24, 22, row)] :: packWords 32 ws
  | "REACH", [_, reach, unit, meter, linked] => [ctlBlock 0x96 [(8, 20, reach), (28, 1, unit), (29, 1, meter), (30, 20, linked)]]
  | "ECHO_REQ", [_, tag] => [ctlBlock 0xAA [(8, 16, tag)]]
  | "ECHO_RSP", [_, tag, turn] => [ctlBlock 0xCC [(8, 16, tag), (24, 24, turn)]]
  | _, _ => []

/-- The blocks of what a concentrator sends upstream; the lane stands before the fields. -/
def concWire (name : String) (f : List Nat) : List Nat :=
  match name, f with
  | "IDLE", [_, epoch] => [ctlBlock 0x1E [(10, 16, epoch)]]
  | "CYC_UP", _ :: first :: count :: step :: ws => cycUpRun first count step ws
  | "ECHO_RSP", [_, tag, turn] => [ctlBlock 0xCC [(8, 16, tag), (24, 24, turn)]]
  | "DECLARE", [_, dDn, dUp, conc, cport, alt] =>
    [ctlBlock 0xF0 [(8, 12, dDn), (20, 12, dUp), (32, 16, conc), (48, 4, cport), (52, 1, alt)]]
  | "WITNESS", [_, pa, pb, owner, valid, epoch, win, step] =>
    [ctlBlock 0x3C [(8, 1, pa), (9, 1, pb), (10, 1, owner), (11, 1, valid), (12, 16, epoch), (28, 3, win), (31, 10, step)]]
  | "AUDIT", [_, vc, limit, used, next, done] =>
    [ctlBlock 0x99 [(8, 2, vc), (10, 16, limit), (26, 16, used), (42, 8, next), (50, 1, done)]]
  | _, _ => []

/-! ### Scrambler and PRBS -/

/-- One payload through the self-synchronising scrambler 1 + x^39 + x^58, bit 0 first (R167): the state, the block. -/
def scrBlock (st blk : Nat) : Nat × Nat :=
  let r := (upto 64).foldl (fun (a : Nat × Nat) i =>
    let o := (blk.testBit i != a.1.testBit 38) != a.1.testBit 57
    ((2 * a.1 + b2n o) % 2 ^ 58, a.2 + b2n o * 2 ^ i)) (st, 0)
  (r.1, blk / 2 ^ 64 * 2 ^ 64 + r.2)

/-- Blocks through the scrambler in turn. -/
def scrBlocks (st : Nat) (l : List Nat) : Nat × List Nat :=
  l.foldl (fun a b => let r := scrBlock a.1 b; (r.1, a.2 ++ [r.2])) (st, [])

/-- The next 64-bit word of the PRBS-31 sequence x^31 + x^28 + 1, its first bit in bit 0 (R171). -/
def prbsWord (st : Nat) : Nat × Nat :=
  (upto 64).foldl (fun (a : Nat × Nat) i =>
    let o := a.1.testBit 30 != a.1.testBit 27
    ((2 * a.1 + b2n o) % 2 ^ 31, a.2 + b2n o * 2 ^ i)) (st, 0)

/-- Blocks put on port `n`'s line (R167): scrambled by the port's running scrambler, which starts from a nonzero state, sync
headers as they are; inverted where PHY_CFG.TX_INV says so (R187). -/
def State.line (s : State) (n : Nat) (l : List Nat) : State :=
  if l.isEmpty then s
  else
    let st := ((s.port n).scr).getD (Config.scrStart n ||| 1)
    let r := scrBlocks st.toNat l
    let inv := s.flag (Reg.PHY_CFG n) 3
    { s with
      lnk := { s.lnk with ports := upd s.lnk.ports n (fun p => { p with scr := some (BitVec.ofNat 58 r.1) }) }
      sys := { s.sys with out := s.sys.out ++ [.line n (if inv then r.2.map (2 ^ 66 - 1 - ·) else r.2)] } }

end Sys2Proof.Machine
end

