-- ==== Sys2Proof/Machine/Lane.lean ====
section
/-! DEFINITION. The lane hub's shared operations (chapter 08): ports, lanes and associations, qualification, moves,
audits, what is queued on a lane. -/
namespace Sys2Proof.Machine

/-! ### Roles -/

/-- A change of role: the ROLE entry (R419) and, for a unit that becomes ACTIVE, its free angle. -/
def State.setRole (s : State) (r : Role) : State :=
  if s.mo.role = r then s
  else
    let old := s.mo.role
    let s := { s with mo := { s.mo with role := r } }
    let s := if r = Role.active || r = Role.isolated then s.angFree else s
    s.logEv 0 0x0B 0x102 (old.code + r.code * 256 + s.pair.epoch.toNat * 2 ^ 16)

/-! ### Ports, lanes, associations -/

/-- Port `n` replaced by `f` of it. -/
def State.updPort (s : State) (n : Nat) (f : Port → Port) : State :=
  { s with lnk := { s.lnk with ports := upd s.lnk.ports n f } }
/-- Lane `n` replaced by `f` of it. -/
def State.updLane (s : State) (n : Nat) (f : Lane → Lane) : State :=
  { s with lnk := { s.lnk with lanes := upd s.lnk.lanes n f } }
/-- Association `n` replaced by `f` of it. -/
def State.updAssoc (s : State) (n : Nat) (f : Assoc → Assoc) : State :=
  { s with lnk := { s.lnk with assocs := upd s.lnk.assocs n f } }

/-- The primary lane that carries a submodule, with its slot (R137). -/
def State.slotOf (s : State) (smn : Nat) : Option (Nat × Nat) :=
  match s.primaries.find? (fun p => decide (s.mapBase p ≤ smn) && decide (smn < s.mapBase p + s.mapN p)) with
  | some p => some (p, smn - s.mapBase p)
  | none => none

/-- Newer of two epochs (R212). -/
def epochNewer (a b : BitVec 16) : Bool := decide (1 ≤ (a - b).toNat) && decide ((a - b).toNat ≤ 32767)

/-! ### Audits and bulk blocks -/

/-- The port that carries an association's bulk blocks: its route, or the pair's data path (R339). -/
def State.bulkPort (s : State) (a : Nat) : Option Nat :=
  if a = 20 then (if s.linkUp 20 then some 20 else if s.linkUp 21 then some 21 else none)
  else (s.assoc a).route

/-- The association of a port: 20 for P0 and P1. -/
def State.assocOf (s : State) (n : Nat) : Option Nat := if n ≥ 20 then some 20 else s.primaryOf n

/-- A block sent on a port: its record, and its blocks on the line. -/
def State.tx (s : State) (n : Nat) (name : String) (fields : List Nat) : State :=
  (s.emit (.lane n name fields)).line n (laneWire name fields)

/-- A block of the pair link sent on path `b`: its record, and its blocks on the line of P0 or P1. -/
def State.txPair (s : State) (b : Bool) (name : String) (fields : List Nat) : State :=
  (s.emit (.pair name (b2n b :: fields))).line (20 + b2n b) (pairWire name (b2n b :: fields))

/-- The three AUDITs of an association (R208). -/
def State.sendAudits (s : State) (a : Nat) : State :=
  match s.bulkPort a with
  | none => s
  | some n =>
    let x := s.assoc a
    (upto 3).foldl (fun s v => s.tx n "AUDIT"
        [v + 1, (s.rxLimit a v).toNat, (x.used.getD v 0).toNat, x.expect.toNat, b2n x.auditDone])
      (s.updAssoc a (fun x => { x with auditClk := s.sys.clk }))

/-- An audit begins in both directions (R208). -/
def State.startAudit (s : State) (a : Nat) : State :=
  (s.updAssoc a (fun x => { x with audit := true, auditRx := true, auditDone := false, replayDue := false })).sendAudits a

/-- A payload filled up to whole data blocks with zeros (R203). -/
def padBlocks (l : List Byte) : List Byte := l ++ List.replicate (8 * ((l.length + 7) / 8) - l.length) 0

/-- A block put into an association's queue of bulk blocks to send. -/
def State.queueBulk (s : State) (a vc : Nat) (conc : Bool) (slot : Nat) (payload : List Byte) (mir : Option Mirror := none) : State :=
  s.updAssoc a (fun x => { x with queue := x.queue ++
    [{ vc := Fin.ofNat 4 vc, seq := 0, conc := conc, slot := BitVec.ofNat 8 slot, payload := padBlocks payload, mir := mir }] })

/-- The 16-byte header of a VC1 block (R227). -/
def vc1Header (kind n smn first tag : Nat) : List Byte :=
  leBytes 1 kind ++ leBytes 1 n ++ leBytes 2 smn ++ leBytes 2 first ++ leBytes 2 0 ++ leBytes 8 tag

/-- A VC1 block for a submodule, queued on its association. -/
def State.queueVc1 (s : State) (smn : Nat) (payload : List Byte) : State :=
  match s.slotOf smn with
  | some (p, slot) => s.queueBulk p 1 false slot payload
  | none => s

/-! ### Submodules as the module holds them -/

/-- Submodule `n` replaced by `f` of it. -/
def State.updSm (s : State) (n : Nat) (f : Sm → Sm) : State :=
  { s with arm := { s.arm with sms := mset Sm.fresh s.arm.sms n (f (s.sm n)) } }

/-- First submodule, N and K of an arm (R136). -/
def State.armBase (s : State) (a : Nat) : Nat := s.fld (Reg.ARMa_BASE a) 0 12
/-- N of an arm. -/
def State.armN (s : State) (a : Nat) : Nat := s.fld (Reg.ARMa_N a) 0 11
/-- K of an arm. -/
def State.armK (s : State) (a : Nat) : Nat := s.fld (Reg.ARMa_K a) 0 10
/-- The submodule numbers of an arm. -/
def State.armSms (s : State) (a : Nat) : List Nat := (upto (s.armN a + s.armK a)).map (s.armBase a + ·)
/-- The arm a submodule lies in. -/
def State.armOf (s : State) (n : Nat) : Option Nat :=
  (upto 6).find? (fun a => decide (s.armBase a ≤ n) && decide (n < s.armBase a + s.armN a + s.armK a))

/-- The cyclic slots of an association of which this step's words are built: slot and word (R153). -/
def SmWord.encode (w : SmWord) (smn : Nat) (crc : Nat → Nat → Nat) : Nat :=
  let v := 1 * 2 ^ 124 + w.stamp * 2 ^ 108 + w.epoch.toNat * 2 ^ 92 + w.pat1 * 2 ^ 64 + w.pat2 * 2 ^ 36
    + b2n w.bal * 2 ^ 35 + b2n w.byp * 2 ^ 34 + b2n w.iso * 2 ^ 33 + b2n w.pci * 2 ^ 32 + smn * 2 ^ 16
  v + crc 112 (v / 2 ^ 16)

/-- The STAMP of the present step (R153): ROW[5:0] and the step. -/
def State.stamp (s : State) : Nat := (s.ang.row.toNat % 64) * 1024 + s.step10

/-- The word this unit built for a submodule in this step. -/
def State.wordNow (s : State) (smn : Nat) : Option SmWord :=
  (s.sm smn).words.find? (fun w => w.stamp == s.stamp)

/-- The word for a slot whose submodule lies in no arm range (R137). -/
def State.wordNoArm (s : State) : SmWord :=
  { stamp := s.stamp, epoch := s.pair.epoch, pat1 := 3 * 2 ^ 26, pat2 := 3 * 2 ^ 26, bal := false, byp := false,
    iso := true, pci := false }

/-- The word of a slot of primary `p` as sent, with the epoch in force. -/
def State.slotWord (s : State) (p slot : Nat) : Nat :=
  let smn := s.mapBase p + slot
  let w := if (s.armOf smn).isNone then s.wordNoArm else (s.wordNow smn).getD s.wordNoArm
  { w with epoch := s.pair.epoch }.encode smn crc16

/-- PIPE_MARGIN after a slot queued at `ac` (R35). -/
def State.marginAt (s : State) (ac : Nat) : State :=
  { s with pipe := { s.pipe with margin := min s.pipe.margin (800 - Int.ofNat ac) } }

/-- The whole cyclic region of a lane sent at one moment: a move (R210), a takeover (R351), out of slot or not. Ordinary runs
reach the lane hub at that moment (R504), which counts for PIPE_MARGIN (R35). -/
def State.sendRegion (s : State) (n p : Nat) (oos : Bool) : State :=
  let k := s.mapN p
  let ws := (upto k).map (fun j => s.slotWord p j)
  let s := s.when (!oos) (fun t => t.marginAt s.acUp)
  (s.updLane n (fun l => { l with qmask := 2 ^ k - 1, whole := true })).tx n "CYC_DN"
    ([b2n oos, b2n s.unitB, 0, k, s.pair.epoch.toNat, s.step10] ++ ws)

/-! ### Qualification and routes -/

/-- The conditions of R201 but for the audit. -/
def State.qualApart (s : State) (n : Nat) : Bool :=
  let l := s.lane n
  s.linkUp n && l.latSent &&
  match l.decl, l.d with
  | some dc, some d => decide (dc.conc = s.fld (Reg.LNK_CFG n) 16 16) && decide (d + dc.dDn * 1000 ≤ 2750000)
      && decide (d + dc.dUp * 1000 ≤ 3400000)
  | _, _ => false

/-- IDENT_REQ to every submodule of an association whose route first qualifies (R228). -/
def State.identAll (s : State) (p : Nat) : State :=
  (upto (s.mapN p)).foldl (fun s j =>
    let n := s.mapBase p + j
    ((s.updSm n (fun m => { m with identAt := some s.sys.clk })).queueBulk p 1 false j (vc1Header 5 0 n 0 0))) s

/-- QUAL of a lane brought up to date; a first usable lane becomes the route of an association without one (R201,
R210). -/
def State.requal (s : State) (n : Nat) : State :=
  match s.primaryOf n with
  | none => s.updLane n (fun l => { l with qual := false })
  | some p =>
    let ok := s.qualApart n
    let s := if ok && decide ((s.assoc p).route = none) then
        (s.updAssoc p (fun x => { x with route := some n, noRoute := false })).startAudit p
      else s
    let q := ok && !(decide ((s.assoc p).route = some n) && ((s.assoc p).audit || (s.assoc p).auditRx))
    let first := q && decide ((s.assoc p).route = some n) && !(s.assoc p).everQual
    let s := s.updLane n (fun l => { l with qual := q })
    if first then (s.updAssoc p (fun x => { x with everQual := true })).identAll p else s

/-- The assessment of R201 after a measurement or a declaration: flags, then qualification. -/
def State.assess (s : State) (n : Nat) : State :=
  let l := s.lane n
  let s := match l.decl, l.d with
    | some dc, some d =>
      if d + dc.dDn * 1000 > 2750000 ∨ d + dc.dUp * 1000 > 3400000 then s.setFlagEach (Reg.LNK_FLAGS n) 0 n else s
    | _, _ => s
  let s := match l.decl with
    | some dc => if dc.conc ≠ s.fld (Reg.LNK_CFG n) 16 16 then s.setFlagEach (Reg.LNK_FLAGS n) 1 n else s
    | none => s
  s.requal n

/-- At the exit from COMMISSION the route of every association is its primary, where that lane is usable (R209). -/
def State.routesHome (s : State) : State :=
  s.primaries.foldl (fun s p =>
    if s.qualApart p && decide ((s.assoc p).route ≠ some p) then
      let old := (s.assoc p).route
      let s := ((s.updAssoc p (fun x => { x with route := some p, noRoute := false })).startAudit p).requal p
      match old with | some n => s.requal n | none => s
    else s) s

/-- The association moves to lane `n` (R210): count, flag and entry, the region of the step where it still helps,
the audit. -/
def State.moveTo (s : State) (p n : Nat) : State :=
  let s := s.updAssoc p (fun x => { x with route := some n, noRoute := false })
  let s := (s.bump Reg.LNH_MOVE_CNT).setFlagEach Reg.LNH_FLAGS 0 p
  let s := if s.isActive && decide (s.ac < 800) && s.arm.built && s.laneMode then s.sendRegion n p false else s
  (s.startAudit p).requal n

/-- The route of association `p` has failed: a move to the other usable lane, or no route (R210). -/
def State.routeLost (s : State) (p : Nat) : State :=
  match (s.lanesOf p).find? (fun n => decide ((s.assoc p).route ≠ some n) && s.qualApart n) with
  | some n => s.moveTo p n
  | none =>
    let s := s.updAssoc p (fun x => { x with route := none, noRoute := x.everQual })
    if (s.assoc p).everQual then s.setFlagEach Reg.LNH_FLAGS 1 p else s

/-- The lane hub is told that port `n` has left LINK_UP (R186). -/
def State.laneDown (s : State) (n : Nat) : State :=
  if n ≥ 20 then s
  else
    let was := s.isRoute n
    let s := s.updLane n (fun l => { l with qual := false, latSent := false, decl := none, d := none, echo := none, runLeft := 0 })
    match s.primaryOf n with
    | some p => if was then s.routeLost p else s
    | none => s

/-- A lane that has lost its qualification while in LINK_UP is a cause of a move as well (R210). -/
def State.qualCheck (s : State) (n : Nat) : State :=
  if s.isRoute n && !s.qualApart n then
    match s.primaryOf n with
    | some p => (s.updLane n (fun l => { l with qual := false })).routeLost p
    | none => s
  else s

/-- A measurement of d begins on a lane (R197). -/
def State.echoSend (s : State) (n : Nat) : State :=
  let t := ((s.lane n).tag + 1) % 65536
  (s.updLane n (fun l => { l with tag := t, echo := some (t, s.sys.clk) })).tx n "ECHO_REQ" [t]

/-- Both lanes of a lane's association are in LINK_UP (R209). -/
def State.bothUp (s : State) (n : Nat) : Bool :=
  match s.primaryOf n with
  | some p => decide ((s.lanesOf p).length > 1) && (s.lanesOf p).all s.linkUp
  | none => false

/-- The STEP_MARK of the step on every qualified lane, on both lanes of an association that has both in LINK_UP, and over the pair
link (R26, R192, R196, R209, R339); TXOFS is the place of the launch on the block grid, below 6.4 ns (log entry 6). -/
def State.sendMarks (s : State) : State :=
  if !s.isActive || s.pair.silence then s
  else
    let ports := (upto 20).filter (fun n => (s.lane n).qual || s.bothUp n) ++
      (if s.paired then (upto 2).map (· + 20) |>.filter s.linkUp else [])
    ports.foldl (fun s n =>
      let (v, s) := s.draw
      s.tx n "STEP_MARK" [s.step10, s.ang.row.toNat % 2 ^ 22, s.pair.epoch.toNat, s.ang.rate.toNat, s.mode.code,
        b2n s.unitB, v.toNat % 205]) s

/-- IDLE on every port in LINK_UP, of which at least one goes out in every 128 blocks (R191): the record holds one per step and one
at LINK_UP (log entry 83). -/
def State.idleOut (s : State) (n : Nat) : State :=
  s.when (s.linkUp n) (fun s => s.tx n "IDLE" [b2n (s.isActive && s.lnk.disp), b2n s.unitB, s.pair.epoch.toNat])

/-- The IDLE blocks of a step. -/
def State.idles (s : State) : State := (upto 22).foldl (fun s n => s.idleOut n) s

/-- What a port that enters LINK_UP starts (R191, R197, R208): IDLE, an echo, and the audit of the association it carries. -/
def State.laneUp (s0 : State) (n : Nat) : State :=
  let s := s0.idleOut n
  if n ≥ 20 then s.startAudit 20
  else
    let s := s.echoSend n
    match s.primaryOf n with
    | some p => if (s.assoc p).route = some n then s.startAudit p else s
    | none => s

/-- RESTRICT on every qualified lane that carries a submodule of the arm (R202). -/
def State.sendRestrict (s : State) (set neg : Bool) (arm : Nat) : State :=
  if !s.isActive || !s.laneMode || s.pair.silence then s
  else
    ((upto 20).filter (fun n => (s.lane n).qual)).foldl (fun s n =>
      match s.primaryOf n with
      | none => s
      | some p =>
        let lo := max (s.mapBase p) (s.armBase arm)
        let hi := min (s.mapBase p + s.mapN p) (s.armBase arm + s.armN arm + s.armK arm)
        if lo < hi then
          let q := (s.lane n).rseq
          (s.updLane n (fun l => { l with rseq := (q + 1) % 256 })).tx n "RESTRICT"
            [b2n set, b2n neg, arm, lo - s.mapBase p, hi - 1 - s.mapBase p, q]
        else s) s

end Sys2Proof.Machine
end

