-- ==== Sys2Proof/Machine/Acq.lean ====
section
/-! DEFINITION. The acquisition engine (R291 to R305): trigger units, record slots, gaps, missed triggers, remote
capture, and the snapshot commands of R306. Positions are angle units since row 0. -/
namespace Sys2Proof.Machine

/-- Trigger unit `u` replaced by `f` of it. -/
def State.updUnit (s : State) (u : Nat) (f : TrgUnit → TrgUnit) : State :=
  { s with acq := { s.acq with units := upd s.acq.units u f } }

/-- Slot `k` replaced by `f` of it. -/
def State.updSlot (s : State) (k : Nat) (f : AcqSlot → AcqSlot) : State :=
  { s with acq := { s.acq with slots := upd s.acq.slots k f } }

/-- The member codes of a slot, in order (R309). -/
def State.members (s : State) (k : Nat) : List Nat :=
  (upto (s.slotNmem k)).map (fun j => s.fld (Reg.SLOTk_MEMj k (j / 4)) (8 * (j % 4)) 8)

/-- Bytes of a record (R302). -/
def AcqRec.size (r : AcqRec) : Nat := 1024 + 4 * r.nmem * r.total

/-- The boundary from which a position is counted (R45): the latest at or before it among those held, else the oldest held;
before any, the angle's start (log entry 95). -/
def State.boundOf (s : State) (pos : Nat) : Nat × Nat × Nat :=
  match s.ang.bounds.find? (fun b => decide (b.1 * 2 ^ 22 ≤ pos)) with
  | some b => b
  | none => s.ang.bounds.getLast?.getD (s.stepNo, s.ang.boundTai, s.ang.rate.toNat)

/-- Module time in ns of a position (R45): from the boundary of its own step, at the rate in force during that step. -/
def State.taiOf (s : State) (pos : Nat) : Nat :=
  let b := s.boundOf pos
  let ns (d : Nat) : Nat := d * 10 ^ 9 / (max 1 b.2.2 * 2 ^ 8)
  if pos ≥ b.1 * 2 ^ 22 then b.2.1 + ns (pos - b.1 * 2 ^ 22) else b.2.1 - ns (b.1 * 2 ^ 22 - pos)

/-! ### Records -/

/-- The first frame at or after a position among frames held newest first. -/
def firstAt (mem : List Frame) (p : Nat) : Option Nat :=
  ((mem.filter (fun f => decide (f.pos ≥ p))).getLast?).map (fun f => f.pos)

/-- FLTn_GD of each filter member, 0 for the others (R302). -/
def State.memberGd (s : State) (ms : List Nat) : List Word :=
  ms.map (fun m => if m / 64 = 1 then s.readReg (Reg.FLTn_GD (m % 64)) else 0)

/-- A record's trigger frame becomes known: the frame at `p` (R296). -/
def AcqRec.setTf (r : AcqRec) (p : Nat) (gd : List Word) : AcqRec :=
  let ts := r.trigs.map (fun t => if t.tf.isNone && decide (t.fpos ≤ p) then { t with tf := some p } else t)
  if r.tf.isSome then { r with trigs := ts } else { r with tf := some p, gd := gd, trigs := ts }

/-- A record in capture has its last frame (R299). -/
def AcqRec.full (r : AcqRec) : Bool :=
  if r.kind = 2 then false else decide (r.frames.length ≥ r.total)

/-- Runs of missing frames among `n`, as first frame and length (R300). -/
def gapRuns (n : Nat) (got : List (Nat × List Word)) : List (Nat × Nat) :=
  (upto n).foldl (fun acc i =>
    if (got.any (fun g => g.1 == i)) then acc
    else match acc with
      | (a, l) :: t => if a + l = i then (a, l + 1) :: t else (i, 1) :: acc
      | [] => [(i, 1)]) [] |>.reverse

/-- The gap table of R300: the 64th entry of more runs to the record's last frame. -/
def gapTable (n : Nat) (runs : List (Nat × Nat)) : List (Nat × Nat) × Bool :=
  if runs.length > 64 then
    let h := runs.take 63
    let l := runs.getD 63 (0, 0)
    (h ++ [(l.1, n - l.1)], true)
  else (runs, false)

/-- The gap table of a local record: the runs of its frames that could not be stored (R300). -/
def AcqRec.localGaps (r : AcqRec) : AcqRec :=
  if r.frames.all (fun f => !f.ws.isEmpty) then r
  else
    let got := (upto r.frames.length).filter (fun i => match r.frames[i]? with | some f => !f.ws.isEmpty | none => false)
    let t := gapTable r.total (gapRuns r.total (got.map (fun i => (i, []))))
    { r with gaps := t.1, gapFull := r.gapFull || t.2 }

/-- How many runs of frames not stored a record holds (R300). -/
def AcqRec.gapCnt (r : AcqRec) : Nat :=
  (r.frames.foldl (fun (a : Nat × Bool) f => (if f.ws.isEmpty && !a.2 then a.1 + 1 else a.1, f.ws.isEmpty)) (0, false)).1

/-- The last frame of a record has not been stored: a 65th gap entry fills the table (R300). -/
def AcqRec.gapCheck (r : AcqRec) : AcqRec := { r with gapFull := r.gapFull || decide (r.gapCnt > 64) }

/-- A frame enters a record; with the gap table full none is stored any more (R300). -/
def AcqRec.push (r : AcqRec) (f : Frame) : AcqRec :=
  let r1 := { r with frames := r.frames ++ [if r.gapFull then { f with ws := [] } else f] }
  if f.ws.isEmpty then r1.gapCheck else r1

/-- A dropped frame is counted (R300). -/
def State.gapCount (s : State) (k : Nat) : State := (s.bump Reg.ACQ_GAP_CNT).setFlag Reg.ACQ_FLAGS 2 k

/-- A complete local record passes to the unread records; its slot enters REARM (R299). -/
def State.recFinish (s : State) (k : Nat) : State :=
  match (s.slotK k).cur with
  | some r =>
    let s := s.updSlot k (fun x => { x with st := 4, cur := none, mem := [], held := 0, rearm := s.sys.clk })
    let r := if r.kind = 2 then r else r.localGaps
    let d := sortBy (fun x y => decide (x.num.toNat ≤ y.num.toNat)) (s.acq.done ++ [r])
    { s with acq := { s.acq with done := d } }
  | none => s

/-- The number of a record that starts in slot `k` (R303): the next one, or, where triggers decided on this clock have started
records in higher slots, the lowest of theirs, which move up by one. -/
def State.recNumber (s : State) (k : Nat) : Word × State :=
  let same (i : Nat) (x : AcqSlot) : Bool := decide (k < i) && x.cur.any (fun r => decide (r.startClk = s.sys.clk))
  let later := (s.acq.slots.mapIdx (fun i x => if same i x then x.cur.map (fun r => r.num) else none)).filterMap id
  let num := later.foldl (fun a b => if b.toNat < a.toNat then b else a) (s.reg Reg.ACQ_REC_NEXT)
  let s : State := { s with acq := { s.acq with slots := s.acq.slots.mapIdx (fun i x =>
    if same i x then { x with cur := x.cur.map (fun (r : AcqRec) => { r with num := r.num + 1 }) } else x) } }
  (num, s.setReg Reg.ACQ_REC_NEXT (s.reg Reg.ACQ_REC_NEXT + 1))

/-- A record that is full finishes. -/
def State.recCheck (s : State) (k : Nat) : State :=
  match (s.slotK k).cur with
  | some r => if r.full then s.recFinish k else s
  | none => s

/-- A record starts in slot `k` on a trigger (R296, R297, R303): the frames before the trigger frame, at most
PRE_SET, and those already held from it on. -/
def State.recStart (s : State) (k : Nat) (e : TrigEnt) : State :=
  let x := s.slotK k
  let tf := firstAt x.mem e.fpos
  let pre := s.preSet k
  let nfr := s.regN (Reg.SLOTk_NFR k)
  let before := (x.mem.filter (fun f => decide (f.pos < e.fpos))).take pre
  let after := (x.mem.filter (fun f => decide (f.pos ≥ e.fpos))).take (nfr - pre)
  let ms := s.members k
  let r : AcqRec := {
    num := (s.recNumber k).1, startClk := s.sys.clk, slot := k, kind := 0, nmem := s.slotNmem k, preLen := before.length,
    preSet := pre, total := before.length + (nfr - pre), extra := 0, short := decide (before.length < pre),
    partial_ := false, gapFull := false, gaps := [], members := ms,
    gd := if tf.isSome then s.memberGd ms else List.replicate ms.length 0,
    trigs := [{ e with tf := tf }], tf := tf, frames := before.reverse ++ after.reverse, smn := 0,
    tag := 0, got := [], lastClk := none }
  let s := (s.recNumber k).2
  (s.updSlot k (fun x => { x with st := 3, cur := some r, mem := [], held := 0 })).recCheck k

/-- The 16-byte header of CAP_REQ (R305). -/
def capReq (mask smn pre post tag win step row : Nat) : List Byte :=
  leBytes 1 1 ++ leBytes 1 mask ++ leBytes 2 smn ++ leBytes 2 pre ++ leBytes 2 post ++ leBytes 2 tag ++
  leBytes 6 (win + step * 2 ^ 3 + row % 2 ^ 22 * 2 ^ 13)

/-- A remote record starts (R304, R305): CAP_REQ goes to the submodule at the trigger frame, the first 128-ac
position at or after the firing sample. -/
def State.remStart (s : State) (k : Nat) (e : TrigEnt) : State :=
  let nfr := s.regN (Reg.SLOTk_NFR k)
  let pre := s.preSet k
  let rem := s.reg (Reg.SLOTk_REM k)
  let smn := bits rem 0 12
  let w := (e.fpos + 2 ^ 19 - 1) / 2 ^ 19
  let tag := (s.acq.tag + 1) % 2 ^ 16
  let r : AcqRec := {
    num := (s.recNumber k).1, startClk := s.sys.clk, slot := k, kind := 2, nmem := ((upto 4).filter (fun c => rem.getLsbD (16 + c))).length, preLen := pre, preSet := pre, total := nfr,
    extra := 0, short := false, partial_ := false, gapFull := false, gaps := [], members := [],
    gd := [], trigs := [{ e with tf := some (w * 2 ^ 19) }], tf := some (w * 2 ^ 19),
    frames := [], smn := smn, tag := tag, got := [], lastClk := none }
  let s := (s.recNumber k).2
  let s := s.updSlot k (fun x => { x with st := 3, cur := some r, mem := [], held := 0 })
  let s := { s with acq := { s.acq with tag := tag } }
  match s.slotOf smn with
  | some (p, slot) => s.queueBulk p 2 false slot
      (capReq (bits rem 16 4) smn pre (nfr - pre) tag (w % 8) (w / 8 % 1024) (w / 8192))
  | none => s

/-- A trigger enters the list of the record in capture, up to 8 entries; further ones are counted (R299). -/
def AcqRec.addTrig (r : AcqRec) (e : TrigEnt) : AcqRec :=
  if r.trigs.length < 8 then { r with trigs := r.trigs ++ [e] } else { r with extra := r.extra + 1 }

/-- A trigger that meets REARM (R301). -/
def State.missTrig (s : State) (k : Nat) (e : TrigEnt) : State :=
  let s := ((s.bump Reg.ACQ_MISSED).bump (Reg.SLOTk_MISSED k)).setFlag Reg.ACQ_FLAGS 0 k
  if s.acq.mfifo.length ≥ 16 then s.setFlag Reg.ACQ_FLAGS 1
  else { s with acq := { s.acq with mfifo := s.acq.mfifo ++ [⟨e.unit, k, e.cpos, e.ctai⟩] } }

/-- A trigger of slot `k` (R296, R304): remote slots run only while the unit is ACTIVE. -/
def State.slotTrig (s : State) (k : Nat) (e : TrigEnt) : State :=
  let x := s.slotK k
  let tfOf (r : AcqRec) : Option Nat :=
    if r.kind = 2 then some ((e.fpos + 2 ^ 19 - 1) / 2 ^ 19 * 2 ^ 19)
    else (r.frames.find? (fun f => decide (f.pos ≥ e.fpos))).map (fun f => f.pos)
  if s.slotKind k = 2 && !s.isActive then s
  else match x.st with
    | 1 => if s.slotKind k = 2 then s.remStart k e else s.recStart k e
    | 3 => s.updSlot k (fun x => { x with cur := x.cur.map (fun r => r.addTrig { e with tf := tfOf r }) })
    | 4 => s.missTrig k e
    | _ => s

/-! ### Trigger units -/

/-- The linear crossing in 1/256 of the sample period (R293). -/
def linFrac (lvl a b : Int) : Nat :=
  if b = a then 0
  else
    let q := if b > a then divRound (256 * (lvl - a)) (b - a).toNat else divRound (256 * (a - lvl)) (a - b).toNat
    (max 0 (min 256 q)).toNat

/-- The cubic through four equally spaced samples at `i`/256 of the middle interval, times 6 × 2^24 (R293). -/
def cubicAt (x0 x1 x2 x3 : Int) (i : Nat) : Int :=
  let t : Int := Int.ofNat i
  let a := x0 * t * (t - 256) * (t - 512)
  let b := 3 * x1 * (t + 256) * (t - 256) * (t - 512)
  let c := 3 * x2 * (t + 256) * t * (t - 512)
  let d := x3 * (t + 256) * t * (t - 256)
  b + d - a - c

/-- The first of the 256 sub-intervals in which the cubic reaches the level (R293, log entry 22). -/
def cubicFrac (lvl x0 x1 x2 x3 : Int) (falling : Bool) : Nat :=
  match (upto 256).find? (fun i =>
      let v := cubicAt x0 x1 x2 x3 (i + 1)
      let l := lvl * 6 * 2 ^ 24
      if falling then decide (v ≤ l) else decide (v ≥ l)) with
  | some i => i
  | none => 256

/-- A fire of unit `u` is decided (R293, R294): count, snapshot, slot trigger. -/
def State.fire (s : State) (u frac : Nat) (a b : TSample) (cubic lin : Bool) : State :=
  let cpos := a.pos + (b.pos - a.pos) * frac / 256
  let ctai := a.tai + (b.tai - a.tai) * frac / 256
  let st := s.reg (Reg.TRGu_STAT u)
  let s := s.setReg (Reg.TRGu_STAT u) (setBits st 16 16 (min 0xFFFF (bits st 16 16 + 1)))
  let c := s.reg (Reg.TRGu_CFG u)
  let s := s.when (bit c 12) (fun s => s.snapRaise (8 * 2 ^ u))
  s.when (bit c 13) (fun s => s.slotTrig (bits c 16 4)
    { unit := u, fpos := b.pos, cpos := cpos, ctai := ctai, cubic := cubic, linUsed := lin, tf := none })

/-- A cubic fire that waits is decided when the next sample is evaluated, or by the linear rule (R293). -/
def State.decideWait (s : State) (u : Nat) (x : Option TSample) : State :=
  let t := s.unitOf u
  match t.wait with
  | none => s
  | some falling =>
    let lvl := sx (s.reg (Reg.TRGu_LVL u))
    let s := s.updUnit u (fun t => { t with wait := none })
    match t.prev.getD 0 none, t.prev.getD 1 none with
    | some b, some a =>
      match x, t.prev.getD 2 none with
      | some y, some z => s.fire u (cubicFrac lvl z.x a.x b.x y.x falling) a b true false
      | _, _ => s.fire u (linFrac lvl a.x b.x) a b false true
    | _, _ => s

/-- Unit `u` evaluates one sample, or meets one that carries U (R291, R292). -/
def State.trgEval (s : State) (u : Nat) (x : Option TSample) : State :=
  let s := s.decideWait u x
  let t := s.unitOf u
  match x with
  | none => s.updUnit u (fun t => { t with primR := false, primF := false, prev := (none :: t.prev).take 4 })
  | some y =>
    if !t.armed || decide (y.pos < t.since) then s.updUnit u (fun t => { t with prev := (x :: t.prev).take 4 })
    else
      let c := s.reg (Reg.TRGu_CFG u)
      let lvl := sx (s.reg (Reg.TRGu_LVL u))
      let hy : Int := Int.ofNat (s.regN (Reg.TRGu_HYST u))
      let edge := bits c 8 2
      let up := edge ≠ 1
      let dn := edge ≠ 0
      let fr := decide up && t.primR && decide (y.x ≥ lvl)
      let ff := decide dn && t.primF && decide (y.x ≤ lvl)
      let fired := fr || ff
      let s := s.updUnit u (fun t => { t with
        primR := (t.primR && !fr) || (decide up && decide (y.x < lvl - hy)),
        primF := (t.primF && !ff) || (decide dn && decide (y.x > lvl + hy)),
        prev := (x :: t.prev).take 4 })
      if !fired then s
      else
        let s := s.when (bit c 11) (fun s => s.updUnit u (fun t => { t with armed := false, primR := false, primF := false }))
        if bit c 10 then s.updUnit u (fun t => { t with wait := some ff })
        else
          match t.prev.getD 0 none with
          | some a => s.fire u (linFrac lvl a.x y.x) a y false false
          | none => s.fire u 256 y y false false

/-- The armed state follows EN: enabling arms and clears priming; disabling disarms (R292). -/
def State.trgEnable (s : State) (u : Nat) (was : Bool) : State :=
  let en := s.flag (Reg.TRGu_CFG u) 0
  if en && !was then s.updUnit u (fun t => { t with
      armed := !s.flag (Reg.TRGu_CFG u) 11, primR := false, primF := false, prev := [], wait := none, since := 0 })
  else if !en then s.updUnit u (fun t => { t with armed := false, primR := false, primF := false, wait := none })
  else if !s.flag (Reg.TRGu_CFG u) 11 && !(s.unitOf u).armed then
    s.updUnit u (fun t => { t with armed := true, primR := false, primF := false, since := 0 })
  else s

/-- Arm the units of a mask: single-shot units that are enabled (R292). -/
def State.trgArm (s : State) (mask pos : Nat) : State :=
  (upto 8).foldl (fun s u =>
    if mask.testBit u && s.flag (Reg.TRGu_CFG u) 0 then
      s.updUnit u (fun t => { t with armed := true, primR := false, primF := false, since := pos }) else s) s

/-! ### Frames -/

/-- Frames a continuous slot's ring holds (R300). -/
def State.ringCap (s : State) (k : Nat) : Nat := s.fld (Reg.SLOTk_SIZE k) 0 12 * 2 ^ 20 / (4 * max 1 (s.slotNmem k))

/-- A frame of a continuous slot: stored, or dropped and accounted for in the gap ring (R300). -/
def State.ringFrame (s : State) (k : Nat) (f : Frame) : State :=
  let x := s.slotK k
  let room := decide (x.ring.length < s.ringCap k)
  let gapRoom := x.gapOpen.isNone || decide (x.gapRing.length < 256)
  if room && gapRoom && !f.ws.isEmpty then
    s.updSlot k (fun x => { x with
      ring := x.ring ++ [(x.index, f)], index := x.index + 1,
      gapRing := x.gapRing ++ x.gapOpen.toList, gapOpen := none })
  else
    (s.updSlot k (fun x => { x with
      index := x.index + 1,
      gapOpen := some (match x.gapOpen with | some (a, n) => (a, n + 1) | none => (x.index, 1)) })).gapCount k

/-- A complete frame of slot `k` (R296): into the pre-trigger memory, the record in capture, or the ring. A few more
frames than PRE_SET are held, so that a trigger decided later finds the frames before its own. -/
def State.slotFrame (s : State) (k : Nat) (f : Frame) : State :=
  match (s.slotK k).st with
  | 1 => s.updSlot k (fun x => { x with
      mem := (f :: x.mem).take (s.preSet k + 4096), held := min (x.held + 1) (s.preSet k) })
  | 3 =>
    let s := s.when (!f.ws.isEmpty && (match (s.slotK k).cur with | some r => r.gapFull | none => false)) (fun s => s.gapCount k)
    let s := s.updSlot k (fun x => { x with cur := x.cur.map (fun r =>
      let r := if r.trigs.any (fun t => t.tf.isNone && decide (t.fpos ≤ f.pos)) then r.setTf f.pos (s.memberGd r.members) else r
      r.push f) })
    s.recCheck k
  | 5 => s.ringFrame k f
  | _ => s

/-- A sample of a member source reaches slot `k`; a frame is complete when every member has its sample. -/
def State.slotSample (s : State) (k code pos tai : Nat) (w : Word) : State :=
  let x := s.slotK k
  if s.flag Reg.ACQ_CFG 0 && (x.st = 1 || x.st = 3 || x.st = 5) && decide (s.slotKind k ≠ 2) then
    let ms := s.members k
    let js := (upto ms.length).filter (fun j => ms.getD j 0 == code)
    if js.isEmpty then s
    else
      let have_ := mget [] x.part pos ++ js.map (fun j => (j, w))
      if have_.length ≥ ms.length then
        let ws := (upto ms.length).map (fun j => mget 0 (sortBy (fun a b => decide (a.1 ≤ b.1)) have_) j)
        -- R435: frames are dropped while the SRAM is in RETV
        let f : Frame := { pos := pos, tai := tai, ws := if s.mem.retv then [] else ws }
        let s := s.when (s.mem.retv && decide (x.st ≠ 5)) (fun s => s.gapCount k)
        let s := s.updSlot k (fun x => { x with part := x.part.filter (fun p => decide (p.1 > pos)) })
        s.slotFrame k f
      else s.updSlot k (fun x => { x with part := mins x.part pos have_ })
  else s

/-- The newest frame of a slot is lost in its write buffer (R431). -/
def State.dropNewest (s : State) (k : Nat) : State :=
  let x := s.slotK k
  let lose (f : Frame) : Frame := { f with ws := [] }
  match x.st with
  | 1 => if x.mem.isEmpty then s else (s.updSlot k (fun x => { x with mem := upd x.mem 0 lose })).gapCount k
  | 3 => (s.updSlot k (fun x => { x with cur := x.cur.map (fun r =>
      ({ r with frames := upd r.frames (r.frames.length - 1) lose } : AcqRec).gapCheck) })).gapCount k
  | 5 =>
    match x.ring.getLast? with
    | some (i, _) =>
      (s.updSlot k (fun x => { x with
        ring := x.ring.dropLast,
        gapOpen := some (match x.gapOpen with | some (a, n) => (a, n + 1) | none => (i, 1)) })).gapCount k
    | none => s
  | _ => s

/-- A member's sample to every slot. -/
def State.acqSample (s : State) (code pos tai : Nat) (w : Word) : State :=
  (upto 16).foldl (fun s k => s.slotSample k code pos tai w) s

/-- A filter output reaches the engine: trigger units first, then slots (R291, R295). -/
def State.acqFilter (s : State) (n : Nat) (w : Word) (pos tai : Nat) : State :=
  if !s.flag Reg.ACQ_CFG 0 then s
  else
    let v : Int := Int.fdiv (sx w) 256
    let s := (upto 8).foldl (fun s u =>
      let c := s.reg (Reg.TRGu_CFG u)
      if bit c 0 && !bit c 1 && bits c 2 6 == n then
        s.trgEval u (if bit w 7 then none else some ⟨v, pos, tai⟩) else s) s
    s.acqSample (64 + n) pos tai w

/-- The signals of a step reach the engine at the fixed time of R66 (R291). -/
def State.acqSignals (s : State) : State :=
  if !s.flag Reg.ACQ_CFG 0 then s
  else
    let pos := s.stepNo * 2 ^ 22
    let tai := s.ang.boundTai
    let sig (n : Nat) : Word := nth 0 s.gfe.sig n
    let s := (upto 8).foldl (fun s u =>
      let c := s.reg (Reg.TRGu_CFG u)
      if bit c 0 && bit c 1 then s.trgEval u (some ⟨sx (sig (bits c 2 6)), pos, tai⟩) else s) s
    (upto 64).foldl (fun s n => s.acqSample (128 + n) pos tai (sig n)) s

/-! ### Slot enable and boundary -/

/-- EN of slot `k` takes effect (R296, R300): enabling enters FILL, or STREAM with index 0; disabling enters IDLE. -/
def State.slotEnable (s : State) (k : Nat) (was : Bool) : State :=
  let en := s.flag (Reg.SLOTk_CFG k) 0
  if en && !was then s.updSlot k (fun _ => { AcqSlot.fresh with st := if s.slotKind k = 1 then 5 else 1 })
  else if !en && was then s.updSlot k (fun _ => AcqSlot.fresh)
  else s

/-- Room for another full record in the slot (R299). -/
def State.slotRoom (s : State) (k : Nat) : Bool :=
  let used := (s.unread k).foldl (fun n r => n + r.size) 0
  decide (used + 1024 + 4 * s.slotNmem k * s.regN (Reg.SLOTk_NFR k) ≤ s.fld (Reg.SLOTk_SIZE k) 0 12 * 2 ^ 20)

/-- The oldest unread record of slot `k` is discarded (R299). -/
def State.discardOldest (s : State) (k : Nat) : State :=
  match s.unread k with
  | [] => s
  | r :: _ => ({ s with acq := { s.acq with done := s.acq.done.filter (fun q => decide (q.num ≠ r.num)) } } : State).bump
      (Reg.SLOTk_DISCARD k)

/-- Discard until there is room. -/
def State.makeRoom (s : State) (k : Nat) : Nat → State
  | 0 => s
  | n + 1 => if s.slotRoom k then s else (s.discardOldest k).makeRoom k n

/-- RECORD_CLOSE (R299): in REARM, with room or by OVERWRITE, the slot enters FILL with empty memory. -/
def State.recordCloseAct (s : State) (k : Nat) : State :=
  if (s.slotK k).st ≠ 4 then s
  else
    let s := if s.flag (Reg.SLOTk_CFG k) 3 then s.makeRoom k (s.unread k).length else s
    if s.slotRoom k then s.updSlot k (fun x => { x with st := 1, mem := [], held := 0, part := [] }) else s

/-- RECORD_CLOSE (R299). -/
def execRecordClose (k : Fin 16) (s : State) : Host.Outcome State Fault Refusal := s.live (s.recordCloseAct k)

/-- ACQ_MFIFO_POP (R301): the head entry leaves the FIFO. -/
def State.mfifoPop (s : State) : State := { s with acq := { s.acq with mfifo := s.acq.mfifo.drop 1 } }

/-! ### Remote capture -/

/-- The open remote record with a tag, and its slot (R305). -/
def State.remOpen (s : State) (smn tag : Nat) : Option Nat :=
  (upto 16).find? (fun k => match (s.slotK k).cur with
    | some r => decide (r.kind = 2) && decide (r.tag = tag) && decide (r.smn = smn)
    | none => false)

/-- A VC2 block that no open request holds (R305). -/
def State.remErr (s : State) : State := (s.bump Reg.ACQ_REM_ERR).setFlag Reg.ACQ_FLAGS 3

/-- A remote record ends (R304, R305): frames not received are gaps. -/
def State.remEnd (s : State) (k : Nat) : State :=
  match (s.slotK k).cur with
  | some r =>
    let t := gapTable r.total (gapRuns r.total r.got)
    let miss := t.1.foldl (fun n g => n + g.2) 0
    let p0 := r.tf.getD 0 - r.preLen * 2 ^ 19
    let fr := (upto r.total).map (fun i => ({ pos := p0 + i * 2 ^ 19, tai := s.taiOf (p0 + i * 2 ^ 19), ws := mget [] r.got i } : Frame))
    let r := { r with gaps := t.1, gapFull := t.2, partial_ := decide (miss > 0), frames := fr }
    let s := (s.updSlot k (fun x => { x with cur := some r })).recFinish k
    if miss > 0 then (s.bumpBy Reg.ACQ_GAP_CNT miss).setFlag Reg.ACQ_FLAGS 2 k else s
  | none => s

/-- The words of a CAP_DATA block as frames (R305): `n` frames from `first`, one word per channel. -/
def capFrames (n first wd : Nat) (data : List Word) : List (Nat × List Word) :=
  (upto n).map (fun i => (first + i, (data.drop (i * wd)).take wd))

/-- Frames of a remote record put in their places; those past its end have none (R305). -/
def AcqRec.place (r : AcqRec) (l : List (Nat × List Word)) : AcqRec :=
  { r with got := l.foldl (fun g f => if f.1 < r.total then mins g f.1 f.2 else g) r.got }

/-- CAP_DATA_RX (R305): the frames are stored in their places. -/
def State.capData (s : State) (smn tag n first : Nat) (data : List Word) : State :=
  match s.remOpen smn tag with
  | some k => s.updSlot k (fun x => { x with cur := x.cur.map (fun r => r.place (capFrames n first r.nmem data)) })
  | none => s.remErr

/-- CAP_DATA_RX (R305). -/
def execCapDataRx (smn : Fin 4096) (tag : BitVec 16) (n : Byte) (first : Word) (data : List Word) (s : State) :
    Host.Outcome State Fault Refusal := s.live (s.capData smn tag.toNat n.toNat first.toNat data)

/-- CAP_END_RX (R305): the capture closes; with STATUS 2 every frame of the record is a gap. -/
def State.capEnd (s : State) (smn tag status : Nat) : State :=
  match s.remOpen smn tag with
  | some k =>
    let s := if status = 2 then s.updSlot k (fun x => { x with cur := x.cur.map (fun r => { r with got := [] }) }) else s
    s.remEnd k
  | none => s.remErr

/-- CAP_END_RX (R305). The count of frames the block carries is what was received already. -/
def execCapEndRx (smn : Fin 4096) (tag : BitVec 16) (status : Byte) (_sent : Word) (s : State) :
    Host.Outcome State Fault Refusal := s.live (s.capEnd smn tag.toNat status.toNat)

/-- At each boundary: the clock at which a remote record's last position passed is kept (R304). -/
def State.remBoundary (s : State) : State :=
  { s with acq := { s.acq with slots := s.acq.slots.map (fun x => { x with cur := x.cur.map (fun r =>
      if r.kind = 2 && r.lastClk.isNone && decide (s.stepNo * 2 ^ 22 ≥ r.tf.getD 0 + (r.total - r.preLen - 1) * 2 ^ 19)
      then { r with lastClk := some s.sys.clk } else r) }) } }

/-- REMOTE_TIMEOUT (R304): 100 ms after the last post-trigger position the record ends. -/
def State.remTimeout (s : State) (k : Nat) : State :=
  match (s.slotK k).cur with
  | some r => match r.lastClk with
    | some t => s.atDue (t + 40000000) (fun s => s.remEnd k)
    | none => s
  | none => s

/-- REMOTE_TIMEOUT (R304). -/
def execRemoteTimeout (k : Fin 16) (s : State) : Host.Outcome State Fault Refusal := s.live (s.remTimeout k)

/-- Captures in progress when the unit stops being ACTIVE end, their frames accounted as gaps (R304). -/
def State.remLoseActive (s : State) : State :=
  (upto 16).foldl (fun s k => match (s.slotK k).cur with
    | some r => if r.kind = 2 then s.remEnd k else s
    | none => s) s

/-! ### Snapshot commands -/

/-- SNAP_IN_EDGE (R306): with IN_EN, the chosen edge raises SNAP. -/
def execSnapInEdge (level : Bool) (s : State) : Host.Outcome State Fault Refusal :=
  let s1 := { s with snap := { s.snap with pinIn := level } }
  s.live (if level != s.snap.pinIn && s.flag Reg.SNAP_CFG 0 && (level != s.flag Reg.SNAP_CFG 1) then s1.snapRaise 4
    else s1)

/-- SNAP_CMD (R306): a write of SNAP_CMD.GO. -/
def execSnapCmd (s : State) : Host.Outcome State Fault Refusal := s.live (s.snapRaise 1)

/-- SNAP_COPY_DONE (R307). -/
def execSnapCopyDone (s : State) : Host.Outcome State Fault Refusal := s.live s.snapDone

/-! ### Record bytes -/

/-- The crossing of a trigger in 1/256 frame from frame 0 (R302), two's complement. -/
def AcqRec.crossIndex (r : AcqRec) (t : TrigEnt) : Nat :=
  let at_ (i : Nat) : Int := Int.ofNat ((r.frames[i]?).map (fun f => f.pos) |>.getD 0)
  let i := (r.frames.filter (fun f => decide (f.pos ≤ t.cpos))).length
  let i := max 1 (min i (r.frames.length - 1))
  let p := at_ i - at_ (i - 1)
  let fr := if p > 0 then divRound ((Int.ofNat t.cpos - at_ (i - 1)) * 256) p.toNat else 0
  (BitVec.ofInt 32 (256 * (Int.ofNat i - 1) + fr)).toNat

/-- The unit that carries START: the lowest of those whose trigger frame is the record's (R298). -/
def AcqRec.starter (r : AcqRec) : Nat :=
  (r.trigs.filter (fun t => decide (t.tf = r.tf))).foldl (fun m t => min m t.unit) 255

/-- The header of a record (R302). -/
def AcqRec.header (r : AcqRec) : List Byte :=
  let f0 : Frame := r.frames.getD 0 ⟨0, 0, []⟩
  let st := r.starter
  let trig (t : TrigEnt) : List Byte :=
    leBytes 1 t.unit ++ leBytes 1 (b2n (decide (t.unit = st) && decide (t.tf = r.tf)) + 2 * b2n t.cubic + 4 * b2n t.linUsed) ++
    leBytes 2 0 ++ leBytes 4 (r.crossIndex t) ++ leBytes 8 t.ctai
  let pad (n : Nat) (l : List Byte) : List Byte := l ++ List.replicate (n - l.length) 0
  leBytes 4 r.num.toNat ++ leBytes 1 r.slot ++ leBytes 1 r.kind ++ leBytes 1 r.nmem ++ leBytes 1 r.trigs.length ++
  leBytes 4 r.total ++ leBytes 4 r.preLen ++ leBytes 4 r.preSet ++ leBytes 4 r.extra ++ leBytes 4 r.gaps.length ++
  leBytes 1 (b2n r.short + 2 * b2n r.gapFull + 4 * b2n r.partial_) ++ leBytes 3 0 ++
  pad 16 (r.members.map (fun m => BitVec.ofNat 8 m)) ++ pad 64 (r.gd.flatMap (fun w => leBytes 4 w.toNat)) ++
  leBytes 4 f0.pos ++ leBytes 8 (f0.pos / 2 ^ 32) ++ leBytes 8 f0.tai ++
  pad 128 (r.trigs.flatMap trig) ++ pad 512 (r.gaps.flatMap (fun g => leBytes 4 g.1 ++ leBytes 4 g.2)) ++
  List.replicate 252 0

/-- The words of one frame as read out; a frame in a gap holds a free value (R300, log entry 6). -/
def AcqRec.frameWords (r : AcqRec) (i : Nat) : List Word :=
  match r.frames[i]? with
  | some f =>
    let gap := r.gaps.any (fun g => decide (g.1 ≤ i) && decide (i < g.1 + g.2))
    if f.ws.length = r.nmem && !gap then f.ws
    else if f.ws.isEmpty || gap then (upto r.nmem).map (fun j => Config.gapWord r.num.toNat i j)
    else (upto r.nmem).map (fun j => f.ws.getD j 0)
  | none => List.replicate r.nmem 0

/-- Bytes `off` to `off + n − 1` of a record (R302). -/
def AcqRec.bytes (r : AcqRec) (off n : Nat) : List Byte :=
  let h := if off < 1024 then (r.header.drop off).take n else []
  let k := n - h.length
  let b := off + h.length - 1024
  let w := 4 * max 1 r.nmem
  let i0 := b / w
  let cnt := (k + w - 1) / w + 1
  let body := (upto cnt).flatMap (fun i => if i0 + i < r.total then (r.frameWords (i0 + i)).flatMap (fun x => leBytes 4 x.toNat) else [])
  h ++ ((body.drop (b % w)).take k)

end Sys2Proof.Machine
end

