-- ==== Sys2Proof/Machine/Mtr.lean ====
section
/-! DEFINITION. The metering unit (chapter 14): samples, energies, registers, intervals, tariffs, the kept and the
mirrored state, the seal and its audit. -/
namespace Sys2Proof.Machine

/-- One addition of `n`/`d` in 2^-32 mWh (R317): nearest, ties away from zero, the rounding error carried; the count
saturates at 2^64 − 1. -/
def MtrReg.add (x : MtrReg) (n : Int) (d : Nat) : MtrReg :=
  let num := n * Int.ofNat x.errD + x.errN * Int.ofNat d
  let den := d * x.errD
  let k := divRound num den
  let e := num - k * Int.ofNat den
  let g := max 1 (Nat.gcd e.natAbs den)
  let t := (Int.ofNat (x.count * 2 ^ 32 + x.res) + k).toNat
  if t / 2 ^ 32 ≥ 2 ^ 64 then { x with count := 2 ^ 64 - 1, res := 2 ^ 32 - 1 }
  else { count := t / 2 ^ 32, res := t % 2 ^ 32, errN := Int.tdiv e g, errD := den / g }

/-- The energies of a sample as quantities (R316): index and numerator. -/
def Energy.quantities (e : Energy) : List (Nat × Int) :=
  (if e.p < 0 then [(0, -e.p)] else [(1, e.p)]) ++
  (if e.q ≥ 0 then (if e.p ≥ 0 then [(2, e.q)] else [(3, e.q)])
   else (if e.p < 0 then [(4, -e.q)] else [(5, -e.q)]))

/-- A sample's energies added to the total and to the set of the tariff (R317). -/
def MtrCore.accumulate (c : MtrCore) (tariff : Nat) (e : Energy) : MtrCore :=
  e.quantities.foldl (fun c q =>
    { c with regs := upd (upd c.regs q.1 (·.add q.2 e.den)) (6 * tariff + q.1) (·.add q.2 e.den) }) c

/-- What intervals and tariffs depend on: the length in ns, tariff-clock time less module time in ns, the switch
points, and whether module time is traceable (R319, R321, R322). -/
structure MtrCfg where
  len : Nat
  ofs : Int
  points : List Word
  timeOk : Bool
  deriving DecidableEq, Repr

/-- The latest enabled switch point of weekday `wd` with a minute not above `m`: its minute and tariff (R321). -/
def lastPoint (points : List Word) (wd m : Nat) : Option (Nat × Nat) :=
  points.foldl (fun acc w =>
    let k := bits w 0 11
    if bit w 15 && (bits w 16 7).testBit wd && decide (k ≤ m) && (match acc with | some a => decide (a.1 ≤ k) | none => true)
    then some (k, bits w 12 3 + 1) else acc) none

/-- The tariff in force at a tariff-clock minute since 1970-01-01, a Thursday (R321). Where points are enabled and none
applies on either day, R321 states no tariff: a free value (log entry 6). -/
def MtrCfg.tariff (f : MtrCfg) (minute : Int) : Nat :=
  let day := Int.fdiv minute 1440
  let m := (Int.fmod minute 1440).toNat
  let wd := (Int.fmod (day + 3) 7).toNat
  match lastPoint f.points wd m with
  | some p => p.2
  | none => match lastPoint f.points ((wd + 6) % 7) 1439 with
    | some p => p.2
    | none => if f.points.any (fun w => bit w 15) then Config.openTariff day % 8 + 1 else 1

/-- The interval number of a module time (R319), before the reduction modulo 2^32. -/
def MtrCfg.number (f : MtrCfg) (t : Int) : Int := Int.fdiv (t + f.ofs) (max 1 f.len)

/-- The total counts. -/
def MtrCore.totals (c : MtrCore) : List Nat := (upto 6).map (fun q => (c.reg 0 q).count)

/-- Interval `n` opens with a status (R320, R321). -/
def MtrCore.openInt (c : MtrCore) (f : MtrCfg) (n : Int) (status : Nat) : MtrCore :=
  { c with opn := some {
      start := n * f.len - f.ofs, stop := (n + 1) * f.len - f.ofs, no := (Int.emod n (2 ^ 32)).toNat,
      tariff := f.tariff (Int.fdiv (n * f.len) 60000000000), status := status, nsub := 0, base := c.totals } }

/-- Set status bits of the open interval. -/
def MtrCore.mark (c : MtrCore) (b : Nat) : MtrCore :=
  { c with opn := c.opn.map (fun o => { o with status := o.status ||| b }) }

/-- The open interval closes into a profile record (R320, R323). -/
def MtrCore.close (c : MtrCore) : MtrCore :=
  match c.opn with
  | none => c
  | some o =>
    let r : MtrProf := { start := o.start, no := o.no, tariff := o.tariff, status := o.status, nsub := min 65535 o.nsub,
                         inc := (upto 6).map (fun q => (c.reg 0 q).count - o.base.getD q 0) }
    { c with opn := none, prof := (r :: c.prof).take 40960, nrec := c.nrec + 1,
             plost := if c.prof.length ≥ 40960 then min 0xFFFF_FFFF (c.plost + 1) else c.plost }

/-- A sample placed in its interval (R320, R322): the metering state and whether an interval produced no record. -/
def MtrCore.place (c : MtrCore) (f : MtrCfg) (t : Int) (stepped partNext : Bool) : MtrCore × Bool :=
  let n := f.number t
  match c.opn with
  | none => (c.openInt f n 0x80, false)
  | some o =>
    if t ≥ o.stop then
      let gap := decide (n * f.len - f.ofs > o.stop)
      ((if stepped then c.mark 4 else c).close.openInt f n (8 * b2n gap + 0x80 * b2n partNext), gap)
    else ((if stepped then c.mark 4 else c), false)

/-- A sample taken: placed, marked and accumulated. The Boolean reports an interval without samples. -/
def MtrCore.take (c : MtrCore) (f : MtrCfg) (x : MtrTake) (partNext pairSubst : Bool) : MtrCore × Bool :=
  let r := c.place f x.t x.stepped partNext
  let c := r.1.mark (b2n x.subst + 2 * b2n x.ovr + 16 * b2n pairSubst + 32 * b2n (!f.timeOk))
  let c := if x.subst then { c with opn := c.opn.map (fun o => { o with nsub := min 65535 (o.nsub + 1) }) } else c
  match x.e, c.opn with
  | some e, some o => (c.accumulate o.tariff e, r.2)
  | _, _ => (c, r.2)

/-! ### Samples -/

/-- The configuration of intervals and tariffs as the registers stand. -/
def State.mtrCfg (s : State) : MtrCfg :=
  let tz : Int := (BitVec.ofNat 16 (s.fld Reg.MTR_TZ 0 16)).toInt
  { len := s.fld Reg.MTR_INTV 0 6 * 60000000000,
    ofs := tz * 60000000000 - Int.ofNat (s.fld Reg.CAL_UTC_OFS 0 16) * 1000000000,
    points := (upto 16).map (fun t => s.reg (Reg.MTR_TSWt t)),
    timeOk := s.flag Reg.CAL_STAT 3 && s.flag Reg.CAL_STAT 8 }

/-- The six inputs of MTR_MAP: voltages, then currents (R312). -/
def State.mtrInputs (s : State) : List Nat :=
  let v := s.fld Reg.MTR_MAP 0 5
  let i := s.fld Reg.MTR_MAP 8 5
  (upto 3).map (v + ·) ++ (upto 3).map (i + ·)

/-- The metering channel of an input (R281): enabled, ROLE 2, fed from the input. -/
def State.mtrChan (s : State) (input : Nat) : Option Nat :=
  (upto 32).find? (fun n =>
    let c := s.reg (Reg.FLTn_CFG n)
    bit c 0 && bits c 10 2 == 2 && !bit c 12 && bits c 16 5 == input)

/-- A metering output is kept until its step is accumulated. -/
def State.mtrOutput (s : State) (n : Nat) (w : Word) (pos : Nat) : State :=
  let c := s.reg (Reg.FLTn_CFG n)
  if bits c 10 2 = 2 && !bit c 12 then
    let xs := (upto 6).filter (fun x => s.mtrInputs.getD x 99 == bits c 16 5)
    if xs.isEmpty then s
    else
      let k := pos / 2 ^ 20
      let l := mget [] s.mtr.part k ++ xs.map (fun x => (x, w))
      { s with mtr := { s.mtr with part := mins s.mtr.part k l } }
  else s

/-- The 24-bit value of a filter output. -/
def val24 (w : Word) : Int := Int.fdiv (sx w) 256

/-- |i| below the no-load threshold of R314. -/
def State.noLoad (s : State) (i : List Int) : Bool :=
  let inn : Int := Int.ofNat (s.regN Reg.MTR_IN)
  let ifs : Int := Int.ofNat (s.regN Reg.MTR_IFS)
  i.all (fun x => decide (2000000 * (x * ifs) ^ 2 < inn ^ 2 * 2 ^ 46))

/-- Sum of products. -/
def dot (a b : List Int) : Int := (List.zipWith (· * ·) a b).foldl (· + ·) 0

/-- One sample of the metering stream at position `k` (units of 256 ac), from the outputs that arrived (R312 to R315,
R318). -/
def State.mtrSample (s : State) (k : Nat) : State × MtrTake :=
  let m := s.mtr
  let ws := mget [] m.part k
  let get (x : Nat) : Option Word := (ws.find? (fun p => p.1 == x)).map (·.2)
  let bad (x : Nat) : Bool := match get x with | some w => bit w 7 | none => true
  let val (x : Nat) : Int := match get x with | some w => val24 w | none => 0
  let v := (upto 3).map val
  let i := (upto 3).map (fun x => val (3 + x))
  let vbad := (upto 3).any bad
  let early := decide (m.nsamp < 1024)
  let dl := m.hist[1023]?
  let subst := (upto 6).any bad || (!early && (match dl with | some d => d.vbad | none => true))
  let ovr := (upto 6).any (fun x => match get x with | some w => bit w 5 | none => false)
  let sc : Int := Int.ofNat (s.regN Reg.MTR_VFS * s.regN Reg.MTR_IFS)
  let den := 14400 * max 1 s.ang.rate.toNat
  let meas : Option Energy := if s.noLoad i then none else
    some { p := dot v i * sc, q := if early then 0 else dot (match dl with | some d => d.v | none => [0, 0, 0]) i * sc, den := den }
  let e := if subst then (match m.hist[4095]? with | some h => h.e | none => none) else meas
  let gd : Int := match s.mtrChan (s.fld Reg.MTR_MAP 0 5) with
    | some n => Int.ofNat (s.regN (Reg.FLTn_GD n)) | none => 0
  let r := max 1 s.ang.rate.toNat
  -- (k mod 4 × 256 − GD/2) ac after the boundary, in ns: one ac is 2^4 × 10^9 / rate ns
  let t : Int := Int.ofNat s.ang.boundTai + divFloor ((Int.ofNat (2 * (k % 4) * 256) - gd) * 8000000000) r
  let stepped := m.timeStep || (match m.lastT with | some p => decide (t < p) | none => false)
  let h : MtrSample := { v := v, i := i, vbad := vbad, measured := !subst, e := e }
  let s := { s with mtr := { m with
    hist := (h :: m.hist).take 4096, nsamp := m.nsamp + 1, part := m.part.filter (fun p => decide (p.1 > k)),
    lastT := some t, timeStep := false,
    substCnt := if subst then satInc m.substCnt else m.substCnt } }
  let s := (s.when subst (fun s => s.setFlag Reg.MTR_FLAGS 0)).when (ovr && !subst) (fun s => s.setFlag Reg.MTR_FLAGS 1)
  let s := s.when stepped (fun s => s.setFlag Reg.MTR_FLAGS 2)
  (s, { t := t, e := e, subst := subst, ovr := ovr && !subst, stepped := stepped })

/-- Several samples taken by a metering state. -/
def MtrCore.takes (c : MtrCore) (f : MtrCfg) (l : List MtrTake) (partNext pairSubst : Bool) : MtrCore × Bool :=
  l.foldl (fun r x => let t := r.1.take f x (partNext && !r.2) pairSubst; (t.1, r.2 || t.2)) (c, false)

/-- A register of the metering state stands at its limit (R317). -/
def MtrCore.sat (c : MtrCore) : Bool := c.regs.any (fun x => decide (x.count = 2 ^ 64 - 1))

/-- The conditions of R324 for the step just ended, over the measured samples of the last row. -/
def State.classOk (s : State) : Bool :=
  let ins := s.mtrInputs
  let grp (x : Nat) : Bool := s.flag Reg.ADC_STAT (16 + x / 8) && decide (s.adc.src.getD (x / 8) 0 ≠ 2)
  let ms := s.mtr.hist.filter (fun h => h.measured)
  let n : Int := Int.ofNat ms.length
  let sq (f : MtrSample → Int) : Int := ms.foldl (fun a h => a + f h ^ 2) 0
  let vfs : Int := Int.ofNat (s.regN Reg.MTR_VFS)
  let ifs : Int := Int.ofNat (s.regN Reg.MTR_IFS)
  let un : Int := Int.ofNat (s.regN Reg.MTR_UN)
  let inn : Int := Int.ofNat (s.regN Reg.MTR_IN)
  let resp := s.fld Reg.FLT_MTR_CFG 0 5
  let rate := s.ang.rate.toNat
  let okV (x : Nat) : Bool :=
    let q := sq (fun h => h.v.getD x 0) * vfs ^ 2 * 10000
    decide (q ≥ 6400 * un ^ 2 * n * 2 ^ 46) && decide (q ≤ 13225 * un ^ 2 * n * 2 ^ 46)
  let okI (x : Nat) : Bool :=
    let q := sq (fun h => h.i.getD x 0) * ifs ^ 2 * 10000
    decide (q ≥ inn ^ 2 * n * 2 ^ 46) && decide (q ≤ 14400 * inn ^ 2 * n * 2 ^ 46)
  let lo : Int := if bit s.sys.order 0 then -25 else 0
  ins.all grp && (resp == 7 || resp == 8) && decide (45 * 2 ^ 24 ≤ rate) && decide (rate ≤ 66 * 2 ^ 24) &&
    decide (n > 0) && (upto 3).all okV && (upto 3).all okI && decide (lo ≤ s.mtr.ambient) && decide (s.mtr.ambient ≤ 55)

/-- The events of an interval without samples and of a full ring. -/
def State.mtrFlags (s : State) (c0 c : MtrCore) (gap : Bool) : State :=
  ((s.when gap (fun s => s.setFlag Reg.MTR_FLAGS 3)).when (decide (c.plost ≠ c0.plost)) (fun s => s.setFlag Reg.MTR_FLAGS 4)).when
    (c.sat && !c0.sat) (fun s => s.setFlag Reg.MTR_FLAGS 9)

/-- The bytes of a copy that its CRC covers (R325; their order is the model's, log entry 98). -/
def MtrCopy.bytes (c : MtrCopy) : List Byte :=
  let int (x : Int) : List Byte := leBytes 16 (Int.emod x (2 ^ 128)).toNat
  c.core.regs.flatMap (fun r => leBytes 8 r.count ++ leBytes 4 r.res ++ int r.errN ++ leBytes 16 r.errD) ++
  (match c.core.opn with
   | some o => int o.start ++ int o.stop ++ leBytes 4 o.no ++ leBytes 1 o.tariff ++ leBytes 1 o.status ++ leBytes 2 o.nsub ++
       o.base.flatMap (leBytes 8)
   | none => []) ++ leBytes 10 c.core.stamp

/-- A copy is valid while its CRC-32 holds (R203, R325). -/
def MtrCopy.valid (c : MtrCopy) : Bool := c.crc == crc32 c.bytes

/-- A metering state written with its CRC-32 (R325). -/
def MtrCore.sealed (c : MtrCore) : MtrCopy := { core := c, crc := crc32 (MtrCopy.bytes { core := c, crc := 0 }) }

/-- The newer valid copy in MRAM (R325). -/
def State.mtrNewer (s : State) : Option MtrCore :=
  match s.mtr.mramA.filter (·.valid), s.mtr.mramB.filter (·.valid) with
  | some a, some b => some (if b.core.stamp > a.core.stamp then b.core else a.core)
  | some a, none => some a.core
  | none, b => b.map (·.core)

/-- The metering of the step that ends (R311, R326): four samples from its own outputs, taken into the registers,
or beside them while they follow the active's; the class conditions; the copy to MRAM (R325). -/
def State.mtrBoundary (s : State) : State :=
  if !s.running then s
  else
    let g := s.stepNo
    let r := (upto 4).foldl (fun (a : State × List MtrTake) j =>
      let t := a.1.mtrSample (4 * g + j); (t.1, a.2 ++ [t.2])) (s, [])
    let s := r.1
    let f := s.mtrCfg
    let m := s.mtr
    let own := (m.own.takes f r.2 false false).1
    let own := if s.classOk then own else own.mark 0x40
    let c0 := m.core
    let c := if m.mirror then (c0, false) else c0.takes f r.2 m.partNext false
    let ok := s.classOk
    let c1 := if ok || m.mirror then c.1 else c.1.mark 0x40
    let c2 : MtrCore := if m.mirror then c1 else { c1 with stamp := g }
    let s := { s with mtr := { m with
      own := if m.mirror then own else c2, core := c2, recent := (g, r.2, ok) :: (if m.mirror then m.recent.filter (fun p => decide (p.1 > c0.stamp)) else []),
      partNext := m.partNext && decide (c.1.nrec = c0.nrec),
      mramA := if m.mramTurn then m.mramA else some c2.sealed, mramB := if m.mramTurn then some c2.sealed else m.mramB,
      mramTurn := !m.mramTurn } }
    let s := s.setReg Reg.MTR_STAT (putBit (s.reg Reg.MTR_STAT) 4 ok)
    (s.when (!ok) (fun s => s.setFlag Reg.MTR_FLAGS 8)).mtrFlags c0 c2 c.2

/-! ### In a pair -/

/-- The standby's comparison at each interval close (R327). -/
def State.mtrCompare (s : State) (c : MtrCore) : State :=
  let new := c.prof.take (c.nrec - s.mtr.core.nrec)
  let diff := new.any (fun r =>
    match s.mtr.own.prof.find? (fun o => decide (o.no = r.no)) with
    | some o => (upto 6).any (fun q =>
        decide (500 * (Int.ofNat (o.inc.getD q 0) - Int.ofNat (r.inc.getD q 0)).natAbs > r.inc.getD 0 0 + r.inc.getD 1 0))
    | none => false)
  s.when diff (fun s => s.setFlagEach Reg.MTR_FLAGS 6)

/-- Adoption of the active's metering state (R326, R328): the first one records the own former totals. -/
def State.mtrAdopt (s : State) (c : MtrCore) : State :=
  let s := if s.mtr.mirror then s.mtrCompare c
    else
      let t := s.mtr.core.totals
      let d (a : Nat) : Nat := t.getD a 0 + t.getD (a + 1) 0 * 2 ^ 64 + t.getD (a + 2) 0 * 2 ^ 128
      (s.logEv 0 0x0A 0x10A (d 0)).logEv 0 0x0A 0x10B (d 3)
  let own := if s.mtr.mirror then s.mtr.own else { c with regs := s.mtr.core.regs, opn := s.mtr.core.opn, prof := s.mtr.core.prof }
  { s with mtr := { s.mtr with core := c, own := own, mirror := true } }

/-- The registers stop following the partner: at a takeover the own energies of the steps after the last mirrored one
are added and marked PAIR_SUBST (R326). -/
def State.mtrTakeover (s : State) : State :=
  if !s.mtr.mirror then s
  else
    let m := s.mtr
    let late := (m.recent.filter (fun p => decide (p.1 > m.core.stamp))).reverse
    let f := s.mtrCfg
    let c := late.foldl (fun (c : MtrCore) p =>
      let t := (c.takes f p.2.1 false true).1
      { (if p.2.2 then t else t.mark 0x40) with stamp := p.1 }) m.core
    let s := { s with mtr := { m with core := c, mirror := false, pairSubst := satAdd m.pairSubst late.length } }
    s.when (!late.isEmpty) (fun s => s.setFlag Reg.MTR_FLAGS 5)

/-! ### Seal and readout -/

/-- The sealed registers in ascending address (R329). -/
def State.sealedRegs (s : State) : List Nat :=
  let chans := (upto 32).filter (fun n => s.mtrInputs.any (fun i => decide (s.mtrChan i = some n)))
  [Reg.FLT_MTR_CFG] ++ chans.map (fun n => Reg.FLTn_CFG n) ++
    [Reg.MTR_MAP, Reg.MTR_VFS, Reg.MTR_IFS, Reg.MTR_UN, Reg.MTR_IN, Reg.MTR_TZ, Reg.MTR_INTV] ++
    (upto 16).map (fun t => Reg.MTR_TSWt t)

/-- The seal digest (R329). -/
def State.sealDigest (s : State) : List Byte :=
  Config.sha384 (s.sealedRegs.flatMap (fun a => leBytes 4 (s.regN a)) ++ s.mtr.fwhash)

/-- A change under the seal (R330): the counter, which never decreases, an audit entry, an event-log entry. -/
def State.auditAdd (s : State) (reg : Nat) (old new : Word) (serial : List Byte) : State :=
  let n := satInc s.mtr.audit
  let e : MtrAudit := { n := n, reg := reg, old := old, new := new, time := s.taiNs, serial := serial }
  let s := { s with mtr := { s.mtr with audit := n, audits := (e :: s.mtr.audits).take 1024 } }
  s.logEv 0 0x0A 0x108 (n.toNat + reg * 2 ^ 32 + old.toNat * 2 ^ 64 + new.toNat * 2 ^ 96 + ofLe (serial.take 8) * 2 ^ 128)

/-- The bytes of an audit entry (R330). -/
def MtrAudit.bytes (e : MtrAudit) : List Byte :=
  leBytes 4 e.n.toNat ++ leBytes 4 e.reg ++ leBytes 4 e.old.toNat ++ leBytes 4 e.new.toNat ++ leBytes 8 e.time ++
  leBytes 1 e.serial.length ++ (e.serial ++ List.replicate (20 - e.serial.length) 0) ++ leBytes 3 0

/-- A write of a sealed register while SEALED (R330): digest and audit. -/
def State.sealedWrite (s : State) (reg : Nat) (old new : Word) (serial : List Byte) : State :=
  if s.mtr.sealed then
    let s := { s with mtr := { s.mtr with digest := s.sealDigest } }
    s.auditAdd reg old new serial
  else s

/-- Bytes 0 to 87 of a readout (R332). -/
def State.readoutHead (s : State) (flags : Nat) : List Byte :=
  let o := s.mtr.core.opn
  leBytes 2 1 ++ leBytes 2 flags ++ leBytes 8 s.sys.serial.toNat ++ leBytes 8 s.ang.boundTai ++
  leBytes 8 s.ang.row.toNat ++ leBytes 2 s.step10 ++ leBytes 1 ((o.map (·.tariff)).getD 1) ++ leBytes 1 0 ++
  leBytes 4 ((o.map (·.no)).getD 0) ++ leBytes 4 s.mtr.audit.toNat ++
  (s.mtr.digest ++ List.replicate (48 - s.mtr.digest.length) 0)

/-- A profile record's bytes (R320). -/
def MtrProf.bytes (r : MtrProf) : List Byte :=
  leBytes 8 (Int.emod r.start (2 ^ 64)).toNat ++ leBytes 4 r.no ++ leBytes 1 r.tariff ++ leBytes 1 r.status ++
  leBytes 2 r.nsub ++ r.inc.flatMap (fun x => leBytes 8 x)

/-- The registers of a readout (R332): set r, quantity q: count and residue. -/
def MtrCore.regBytes (c : MtrCore) : List Byte := c.regs.flatMap (fun x => leBytes 8 x.count ++ leBytes 4 x.res)

end Sys2Proof.Machine
end

