-- ==== Sys2Proof/Machine/Flt.lean ====
section
/-! DEFINITION. The filter and decimation chain (chapter 12). -/
namespace Sys2Proof.Machine

/-- Channel `n` replaced by `f` of it. -/
def State.updChan (s : State) (n : Nat) (f : Chan → Chan) : State := { s with flt := upd s.flt n f }

/-- The response of a channel (R281). -/
def State.chResp (s : State) (n : Nat) : Nat :=
  if s.chRole n = 1 then s.fld Reg.FLT_CTL_CFG 0 5
  else if s.chRole n = 2 then s.fld Reg.FLT_MTR_CFG 0 5
  else bits (s.chCfg n) 1 5

/-- The decimation D of a channel (R277, R281). -/
def State.chD (s : State) (n : Nat) : Nat :=
  if s.chRole n = 1 then 8 else if s.chRole n = 2 then 2 else 2 ^ bits (s.chCfg n) 6 3

/-- Group delays of the responses in 2^-8 input samples (R283, R284). -/
def delayOf : List Nat :=
  [0, 768, 1280, 2304, 3840, 5888, 7936, 5888, 7936, 6144, 13056, 6400, 16256, 32640, 49024, 32640, 32640, 32640,
   32640, 32640, 32640, 24576, 32640, 8448]

/-- ⌈L/D⌉ of a channel (R285). -/
def State.settle (s : State) (n : Nat) : Nat := (tapsOf.getD (s.chResp n) 1 + s.chD n - 1) / s.chD n

/-- D_tot along the chain (R279). -/
def State.dtotGo (s : State) : Nat → Nat → Nat
  | 0, _ => 1
  | k + 1, n => s.chD n * (if s.chChain n then s.dtotGo k (s.chSrc n) else 1)

/-- D_tot of a channel (R279). -/
def State.dtot (s : State) (n : Nat) : Nat := s.dtotGo 33 n

/-- The product of D of the stages before channel `n` (R283). -/
def State.dBefore (s : State) (n : Nat) : Nat := if s.chChain n then s.dtot (s.chSrc n) else 1

/-- The group delay of the stages of a channel, in 2^-8 angle-locked input samples (R283). -/
def State.gdGo (s : State) : Nat → Nat → Nat
  | 0, _ => 0
  | k + 1, n => delayOf.getD (s.chResp n) 0 * s.dBefore n + (if s.chChain n then s.gdGo k (s.chSrc n) else 0)

/-- FLTn_GD (R283): the stages' delays and the sampling offset of the input within its scan, 100 ns per entry before
it, at the rate in force. -/
def State.gdOf (s : State) (n : Nat) : Word :=
  if s.chEn n && s.alock n then
    let i := s.headGo 33 n
    let mask := s.fld (Reg.GRPg_SCAN (i / 8)) 0 8
    let j := ((upto (i % 8)).filter (fun k => mask.testBit k)).length
    let off := (divRound (Int.ofNat (j * 100 * 8192 * s.ang.rate.toNat)) (2 ^ 16 * 10 ^ 9)).toNat
    word (s.gdGo 33 n + off)
  else 0

/-- Low-power mode in force (R275). -/
def State.lowPower (s : State) : Bool := s.flag Reg.ADC_STAT 10

/-- Round to the nearest output code, a half away from zero, and saturate (R278): value and whether it saturated. -/
def outCode (acc : Int) : Int × Bool :=
  let v := divRound acc (2 ^ 22)
  if v > 0x7FFFFF then (0x7FFFFF, true) else if v < -0x800000 then (-0x800000, true) else (v, false)

/-- The output word (R278). -/
def outWord (n : Nat) (v : Int) (u p o : Bool) : Word :=
  (BitVec.ofInt 32 (v * 256)) ||| word (b2n u * 0x80 + b2n p * 0x40 + b2n o * 0x20 + n)

/-- The sum of a response over a history (R278). -/
def firSum (i : Nat) (hist : List Int) : Int :=
  (hist.foldl (fun (a : Nat × Int) x => (a.1 + 1, a.2 + coefOf i a.1 * x)) (0, 0)).2

/-- Channel `n` enters one sample (R277 to R279, R285, R287, R288): `x` in 2^-8 codes, bad or over-range, its position
and time, and the clock at which it reached the chain. -/
def State.enter (s : State) (n : Nat) (x : Int) (bad beyond : Bool) (pos tai at_ : Nat) : State :=
  let c := s.chan n
  let k := s.settle n
  let c1 : Chan :=
    if c.hard then { c with hist := [], cnt := 0, p := false, ucnt := k, ocnt := 0, hard := false, soft := false }
    else if c.soft then { c with cnt := 0, p := true, soft := false }
    else c
  let e := if bad then c1.hist.headD 0 else x
  let c2 := { c1 with hist := (e :: c1.hist).take 384, ucnt := if bad then k else c1.ucnt,
                      ocnt := if beyond then k else c1.ocnt }
  let out := if s.alock n then decide (pos % 2 ^ 32 % (2 ^ 19 * s.dtot n) = 0) else decide (c1.cnt % s.chD n = 0)
  let c3 := { c2 with cnt := c2.cnt + 1 }
  if !out then s.updChan n (fun _ => c3)
  else
    let r := s.chResp n
    let v := outCode (firSum r (c3.hist.take (tapsOf.getD r 1)))
    let w := outWord n v.1 (decide (c3.ucnt > 0) || s.lowPower) c3.p (decide (c3.ocnt > 0) || v.2)
    let s := s.updChan n (fun _ => { c3 with
      p := false, ucnt := c3.ucnt - 1, ocnt := c3.ocnt - 1, outs := c3.outs ++ [⟨at_ + 40, w, pos, tai⟩] })
    if v.2 then s.setFlag Reg.FLT_FLAGS 4 n else s

/-- One missing sample of an angle-locked channel (R285): entered as a repeat at the clock of its position, counted. -/
def State.missOne (s : State) (n : Nat) : State :=
  let p := (s.chan n).next
  let s := (s.updChan n (fun c => { c with next := p + 1 })).enter n 0 true false (p * 2 ^ 19) (s.taiOf (p * 2 ^ 19)) (min s.sys.clk (s.posClk (p * 2 ^ 19)))
  (s.bump Reg.FLT_MISS_CNT).setFlag Reg.FLT_FLAGS 1 n

/-- The samples missing at the positions below `p`. -/
def State.missTo (s : State) (n p : Nat) : Nat → State
  | 0 => s
  | k + 1 => if (s.chan n).next < p then (s.missOne n).missTo n p k else s

/-- A channel that takes angle-locked samples from the converters. -/
def State.fedLocked (s : State) (n : Nat) : Bool := s.chEn n && !s.chChain n && s.alock n

/-- A result word of a scan reaches the channels fed by its input (R277, R279, R285). `angle` is the fixed-stitch
position of its scan in ac since row 0. -/
def State.fltResult (s : State) (input : Nat) (w : Word) (angle : Option Nat) (pos tai : Nat) : State :=
  let code : Int := Int.fdiv (sx w) 65536
  let x := code * 256
  (upto 32).foldl (fun s n =>
    if s.chEn n && !s.chChain n && decide (s.chSrc n = input) then
      if s.alock n then
        match angle with
        | some ac =>
          let p := ac / 128
          if p < (s.chan n).next then s
          else
            let s := s.missTo n p 64
            (s.updChan n (fun c => { c with next := p + 1 })).enter n x (bit w 10) (bit w 11) (p * 2 ^ 19) (s.taiOf (p * 2 ^ 19)) s.sys.clk
        | none => s
      else s.enter n x (bit w 10) (bit w 11) pos tai s.sys.clk
    else s) s

/-- An output of channel `n` is complete (R278, R280): its register and status, chained channels, the metering unit,
the acquisition engine. -/
def State.fltDeliver (s : State) (n : Nat) : State :=
  match (s.chan n).outs with
  | [] => s
  | o :: t =>
    let s := s.updChan n (fun c => { c with outs := t, newest := o.pos })
    let s := (s.setReg (Reg.FLTn_OUT n) o.w).setReg Reg.FLT_STAT (putBit (s.reg Reg.FLT_STAT) n (bit o.w 7))
    let s := s.setReg Reg.FLT_OSTAT (putBit (s.reg Reg.FLT_OSTAT) n (bit o.w 5))
    let s := s.when (bit o.w 5) (fun s => s.setFlag Reg.FLT_FLAGS 2 n)
    let s := (upto 32).foldl (fun s m =>
      if s.chEn m && s.chChain m && decide (s.chSrc m = n) then
        s.enter m (val24 o.w) (bit o.w 7) (bit o.w 5) o.pos o.tai o.due else s) s
    (s.mtrOutput n o.w o.pos).acqFilter n o.w o.pos o.tai

/-- The output that is complete first: its clock and its channel, the lowest among equals. -/
def State.fltNext (s : State) : Option (Nat × Nat) :=
  (s.flt.foldl (fun (a : Nat × Option (Nat × Nat)) c =>
    (a.1 + 1, match c.outs, a.2 with
      | [], b => b
      | o :: _, some b => if o.due < b.1 then some (o.due, a.1) else some b
      | o :: _, none => some (o.due, a.1))) (0, none)).2

/-- Every output complete by clock `t` is delivered, in the order of completion, each as at its own clock. -/
def State.fltDue (s : State) (t : Nat) : Nat → State
  | 0 => s
  | k + 1 =>
    match s.fltNext with
    | some (d, n) => if d ≤ t then (s.actAt d (fun u => u.fltDeliver n)).fltDue t k else s
    | none => s

/-- FILTER_OUTPUT (R280): the clock runs to the moment the oldest output of channel `n` is complete. -/
def State.filterOutputAct (s : State) (n : Nat) : State :=
  match (s.chan n).outs with
  | [] => s
  | o :: _ =>
    let s := if s.running then s.pass (min (o.due - s.sys.clk) (s.toBoundary - 1)) else s
    s.fltDeliver n

/-- FILTER_OUTPUT (R280). -/
def execFilterOutput (n : Fin 32) (s : State) : Host.Outcome State Fault Refusal := s.live (s.filterOutputAct n)

/-- MISSING_SAMPLE (R285): the next position of an angle-locked channel passes without its sample. -/
def State.missingAct (s : State) (n : Nat) : State :=
  if s.fedLocked n && s.running && decide ((s.chan n).next < (s.stepNo + 1) * 8) then
    (s.toAc (((s.chan n).next - s.stepNo * 8) * 128)).missOne n
  else s

/-- MISSING_SAMPLE (R285). -/
def execMissingSample (n : Fin 32) (s : State) : Host.Outcome State Fault Refusal := s.live (s.missingAct n)

/-- FLT_SYNC_SOFT (R287): at the first sample after the boundary; none takes effect when one named channel is
angle-locked. -/
def State.syncSoft (s : State) (mask : Nat) : State :=
  if (upto 32).any (fun n => mask.testBit n && s.alock n) then s
  else (upto 32).foldl (fun s n => if mask.testBit n then s.updChan n (fun c => { c with soft := true }) else s) s

/-- FLT_SYNC_HARD (R288). -/
def State.syncHard (s : State) (mask : Nat) : State :=
  (upto 32).foldl (fun s n => if mask.testBit n then s.updChan n (fun c => { c with hard := true }) else s) s

/-- A hard reset of the channels fed by a group (R273, R274). -/
def State.hardGroup (s : State) (g : Nat) : State :=
  (upto 32).foldl (fun s n => if !s.chChain n && decide (s.chSrc n / 8 = g) then
    s.updChan n (fun c => { c with hard := true }) else s) s

/-- The channels whose configuration changed at a boundary start anew (R286): a hard reset, and positions from the
boundary on. -/
def State.chanChanged (s : State) (n : Nat) : State :=
  s.updChan n (fun c => { c with hard := true, next := s.stepNo * 8, outs := [] })

/-- The end of a step for the chain: every position of the step has passed; what is complete by now is delivered. -/
def State.fltEnd (s : State) : State :=
  if !s.running then s
  else
    let s := s.fltDue s.sys.clk 1024
    let s := (upto 32).foldl (fun s n => if s.fedLocked n then s.missTo n ((s.stepNo + 1) * 8) 64 else s) s
    s.fltDue s.sys.clk 1024

/-- At a boundary: FLTn_GD and FLT_CTL_GD (R283). -/
def State.fltGd (s : State) : State :=
  let s := (upto 32).foldl (fun s n => s.setReg (Reg.FLTn_GD n) (s.gdOf n)) s
  let v := s.fld Reg.GFE_MAP 0 5
  let g := match (upto 32).find? (fun n => s.chEn n && !s.chChain n && decide (s.chRole n = 1) && decide (s.chSrc n = v)) with
    | some n => s.reg (Reg.FLTn_GD n) | none => 0
  s.setReg Reg.FLT_CTL_GD g

/-- The control channel of an input (R281). -/
def State.ctlChan (s : State) (input : Nat) : Option Nat :=
  (upto 32).find? (fun n => s.chEn n && !s.chChain n && decide (s.chRole n = 1) && decide (s.chSrc n = input))

/-- The control sample of an input for the present step (R281, R282): value, and whether it is invalid; `none` when
its output is absent. -/
def State.ctlSample (s : State) (input : Nat) : Option (Int × Bool) :=
  match s.ctlChan input with
  | some n =>
    if (s.chan n).newest = s.stepNo * 2 ^ 22 && decide (s.reg (Reg.FLTn_OUT n) ≠ 0 ∨ (s.chan n).cnt > 0) then
      let w := s.reg (Reg.FLTn_OUT n)
      some (val24 w, bit w 7 || bit w 5)
    else none
  | none => none

/-- The delivery of the control outputs at 1.20 µs (R282). -/
def State.ctlDeliver (s : State) : State :=
  let s := s.toClk 480
  let s := (upto 32).foldl (fun s n => if s.fedLocked n && decide (s.chRole n = 1) && (s.groupDown (s.chSrc n / 8) || s.lowPower) then
    s.missTo n (s.stepNo * 8 + 1) 64 else s) s
  let s := s.fltDue (max s.sys.clk (s.sys.bclk + 480)) 1024
  let inp := (upto 32).map (fun i => match s.ctlSample i with | some x => x | none => ((s.gfe.inputs.getD i (0, true)).1, true))
  let late := (upto 32).filter (fun i => (s.ctlChan i).isSome && (s.ctlSample i).isNone)
  let gap := s.mapInputs.any (fun i => (s.ctlChan i).isNone)
  let s := late.foldl (fun s i => (s.bump Reg.FLT_LATE_CNT).setFlag Reg.FLT_FLAGS 0 i) s
  let s := s.when gap (fun s => s.setFlag Reg.FLT_FLAGS 3)
  { s with gfe := { s.gfe with inputs := inp, delivered := true } }

end Sys2Proof.Machine
end

