-- ==== Sys2Proof/Machine/Phy.lean ====
section
/-! DEFINITION. The lane ports' physical layer and training (chapter 07). -/
namespace Sys2Proof.Machine

/-- The limits of a transmitter setting (R169). -/
def Taps.ok (t : Taps) : Bool :=
  decide (t.c1 ≤ 12) && decide (32 ≤ t.c2) && decide (t.c2 ≤ 64) && decide (t.c3 ≤ 24)
    && decide (t.c1 + t.c2 + t.c3 ≤ 64) && decide (t.c2 ≥ t.c1 + t.c3 + 16)

/-- The presets (R170). -/
def presetTaps : Nat → Taps
  | 0 => ⟨4, 48, 12⟩
  | 1 => ⟨0, 64, 0⟩
  | 2 => ⟨2, 54, 8⟩
  | _ => ⟨6, 40, 18⟩

/-- A tap one unit up or down; none where it would break R169. -/
def Taps.move (t : Taps) (i : Nat) (up : Bool) : Option Taps :=
  let ch (x : Nat) : Option Nat := if up then some (x + 1) else if x = 0 then none else some (x - 1)
  let r : Option Taps := match i with
    | 0 => (ch t.c1).map (fun x => { t with c1 := x })
    | 1 => (ch t.c2).map (fun x => { t with c2 := x })
    | _ => (ch t.c3).map (fun x => { t with c3 := x })
  match r with
  | some x => if x.ok then some x else none
  | none => none

/-- The fields of a training block (R172). -/
structure TrnBlk where
  tstate : Nat
  role : Nat
  lin : Bool
  reqs : List Nat
  reqSet : Nat
  sts : List Nat
  ready : Bool
  psel : Nat
  deriving DecidableEq, Repr

/-- A field of a 64-bit block. -/
def blkField (b : BitVec 64) (lo n : Nat) : Nat := (b.toNat >>> lo) % 2 ^ n

/-- A valid training block: TYPE, CRC and no reserved code 3 (R172, R173). -/
def parseTrn (b : BitVec 64) : Option TrnBlk :=
  let f := blkField b
  let reqs := [f 20 2, f 22 2, f 24 2]
  if f 0 8 = 0xD2 ∧ f 48 16 = crc16 48 (b.toNat % 2 ^ 48) ∧ f 12 2 ≠ 3 ∧ !reqs.contains 3 ∧ f 26 2 ≠ 3 then
    some { tstate := f 8 4, role := f 12 2, lin := b.getLsbD 19, reqs := reqs, reqSet := f 26 2,
           sts := [f 28 2, f 30 2, f 32 2], ready := b.getLsbD 34, psel := f 36 2 }
  else none

/-- PHY_CFG.EN of a port. -/
def State.phyEn (s : State) (n : Nat) : Bool := s.flag (Reg.PHY_CFG n) 0

/-! ### What a training port sends -/

/-- TX_DISABLE of a port's cage (R164, R176). -/
def State.txDisable (s : State) (n : Nat) (b : Bool) : State :=
  if (s.port n).txDis = b then s else (s.updPort n (fun p => { p with txDis := b })).emit (.lane n "TX_DISABLE" [b2n b])

/-- The states in which a port sends training frames (R176). -/
def TState.training : TState → Bool
  | .detect | .lock | .adapt | .confirm | .fallback | .failed => true
  | .off | .linkUp => false

/-- The payload of the training block a port sends (R172). -/
def Port.trnPayload (p : Port) (n role : Nat) : Nat :=
  let v := bitsAt [(0, 8, 0xD2), (8, 4, p.ts.code), (12, 2, role), (14, 5, n), (19, 1, b2n p.linMode), (20, 2, nth 0 p.reqs 0),
    (22, 2, nth 0 p.reqs 1), (24, 2, nth 0 p.reqs 2), (26, 2, p.reqSet), (28, 2, nth 0 p.sts 0), (30, 2, nth 0 p.sts 1),
    (32, 2, nth 0 p.sts 2), (34, 1, b2n p.rxReady), (36, 2, p.psel), (40, 8, p.fcnt.toNat)]
  v + crc16 48 v * 2 ^ 48

/-- One training frame (R171): the training block, then 31 data blocks of the running PRBS-31. -/
def State.frameOut (s : State) (n : Nat) : State :=
  let p := s.port n
  let st := (p.prbs.getD (Config.prbsStart n ||| 1)).toNat
  let r := (upto 31).foldl (fun (a : Nat × List Nat) _ => let w := prbsWord a.1; (w.1, a.2 ++ [dataBlock w.2])) (st, [])
  (s.updPort n (fun p => { p with prbs := some (BitVec.ofNat 31 r.1), fcnt := p.fcnt + 1 })).line n
    ((2 * 2 ^ 64 + p.trnPayload n (b2n s.unitB)) :: r.2)

/-- What a port in training sends once its state or what it says has changed: one frame; the equal ones that follow back to back
are not recorded (log entry 83). -/
def State.trainOut (s : State) (n : Nat) : State := s.when (s.port n).ts.training (fun s => s.frameOut n)

/-- Linear-optics preset mode for the attempt (R179): both transmitters at P1, no request. -/
def Port.linear (p : Port) : Port :=
  { p with linMode := true, own := presetTaps 1, far := presetTaps 1, reqs := [0, 0, 0], reqSet := 0 }

/-- An attempt begins at entry to LOCK (R177). -/
def State.startAttempt (s : State) (n : Nat) : State :=
  ((s.updPort n (fun p =>
    let q := { p with
      ts := .lock, attempt := true, began := s.sys.clk, valid := 0, readyCnt := 0, rxReady := false,
      reqs := [0, 0, 0], reqSet := 0, sts := [0, 0, 0], seen := [0, 0, 0], seenSet := 0, preset := 0,
      hiBer := false, linMode := false, first := p.fresh, fresh := false }
    if p.lin then q.linear else q)).bump (Reg.PHY_TRN_CNT n)).trainOut n

/-- Entry to DETECT; with no loss of signal LOCK follows at once (R176). -/
def State.toDetect (s : State) (n : Nat) : State :=
  let s := (s.updPort n (fun p => { p with
    ts := .detect, attempt := false, rxInv := false, blockLock := false, cdr := !p.los })).txDisable n false
  if (s.port n).los then s.trainOut n else s.startAttempt n

/-- A port leaves LINK_UP for `f`; the lane hub is told (R186). -/
def State.leaveUp (s : State) (n : Nat) (f : State → State) : State :=
  if s.linkUp n then (f s).laneDown n else s

/-- Retraining (R181). -/
def State.retrain (s : State) (n : Nat) : State := s.leaveUp n (fun s => s.startAttempt n)

/-- Entry to LINK_UP (R176, R177). -/
def State.enterUp (s : State) (n : Nat) : State :=
  let p := s.port n
  if p.ts = .confirm then
    let s := s.updPort n (fun p => { p with ts := .linkUp, attempt := false })
    let s := s.setReg (Reg.PHY_TRN_MS n) (word ((s.sys.clk - p.began) / 400000))
    s.laneUp n
  else s

/-- FALLBACK entered (R178): the presets in turn; P1 alone in linear-optics mode (R179). -/
def State.toFallback (s : State) (n : Nat) : State :=
  ((s.updPort n (fun p => { p with
    ts := .fallback, preset := 0, rxReady := false, reqs := [0, 0, 0],
    reqSet := if p.linMode then 0 else 1, psel := 3 })).setFlag (Reg.PHY_FLAGS n) 4 n).trainOut n

/-- A plugged module is refused (R163, R164). -/
def moduleRefused (id tech : Byte) (hiPower : Bool) : Bool := decide (id ≠ 0x03) || tech.getLsbD 3 || hiPower

/-- Linear-optics preset mode from the identity and PHY_CFG.MEDIA (R163). -/
def State.linChoice (s : State) (n : Nat) (tech : Byte) : Bool :=
  match s.fld (Reg.PHY_CFG n) 1 2 with
  | 1 => false
  | 2 => true
  | _ => !tech.getLsbD 2

/-- The cage's supply beyond the identification memory (R164). -/
def State.cagePower (s : State) (n : Nat) (b : Bool) : State :=
  if (s.port n).cage = b then s else (s.updPort n (fun p => { p with cage := b })).emit (.lane n "CAGE_POWER" [b2n b])

/-- A plugged module is refused, or its cage is powered and the port enabled goes to DETECT (R163, R164, R176). -/
def State.cageUse (s : State) (n : Nat) (bad : Bool) : State :=
  if bad then s.setFlagEach (Reg.PHY_FLAGS n) 5 n
  else
    let s := s.cagePower n true
    if s.phyEn n then s.toDetect n else s

/-- SFP_INSERT (R163, R164, R180): `txFault` is an optical module's TX_FAULT. -/
def State.sfpInsertAct (s : State) (n : Nat) (id tech : Byte) (hiPower txFault : Bool) : State :=
  if (s.port n).present then s
  else
    let bad := moduleRefused id tech hiPower
    let lin := s.linChoice n tech
    let t := presetTaps (if lin then 1 else 0)
    let tf := txFault && !tech.getLsbD 2 && !tech.getLsbD 3
    let s := s.updPort n (fun _ => { Port.fresh0 with
      present := true, refused := bad, sfpId := id, sfpTech := tech, hiPower := hiPower, los := true, lin := lin,
      linMode := lin, own := t, far := t, txFault := tf })
    let s := s.when tf (fun s => s.setFlag (Reg.PHY_FLAGS n) 6 n)
    let s := s.setReg (Reg.PHY_SFP n) (word (id.toNat + tech.toNat * 256 + b2n hiPower * 65536))
    (s.ownInc n).cageUse n bad

/-- SFP_INSERT (R163). -/
def execSfpInsert (port : Fin 22) (id tech : Byte) (pins : ModPins) (s : State) : Host.Outcome State Fault Refusal :=
  s.live (s.sfpInsertAct port id tech pins.hiPower pins.txFault)

/-- The port goes to OFF (R164, PHY_CFG.EN). -/
def State.portOff (s : State) (n : Nat) : State :=
  let up := s.linkUp n
  let s := (s.updPort n (fun p => { p with ts := .off, attempt := false, blockLock := false, cdr := false,
                                           hiBer := false, rxReady := false })).txDisable n true
  if up then s.laneDown n else s

/-- PHY_CFG written (R163, R176, R187): the port is enabled or disabled, and its mode chosen again, for the attempt that begins
next. -/
def State.phyCfgAct (s : State) (n : Nat) : State :=
  let p := s.port n
  if !s.phyEn n then s.portOff n
  else if p.present && !p.refused then
    let lin := s.linChoice n p.sfpTech
    let s := s.updPort n (fun p => { p with lin := lin })
    if p.ts = .off then s.toDetect n else s
  else s

/-- SFP_WITHDRAW (R164). -/
def State.sfpWithdrawAct (s : State) (n : Nat) : State :=
  (((s.portOff n).cagePower n false).updPort n (fun _ => Port.fresh0)).setReg (Reg.PHY_SFP n) 0

/-- SFP_WITHDRAW (R164). -/
def execSfpWithdraw (port : Fin 22) (s : State) : Host.Outcome State Fault Refusal := s.live (s.sfpWithdrawAct port)

/-- LOS asserted (R183): from LINK_UP or an attempt back to DETECT (R177). -/
def State.losAct (s : State) (n : Nat) : State :=
  if (s.port n).los || !(s.port n).present then s
  else
    let s := (s.updPort n (fun p => { p with los := true, blockLock := false, cdr := false })).bump (Reg.PHY_LOS_CNT n)
    let s := s.setFlag (Reg.PHY_FLAGS n) 0 n
    if s.linkUp n then s.leaveUp n (fun s => s.toDetect n)
    else match (s.port n).ts with
      | .lock | .adapt | .confirm | .fallback => s.toDetect n
      | _ => s

/-- LOS_ASSERT (R183). -/
def execLosAssert (port : Fin 22) (s : State) : Host.Outcome State Fault Refusal := s.live (s.losAct port)

/-- LOS_CLEAR (R183): a port in DETECT enters LOCK. -/
def State.losClearAct (s : State) (n : Nat) : State :=
  let s := s.updPort n (fun p => { p with los := false, cdr := true })
  if (s.port n).ts = .detect then s.startAttempt n else s

/-- LOS_CLEAR (R183). -/
def execLosClear (port : Fin 22) (s : State) : Host.Outcome State Fault Refusal :=
  s.live (if (s.port port).present && (s.port port).los then s.losClearAct port else s)

/-- Loss of lock (R184). -/
def State.lolAct (s : State) (n : Nat) : State :=
  if !(s.port n).present then s
  else
    let s := (s.updPort n (fun p => { p with cdr := false, blockLock := false })).bump (Reg.PHY_LOL_CNT n)
    (s.setFlag (Reg.PHY_FLAGS n) 1 n).retrain n

/-- Invalid sync headers counted (R168, R187). -/
def State.shErr (s : State) (n : Nat) (k : Word) : State :=
  if (s.port n).present then s.bumpBy (Reg.PHY_SH_ERR n) k.toNat else s

/-- LOL (R184), with the invalid headers since the report before. -/
def execLol (ev : PortHeaders) (s : State) : Host.Outcome State Fault Refusal :=
  s.live ((s.shErr ev.port ev.headers).lolAct ev.port)

/-- The first request of ADAPT: initialise in copper adaptive mode on a first attempt (R180). -/
def State.toAdapt (s : State) (n : Nat) : State :=
  (s.updPort n (fun p => { p with
    ts := .adapt, reqSet := if p.first && !p.linMode then 2 else 0, psel := 0, readyCnt := 0 })).trainOut n

/-- LOCK is left on block lock and 3 consecutive valid training blocks (R176). -/
def State.lockCheck (s : State) (n : Nat) : State :=
  let p := s.port n
  if p.ts = .lock && p.blockLock && decide (p.valid ≥ 3) then s.toAdapt n else s

/-- BLOCK_LOCK (R168), with the invalid headers since the report before. -/
def execBlockLock (ev : PortHeaders) (s : State) : Host.Outcome State Fault Refusal :=
  s.live (if (s.port ev.port).present && !(s.port ev.port).los then
      ((s.shErr ev.port ev.headers).updPort ev.port (fun p => { p with blockLock := true, cdr := true })).lockCheck ev.port
    else s)

/-- RX_POLARITY_INVERT (R168): 10 ms without block lock, for the rest of the attempt. -/
def execRxPolarityInvert (port : Fin 22) (s : State) : Host.Outcome State Fault Refusal :=
  s.live (if (s.port port).attempt && !(s.port port).blockLock then
      s.updPort port (fun p => { p with rxInv := !p.rxInv })
    else s)

/-- HI_BER (R168, R185): the invalid headers since the report before, the status and flag; held 1.0 ms in LINK_UP, retraining. -/
def execHiBer (ev : PortHeaders) (held : Bool) (s : State) : Host.Outcome State Fault Refusal :=
  s.live (if (s.port ev.port).present then
      let s1 := ((s.shErr ev.port ev.headers).updPort ev.port (fun p => { p with hiBer := true, hiBerClk := s.sys.clk })).setFlag
        (Reg.PHY_FLAGS ev.port) 2 ev.port
      if held then s1.retrain ev.port else s1
    else s)

/-- A tap request of one frame (R174, R179): the setting, and the status to send. -/
def tapReply (t : Taps) (lin : Bool) (i req seen st : Nat) : Taps × Nat :=
  if req = 0 then (t, 0)
  else if seen ≠ 0 then (t, st)
  else if lin then (t, if req = 1 then 3 else 2)
  else match t.move i (req == 1) with
    | some t' => (t', 1)
    | none => (t, if req = 1 then 3 else 2)

/-- What the port's transmitter does on a valid training block (R174, R175, R179). -/
def Port.transmitter (p : Port) (b : TrnBlk) : Port :=
  if b.reqSet ≠ 0 && !p.linMode then
    if p.seenSet = 0 then
      { p with own := presetTaps (if b.reqSet = 1 then b.psel else 0), sts := [1, 1, 1], seenSet := b.reqSet,
               seen := b.reqs }
    else { p with seen := b.reqs }
  else
    let r1 := tapReply p.own p.linMode 0 (nth 0 b.reqs 0) (nth 0 p.seen 0) (nth 0 p.sts 0)
    let r2 := tapReply r1.1 p.linMode 1 (nth 0 b.reqs 1) (nth 0 p.seen 1) (nth 0 p.sts 1)
    let r3 := tapReply r2.1 p.linMode 2 (nth 0 b.reqs 2) (nth 0 p.seen 2) (nth 0 p.sts 2)
    { p with own := r3.1, sts := [r1.2, r2.2, r3.2], seen := b.reqs, seenSet := 0 }

/-- What the port's receiver takes from the statuses it asked for (R174, R175). -/
def Port.replies (p : Port) (b : TrnBlk) : Port :=
  if p.reqSet ≠ 0 then
    if b.sts.all (· != 0) then
      { p with far := presetTaps (if p.reqSet = 1 then p.psel else 0), reqSet := 0 }
    else p
  else
    (upto 3).foldl (fun p i =>
      let req := nth 0 p.reqs i
      let st := nth 0 b.sts i
      if req ≠ 0 ∧ st ≠ 0 then
        { p with far := if st = 1 then (p.far.move i (req == 1)).getD p.far else p.far, reqs := p.reqs.set i 0 }
      else p) p

/-- The next move of the module's own receiver: ready, or one request. The search on the eye is not given: a free
value (log entry 6). -/
def Port.choose (p : Port) (b : TrnBlk) (v : Nat) : Port :=
  if p.ts = .adapt && !p.rxReady && decide (p.reqSet = 0) && p.reqs.all (· == 0) && b.sts.all (· == 0) then
    if p.linMode then (if v % 8 = 0 then { p with rxReady := true } else p)
    else if v % 8 = 0 then { p with rxReady := true }
    else if v % 8 ≤ 3 then { p with reqs := ([0, 0, 0] : List Nat).set (v % 8 - 1) (1 + v / 8 % 2) }
    else p
  else p

/-- A unit that finds its own unit number at the partner holds ISOLATED (R336). -/
def State.unitClash (s : State) : State :=
  (({ s with pair := { s.pair with clash := true } } : State).setFlagEach Reg.PAIR_FLAGS 8).setRole Role.isolated

/-- TRAINING_BLOCK_RX (R172 to R181); the eye its frame shows is a free value (log entry 6). -/
def State.trainAct (s : State) (n : Nat) (b : BitVec 64) : State :=
  match parseTrn b with
  | none =>
    (s.updPort n (fun p => { p with valid := 0, readyCnt := 0 })).bump (Reg.PHY_TRN_CRC n)
  | some t =>
    let s := s.retrain n
    let s := if n ≥ 20 && s.paired && decide (t.role = b2n s.unitB) then s.unitClash else s
    match (s.port n).ts with
    | .off => s
    | _ =>
      let (v, s) := s.draw
      let s := s.updPort n (fun p =>
        let p := if t.lin && !p.linMode then p.linear else p
        let p := { p with valid := p.valid + 1, readyCnt := if t.ready then p.readyCnt + 1 else 0,
                          eye := word (v.toNat / 2 ^ 32) &&& 0x03FF_03FF }
        ((p.transmitter t).replies t).choose t v.toNat)
      let s := s.lockCheck n
      let p := s.port n
      (s.when ((decide (p.ts = .adapt) || decide (p.ts = .fallback)) && p.rxReady && decide (p.readyCnt ≥ 3))
        (fun s => s.updPort n (fun p => { p with ts := .confirm, adapted := decide (p.ts = .adapt) }))).trainOut n

/-- TRAINING_BLOCK_RX (R172). -/
def execTrainingBlockRx (port : Fin 22) (b : BitVec 64) (s : State) : Host.Outcome State Fault Refusal :=
  s.live (if (s.port port).present && !(s.port port).refused then s.trainAct port b else s)

/-- REQUEST_TIMEOUT (R175): no status within 2 ms of a request. -/
def execRequestTimeout (port : Fin 22) (s : State) : Host.Outcome State Fault Refusal :=
  let p := s.port port
  s.live (if p.ts = .adapt && (p.reqs.any (· != 0) || decide (p.reqSet ≠ 0)) then s.toFallback port else s)

/-- ADAPT_TIMEOUT (R177): 400 ms into an attempt. -/
def execAdaptTimeout (port : Fin 22) (s : State) : Host.Outcome State Fault Refusal :=
  let p := s.port port
  s.live (if p.ts = .adapt || (p.ts = .lock && !p.blockLock) then s.toFallback port else s)

/-- ATTEMPT_TIMEOUT (R177): FAILED, flag, count, entry. -/
def execAttemptTimeout (port : Fin 22) (s : State) : Host.Outcome State Fault Refusal :=
  s.live (if (s.port port).attempt then
      (((s.updPort port (fun p => { p with ts := .failed, attempt := false })).bump
        (Reg.PHY_TRN_FAIL_CNT port)).setFlagEach (Reg.PHY_FLAGS port) 3 port).trainOut port
    else s)

/-- FAILED_EXPIRE (R176): after 1.0 s to DETECT. -/
def execFailedExpire (port : Fin 22) (s : State) : Host.Outcome State Fault Refusal :=
  s.live (if (s.port port).ts = .failed then s.toDetect port else s)

/-- FALLBACK_PRESET_WINDOW (R178): the preset passes, or the next is tried: P3, P2, P0; once all have failed none is. -/
def State.presetWindow (s : State) (n : Nat) (pass : Bool) : State :=
  let p := s.port n
  if p.ts = .fallback && !p.rxReady && decide (p.preset < 3) then
    if pass && p.blockLock then (s.updPort n (fun p => { p with rxReady := true, reqSet := 0 })).trainOut n
    else
      let k := p.preset + 1
      if p.linMode || decide (k ≥ 3) then (s.updPort n (fun p => { p with preset := 3, reqSet := 0 })).trainOut n
      else (s.updPort n (fun p => { p with preset := k, reqSet := 1, psel := if k = 1 then 2 else 0 })).trainOut n
  else s

/-- FALLBACK_PRESET_WINDOW (R178). -/
def execFallbackPresetWindow (port : Fin 22) (pass : Bool) (s : State) : Host.Outcome State Fault Refusal :=
  s.live (s.presetWindow port pass)

/-- The 16 confirming frames sent, and LINK_UP (R176). -/
def State.confirmDoneAct (s : State) (n : Nat) : State :=
  if (s.port n).ts = .confirm then ((upto 16).foldl (fun s _ => s.frameOut n) s).enterUp n else s

/-- CONFIRM_DONE (R176): the 16th confirming frame is sent. -/
def execConfirmDone (port : Fin 22) (s : State) : Host.Outcome State Fault Refusal := s.live (s.confirmDoneAct port)

/-- PHY_RETRAIN (R181, R187). -/
def execPhyRetrain (port : Fin 22) (s : State) : Host.Outcome State Fault Refusal := s.live (s.retrain port)

end Sys2Proof.Machine
end

