-- ==== Sys2Proof/Machine/Adc.lean ====
section
/-! DEFINITION. The analogue front end and its converters (chapter 11), with the extra compares of the PWM array that
start scans (R252). -/
namespace Sys2Proof.Machine

/-- Core `c`. -/
def State.acore (s : State) (c : Nat) : AdcCore := s.adc.cores.getD c AdcCore.fresh

/-- Core `c` replaced by `f` of it. -/
def State.updCore (s : State) (c : Nat) (f : AdcCore → AdcCore) : State :=
  { s with adc := { s.adc with cores := upd s.adc.cores c f } }

/-- A bit of ADC_STAT. -/
def State.adcBit (s : State) (i : Nat) (b : Bool) : State := s.setReg Reg.ADC_STAT (putBit (s.reg Reg.ADC_STAT) i b)

/-- The core that serves group `g` (R266, R273). -/
def State.server (s : State) (g : Nat) : Nat := if s.spareServes g then 4 else g

/-- The group that core `c` serves; none for the spare while it serves none. -/
def State.groupOf (s : State) (c : Nat) : Option Nat :=
  if c < 4 then some c else (upto 4).find? (fun g => s.spareServes g)

/-- The duration of one conversion in clocks (R263, R275). -/
def State.convClk (s : State) : Nat := if s.lowPower then 400 else 40

/-! ### Scans -/

/-- A scan of core `c` begins (R264, R265): the tag rises, the entries follow in ascending position, and the check
conversions come last. The first entry is sampled `dly` clocks after the trigger. -/
def State.scanBegin (s : State) (c : Nat) (angle : Option Nat) (resumed : Bool) (dly : Nat := 0) : State :=
  let g := s.groupOf c
  let mask := match g with | some g => s.fld (Reg.GRPg_SCAN g) 0 8 | none => 0
  let ps := (upto 8).filter (fun p => mask.testBit p)
  let s := match g with
    | some g => s.setReg (Reg.GRPg_SEQ g) (word ((s.regN (Reg.GRPg_SEQ g) + 1) % 256))
    | none => { s with adc := { s.adc with ownTag := (s.adc.ownTag + 1) % 256 } }
  s.updCore c (fun x => { x with
    conv := match ps with | p :: _ => .entry p | [] => .check 0
    rest := ps.drop 1, sampled := s.sys.clk + dly, trigClk := s.sys.clk, angle := angle, resume := none, resumed := resumed, preempts := 0,
    queued := none, nbrScan := x.nbrSoon, nbrSoon := false, chkBad := false, chkVoid := false })

/-- A dropped urgent request (R268). -/
def State.urgDrop (s : State) : State := (s.bump Reg.ADC_URG_DROP).setFlag Reg.ADC_FLAGS 5

/-- A trigger reaches core `c` (R265, R267, R268). Triggers on one clock are one trigger. -/
def State.trigCore (s : State) (c : Nat) (angle : Option Nat) (dly : Nat := 0) : State :=
  let x := s.acore c
  match x.conv with
  | .idle => s.scanBegin c angle false dly
  | .urgent _ true true =>
    if x.queued.isNone then s.updCore c (fun x => { x with queued := some angle })
    else (s.bump Reg.ADC_TRIG_OVR).setFlag Reg.ADC_FLAGS 4 c
  | .urgent _ false true => (s.scanBegin c angle false dly).urgDrop
  | _ =>
    if x.trigClk = s.sys.clk && decide (x.preempts = 0) then
      s.updCore c (fun x => { x with angle := if x.angle.isSome then x.angle else angle })
    else (s.bump Reg.ADC_TRIG_OVR).setFlag Reg.ADC_FLAGS 4 c

/-- A trigger mask (R266): bits 0 to 3 name groups, bit 4 the unpatched spare; a group with scan mask 0 or without a
core starts nothing. A firmware trigger samples 10 ns after its clock (R265). -/
def State.scanTrig (s : State) (mask : Nat) (angle : Option Nat) (dly : Nat := 0) : State :=
  let s := (upto 4).foldl (fun s g =>
    if mask.testBit g && !s.groupDown g && decide (s.fld (Reg.GRPg_SCAN g) 0 8 ≠ 0) then s.trigCore (s.server g) angle dly
    else s) s
  if mask.testBit 4 && decide (s.adc.spare = .free) && !s.flag Reg.ADC_STAT 9 then s.trigCore 4 none dly else s

/-- SCAN stitches and extra compares, ignored in low-power mode (R275). -/
def State.scanTrigAngle (s : State) (mask : Nat) (angle : Option Nat) : State :=
  if s.lowPower then s else s.scanTrig mask angle

/-- SCAN_TRIGGER (R265). -/
def execScanTrigger (groups : BitVec 5) (s : State) : Host.Outcome State Fault Refusal :=
  s.live (s.scanTrigAngle groups.toNat none)

/-- TRIG_IN_EDGE (R265): the pin takes a level; the edge ADC_TRIGIN chooses starts its scans. -/
def State.trigInAct (s : State) (level : Bool) : State :=
  let s1 := { s with adc := { s.adc with trigPin := level } }
  if level != s.adc.trigPin && s.flag Reg.ADC_TRIGIN 8 && (level != s.flag Reg.ADC_TRIGIN 9) then
    s1.scanTrig (s.fld Reg.ADC_TRIGIN 0 5) none
  else s1

/-- TRIG_IN_EDGE (R265). -/
def execTrigInEdge (level : Bool) (s : State) : Host.Outcome State Fault Refusal := s.live (s.trigInAct level)

/-- ADC_SWTRIG (R265): a firmware write. -/
def execAdcSwtrig (mask : BitVec 5) (s : State) : Host.Outcome State Fault Refusal :=
  s.live (s.scanTrig mask.toNat none 4)

/-- XC_MATCH (R252): extra compare `k` of counter `n` matches, once per period, and starts the routed scans. -/
def State.xcMatchAct (s : State) (n k : Nat) : State :=
  let c := s.ctr n
  let v := if k = 0 then c.xc0 else c.xc1
  if s.ctrEn n && decide (v < c.per) && !(if k = 0 then c.xm0 else c.xm1) then
    match s.toCount n v with
    | some s =>
      let s := s.updCtr n (fun c => if k = 0 then { c with xm0 := true } else { c with xm1 := true })
      let r := s.reg (Reg.PWMn_XROUTE n)
      if bit r (16 + k) then s.scanTrigAngle (bits r (8 * k) 5) none else s
    | none => s
  else s

/-- XC_MATCH (R252). -/
def execXcMatch (n : Fin 24) (k : Fin 2) (s : State) : Host.Outcome State Fault Refusal := s.live (s.xcMatchAct n k)

/-! ### Core faults and the spare -/

/-- A core becomes faulted (R272): recorded, its scan ends, and the spare is asked for. -/
def State.coreFault (s : State) (c : Nat) : State :=
  let s := s.updCore c (fun x => { x with faulted := true, conv := .idle, rest := [], resume := none, queued := none })
  let s := if c < 4 then s.adcBit c true else (s.adcBit 9 true).adcBit 4 false
  let s := (s.setFlagEach Reg.ADC_FLAGS 0 c).ownInc (24 + c)
  if decide (c < 4) && s.flag Reg.ADC_CFG 0 && decide (s.adc.spare = .free) && !s.flag Reg.ADC_STAT 9 then
    { s with adc := { s.adc with spare := .wanted c } }
  else s

/-- A failed check of core `c` (R272). -/
def State.checkFail (s : State) (c : Nat) : State :=
  let s := (s.bump Reg.ADC_CHECK_FAIL).updCore c (fun x => { x with nbrSoon := true, fails := x.fails + 1 })
  if (s.acore c).fails ≥ 3 then s.coreFault c else s

/-- The next conversion of core `c` after the one that ends (R265, R268). -/
def State.nextConv (s : State) (c : Nat) : State :=
  let x := s.acore c
  let t := x.sampled + s.convClk
  match x.conv with
  | .urgent _ _ true =>
    match x.queued with
    | some a => s.scanBegin c a true
    | none => s.updCore c (fun x => { x with conv := .idle })
  | .urgent _ _ false =>
    match x.resume with
    | some p => s.updCore c (fun x => { x with conv := .entry p, resume := none, resumed := true, sampled := t })
    | none => s.updCore c (fun x => { x with conv := .idle })
  | .entry _ =>
    match x.rest with
    | p :: ps => s.updCore c (fun x => { x with conv := .entry p, rest := ps, resumed := false, sampled := t })
    | [] => s.updCore c (fun x => { x with conv := .check 0, resumed := false, sampled := t })
  | .check 0 => s.updCore c (fun x => { x with conv := .check 1, sampled := t })
  | .check _ => s.updCore c (fun x => { x with conv := .idle })
  | .idle => s

/-- The result word (R264, R269 to R272). -/
def State.resultWord (s : State) (c g pos : Nat) (code : Int) (priv resumed : Bool) : Word :=
  let x := s.acore c
  let ovr := decide (code > 32767) || decide (code < -32768)
  let v := clampI code (-32768) 32767
  let nbr := x.nbrNext || x.nbrScan || decide (x.sampled < x.clampEnd) || !s.flag Reg.ADC_STAT (16 + g) ||
    decide (x.sampled < s.adc.lpEnd)
  BitVec.ofInt 32 (v * 65536) ||| word (b2n (decide (c = 4)) * 0x8000 + pos * 0x1000 + b2n ovr * 0x800 + b2n nbr * 0x400 +
    b2n priv * 0x200 + b2n resumed * 0x100 + s.regN (Reg.GRPg_SEQ g) % 256)

/-- A delivered result: its register, over-range (R269) and an overdriven input (R270), the safety copy (R18). -/
def State.resultOut (s : State) (c g pos : Nat) (w : Word) : State :=
  let beyond := bit w 11
  let clamp := s.flag Reg.ADC_CLAMP_STAT (8 * g + pos)
  let s := s.setReg (Reg.GRPg_RESj g pos) w
  let s := s.updCore c (fun x => { x with nbrNext := beyond, clampEnd := if clamp then x.sampled + 828 else x.clampEnd })
  s.when beyond (fun s => (s.bump Reg.ADC_OVR_CNT).setFlag Reg.ADC_FLAGS 6 (8 * g + pos))

/-- A check conversion ends with a code (R272): ±2.048 V give ±16,384, within 64; a check after an over-range or inside
a clamp time is discarded. -/
def State.checkDone (s : State) (c k : Nat) (code : Int) : State :=
  let x := s.acore c
  let want : Int := if k = 0 then 16384 else -16384
  let dev := decide ((code - want).natAbs > 64)
  let void := x.nbrNext || decide (x.sampled < x.clampEnd)
  let s := s.updCore c (fun x => { x with chkBad := x.chkBad || dev, chkVoid := x.chkVoid || void, nbrNext := false })
  let s := s.nextConv c
  if k = 0 then s
  else
    let x := s.acore c
    if x.chkVoid then s
    else if x.chkBad then s.checkFail c
    else s.updCore c (fun x => { x with fails := 0 })

/-- CONVERSION_DONE (R263, R264): the conversion under way in core `c` ends with an exact code; its word reaches the
chain 150 ns after the sampling instant. -/
def State.convDone (s : State) (c : Nat) (code : Int) : State :=
  let x := s.acore c
  -- R446: no conversion is delivered while APLL has lost lock
  if s.clk.apllAt.isSome then (if x.conv = Conv.idle then s else s.nextConv c) else
  match x.conv with
  | .idle => s
  | .check k => (s.toSysClk (x.sampled + s.convClk)).checkDone c k code
  | .entry pos =>
    let s := s.toSysClk (x.sampled + s.convClk + 20)
    match s.groupOf c with
    | none => s.nextConv c
    | some g =>
      let w := s.resultWord c g pos code false x.resumed
      let s := (s.resultOut c g pos w).nextConv c
      let p := s.stepNo * 2 ^ 22 + (s.ang.acc.toNat / 2 ^ 32) % 2 ^ 22
      let s := match x.angle with
        | some a => if a % 1024 = 0 then { s with saf := { s.saf with words := s.saf.words.set (8 * g + pos) w } } else s
        | none => s
      s.fltResult (8 * g + pos) w x.angle p (s.taiOf p)
  | .urgent pos priv _ =>
    let s := s.toSysClk (x.sampled + s.convClk + 20)
    match s.groupOf c with
    | none => s.nextConv c
    | some g =>
      let w := s.resultWord c g pos code priv false
      ((s.resultOut c g pos w).setReg (Reg.GRPg_URG_RES g) w).nextConv c

/-- CONVERSION_DONE (R263). -/
def execConversionDone (core : Fin 5) (code : Int) (s : State) : Host.Outcome State Fault Refusal :=
  s.live (s.convDone core code)

/-- CONVERSION_TIMEOUT (R272): the conversion does not complete; one failed check; the entry is not delivered. -/
def State.convTimeout (s : State) (c : Nat) : State :=
  let x := s.acore c
  let fail (s : State) : State := if s.clk.apllAt.isSome then s else s.checkFail c
  match x.conv with
  | .idle => s
  | .check _ =>
    let s := (s.toSysClk (x.sampled + 60)).updCore c (fun x => { x with chkVoid := true })
    (fail s).nextConv c
  | .entry pos =>
    let s := s.toSysClk (x.sampled + 60)
    let s := match s.groupOf c, x.angle with
      | some g, some ac => (upto 32).foldl (fun (s : State) n =>
          if s.fedLocked n && decide (s.chSrc n = 8 * g + pos) && decide ((s.chan n).next ≤ ac / 128) then
            s.missTo n (ac / 128 + 1) 64 else s) s
      | _, _ => s
    let s := fail s
    if (s.acore c).faulted then s else s.nextConv c
  | .urgent _ _ _ =>
    let s := fail (s.toSysClk (x.sampled + 60))
    if (s.acore c).faulted then s else s.nextConv c

/-- CONVERSION_TIMEOUT (R272). -/
def execConversionTimeout (core : Fin 5) (s : State) : Host.Outcome State Fault Refusal := s.live (s.convTimeout core)

/-- URGENT_REQUEST (R268). -/
def State.urgent (s : State) (g pos : Nat) : State :=
  if s.groupDown g then s.urgDrop
  else
    let c := s.server g
    let x := s.acore c
    let priv := s.flag (Reg.GRPg_SCAN g) (8 + pos)
    match x.conv with
    | .idle => s.updCore c (fun x => { x with conv := .urgent pos priv true, sampled := s.sys.clk, queued := none })
    | .entry p =>
      if priv && decide (x.preempts < 2) then
        s.updCore c (fun x => { x with conv := .urgent pos true false, resume := some p, preempts := x.preempts + 1,
                                       sampled := s.sys.clk })
      else s.urgDrop
    | .check _ =>
      if priv then
        s.updCore c (fun x => { x with conv := .urgent pos true true, sampled := s.sys.clk, queued := none, chkVoid := true })
      else s.urgDrop
    | .urgent _ _ _ => s.urgDrop

/-- URGENT_REQUEST (R268). -/
def execUrgentRequest (g : Fin 4) (pos : Fin 8) (s : State) : Host.Outcome State Fault Refusal := s.live (s.urgent g pos)

/-- SPARE_PATCH (R273): the spare is connected to the group's inputs and calibrates. -/
def State.sparePatchAct (s : State) : State :=
  match s.adc.spare with
  | .wanted g =>
    let s := (s.updCore 4 (fun x => { x with conv := .idle, queued := none })).updCore g (fun x => { x with conv := .idle, queued := none })
    let s := { s with adc := { s.adc with spare := .cal g (s.sys.clk + 9440000) } }
    let s := s.setReg Reg.ADC_STAT (setBits (s.reg Reg.ADC_STAT) 7 2 g)
    (s.adcBit 4 false).adcBit 5 true
  | _ => s

/-- SPARE_PATCH (R273). -/
def execSparePatch (s : State) : Host.Outcome State Fault Refusal := s.live s.sparePatchAct

/-- SPARE_CAL_DONE (R273): the 23.6 ms of calibration end; the spare serves from the next boundary. -/
def State.spareCalAct (s : State) : State :=
  match s.adc.spare with
  | .cal g _ => { s with adc := { s.adc with spare := .calDone g } }
  | _ => s

/-- The clock at which the spare's calibration ends. -/
def State.calEnd (s : State) : Option Nat :=
  match s.adc.spare with
  | .cal _ t => some t
  | _ => none

/-- SPARE_CAL_DONE (R273). -/
def execSpareCalDone (s : State) : Host.Outcome State Fault Refusal :=
  s.live (match s.calEnd with
    | some t => s.atDue t State.spareCalAct
    | none => s)

/-- The spare at a boundary (R273, R274): it is connected, begins to serve, or returns its group. -/
def State.spareBoundary (s : State) : State :=
  match s.adc.spare with
  | .wanted _ => s.sparePatchAct
  | .calDone g =>
    let s := { s with adc := { s.adc with spare := .serving g } }
    (((s.adcBit 5 false).adcBit 6 true).ownInc 28).hardGroup g |>.setFlagEach Reg.ADC_FLAGS 1 g
  | .release g =>
    let s := { s with adc := { s.adc with spare := .free } }
    let s := s.updCore 4 (fun x => { x with conv := .idle, queued := none })
    ((s.adcBit 6 false).adcBit 4 (!s.flag Reg.ADC_STAT 9)).hardGroup g
  | _ => s

/-- Whether ADC_PATCH.GO is refused with CONFLICT (R274). -/
def State.patchBusy (s : State) : Bool := decide (s.adc.spare ≠ .free) || s.flag Reg.ADC_STAT 9

/-- ADC_PATCH.GO (R274), in COMMISSION and MAINTAIN. -/
def State.patchGo (s : State) (g : Nat) : State :=
  if s.patchBusy || !(decide (s.mode = .commission) || decide (s.mode = .maintain)) then s
  else { s with adc := { s.adc with spare := .wanted g } }

/-- ADC_PATCH_GO (R274). -/
def execAdcPatchGo (g : Fin 4) (s : State) : Host.Outcome State Fault Refusal := s.live (s.patchGo g)

/-- ADC_PATCH.RELEASE (R274): refused when the group's own core is faulted. -/
def State.patchRelease (s : State) : State :=
  match s.adc.spare with
  | .serving g =>
    if s.flag Reg.ADC_STAT g || !(decide (s.mode = .commission) || decide (s.mode = .maintain)) then s
    else { s with adc := { s.adc with spare := .release g } }
  | _ => s

/-- ADC_PATCH_RELEASE (R274). -/
def execAdcPatchRelease (s : State) : Host.Outcome State Fault Refusal := s.live s.patchRelease

/-- CLAMP_OVERDRIVE (R270): the clamp of an input begins or ceases to conduct. -/
def State.clampAct (s : State) (i : Nat) (active : Bool) : State :=
  let was := s.flag Reg.ADC_CLAMP_STAT i
  let s := s.setReg Reg.ADC_CLAMP_STAT (putBit (s.reg Reg.ADC_CLAMP_STAT) i active)
  s.when (active && !was) (fun s => (s.bump Reg.ADC_CLAMP_CNT).setFlag Reg.ADC_FLAGS 3 i)

/-- CLAMP_OVERDRIVE (R270). -/
def execClampOverdrive (input : Fin 32) (active : Bool) (s : State) : Host.Outcome State Fault Refusal :=
  s.live (s.clampAct input active)

/-- Settling time of a reference in clocks (R271). -/
def refClk (src : Nat) : Nat := if src = 0 then 80000 else if src = 1 then 20000 else 8000

/-- A group passes to a reference (R271): REF_SETTLED clears for the settling time. -/
def State.refTo (s : State) (g src : Nat) (fb : Bool) : State :=
  let s := { s with adc := { s.adc with
    src := s.adc.src.set g src, settleEnd := s.adc.settleEnd.set g (some (s.sys.clk + refClk src)) } }
  (s.adcBit (16 + g) false).adcBit (20 + g) fb

/-- The settling time of group `g` has ended (R271). -/
def State.refSettle (s : State) (g : Nat) : State :=
  match s.adc.settleEnd.getD g none with
  | some t =>
    if s.sys.clk ≥ t then
      ({ s with adc := { s.adc with settleEnd := s.adc.settleEnd.set g none } } : State).adcBit (16 + g) true
    else s
  | none => s

/-- REF_SETTLED (R271): the clock runs to the end of the settling when it lies inside the step. -/
def execRefSettled (g : Fin 4) (s : State) : Host.Outcome State Fault Refusal :=
  s.live (match s.adc.settleEnd.getD g none with
    | some t => (s.toSysClk t).refSettle g
    | none => s)

/-- REF_FAULT (R271): not on the supply reference; with REF_FALLBACK the group passes to it. -/
def State.refFaultAct (s : State) (g : Nat) : State :=
  if s.adc.src.getD g 0 = 2 then s
  else
    let s := s.setFlagEach Reg.ADC_FLAGS 2 g
    if s.flag Reg.ADC_CFG 1 then s.refTo g 2 true else s

/-- REF_FAULT (R271). -/
def execRefFault (g : Fin 4) (s : State) : Host.Outcome State Fault Refusal := s.live (s.refFaultAct g)

/-- Low-power mode and settling at a boundary (R271, R275). -/
def State.adcBoundary (s : State) : State :=
  let lp := (decide (s.mode = .ready) && s.flag Reg.ADC_CFG 3 && (s.pwr.warn || s.ang.backup)) ||
    (decide (s.mode = .maintain) && s.flag Reg.ADC_CFG 2)
  let was := s.lowPower
  let s := if was && !lp then { s with adc := { s.adc with lpEnd := s.sys.clk + 8000 } } else s
  let s := s.adcBit 10 lp
  ((upto 4).foldl (fun s g => s.refSettle g) s).spareBoundary

end Sys2Proof.Machine
end

