-- ==== Sys2Proof/Machine/Lnk.lean ====
section
/-! DEFINITION. The lane hub's events (chapter 08): discarded blocks, bulk blocks with credits and retry, audits,
delay measurement, declarations, routes. -/
namespace Sys2Proof.Machine

/-- A counter register of a lane; the pair link's ports have none (R217). -/
def State.bumpLane (s : State) (n a : Nat) (k : Nat := 1) : State := if n < 20 then s.bumpBy a k else s

/-- CTL_BLOCK_DISCARD (R188, R339). -/
def execCtlBlockDiscard (port : Fin 22) (s : State) : Host.Outcome State Fault Refusal :=
  s.live (if port.val < 20 then s.bump (Reg.LNK_CTL_ERR port) else s.bump Reg.PAIR_CTL_ERR)

/-- A data block on its own (R189): it belongs to the open run whose blocks have not all come; else it is an orphan. -/
def State.dataBlockRx (s : State) (n : Nat) : State :=
  if (s.lane n).runLeft > 0 then s.updLane n (fun l => { l with runLeft := l.runLeft - 1 }) else s.bump (Reg.LNK_ORPHAN n)

/-- ORPHAN_BLOCK (R189). -/
def execOrphanBlock (lane : Fin 20) (s : State) : Host.Outcome State Fault Refusal := s.live (s.dataBlockRx lane)

/-- Concentrator `c`. -/
def State.conc (s : State) (c : Nat) : Conc := s.far.concs.getD c Conc.fresh

/-- Concentrator `c` replaced by `f` of it. -/
def State.updConc (s : State) (c : Nat) (f : Conc → Conc) : State :=
  { s with far := { s.far with concs := upd s.far.concs c f } }

/-- A unit's frame seen by a concentrator in the window in progress (R213). -/
def Conc.present (x : Conc) (unitB : Bool) : Conc := if unitB then { x with presB := true } else { x with presA := true }

/-- A link block received where a training frame is due: a port in CONFIRM enters LINK_UP at once (R176). -/
def State.linkBlock (s : State) (n : Nat) : State := s.enterUp n

/-- IDLE_RX (R191): at a concentrator, presence of a dispatching unit; at a module port in CONFIRM, a link block
(R176). -/
def execIdleRx (conc : Bool) (n : Fin 22) (disp unitB : Bool) (_epoch : BitVec 16) (s : State) :
    Host.Outcome State Fault Refusal :=
  if conc then .next (if disp then s.updConc n (·.present unitB) else s) else s.live (s.linkBlock n)

/-! ### Bulk blocks -/

/-- ACK sent (R206). -/
def State.ackOut (s : State) (a : Nat) (nak : Bool) : State :=
  match s.bulkPort a with
  | none => s
  | some n => (s.updAssoc a (fun x => { x with ackPend := 0 })).tx n "ACK" [((s.assoc a).expect - 1).toNat, b2n nak]

/-- An acknowledgement frees the blocks that the concentrator kept (R425). -/
def State.concAcked (s : State) (a : Nat) : State := s.when (decide (a < 20)) (fun s => s.updConc a (fun x => { x with kept := [] }))

/-- A NAK condition (R205): one NAK until a block is accepted. -/
def State.nakOut (s : State) (a : Nat) : State :=
  if (s.assoc a).nakSent then s else (s.updAssoc a (fun x => { x with nakSent := true })).ackOut a true

/-- CREDIT sent for a VC (R204). -/
def State.creditOut (s : State) (a v : Nat) : State :=
  match s.bulkPort a with
  | none => s
  | some n =>
    -- R435: no LIMIT advances while the SRAM is in RETV
    let l := if s.mem.retv then (s.assoc a).limitTx.getD v 0 else s.rxLimit a v
    (s.updAssoc a (fun x => { x with
      limitTx := x.limitTx.set v l, creditClk := x.creditClk.set v s.sys.clk, limSince := x.limSince.set v none })).tx n "CREDIT"
      [v + 1, l.toNat]

/-- A bulk block of a KIND that its channel does not have: discarded and counted (R227, R305, R411). -/
def State.badKind (s : State) (vc : Nat) : State :=
  if vc = 1 then s.bump Reg.LDG_SWEEP_MISS
  else if vc = 2 then (s.bump Reg.ACQ_REM_ERR).setFlag Reg.ACQ_FLAGS 3
  else s.bump Reg.CMD_MALFORMED

/-- A bulk block fails (R203, R205): its CRC, or a payload that is no 1 to 32 data blocks. -/
def bulkBroken (b : BulkBlk) (crcOk : Bool) : Bool :=
  !crcOk || decide (b.payload.length > 256) || decide (b.payload.length = 0) || decide (b.payload.length % 8 ≠ 0)

/-- BULK_BLOCK_RX (R205, R207): accepted in order, acknowledged as a duplicate, or NAKed; a payload that no LEN gives has
failed. -/
def State.bulkRx (s : State) (n a : Nat) (b : BulkBlk) (crcOk : Bool) : State :=
  let x := s.assoc a
  if b.vc = 0 then s
  else if bulkBroken b crcOk then s.nakOut a
  else if b.seq = x.expect then
    let v := b.vc.val - 1
    let s := s.updAssoc a (fun x => { x with
      used := x.used.set v (x.used.getD v 0 + 1), expect := x.expect + 1, nakSent := false,
      ackSince := if x.ackPend = 0 then s.sys.clk else x.ackSince, ackPend := x.ackPend + 1,
      limSince := x.limSince.set v (some ((x.limSince.getD v none).getD s.sys.clk)) })
    let s := if (s.assoc a).ackPend ≥ 8 then (s.ackOut a false).concAcked a else s
    let s := if (s.rxLimit a v - (s.assoc a).limitTx.getD v 0).toNat ≥ 4 then s.creditOut a v else s
    let kind := (b.payload.headD 0).toNat
    if decide (a < 20) && (decide (kind = 0) || decide (kind > if b.vc.val = 1 then 6 else 3)) then s.badKind b.vc.val
    else s.tx n "DELIVERED" (b.vc.val :: b.payload.map (·.toNat))
  else if (x.expect - b.seq).toNat ≤ 64 then s.ackOut a false
  else s.nakOut a

/-- At least one credit of a VC and room in the retry buffer (R205). -/
def Assoc.canSend (x : Assoc) (v : Nat) : Bool :=
  decide (((x.limit.getD v 0 - x.consumed.getD v 0) - 1).toNat < 0x7FFF) && decide (x.kept.length < 64)

/-- Bulk blocks may begin on a port (R31, R190, R192, R208): not in an audit, not inside a cyclic region, and on
lanes from the ACTIVE unit alone. -/
def State.bulkOpen (s : State) (a n : Nat) : Bool :=
  s.linkUp n && !(s.assoc a).audit && !s.mem.retv &&
  (decide (a = 20) || (s.isActive &&
    (decide ((s.lane n).qmask = 0) || decide ((s.lane n).qmask = 2 ^ s.mapN a - 1))))

/-- A bulk block's fields as sent (R203). -/
def bulkFields (b : BulkBlk) : List Nat :=
  [b.vc.val, b.seq.toNat, b2n b.conc, b.slot.toNat, (crc32 b.payload).toNat] ++ b.payload.map (·.toNat)

/-- Every kept block replayed in order (R205, R206), as soon as bulk blocks may begin (R31); none before the audit is complete, which
replays itself (R208). After RETRY_MAX replays without an advance the port retrains instead. -/
def State.replay (s : State) (a : Nat) : State :=
  match s.bulkPort a with
  | none => s
  | some n =>
    let x := s.assoc a
    if x.kept.isEmpty || x.audit then s
    else if x.replays ≥ s.fld Reg.LNH_CFG 0 4 then
      let s := s.updAssoc a (fun x => { x with replays := 0, replayDue := false })
      (if n < 20 then s.setFlag (Reg.LNK_FLAGS n) 5 n else s).retrain n
    else if !s.bulkOpen a n then s.updAssoc a (fun x => { x with replayDue := true })
    else
      x.kept.foldl (fun s b => s.tx n "BULK_REPLAY" (bulkFields b))
        ((s.updAssoc a (fun x => { x with replays := x.replays + 1, replayDue := false, advClk := s.sys.clk })).bumpLane n
          (Reg.LNK_RETRY_CNT n) x.kept.length)

/-- The replays that waited for the end of a cyclic region (R31, R192). -/
def State.bulkResume (s : State) : State :=
  (upto 21).foldl (fun s a => s.when (s.assoc a).replayDue (fun s => s.replay a)) s

/-- A new bulk block of the queue sent (R205): the first whose VC has a credit, after a replay that waits. -/
def State.bulkSend (s0 : State) (a : Nat) : State :=
  let s := s0.when (s0.assoc a).replayDue (fun s => s.replay a)
  match s.bulkPort a with
  | none => s
  | some n =>
    let x := s.assoc a
    match x.queue.findIdx? (fun b => x.canSend (b.vc.val - 1)) with
    | none => s
    | some i =>
      if !s.bulkOpen a n then s
      else
        match x.queue[i]? with
        | none => s
        | some b0 =>
          let b := { b0 with seq := x.next }
          let v := b.vc.val - 1
          (s.updAssoc a (fun x => { x with
            queue := x.queue.eraseIdx i, next := x.next + 1, consumed := x.consumed.set v (x.consumed.getD v 0 + 1),
            kept := x.kept ++ [b], advClk := if x.kept = [] then s.sys.clk else x.advClk })).tx n "BULK" (bulkFields b)

/-- BULK_BLOCK_SEND (R205). -/
def execBulkBlockSend (assoc : Fin 21) (s : State) : Host.Outcome State Fault Refusal := s.live (s.bulkSend assoc)

/-- The kept blocks that an acknowledgement of `a` covers. -/
def ackedBy (kept : List BulkBlk) (a : Byte) : Nat :=
  match kept with
  | [] => 0
  | b :: _ => let k := (a - b.seq).toNat + 1; if k ≤ kept.length then k else 0

/-- An ACK or NAK received (R205, R206); on the pair link it releases what waited for it (R235, R343). -/
def State.ackAct (s : State) (n a : Nat) (seq : Byte) (nak : Bool) : State :=
  let k := ackedBy (s.assoc a).kept seq
  let s := s.updAssoc a (fun x => { x with
    kept := x.kept.drop k, replays := if k > 0 then 0 else x.replays, advClk := if k > 0 then s.sys.clk else x.advClk })
  if nak then (s.bumpLane n (Reg.LNK_NAK_CNT n)).replay a else s

/-- The larger of two records' counters: the merge of R225. -/
def Rec.maxed (d r : Rec) : Rec :=
  { d with nsw := max d.nsw r.nsw, nth := max d.nth r.nth, qah := max d.qah r.qah, hrs := max d.hrs r.hrs }

/-- CREDIT_RX (R204). -/
def execCreditRx (lane : Fin 22) (vc : Fin 4) (limit : BitVec 16) (s : State) : Host.Outcome State Fault Refusal :=
  s.live (let t := s.linkBlock lane
    match t.assocOf lane with
    | some a => if vc = 0 then t else t.updAssoc a (fun x => { x with limit := x.limit.set (vc.val - 1) limit })
    | none => t)

/-- The acknowledgement due 0.5 µs after the oldest block accepted and not acknowledged (R206). -/
def State.ackSendAct (s : State) (a : Nat) : State :=
  if (s.assoc a).ackPend > 0 then s.atDue ((s.assoc a).ackSince + 200) (fun s => (s.ackOut a false).concAcked a) else s

/-- ACK_SEND (R206). -/
def execAckSend (assoc : Fin 21) (s : State) : Host.Outcome State Fault Refusal := s.live (s.ackSendAct assoc)

/-- The clock at which CREDIT is due for a VC (R204): 2.0 µs after an advance not yet sent, at the latest 100 µs after the CREDIT
before. -/
def State.creditDue (s : State) (a v : Nat) : Nat :=
  let x := s.assoc a
  let last := x.creditClk.getD v 0 + 40000
  match x.limSince.getD v none with
  | some t => min (t + 800) last
  | none => last

/-- CREDIT_SEND (R204). -/
def execCreditSend (assoc : Fin 21) (vc : Fin 4) (s : State) : Host.Outcome State Fault Refusal :=
  s.live (if vc = 0 then s else s.atDue (s.creditDue assoc (vc.val - 1)) (fun s => s.creditOut assoc (vc.val - 1)))

/-- RETRY_TIMEOUT (R205, R206): no advance of the acknowledgement for LNH_CFG.RTO, in 0.1 µs: the kept blocks are replayed. -/
def State.retryAct (s : State) (a : Nat) : State :=
  let x := s.assoc a
  if x.kept.isEmpty || x.audit then s else s.atDue (x.advClk + 40 * s.fld Reg.LNH_CFG 8 8) (fun s => s.replay a)

/-- RETRY_TIMEOUT (R205). -/
def execRetryTimeout (assoc : Fin 21) (s : State) : Host.Outcome State Fault Refusal := s.live (s.retryAct assoc)

/-! ### Audits -/

/-- One VC of a partner's AUDIT (R208): LIMIT taken, CONSUMED checked and corrected. -/
def State.auditVc (s : State) (n a : Nat) (x : Audit) : State :=
  let v := x.vc.val - 1
  let y := s.assoc a
  let want := x.used + BitVec.ofNat 16 ((y.kept.filter (fun b => b.vc == x.vc)).length)
  let bad := decide (y.consumed.getD v 0 ≠ want)
  let s := s.updAssoc a (fun y => { y with limit := y.limit.set v x.limit, consumed := y.consumed.set v want })
  if bad && decide (n < 20) then (s.bump (Reg.LNK_CREDIT_FIX n)).setFlagEach (Reg.LNK_FLAGS n) 4 n else s

/-- The partner's AUDITs processed by the sender (R208): kept blocks before NEXT_SEQ dropped, LIMIT taken, CONSUMED checked; the
direction's audit is complete. -/
def State.auditTake (s : State) (n a : Nat) (next : Byte) (l : List Audit) : State :=
  let k := ackedBy (s.assoc a).kept (next - 1)
  let s := s.updAssoc a (fun x => { x with
    kept := x.kept.drop k, auditDone := true, audit := false, advClk := s.sys.clk, replays := if k > 0 then 0 else x.replays })
  l.foldl (fun s x => s.auditVc n a x) s

/-- AUDIT_RX (R208): the partner's three AUDITs are processed once, and the replay begins; DONE ends the repetition of the own
AUDITs. A partner that has not seen DONE is answered again. -/
def State.auditAct (s : State) (n a : Nat) (l : List Audit) : State :=
  match l with
  | [x1, x2, x3] =>
    if x1.vc = 1 ∧ x2.vc = 2 ∧ x3.vc = 3 ∧ x1.nextSeq = x2.nextSeq ∧ x2.nextSeq = x3.nextSeq then
      let first := (s.assoc a).audit
      let seen := x1.done && x2.done && x3.done
      let s := s.when first (fun s => s.auditTake n a x1.nextSeq l)
      let s := s.when seen (fun s => s.updAssoc a (fun x => { x with auditRx := false }))
      let s := s.when first (fun s => s.replay a)
      let s := s.when (first || !seen) (fun s => s.sendAudits a)
      if n < 20 then s.requal n else s
    else s
  | _ => s

/-- AUDIT_RX (R208). -/
def execAuditRx (lane : Fin 22) (audits : List Audit) (s : State) : Host.Outcome State Fault Refusal :=
  s.live (let t := s.linkBlock lane
    match t.assocOf lane with
    | some a => if t.bulkPort a = some lane.val then t.auditAct lane a audits else t
    | none => t)

/-- 20 µs without DONE: the AUDITs again (R208). -/
def State.auditRepeatAct (s : State) (a : Nat) : State :=
  if (s.assoc a).auditRx then s.atDue ((s.assoc a).auditClk + 8000) (fun s => s.sendAudits a) else s

/-- AUDIT_REPEAT (R208). -/
def execAuditRepeat (assoc : Fin 21) (s : State) : Host.Outcome State Fault Refusal := s.live (s.auditRepeatAct assoc)

/-! ### Delay, declarations -/

/-- An echo without its reply within 10 µs is lost: the previous d is kept, the loss counted (R197). -/
def State.echoLost (s : State) (n : Nat) : State :=
  (s.updLane n (fun l => { l with echo := none })).bump (Reg.LNK_ECHO_LOST n)

/-- ECHO_RSP_RX on a lane (R197, R198): d, LAT, the assessment; a reply later than 10 µs is a lost one. -/
def State.echoLane (s : State) (n : Nat) (tag turn rtt : Nat) : State :=
  match (s.lane n).echo with
  | some (t, c) =>
    if t = tag && s.linkUp n && decide (c + 4000 < s.sys.clk) then s.echoLost n
    else if t = tag && s.linkUp n then
      let d := (rtt - turn) / 2
      let s := s.updLane n (fun l => { l with d := some d, echo := none })
      let s := (s.setReg (Reg.LNK_DLY n) (word d)).setReg (Reg.LNK_RTT n) (word rtt)
      let s := if d > 250000 then
          (s.updLane n (fun l => { l with latSent := false })).setFlag (Reg.LNK_FLAGS n) 2 n
        else (s.updLane n (fun l => { l with latSent := true })).tx n "LAT" [d, tag]
      (s.assess n).qualCheck n
    else s
  | none => s

/-- ECHO_RSP on a path of the pair link (R54, R339): the one-way delay of the path. -/
def State.echoPair (s : State) (b : Bool) (tag turn rtt : Nat) : State :=
  let i := b2n b
  match (s.pair.paths.getD i ⟨none, true, none⟩).sentEcho with
  | some (t, c) =>
    if t = tag && decide (s.sys.clk ≤ c + 4000) then
      let d := (rtt - turn) / 2
      { s with
        ang := if b then { s.ang with dP1 := d } else { s.ang with dP0 := d }
        pair := { s.pair with paths := upd s.pair.paths i (fun p => { p with sentEcho := none }) } }
    else s
  | none => s

/-- ECHO_RSP_RX (R197). -/
def execEchoRspRx (lane : Fin 22) (tag : BitVec 16) (turn : BitVec 24) (rttPs : Nat) (s : State) :
    Host.Outcome State Fault Refusal :=
  s.live (let t := s.linkBlock lane
    if lane.val < 20 then t.echoLane lane tag.toNat turn.toNat rttPs
    else t.echoPair (decide (lane.val = 21)) tag.toNat turn.toNat rttPs)

/-- 10 µs have passed since an echo request (R197). -/
def State.echoTimeoutAct (s : State) (n : Nat) : State :=
  if n < 20 then
    match (s.lane n).echo with
    | some (_, c) => s.atDue (c + 4000) (fun s => s.echoLost n)
    | none => s
  else
    match (s.pair.paths.getD (n - 20) ⟨none, true, none⟩).sentEcho with
    | some (_, c) => s.atDue (c + 4000) (fun s => { s with pair := { s.pair with
        paths := upd s.pair.paths (n - 20) (fun p => { p with sentEcho := none }) } })
    | none => s

/-- ECHO_TIMEOUT (R197). -/
def execEchoTimeout (lane : Fin 22) (s : State) : Host.Outcome State Fault Refusal := s.live (s.echoTimeoutAct lane)

/-- ECHO_NOW (R197, LNK_CTRL.ECHO). -/
def execEchoNow (lane : Fin 20) (s : State) : Host.Outcome State Fault Refusal :=
  s.live (if s.linkUp lane then s.echoSend lane else s)

/-- DECLARE_RX (R199, R201): compared with the one before, also across a loss of LINK_UP. -/
def State.declareAct (s : State) (n : Nat) (dc : Decl) : State :=
  if !s.linkUp n then s
  else
    let held := (s.lane n).decl
    let old := (s.lane n).lastDecl
    let s := s.updLane n (fun l => { l with decl := some dc, lastDecl := some dc })
    let s := (s.setReg (Reg.LNK_DECL n) (word (dc.dDn + dc.dUp * 2 ^ 16))).setReg (Reg.LNK_CONC n)
      (word (dc.conc + dc.cport * 2 ^ 16 + b2n dc.alt * 2 ^ 20))
    let s := match old with
      | some o => if o = dc then s else s.setFlag (Reg.LNK_FLAGS n) 3 n
      | none => s
    if held = some dc then (s.requal n).qualCheck n else (s.assess n).qualCheck n

/-- DECLARE_RX (R199). -/
def execDeclareRx (lane : Fin 20) (dDn dUp : BitVec 12) (conc : BitVec 16) (cport : BitVec 4) (alt : Bool)
    (s : State) : Host.Outcome State Fault Refusal :=
  s.live ((s.linkBlock lane).declareAct lane { dDn := dDn.toNat, dUp := dUp.toNat, conc := conc.toNat, cport := cport.toNat, alt := alt })

/-- The route written (R211): whether a move was made or none was needed, and the state. -/
def State.routeTo (s : State) (n : Nat) : Bool × State :=
  match s.primaryOf n with
  | none => (false, s)
  | some p =>
    if (s.assoc p).route = some n then (true, s)
    else if s.qualApart n then (true, s.moveTo p n)
    else (false, s)


end Sys2Proof.Machine
end

