-- ==== Sys2Proof/Machine/Far.lean ====
section
/-! DEFINITION. What stands beyond the lanes: the obligations of a concentrator (chapter 08) and of a submodule
(chapters 06 and 09). These devices are not the unit: they act whatever the unit's supply. -/
namespace Sys2Proof.Machine

/-! ### Concentrators -/

/-- What concentrator `c` puts out. -/
def State.concOut (s : State) (c : Nat) (name : String) (f : List Nat) : State := s.emit (.conc c name f)

/-- A block concentrator `c` sends up a lane: its record and its blocks (R188). -/
def State.concSend (s : State) (c : Nat) (name : String) (lane : Nat) (f : List Nat) : State :=
  (s.concOut c name (lane :: f)).emit (.concLine c lane (concWire name (lane :: f)))

/-- The lanes of a concentrator in LINK_UP (R193, R213): those of this unit, and 255 for those of the partner, whose ports are not
part of the unit (log entry 84). -/
def State.concLanes (s : State) (c : Nat) : List Nat := (s.lanesOf c).filter s.linkUp ++ (if s.paired then [255] else [])

/-- A block sent to every unit whose lane is in LINK_UP. -/
def State.concEach (s : State) (c : Nat) (name : String) (f : List Nat) : State :=
  (s.concLanes c).foldl (fun s n => s.concSend c name n f) s

/-- The ownership rules of R212 for a STEP_MARK or CYC_DN header of unit `u` with epoch `e`; `now` is the
concentrator's step. -/
def Conc.accepts (x : Conc) (e : BitVec 16) (u : Bool) (now : Nat) : Bool :=
  match x.owner with
  | none => true
  | some (eo, uo) =>
    epochNewer e eo || (decide (e = eo) && (decide (u = uo) || (!u && decide (x.firstStep = now))))

/-- The time in quarters of a ps since the boundary t_b recovered from the latest mark (R200), at clock `clk`. -/
def Conc.since (x : Conc) (clk : Nat) : Nat := (4 * Int.ofNat x.tSm0 - x.tb).toNat + (clk - x.markClk) * 10000

/-- The ac since row 0 of a concentrator's local angle at clock `clk` (R200): from t_b of the latest mark on at its RATE. -/
def Conc.pos (x : Conc) (clk : Nat) : Nat :=
  (x.row.toNat * 1024 + x.step) * 1024 + x.since clk * x.rate.toNat / 64000000000000

/-- The concentrator's own step, counted from row 0. -/
def Conc.now (x : Conc) (clk : Nat) : Nat := x.pos clk / 1024

/-- The owner after an accepted block (R212). -/
def Conc.own (x : Conc) (e : BitVec 16) (u : Bool) (now : Nat) : Conc :=
  if x.owner = some (e, u) then x
  else
    let newE := match x.owner with
      | some (eo, _) => decide (e ≠ eo)
      | none => true
    { x with owner := some (e, u), firstStep := if newE then now else x.firstStep }

/-- On a change of owner the VC3 blocks kept for the former owner are sent again to the new one (R425). -/
def State.concOwnerChange (s : State) (c : Nat) (old : Option (BitVec 16 × Bool)) : State :=
  let x := s.conc c
  match old, x.owner with
  | some (_, u0), some (_, u1) =>
    if u0 = u1 then s
    else
      let l := x.kept.filter (fun b => b.vc == 3)
      (s.updConc c (fun x => { x with kept := l })).emits
        (l.map (fun b => Out.conc c "BULK" (b.vc.val :: b2n u1 :: b.payload.map (·.toNat))))
  | _, _ => s

/-- A submodule as it leaves its power-up: blocked, contactors open. -/
def FarSm.fresh : FarSm :=
  { stamp := 0, epoch := none, rx := none, prev := none, last := none, missed := 3, st := 3, pat := 3 * 2 ^ 26,
    done := 0, src := 3, echo := 0, pblLost := true, pblOff := true, pblCnt := 0, restr := none, byp := false,
    localBlk := false, iso := true, cont := false, bal := false, reopen := false, pciOn := false, byp0 := 0, id := 0, eps := [] }

/-- Submodule `n` itself. -/
def State.farSm (s : State) (n : Nat) : FarSm := mget FarSm.fresh s.far.sms n

/-- Submodule `n` itself replaced by `f` of it. -/
def State.updFar (s : State) (n : Nat) (f : FarSm → FarSm) : State :=
  { s with far := { s.far with sms := mset FarSm.fresh s.far.sms n (f (s.farSm n)) } }

/-- The submodules a concentrator serves. -/
def State.concSms (s : State) (c : Nat) : List Nat := (upto (s.mapN c)).map (s.mapBase c + ·)

/-- The STEP_MARK stream disciplines the local angle of every submodule a concentrator serves (R27): each counts the mark's step. -/
def State.smDiscipline (s : State) (c : Nat) (m : Mark) : State :=
  (s.concSms c).foldl (fun s n => s.updFar n (fun x => { x with stamp := (m.row.toNat % 64) * 1024 + m.step })) s

/-- CONC_MARK_RX (R200, R212): ownership, and the boundary recovered from the mark. -/
def State.concMark (s : State) (c lane : Nat) (m : Mark) (t : Nat) : State :=
  let x := s.conc c
  let now := m.row.toNat * 1024 + m.step
  let s := s.updConc c (·.present m.unit)
  if x.accepts m.epoch m.unit now then
    let d := mget 0 x.lats lane
    let s := s.updConc c (fun x => { (x.own m.epoch m.unit now) with
      row := m.row, step := m.step, rate := m.rate, tSm0 := t, markClk := s.sys.clk,
      tb := 4 * Int.ofNat t - 4 * Int.ofNat d - 160000 - 125 * Int.ofNat m.txofs })
    ((s.concOwnerChange c x.owner).smDiscipline c m).concOut c "RELAY_MARK"
      [m.step, m.row.toNat % 2 ^ 22, m.epoch.toNat, m.rate.toNat]
  else s

/-- CONC_MARK_RX (R212). -/
def execConcMarkRx (c : Fin 20) (lane : Fin 20) (m : Mark) (tPs : Nat) (s : State) :
    Host.Outcome State Fault Refusal := .next (s.concMark c lane m tPs)

/-- A CYC_DN run at a concentrator (R194, R212, R214, R215): accepted on its epoch, its words relayed one by one. -/
def State.concRun (s : State) (c : Nat) (oos u : Bool) (e : BitVec 16) (step first : Nat) (ws : List (BitVec 128)) :
    State :=
  let x := s.conc c
  let now := x.now s.sys.clk
  let s := s.updConc c (·.present u)
  if ws.length = 0 ∨ first + ws.length > s.mapN c then s
  else if x.accepts e u now then
    let s := (s.updConc c (fun x => x.own e u now)).concOwnerChange c x.owner
    (s.emits (ws.mapIdx (fun j w => Out.conc c "RELAY" [first + j, step, w.toNat]))).when oos
      (fun s => s.concOut c "OOS" [ws.length])
  else s

/-- CONC_CYC_DN_RX (R214). -/
def execConcCycDnRx (c : Fin 20) (unitB : Bool) (epoch : BitVec 16) (step : Fin 1024) (first : Fin 256)
    (words : List (BitVec 128)) (s : State) : Host.Outcome State Fault Refusal :=
  .next (s.concRun c false unitB epoch step first words)

/-- CONC_OOS_RUN_RX (R215): an out-of-slot run is accepted at any ac and relayed at once. -/
def execConcOosRunRx (c : Fin 20) (unitB : Bool) (epoch : BitVec 16) (step : Fin 1024) (first : Fin 256)
    (words : List (BitVec 128)) (s : State) : Host.Outcome State Fault Refusal :=
  .next (s.concRun c true unitB epoch step first words)

/-- CONC_RESTRICT_RX (R202): relayed at once when it comes from the owner. -/
def execConcRestrictRx (c : Fin 20) (unitB set neg : Bool) (arm : Fin 8) (first last rseq : Byte) (s : State) :
    Host.Outcome State Fault Refusal :=
  .next (match (s.conc c).owner with
    | some (_, u) => if u = unitB then s.concOut c "RESTRICT" [b2n set, b2n neg, arm, first.toNat, last.toNat, rseq.toNat]
        else s
    | none => s)

/-- Runs of consecutive slots: first slot and words (R193: a slot without a word splits the run). -/
def runsOf : List (Nat × Nat) → List (Nat × List Nat)
  | [] => []
  | (j, w) :: t => match runsOf t with
    | (k, ws) :: r => if k = j + 1 then (j, w :: ws) :: r else (j, [w]) :: (k, ws) :: r
    | [] => [(j, [w])]

/-- The response words gathered are sent up every lane in LINK_UP as CYC_UP runs (R193, R194). -/
def State.concFlush (s : State) (c : Nat) : State :=
  let x := s.conc c
  (runsOf x.up).foldl (fun s r => s.concEach c "CYC_UP" (r.1 :: r.2.length :: x.upStep :: r.2))
    (s.updConc c (fun x => { x with up := [] }))

/-- A response word reaches its concentrator (R193): the region is sent once every slot has its word; words of another step go
first. -/
def State.concWord (s : State) (c slot step w : Nat) : State :=
  let s := s.when (decide ((s.conc c).upStep ≠ step)) (fun s => s.concFlush c)
  let s := s.updConc c (fun x => { x with upStep := step, up := mset 0 x.up slot w })
  if (s.conc c).up.length ≥ s.mapN c then s.concFlush c else s

/-- The window that ends at a concentrator (R213): window and step on its local angle while it holds an owner, else counted. -/
def Conc.window (x : Conc) (clk : Nat) : Nat × Nat :=
  if x.owner.isSome then
    let k := (x.pos clk + 64) / 128 - 1
    (k % 8, k / 8 % 1024)
  else (x.win, 0)

/-- CONC_WITNESS_WINDOW (R193, R213): a WITNESS to each unit whose lane is in LINK_UP; response words still held go up. -/
def State.concWitness (s : State) (c : Nat) (leftA leftB : Bool) : State :=
  let x := s.conc c
  let pa := b2n (x.presA && !leftA)
  let pb := b2n (x.presB && !leftB)
  let k := x.window s.sys.clk
  let f := match x.owner with
    | some (e, u) => [pa, pb, b2n u, 1, e.toNat, k.1, k.2]
    | none => [pa, pb, 0, 0, 0, k.1, 0]
  ((s.updConc c (fun x => { x with presA := false, presB := false, win := (x.win + 1) % 8 })).concEach c "WITNESS" f).concFlush c

/-- CONC_WITNESS_WINDOW (R213). -/
def execConcWitnessWindow (c : Fin 20) (leftA leftB : Bool) (s : State) : Host.Outcome State Fault Refusal :=
  .next (s.concWitness c leftA leftB)

/-- CONC_ECHO_REPLY (R197): ECHO_RSP with the TAG and the turnaround. -/
def execConcEchoReply (c : Fin 20) (lane : Fin 20) (tag : BitVec 16) (turn : BitVec 24) (s : State) :
    Host.Outcome State Fault Refusal :=
  .next (s.concSend c "ECHO_RSP" lane [tag.toNat, turn.toNat])

/-- CONC_DECLARE (R199): CONC_ID is the concentrator's own, as the integrator set it (log entry 84). -/
def execConcDeclare (c : Fin 20) (lane : Fin 20) (dDn dUp : BitVec 12) (cport : BitVec 4) (alt : Bool) (s : State) :
    Host.Outcome State Fault Refusal :=
  .next (s.concSend c "DECLARE" lane [dDn.toNat, dUp.toNat, (Config.concId c).toNat, cport.toNat, b2n alt])

/-- A concentrator's LIMIT for a VC (R204): USED and its buffer, whose blocks it delivers onward at once. -/
def Conc.limitOf (x : Conc) (c : Nat) (unitB : Bool) (v : Nat) : Nat :=
  (((x.rx.getD (b2n unitB) ⟨0, [], false⟩).used.getD v 0).toNat + 1 + Config.concBuf c v % 255) % 65536

/-- The AUDITs of a concentrator to one unit, on its route for the association (R208, R210). -/
def State.concAudits (s : State) (c : Nat) (unitB : Bool) (lane : Nat) : State :=
  let x := s.conc c
  let r := x.rx.getD (b2n unitB) ⟨0, [], false⟩
  (upto 3).foldl (fun s v => s.concSend c "AUDIT" lane
    [v + 1, x.limitOf c unitB v, (r.used.getD v 0).toNat, r.expect.toNat, b2n r.done]) s

/-- CONC_AUDIT_RX (R208, R210): that lane becomes the concentrator's route for the association, it has processed the unit's
AUDITs, and its own go there. -/
def execConcAuditRx (c : Fin 20) (unitB : Bool) (lane : Fin 20) (s : State) : Host.Outcome State Fault Refusal :=
  .next ((s.updConc c (fun x =>
    let x := { x with rx := upd x.rx (b2n unitB) (fun r => { r with done := true }) }
    if unitB then { x with routeB := some lane.val } else { x with routeA := some lane.val })).concAudits c unitB lane)

/-- CONC_LAT_RX (R200): its d is taken as the latest delay. -/
def execConcLatRx (c : Fin 20) (lane : Fin 20) (d : BitVec 18) (_tag : BitVec 16) (s : State) :
    Host.Outcome State Fault Refusal :=
  .next (s.updConc c (fun x => { x with lats := mset 0 x.lats lane d.toNat }))

/-! ### Submodules -/

/-- What submodule `n` puts out. -/
def State.farOut (s : State) (name : String) (f : List Nat) : State := s.emit (.far name f)

/-- Fields of a pattern (R154): S0, NE, E1, S1, E2, S2. -/
def patField (p lo n : Nat) : Nat := (p >>> lo) % 2 ^ n
/-- S0 of a pattern. -/
def patS0 (p : Nat) : Nat := patField p 26 2
/-- NE of a pattern. -/
def patNE (p : Nat) : Nat := patField p 24 2
/-- E1 of a pattern. -/
def patE1 (p : Nat) : Nat := patField p 14 10
/-- S1 of a pattern. -/
def patS1 (p : Nat) : Nat := patField p 12 2
/-- E2 of a pattern. -/
def patE2 (p : Nat) : Nat := patField p 2 10
/-- S2 of a pattern. -/
def patS2 (p : Nat) : Nat := patField p 0 2

/-- A well-formed pattern (R154); INS_NEG only for a full-bridge submodule. -/
def patOk (fb : Bool) (p : Nat) : Bool :=
  let neg := patS0 p == 2 || (decide (patNE p ≥ 1) && patS1 p == 2) || (decide (patNE p ≥ 2) && patS2 p == 2)
  (fb || !neg) &&
  match patNE p with
  | 0 => patE1 p == 0 && patS1 p == 0 && patE2 p == 0 && patS2 p == 0
  | 1 => decide (1 ≤ patE1 p) && patE2 p == 0 && patS2 p == 0
  | 2 => decide (1 ≤ patE1 p) && decide (patE1 p < patE2 p)
  | _ => false

/-- The state a pattern ends in. -/
def patEnd (p : Nat) : Nat := match patNE p with
  | 0 => patS0 p
  | 1 => patS1 p
  | _ => patS2 p

/-- The edges of a pattern: position and state. -/
def patEdges (p : Nat) : List (Nat × Nat) := match patNE p with
  | 0 => []
  | 1 => [(patE1 p, patS1 p)]
  | _ => [(patE1 p, patS1 p), (patE2 p, patS2 p)]

/-- The state a pattern gives at an ac. -/
def patAt (p ac : Nat) : Nat := (patEdges p).foldl (fun st e => if e.1 ≤ ac then e.2 else st) (patS0 p)

/-- The order of the states by their contribution (R138); BLOCK's rank under a restriction (R159). -/
def stRank (fb : Bool) (neg : Bool) : Nat → Nat
  | 2 => 0
  | 0 => 1
  | 1 => 2
  | _ => if neg then (if fb then 0 else 1) else 2

/-- An edge carried out under a restriction, or refused (R159). -/
def edgeTo (fb : Bool) (restr : Option Bool) (cur target : Nat) : Nat :=
  match restr with
  | none => target
  | some neg =>
    if target = 3 then 3
    else
      let a := stRank fb neg cur
      let b := stRank fb neg target
      let ok := if cur = 3 then (if neg then decide (b ≤ a) else decide (b ≥ a))
        else if neg then decide (b < a) else decide (b > a)
      if ok then target else cur

/-- The submodule is blocked whatever its pattern says (R159): loop, bypass, own protection. -/
def FarSm.blocked (x : FarSm) : Bool := x.pblLost || x.byp || x.localBlk

/-- The edges of the pattern up to local ac `to_` passed (R158, R159). -/
def FarSm.run (x : FarSm) (fb : Bool) (to_ : Nat) : FarSm :=
  let st := (patEdges x.pat).foldl (fun st e =>
    if x.done < e.1 ∧ e.1 ≤ to_ then edgeTo fb x.restr st e.2 else st) x.st
  { x with st := if x.blocked then 3 else st, done := to_ }

/-- ARMa_SMCFG.FB of the submodule's arm. -/
def State.fullBridge (s : State) (n : Nat) : Bool :=
  match s.armOf n with
  | some a => s.flag (Reg.ARMa_SMCFG a) 0
  | none => false

/-- The fields of a command word (R153). -/
def parseCmd (w : BitVec 128) : SmWord :=
  let f (lo n : Nat) : Nat := (w.toNat >>> lo) % 2 ^ n
  { stamp := f 108 16, epoch := BitVec.ofNat 16 (f 92 16), pat1 := f 64 28, pat2 := f 36 28, bal := w.getLsbD 35,
    byp := w.getLsbD 34, iso := w.getLsbD 33, pci := w.getLsbD 32 }

/-- A command word is valid for submodule `n` in its present local step (R157). -/
def State.cmdValid (s : State) (n : Nat) (w : BitVec 128) : Bool :=
  let x := s.farSm n
  let c := parseCmd w
  let fb := s.fullBridge n
  decide (w.toNat / 2 ^ 124 = 1) && decide (w.toNat % 2 ^ 16 = crc16 112 (w.toNat / 2 ^ 16))
    && decide ((w.toNat >>> 16) % 2 ^ 12 = n) && decide (c.stamp = x.stamp) && patOk fb c.pat1 && patOk fb c.pat2
    && (match x.epoch with
        | some e => decide (c.epoch = e) || epochNewer c.epoch e
        | none => true)

/-- SM_CMD_RX (R157): kept for the next local boundary; of two the higher epoch, else the first. -/
def State.smCmd (s : State) (n : Nat) (w : BitVec 128) : State :=
  if s.cmdValid n w then
    let c := parseCmd w
    s.updFar n (fun x => match x.rx with
      | some o => if epochNewer c.epoch o.epoch then { x with rx := some c } else x
      | none => { x with rx := some c })
  else s

/-- SM_CMD_RX (R157). -/
def execSmCmdRx (n : Fin 4096) (w : BitVec 128) (s : State) : Host.Outcome State Fault Refusal := .next (s.smCmd n w)

/-- The pattern, its SRC and ECHO at a local ac 0 (R28, R158), before loop, bypass and protection. -/
def FarSm.select (x : FarSm) : FarSm :=
  match x.rx with
  | some w => { x with pat := w.pat1, src := 0, echo := w.stamp, prev := some w, last := some w, missed := 0,
                       epoch := some w.epoch }
  | none =>
    let k := x.missed + 1
    let le := match x.last with | some l => l.stamp | none => x.echo
    match k, x.prev with
    | 1, some p => { x with pat := p.pat2, src := 1, echo := p.stamp, missed := 1 }
    | 2, _ => { x with pat := x.st * 2 ^ 26, src := 2, echo := le, missed := 2 }
    | _, _ => { x with pat := 3 * 2 ^ 26, src := 3, echo := le, missed := min k 3 }

/-- The recovery after a lost loop (R159): blocked at the first valid command, its pattern at the second. -/
def FarSm.recover (x : FarSm) : FarSm :=
  if !x.pblLost then x
  else if x.pblOff then { x with pblCnt := 0, pat := 3 * 2 ^ 26 }
  else if x.rx.isSome then
    if x.pblCnt ≥ 1 then { x with pblLost := false, pblCnt := 0 } else { x with pblCnt := 1, pat := 3 * 2 ^ 26 }
  else { x with pblCnt := 0, pat := 3 * 2 ^ 26 }

/-- The flags of the command in force (R160, R233): bypass, contactors, which close once the capacitor lies within the closing
window, balancing, reopening. -/
def FarSm.flags (x : FarSm) (m : SmSample) : FarSm :=
  match x.last with
  | none => x
  | some w =>
    let b0 := if x.rx.isSome then (if w.byp then 0 else min 8 (x.byp0 + 1)) else x.byp0
    let opens := x.reopen && decide (b0 ≥ 8)
    { x with
      byp0 := b0
      byp := if w.byp then true else if opens then false else x.byp
      reopen := x.reopen && !opens
      iso := w.iso
      cont := if w.iso then false else x.cont || m.window
      bal := w.bal }

/-- A response word of R156. -/
def encodeRsp (n vcap status soe tmax vspread echo : Nat) : Nat :=
  let v := vcap * 2 ^ 64 + status * 2 ^ 48 + soe * 2 ^ 32 + tmax * 2 ^ 24 + vspread * 2 ^ 16 + echo
  v * 2 ^ 16 + crc16 96 (n * 2 ^ 80 + v)

/-- SM_OK (R156): able to insert for ISO = 0; within the closing window and without a fault for ISO = 1. -/
def FarSm.smOk (x : FarSm) (m : SmSample) : Bool :=
  if x.iso then m.window && decide (m.faults = 0) && !x.localBlk else m.ok

/-- The sample with CAP_OV set where the capacitor reached the over-voltage level during an insertion (R160). -/
def FarSm.capOv (x : FarSm) (m : SmSample) : SmSample :=
  if x.pciOn && m.ovAc.isSome then { m with faults := m.faults ||| 0b100000 } else m

/-- The rest of a step: its edges; a precharge insertion that reaches the over-voltage level goes to BYPASS at once (R160). -/
def FarSm.finish (x : FarSm) (fb : Bool) (m : SmSample) : FarSm :=
  match (if x.pciOn then m.ovAc else none) with
  | some a =>
    let y := x.run fb a
    ({ y with st := if y.blocked then 3 else 0, pat := 0 } : FarSm).run fb 1023
  | none => x.run fb 1023

/-- STATUS (R156). -/
def FarSm.status (x : FarSm) (m : SmSample) : Nat :=
  x.src * 2 ^ 14 + b2n x.pblLost * 2 ^ 13 + b2n x.byp * 2 ^ 12 + b2n x.cont * 2 ^ 11 + b2n x.restr.isSome * 2 ^ 10
    + b2n (x.smOk m) * 2 ^ 9 + b2n (m.balAct && x.bal) * 2 ^ 8 + m.faults.toNat * 4 + b2n x.localBlk * 2

/-- SM_LOCAL_AC0 (R158 to R160): the last edges of the step, the next pattern, the flags, the response, which its concentrator
gathers (R193). -/
def State.smAc0 (s : State) (n : Nat) (m0 : SmSample) : State :=
  let fb := s.fullBridge n
  let m := (s.farSm n).capOv m0
  let x := (s.farSm n).finish fb m0
  let pci := match x.rx, x.last with
    | some w, _ => w.pci
    | none, some w => w.pci && decide (x.missed < 2)
    | none, none => false
  let ov := pci && m.faults.getLsbD 5
  let y := (x.select.recover).flags m
  let st := if y.blocked then 3 else if ov then 0 else edgeTo fb y.restr x.st (patS0 y.pat)
  let y := { y with st := st, done := 0, rx := none, stamp := (y.stamp + 1) % 65536, pciOn := pci && !ov,
                    pat := if ov then 0 else y.pat }
  let w := encodeRsp n m.vcap.toNat (y.status m) m.soe.toNat m.tmax.toNat m.vspread.toNat y.echo
  let s := (s.updFar n (fun _ => y)).farOut "RSP" [n, w]
  match s.slotOf n with
  | some (p, j) => s.concWord p j (y.stamp % 1024) w
  | none => s

/-- SM_LOCAL_AC0 (R158). -/
def execSmLocalAc0 (n : Fin 4096) (x : SmSample) (s : State) : Host.Outcome State Fault Refusal := .next (s.smAc0 n x)

/-- The loop as the concentrator that serves a submodule sees it (R373). -/
def State.loopAt (s : State) (n : Nat) : Bool :=
  match s.slotOf n with
  | some (p, _) => (s.conc p).loop && (s.conc p).owner.isSome
  | none => false

/-- SM_PBL_LOST (R159): blocked, and stays so while the loop stays de-energised. -/
def execSmPblLost (n : Fin 4096) (s : State) : Host.Outcome State Fault Refusal :=
  .next (if s.loopAt n then s
    else s.updFar n (fun x => { x with pblLost := true, pblOff := true, pblCnt := 0, st := 3 }))

/-- SM_RESTRICT (R159): a restriction starts or ends at local `ac`; at its end the submodule takes the state its
pattern gives. -/
def State.smRestrictAct (s : State) (n : Nat) (set neg : Bool) (ac : Nat) : State :=
  s.updFar n (fun x =>
    let x := x.run (s.fullBridge n) ac
    if set then { x with restr := some neg }
    else { x with restr := none, st := if x.blocked then 3 else patAt x.pat ac })

/-- SM_RESTRICT (R159). -/
def execSmRestrict (n : Fin 4096) (set neg : Bool) (ac : Fin 1024) (s : State) : Host.Outcome State Fault Refusal :=
  .next (s.smRestrictAct n set neg ac)

/-- SM_OWN_PROTECTION (R159): it blocks, or closes its bypass switch; both are reported. -/
def execSmOwnProtection (n : Fin 4096) (bypass : Bool) (s : State) : Host.Outcome State Fault Refusal :=
  .next (s.updFar n (fun x => if bypass then { x with byp := true, st := 3 } else { x with localBlk := true, st := 3 }))

/-- CONC_LOOP_LOST (R373): the concentrator signals its submodules. -/
def execConcLoopLost (c : Fin 20) (s : State) : Host.Outcome State Fault Refusal :=
  .next ((s.updConc c (fun x => { x with loop := false })).concOut c "LOOP_LOST" [])

/-- CONC_LOOP_RESTORED (R159): its submodules may start counting valid commands. -/
def execConcLoopRestored (c : Fin 20) (s : State) : Host.Outcome State Fault Refusal :=
  .next (if (s.conc c).owner.isSome then
      let s1 := (s.updConc c (fun x => { x with loop := true })).concOut c "LOOP_RESTORED" []
      (s.concSms c).foldl (fun s n => s.updFar n (fun x => { x with pblOff := false })) s1
    else s)

/-- An item as a submodule reports it: identity, type, counters (R227). -/
def LdgItem.fields (i : LdgItem) : List Nat :=
  [i.id.toNat, i.typ.toNat, i.state.toNat, i.limset.toNat, i.last.toNat, i.nsw.toNat, i.nth.toNat, i.qah.toNat, i.hrs.toNat,
   i.lastLo.toNat, i.lastHi.toNat, i.faults.toNat]

/-- A submodule's own counter after RECONCILE: the larger value, STATE and LIMSET adopted (R225). -/
def LdgItem.reconcile (o r : LdgItem) : LdgItem :=
  { o with nsw := if o.nsw.toNat < r.nsw.toNat then r.nsw else o.nsw,
           nth := if o.nth.toNat < r.nth.toNat then r.nth else o.nth,
           qah := if o.qah.toNat < r.qah.toNat then r.qah else o.qah,
           hrs := if o.hrs.toNat < r.hrs.toNat then r.hrs else o.hrs, state := r.state, limset := r.limset }

/-- An endpoint of which nothing has been counted. -/
def LdgItem.zero : LdgItem := ⟨0, 0, 0, 0, 0, 0, 0, 0, 0, 0, 0, 0⟩

/-- The channel on which a request travels (R203). -/
def reqVc : SmRequest → Nat
  | .sweepRd _ _ _ | .reconcile _ _ _ | .identReq | .reopen _ => 1
  | .capReq _ _ _ _ _ => 2
  | .mgmt _ _ _ => 3

/-- A request that has reached a submodule was a bulk block its concentrator accepted in order from its owner (R204, R205). -/
def State.concAccept (s : State) (c v : Nat) : State :=
  match (s.conc c).owner with
  | some (_, u) => s.updConc c (fun x => { x with rx := upd x.rx (b2n u) (fun r => { r with
      expect := r.expect + 1, used := r.used.set v (r.used.getD v 0 + 1) }) })
  | none => s

/-- A submodule's answer goes up as a bulk block, to the owner alone and on the route its AUDITs named (R193, R210); a VC3 block is
kept until the owner acknowledges it (R425). -/
def State.concUp (s : State) (c slot vc : Nat) (body : List Byte) : State :=
  let x := s.conc c
  match x.owner with
  | some (_, u) =>
    let s := s.when (decide (vc = 3)) (fun s => s.updConc c (fun x => { x with
      kept := x.kept ++ [{ vc := 3, seq := 0, conc := false, slot := BitVec.ofNat 8 slot, payload := body, mir := none }] }))
    match (if u then x.routeB else x.routeA) with
    | some lane => s.concOut c "BULK_UP" [lane, b2n u, vc, slot]
    | none => s
  | none => s

/-- What a submodule does with a request (R225, R228, R233, R304, R411): it answers or acts. -/
def State.smAnswer (s : State) (n : Nat) (r : SmRequest) : State :=
  match r with
  | .sweepRd first k tag =>
    let l := (upto k.val).map (fun i => mget LdgItem.zero (s.farSm n).eps (first.toNat + i))
    s.farOut "REPORT" ([n, first.toNat, k.val, tag.toNat] ++ l.flatMap LdgItem.fields)
  | .reconcile first items _ =>
    let l := items.mapIdx (fun i r => (first.toNat + i, r))
    let put (m : List (Nat × LdgItem)) (p : Nat × LdgItem) : List (Nat × LdgItem) :=
      mset LdgItem.zero m p.1 (LdgItem.reconcile (mget LdgItem.zero m p.1) p.2)
    s.updFar n (fun x => { x with eps := l.foldl put x.eps })
  | .identReq => s.farOut "IDENT" [n, (s.farSm n).id.toNat]
  | .reopen id => if id = (s.farSm n).id then s.updFar n (fun x => { x with reopen := true, byp0 := 0 }) else s
  | .capReq mask pre post tag _ =>
    (s.farOut "CAP_DATA" [n, mask.toNat, pre.toNat + post.toNat, tag.toNat]).farOut "CAP_END"
      [n, 0, pre.toNat + post.toNat, tag.toNat]
  | .mgmt code tag body => s.farOut "MGMT_ANSWER" ([n, tag.toNat, code.toNat] ++ body.map (·.toNat))

/-- A request that a submodule answers, with the body its concentrator keeps (R425). -/
def reqAnswered : SmRequest → Option (List Byte)
  | .sweepRd _ _ _ | .identReq | .capReq _ _ _ _ _ => some []
  | .mgmt _ _ body => some body
  | .reconcile _ _ _ | .reopen _ => none

/-- SM_BULK_REQUEST_RX: the request taken from its concentrator, the submodule's answer, and the answer's way up. -/
def State.smRequest (s : State) (n : Nat) (r : SmRequest) : State :=
  match s.slotOf n with
  | none => s.smAnswer n r
  | some (p, j) =>
    let s := (s.concAccept p (reqVc r - 1)).smAnswer n r
    match reqAnswered r with
    | some body => s.concUp p j (reqVc r) body
    | none => s

/-- SM_BULK_REQUEST_RX (R225). -/
def execSmBulkRequestRx (n : Fin 4096) (r : SmRequest) (s : State) : Host.Outcome State Fault Refusal :=
  .next (s.smRequest n r)

end Sys2Proof.Machine
end

