-- ==== Sys2Proof/Machine/Arm.lean ====
section
/-! DEFINITION. The arm manager (chapter 06): responses, usability, prediction, ranking and patterns, command words,
spares and retirement; the main compares of direct mode (R254); the comparators (R117 to R119). Voltages and
per-unit quantities at 2^-40. -/
namespace Sys2Proof.Machine

/-- The arms in use (R135): 6 of an MMC, 3 clusters of a cascaded H-bridge, with a nonempty range. -/
def State.arms (s : State) : List Nat :=
  (upto (if s.topo = 0 then 6 else 3)).filter (fun a => decide (s.armN a + s.armK a > 0))

/-! ### Responses -/

/-- A response word's fields (R156). -/
def parseRsp (w : BitVec 96) : Resp :=
  let f (lo n : Nat) : Nat := (w.toNat >>> lo) % 2 ^ n
  { vcap := f 80 16, status := BitVec.ofNat 16 (f 64 16), soe := f 48 16, tmax := f 40 8, vspread := f 32 8,
    echo := f 16 16 }

/-- The CRC of a response word holds for submodule `n` (R156). -/
def rspCrcOk (n : Nat) (w : BitVec 96) : Bool :=
  decide (w.toNat % 2 ^ 16 = crc16 96 (n * 2 ^ 80 + w.toNat / 2 ^ 16))

/-- ARM_STAT.NOSPARE as the sets stand (R161): the sets are formed, and an arm in use has no SPARE. -/
def State.noSpareShow (s : State) : State :=
  { s with arm := { s.arm with noSpare := (upto 6).map (fun a =>
      s.arm.setsFormed && s.arms.contains a && !(s.armSms a).any (fun n => (s.sm n).set == 2)) } }

/-- A reopened number whose response shows the bypass switch open closes (R233). -/
def State.replClose (s : State) (n : Nat) (r : Resp) : State :=
  let m := s.sm n
  if m.repl = 2 && !r.status.getLsbD 12 then
    let s := s.updSm n (fun m => { m with repl := 0, set := if m.set = 3 then 2 else m.set, fail := 0 })
    s.noSpareShow
  else s

/-- One response word on a lane (R141, R142): the first complete one of the step counts, and only up to ac 256. -/
def State.respWord (s : State) (lane slot step : Nat) (w : BitVec 96) : State :=
  match s.primaryOf lane with
  | none => s
  | some p =>
    if slot ≥ s.mapN p ∨ step ≠ s.step10 ∨ s.pipe.respTaken then s
    else
      let n := s.mapBase p + slot
      if (s.sm n).rx then s
      else if rspCrcOk n w then
        let r := parseRsp w
        ((s.updSm n (fun m => { m with rx := true, got := some r })).updLane p
          (fun l => { l with alive := true })).replClose n r
      else s.updSm n (fun m => { m with rx := true })

/-- RESPONSE_WORD_RX (R141). -/
def execResponseWordRx (lane : Fin 20) (slot : Fin 256) (step : Fin 1024) (w : BitVec 96) (s : State) :
    Host.Outcome State Fault Refusal :=
  s.live (let t := s.linkBlock lane
    if t.ac ≤ 256 then t.respWord lane slot step w else t)

/-- CYC_UP_RX (R189, R194): a header with COUNT 0 or beyond NSLOT is discarded and its data blocks are orphans; else each
word of the run is a response, an earlier run ends, blocks beyond the run are orphans, and blocks still to come leave it open. -/
def State.cycUp (s : State) (lane first count step : Nat) (ws : List (BitVec 96)) : State :=
  match s.primaryOf lane with
  | none => s
  | some p =>
    if count = 0 ∨ first + count > s.mapN p then
      (s.bump (Reg.LNK_CTL_ERR lane)).bumpBy (Reg.LNK_ORPHAN lane) ((3 * ws.length + 1) / 2)
    else
      let all := (3 * count + 1) / 2
      let came := (3 * ws.length + 1) / 2
      let s := (s.updLane lane (fun l => { l with runLeft := all - came })).bumpBy (Reg.LNK_ORPHAN lane) (came - all)
      if s.ac ≤ 256 then
        ((ws.take count).mapIdx (fun j w => (j, w))).foldl (fun s jw => s.respWord lane (first + jw.1) step jw.2) s
      else s

/-- CYC_UP_RX (R194). -/
def execCycUpRx (lane : Fin 20) (first : Fin 256) (count : Fin 512) (step : Fin 1024) (words : List (BitVec 96))
    (s : State) : Host.Outcome State Fault Refusal := s.live ((s.linkBlock lane).cycUp lane first count step words)

/-- 1/16 V as a voltage at 2^-40 V. -/
def volt16 (x : Nat) : Int := Int.ofNat x * 2 ^ 36

/-- STATUS shows a submodule able to be inserted (R140). -/
def statusUsable (st : BitVec 16) : Bool :=
  st.getLsbD 9 && st.getLsbD 11 && !st.getLsbD 12 && decide ((st >>> 1).toNat % 128 = 0)

/-- A submodule whose identity is accepted and whose number is closed (R230, R233). -/
def Sm.inService (m : Sm) : Bool := decide (m.acc = 1) && decide (m.repl = 0)

/-- The latest word built for a submodule commanded ISO = 1 (R143); the flag it stands at where no word is held. -/
def Sm.isoSent (m : Sm) : Bool := match m.words with | w :: _ => w.iso | [] => m.iso

/-- The response deadline for one submodule (R140, R142, R143). -/
def State.respDeadlineOne (s : State) (n : Nat) : State :=
  let m := s.sm n
  let known := match m.got with
    | some r => m.words.any (fun w => w.stamp == r.echo)
    | none => false
  let lim := s.fld Reg.ARM_RESP_LOSS 0 4
  let lost := m.miss + 1
  let m1 : Sm := match known, m.got with
    | true, some r => { m with resp := some r, v := volt16 r.vcap, miss := 0 }
    | _, _ => { m with v := m.vh, miss := lost }
  let missing := !(known && m.got.isSome)
  let us := decide (m1.set = 1) && m1.inService && decide (m1.miss ≤ lim) &&
    (match m1.resp with | some r => statusUsable r.status | none => false)
  let alive := match s.slotOf n with | some (p, _) => (s.lane p).alive | none => false
  let fail := if m1.set ≠ 1 || us then 0 else if !alive || m.isoSent || decide (m.repl ≠ 0) then m.fail else m.fail + 1
  let shown := s.pair.proofSteps.isSome && known && (match m.got with | some r => decide (bits (word r.status.toNat) 14 2 = 0) | none => false)
  let m2 := { m1 with usable := us, fail := fail, proofOk := m1.proofOk || shown,
                      retire := if fail ≥ s.fld Reg.ARM_FAIL_STEPS 0 16 ∧ m1.set = 1 then
                                  (if m1.retire = 0 then 1 else m1.retire) else m1.retire }
  let s0 := s.updSm n (fun _ => m2)
  let s1 := if missing && decide (m.repl = 0) then s0.bump Reg.ARM_RESP_MISS else s0
  if missing && m.usable && decide (m1.miss = lim + 1) then s1.setFlag Reg.ARM_FLAGS 3 n else s1

/-- The submodules whose response word was not complete by ac 256, over the slots of all primary lanes (R35); a number in
replacement sends none (R233). -/
def State.respLate (s : State) : Nat :=
  (s.primaries.map (fun p => ((upto (s.mapN p)).filter (fun j =>
    !(s.sm (s.mapBase p + j)).rx && decide ((s.sm (s.mapBase p + j)).repl = 0))).length)).foldl (· + ·) 0

/-- RESPONSE_DEADLINE (R25): at ac 256 the words that are complete are taken. -/
def State.respDeadline (s : State) : State :=
  if s.pipe.respTaken || !s.running then s
  else
    let s := s.toAc 256
    let s := { s with pipe := { s.pipe with respTaken := true } }
    if s.laneMode then
      let t := (s.arms.flatMap s.armSms).foldl (fun s n => s.respDeadlineOne n) (s.bumpBy Reg.PIPE_RESP_LATE s.respLate)
      { t with arm := { t.arm with sms := t.arm.sms.map (fun p => (p.1, { p.2 with rx := false, got := none })) } }
    else s

/-- RESPONSE_DEADLINE (R25). -/
def execResponseDeadline (s : State) : Host.Outcome State Fault Refusal := s.live s.respDeadline

/-! ### Prediction -/

/-- √(2/3) at 2^-64. -/
def sqrt23 : Int := 15061702949063606927

/-- The peak phase voltage base in V at 2^-40 (R61). -/
def State.vpk (s : State) : Int := rnd (Int.ofNat (s.fld Reg.GFE_VBASE 0 20) * sqrt23) (2 ^ 24)

/-- A per-unit current in A at 2^-40 (R61). -/
def State.amps (s : State) (i : Int) : Int :=
  rndQ (i * sqrt23 * Int.ofNat (s.fld Reg.GFE_SBASE 0 21) * 1000) (Int.ofNat (s.fld Reg.GFE_VBASE 0 20) * 2 ^ 64)

/-- The current of arm `a` in A (R141). -/
def State.iArm (s : State) (a : Nat) : Int :=
  let sg (n : Nat) : Int := s.sigI n * 2 ^ 16
  let i :=
    if s.flag Reg.GFE_MAP 24 then sg (47 + a)
    else if s.topo = 0 then (if a % 2 = 0 then rnd (sg (3 + a / 2)) 2 else rnd (-(sg (3 + a / 2))) 2)
    else if s.topo = 1 then sg (3 + a)
    else rnd (sg (3 + (a + 1) % 3) - sg (3 + a)) 3
  s.amps i

/-- The ac a pattern spends inserted, negative for INS_NEG (R141). -/
def patTime (p : Nat) : Int :=
  let sgn (st : Nat) : Int := if st = 1 then 1 else if st = 2 then -1 else 0
  match patNE p with
  | 0 => 1024 * sgn (patS0 p)
  | 1 => Int.ofNat (patE1 p) * sgn (patS0 p) + (1024 - Int.ofNat (patE1 p)) * sgn (patS1 p)
  | _ => Int.ofNat (patE1 p) * sgn (patS0 p) + (Int.ofNat (patE2 p) - Int.ofNat (patE1 p)) * sgn (patS1 p)
      + (1024 - Int.ofNat (patE2 p)) * sgn (patS2 p)

/-- The pattern that a submodule applies in the step, from its response (R141); from its own last word where the
response is missing. -/
def Sm.applied (m : Sm) : Nat :=
  match m.resp, m.miss with
  | some r, 0 =>
    match m.words.find? (fun w => w.stamp == r.echo) with
    | none => 3 * 2 ^ 26
    | some w =>
      match r.status.toNat / 2 ^ 14 with
      | 0 => w.pat1
      | 1 => w.pat2
      | 2 => patEnd w.pat2 * 2 ^ 26
      | _ => 3 * 2 ^ 26
  | _, _ => match m.words with
    | w :: _ => w.pat1
    | [] => 3 * 2 ^ 26

/-- The change of a capacitor voltage over `tau` ac at current `i` A and `c` µF. -/
def dVolt (i tau : Int) (rate c : Nat) : Int := rndQ (i * tau * 16000000) (Int.ofNat (rate * c))

/-- A submodule is inserted (R145). -/
def inserted (st : Nat) : Bool := st == 1 || st == 2

/-- v̂ of one submodule and its incumbency (R141, R145). -/
def State.predict (s : State) (a n : Nat) (i : Int) : State :=
  let c := s.regN (Reg.ARMa_C a)
  s.updSm n (fun m =>
    let p := m.applied
    { m with vh := if m.resp.isSome then m.v + dVolt i (patTime p) s.ang.rate.toNat c else m.vh,
             inc := inserted (patEnd p) })

/-! ### Ranking and patterns -/

/-- A candidate of the ranking. -/
structure Cand where
  n : Nat
  v : Int
  w : Int
  lam : Nat
  inc : Bool
  p : Int
  deriving DecidableEq, Repr

/-- The mean of a list; 0 of none. -/
def meanOf (l : List Int) : Int := if l = [] then 0 else rnd (l.foldl (· + ·) 0) l.length

/-- The candidates with their preferences, best first (R145). -/
def State.rank (s : State) (l : List Cand) (charging : Bool) : List Cand :=
  let wm := meanOf (l.map (·.w))
  let lm := meanOf (l.map (fun c => Int.ofNat c.lam * 2 ^ 24))
  let kw := Int.ofNat (s.fld Reg.ARM_KW 0 16) * 2 ^ 24
  let h := Int.ofNat (s.fld Reg.ARM_HSW 0 16) * 2 ^ 24
  let ks := Int.ofNat (s.fld Reg.ARM_KSW 0 16) * 2 ^ 32
  let pref (c : Cand) : Int :=
    let lam := Int.ofNat c.lam * 2 ^ 24
    (if charging then wm - c.w else c.w - wm) - qmul kw (lam - lm)
      + (if c.inc then qmul h (one + qmul ks lam) else 0)
  sortBy (fun x y => decide (x.p ≥ y.p)) (l.map (fun c => { c with p := pref c }))

/-- How many candidates are fully inserted for `r`, and the sum of their voltages (R146). -/
def fillGo (r : Int) : List Cand → Nat → Int → Nat × Int
  | [], n, sum => (n, sum)
  | c :: t, n, sum => if sum + c.v ≤ r then fillGo r t (n + 1) (sum + c.v) else (n, sum)

/-- The candidate with the least wear of the pool, ties to the higher rank (R146). -/
def leastWear : List Cand → Option Cand
  | [] => none
  | c :: t => match leastWear t with
    | none => some c
    | some d => if c.lam ≤ d.lam then some c else some d

/-- One pattern of an arm (R146): states at full insertion, PWM submodule, half-width, carry, clamp. -/
structure ArmPat where
  pol : Nat
  full : List Nat
  n0 : Nat
  pwm : Option Nat
  h : Nat
  carry : Int
  clamp : Bool
  spare : Option Nat
  deriving DecidableEq, Repr

/-- R146 and R150 for one arm and one pattern: `ranked` by preference, `vref` in V at 2^-40, the carry taken in,
and the spare in precharge insertion with its voltage. -/
def State.buildPat (s : State) (ranked : List Cand) (pol : Nat) (lowClamp : Bool) (vref carry : Int)
    (spare : Option (Nat × Int)) : ArmPat :=
  let r := vref + carry
  let f := fillGo r ranked 0 0
  let n0 := f.1
  let full := ranked.take n0
  let sp := if n0 = 0 then none else spare
  let disp := full.getLast?
  let sum := match sp, disp with
    | some (_, vs), some d => f.2 - d.v + vs
    | _, _ => f.2
  let fullN := match sp, disp with
    | some (m, _), some d => (full.map (·.n)).filter (· != d.n) ++ [m]
    | _, _ => full.map (·.n)
  let res := r - sum
  let pool := (ranked.drop n0).take (s.fld Reg.ARM_PWM_POOL 0 5)
  let clampTop := decide (n0 = ranked.length) && decide (res > 0)
  match leastWear pool with
  | some c =>
    let h0 := (min 511 (roundQ (res * 512) c.v)).toNat
    let h := if 2 * h0 < s.fld Reg.ARM_MINPULSE 0 8 then 0 else h0
    { pol := pol, full := fullN, n0 := n0, pwm := some c.n, h := h,
      carry := res - rnd (Int.ofNat (2 * h) * c.v) 1024, clamp := lowClamp || clampTop, spare := sp.map (·.1) }
  | none =>
    { pol := pol, full := fullN, n0 := n0, pwm := none, h := 0, carry := 0, clamp := lowClamp || clampTop,
      spare := sp.map (·.1) }

/-- The 28-bit code of a submodule's pattern (R146, R154). -/
def ArmPat.code (x : ArmPat) (n : Nat) : Nat :=
  if x.full.contains n then x.pol * 2 ^ 26
  else if x.pwm = some n ∧ x.h > 0 then
    2 * 2 ^ 24 + (512 - x.h) * 2 ^ 14 + x.pol * 2 ^ 12 + (512 + x.h) * 2 ^ 2
  else 0

/-- Energy of a submodule in the ranking (R145). -/
def State.wOf (s : State) (a : Nat) (m : Sm) : Int :=
  if s.flag Reg.ARM_CFG 2 then
    let x := qdiv m.vh (volt16 (s.fld (Reg.ARMa_VNOM a) 0 16))
    qmul x x
  else match m.resp with
    | some r => Int.ofNat r.soe * 2 ^ 24
    | none => 0

/-- The spare of an arm that precharge insertion serves (R150, R151): a spare chosen to join, else the one in progress below the
upper level, else the lowest below the lower level. -/
def State.pciChoice (s : State) (a : Nat) (vbar : Int) : Option (Nat × Int) :=
  let lo := rnd (vbar * Int.ofNat (s.fld Reg.ARM_SP_VLO 0 16)) 65536
  let hi := rnd (vbar * Int.ofNat (s.fld Reg.ARM_SP_VHI 0 16)) 65536
  let sp := (s.armSms a).filter (fun n => (s.sm n).set == 2 && (s.sm n).inService && (s.sm n).resp.isSome)
  let cur := (s.arm.pci.getD a none).filter (fun n => sp.contains n && decide ((s.sm n).vh < hi))
  let join := sp.find? (fun n => (s.sm n).joining && decide ((s.sm n).vh < hi))
  let low := sp.foldl (fun (acc : Option (Nat × Int)) n =>
    let v := (s.sm n).vh
    if v < lo then (match acc with
      | some (_, w) => if v < w then some (n, v) else acc
      | none => some (n, v)) else acc) none
  match join, cur, low with
  | some n, _, _ => some (n, (s.sm n).vh)
  | none, some n, _ => some (n, (s.sm n).vh)
  | none, none, l => l

/-- The word of one submodule by mode and set (R149 to R151, R233). -/
def State.wordOf (s : State) (n : Nat) (p1 p2 : ArmPat) : SmWord :=
  let m := s.sm n
  let blk := 3 * 2 ^ 26
  let mach := s.released
  let balOn := s.flag Reg.ARM_CFG 4 && (mach || decide (s.mode = .ready))
  let base : SmWord := { stamp := s.stamp, epoch := s.pair.epoch, pat1 := blk, pat2 := blk, bal := balOn, byp := false,
                         iso := true, pci := false }
  let bypSeen := match m.resp with | some r => r.status.getLsbD 12 | none => false
  if m.repl ≠ 0 then { base with byp := decide (m.repl = 1) }
  else match m.set with
    | 1 =>
      let iso := match s.mode with
        | .commission => true
        | .safeStop => m.iso
        | _ => false
      if mach then
        if m.usable then { base with pat1 := p1.code n, pat2 := p2.code n, iso := false }
        else { base with pat1 := 0, pat2 := 0, iso := false }
      else { base with iso := iso }
    | 2 => if mach ∧ p1.spare = some n then { base with pat1 := p1.pol * 2 ^ 26, pci := true } else base
    | 3 => { base with byp := true, iso := bypSeen || m.iso }
    | _ => base

/-- The usable submodules of an arm (R140). -/
def State.usableOf (s : State) (a : Nat) : List Nat := (s.armSms a).filter (fun n => (s.sm n).usable)

/-- V̄_a: the mean predicted voltage of the usable submodules (R150). -/
def State.vbarOf (s : State) (a : Nat) : Int := meanOf ((s.usableOf a).map (fun n => (s.sm n).vh))

/-- The registers of one arm that its submodules give (R144, R161). -/
def State.armShow (s : State) (a : Nat) : State :=
  let us := s.usableOf a
  let vs := us.map (fun n => (s.sm n).vh)
  let vav := qdiv (vs.foldl (· + ·) 0) s.vpk
  let sb := Int.ofNat (s.fld Reg.GFE_SBASE 0 21)
  let w :=
    if s.flag Reg.ARM_CFG 2 then
      rndQ ((us.foldl (fun x n => x + (s.sm n).vh * (s.sm n).vh) 0) * Int.ofNat (s.regN (Reg.ARMa_C a)))
        (2 * sb * 3600000000000 * 2 ^ 40)
    else
      rndQ ((us.foldl (fun x n => x + (match (s.sm n).resp with | some r => Int.ofNat r.soe | none => 0)) 0)
        * 2 ^ 24 * Int.ofNat (s.regN (Reg.ARMa_WRATED a))) (sb * 1000)
  let act := (s.armSms a).filter (fun n => (s.sm n).set == 1)
  let sp := (s.armSms a).filter (fun n => (s.sm n).set == 2)
  let rdy := sp.filter (fun n => (s.sm n).ready)
  let l : List (Nat × Word) :=
    [(Reg.ARMa_VAV a, toPu24 vav), (Reg.ARMa_W a, toPu24 w), (Reg.ARMa_COUNT a, word (us.length + rdy.length * 65536)),
     (Reg.ARMa_SETS a, word (act.length + sp.length * 65536)),
     (Reg.ARMa_VBAR a, word (min 65535 (divRound (s.vbarOf a) (2 ^ 36)).toNat))]
  l.foldl (fun s p => s.setReg p.1 p.2) s

/-- Pattern 1 of an arm as its registers show it (R146, R161). -/
def State.armLevel (s : State) (a : Nat) (p1 : ArmPat) : State :=
  (s.setReg (Reg.ARMa_LEVEL a) (word ((if p1.pol = 2 then 65536 - p1.n0 else p1.n0) % 65536 + p1.h * 65536))).setReg
    (Reg.ARMa_PWMSM a) (word (p1.pwm.getD 0 + (if p1.h = 0 then 2 ^ 31 else 0)))

/-- SHORT of an arm (R144): the entry when it becomes short. -/
def State.shortCheck (s : State) (a : Nat) (usable : Nat) : State :=
  let sh := s.arm.setsFormed && decide (usable < s.armN a)
  let was := s.arm.short.getD a false
  let s := { s with arm := { s.arm with short := s.arm.short.set a sh } }
  if sh && !was then s.setFlagEach Reg.ARM_FLAGS 0 a else s

/-- No pattern: in modes with blocked pulses. -/
def ArmPat.none0 : ArmPat :=
  { pol := 1, full := [], n0 := 0, pwm := none, h := 0, carry := 0, clamp := false, spare := none }

/-- The measures of one arm in the step (R141, R144, R150): predictions, which spares are ready, SHORT, the registers. -/
def State.armMeasure (s0 : State) (a : Nat) : State :=
  let i := s0.iArm a
  let nums := s0.armSms a
  let s := nums.foldl (fun s n => s.predict a n i) s0
  let lo := rnd (s.vbarOf a * Int.ofNat (s.fld Reg.ARM_SP_VLO 0 16)) 65536
  let s := nums.foldl (fun s n => s.updSm n (fun m => { m with
    pci := false
    ready := decide (m.set = 2) && m.inService && decide (m.vh ≥ lo) &&
      (match m.resp with | some r => r.status.getLsbD 9 | none => false) })) s
  (s.shortCheck a (s.usableOf a).length).armShow a

/-- The measures of every arm, and the smallest available voltage (R144). -/
def State.armsMeasure (s : State) : State :=
  let t := s.arms.foldl (fun s a => s.armMeasure a) s
  let mn := (t.arms.map (fun a => t.reg (Reg.ARMa_VAV a))).foldl (fun (m : Option Word) v => match m with
    | some x => some (if sx v < sx x then v else x)
    | none => some v) none
  t.setReg Reg.ARM_VAV (mn.getD 0)

/-- The words of one arm (R149, R153): each is kept with those of the steps before. -/
def State.putWords (s : State) (a : Nat) (p1 p2 : ArmPat) : State :=
  (s.armSms a).foldl (fun s n =>
    let w := s.wordOf n p1 p2
    s.updSm n (fun m => { m with words := (w :: m.words).take 4, iso := w.iso })) s

/-- One arm of the step after its measures (R145 to R150): ranking, patterns, words. -/
def State.buildArm (s : State) (a : Nat) : State :=
  if !s.released then (s.armLevel a ArmPat.none0).putWords a ArmPat.none0 ArmPat.none0
  else
    let i := s.iArm a
    let us := s.usableOf a
    let cand (inc : Sm → Bool) (v : Nat → Int) : List Cand := us.map (fun n =>
      let m := s.sm n
      { n := n, v := v n, w := s.wOf a m, lam := m.lam, inc := inc m, p := 0 })
    let vpk := s.vpk
    let fb := s.flag (Reg.ARMa_SMCFG a) 0
    let ref (l : List Int) : Int × Nat × Bool :=
      let v := qmul (nth 0 l a) vpk
      if v < 0 ∧ !fb then (0, 2, true) else (Int.ofNat v.natAbs, if v < 0 then 2 else 1, false)
    let chg (pol : Nat) : Bool := if pol = 1 then decide (i > 0) else decide (i < 0)
    let r1 := ref s.gfe.ref1
    let ranked1 := s.rank (cand (·.inc) (fun n => (s.sm n).vh)) (chg r1.2.1)
    let spare := if chg r1.2.1 then s.pciChoice a (s.vbarOf a) else none
    let p1 := s.buildPat ranked1 r1.2.1 r1.2.2 r1.1 (nth 0 s.arm.carry a) spare
    let r2 := ref s.gfe.ref2
    let c := s.regN (Reg.ARMa_C a)
    let v2 (n : Nat) : Int := (s.sm n).vh + dVolt i (patTime (p1.code n)) s.ang.rate.toNat c
    let l2 := us.map (fun n =>
      let m := s.sm n
      ({ n := n, v := v2 n, w := s.wOf a { m with vh := v2 n }, lam := m.lam,
         inc := inserted (patEnd (p1.code n)), p := 0 } : Cand))
    let p2 := s.buildPat (s.rank l2 (chg r2.2.1)) r2.2.1 r2.2.2 r2.1 0 none
    let s := { s with arm := { s.arm with
      carry := s.arm.carry.set a p1.carry, n0 := s.arm.n0.set a (Int.ofNat p1.n0),
      pci := s.arm.pci.set a (if chg r1.2.1 then spare.map (·.1) else s.arm.pci.getD a none) } }
    let s := match p1.spare with
      | some n => (s.updSm n (fun m => { m with pci := true })).bump Reg.ARM_PCI_CNT
      | none => s
    let s := if p1.clamp || p2.clamp then
        ({ s with arm := { s.arm with clampNow := true } } : State).setFlag Reg.ARM_FLAGS 4 a else s
    (s.armLevel a p1).putWords a p1 p2

/-- The precharge criterion in the step (R152). -/
def State.prechNow (s : State) : Bool :=
  if s.laneMode then
    decide (s.arms ≠ []) && s.arms.all (fun a =>
      let v := rnd (volt16 (s.fld (Reg.ARMa_VNOM a) 0 16) * Int.ofNat (s.fld Reg.ARM_PRECH_VMIN 0 16)) 65536
      decide (((s.armSms a).filter (fun n =>
        let m := s.sm n
        m.set == 1 && (match m.resp with
          | some r => r.status.getLsbD 11 && r.status.getLsbD 9 && decide ((r.status >>> 1).toNat % 128 = 0)
              && decide (m.v ≥ v)
          | none => false))).length ≥ s.armN a))
  else
    let x := s.gfe.inputs.getD (s.fld Reg.ARM_DCL 0 5) (0, true)
    !x.2 && decide (x.1 ≥ 256 * (BitVec.ofNat 16 (s.fld Reg.ARM_DCL 16 16)).toInt)

/-- The precharge count of the step, and PRECH_OK (R152). -/
def State.prechStep (s : State) : State :=
  let k := if s.prechNow then min 8 (s.arm.prechCnt + 1) else 0
  { s with arm := { s.arm with prechCnt := k, prechOk := decide (k ≥ 8) } }

/-- PRECH_OK (R152): held in each of the last 8 steps. -/
def State.prechOkAct (s : State) : State := { s with arm := { s.arm with prechOk := decide (s.arm.prechCnt ≥ 8) } }

/-- PRECH_OK (R152). -/
def execPrechOk (s : State) : Host.Outcome State Fault Refusal := s.live s.prechOkAct

/-- The submodules of arm ranges that no primary lane carries (R137), lowest first. -/
def State.unmappedSms (s : State) : List Nat :=
  ((s.arms.flatMap s.armSms).filter (fun n => (s.slotOf n).isNone)).foldl (fun l n => insSorted (fun a b => decide (a ≤ b)) n l) []

/-- UNMAPPED (R137): flagged, with the lowest unmapped number, when a submodule is found unmapped. -/
def State.unmappedCheck (s : State) : State :=
  match (if s.laneMode then s.unmappedSms else []) with
  | [] => { s with arm := { s.arm with unmapped := false } }
  | n :: _ =>
    let was := s.arm.unmapped
    let s := { s with arm := { s.arm with unmapped := true } }
    if was then s else s.setFlagEach Reg.ARM_FLAGS 5 n

/-! ### Direct mode -/

/-- OST and CMP of a main counter written to its shadows (R254). -/
def State.mainWrite (s : State) (n ost cmp : Nat) : State :=
  ((s.setReg (Reg.PWMn_OST_SH n) (setBits (s.reg (Reg.PWMn_OST_SH n)) 0 2 ost)).setReg (Reg.PWMn_CMP_SH n)
    (word cmp)).updCtr n (fun c => { c with shWritten := c.shWritten || s.isActive })

/-- The compares of the main converter for the period that follows (R254). -/
def State.mainCompares (s : State) : State :=
  if !s.flag Reg.PWM_MAIN_CFG 0 || !s.gfe.refsValid then s
  else
    let p := 16384 * s.psteps
    let vd := s.vdc
    (upto 3).foldl (fun s x =>
      let v1 := nth 0 s.gfe.ref1 x
      let v2 := nth 0 s.gfe.ref2 x
      let v := v1 + rnd ((v2 - v1) * (Int.ofNat s.psteps - 1)) 2
      let d := qdiv v vd
      let at_ (k : Int) : Int := divRound (k * Int.ofNat p) (2 ^ 40)
      let u := s.fld (Reg.PWM_MAINx x) 0 5
      let l := s.fld (Reg.PWM_MAINx x) 8 5
      if !s.flag Reg.PWM_MAIN_CFG 1 then
        let c := at_ (rnd one 2 + d)
        s.mainWrite u (if c ≥ p then 1 else if c ≤ 0 then 2 else 0) (if c ≥ p ∨ c ≤ 0 then 0 else c.toNat)
      else if v ≥ 0 then
        let c := at_ (2 * d)
        (s.mainWrite u (if c ≥ p then 1 else 0) (if c ≥ p then 0 else c.toNat)).mainWrite l 1 0
      else
        let c := at_ (one + 2 * d)
        (s.mainWrite u 2 0).mainWrite l (if c ≤ 0 then 2 else 0) (if c ≤ 0 then 0 else c.toNat)) s

/-! ### Completion and release -/

/-- The engine's result of the step is present (R66, R147). -/
def State.resultOk (s : State) : Bool :=
  s.gfe.done && !bit s.gfe.stat 9 && (!s.released || s.gfe.refsValid)

/-- Every command word of the step (R146 to R150), or the compares of direct mode (R254). -/
def State.armBuild (s : State) : State :=
  if s.arm.built || !s.resultOk || s.mode = .init then s
  else
    let s := { s with arm := { s.arm with built := true } }
    let s :=
      if s.laneMode then
        let t := ({ s with arm := { s.arm with clampNow := false } } : State).armsMeasure
        let t := t.arms.foldl (fun s a => s.buildArm a) t
        if t.arm.clampNow then t.bump Reg.ARM_CLAMP_CNT else t
      else s.mainCompares
    s.unmappedCheck

/-- What the arm manager does by the end of a step (R141, R142, R144, R152): in one whose words were not built it measures all the
same, on the currents of the latest result (log entry 81); the precharge count. -/
def State.armEnd (s : State) : State :=
  (s.when (s.laneMode && !s.arm.built && decide (s.mode ≠ .init)) (fun s => s.armsMeasure)).prechStep

/-- The lanes that carry a cyclic region in this step (R192). -/
def State.cycLanes (s : State) : List Nat :=
  if s.isActive && s.laneMode && !s.pair.silence then (upto 20).filter (fun n => (s.lane n).qual && s.isRoute n) else []

/-- The primary of a lane, as a number. -/
def State.prim (s : State) (n : Nat) : Nat := (s.primaryOf n).getD n

/-- Every slot of `k` is in a mask. -/
def maskFull (m k : Nat) : Bool := decide (m % 2 ^ k = 2 ^ k - 1)

/-- Slot `j` of a lane queued now (R192, R504, R33), the run's header before the first: one queued late is not sent; the last of the lane moves PIPE_MARGIN (R35). -/
def State.queueSlot (s : State) (n j : Nat) : State :=
  let k := s.mapN (s.prim n)
  if j ≥ k ∨ (s.lane n).qmask.testBit j then s
  else
    let late := s.pastDeadline
    let s1 := s.updLane n (fun l => { l with
      qmask := l.qmask ||| 2 ^ j, qlate := if late then l.qlate ||| 2 ^ j else l.qlate })
    let s2 := s1.when (maskFull (s1.lane n).qmask k) (fun t => t.marginAt s.acUp)
    if late then s2
    else (s2.when (decide ((s.lane n).qmask = 0)) (fun t => t.tx n "CYC_HDR"
        [0, b2n s.unitB, 0, k, s.pair.epoch.toNat, s.step10])).tx n "CYC_SLOT" [s.step10, j, s.slotWord (s.prim n) j]

/-- The clock, counted from the boundary, at which slot `j` of `k` is released (R504): 7.20 µs + 3.00 µs (j + 1)/k. -/
def paceClk (j k : Nat) : Nat := 2880 + 1200 * (j + 1) / max 1 k

/-- Slot `j` of a lane is released at its pace time, or as soon afterwards as its word is built (R504). -/
def State.releaseSlot (s : State) (lane j : Nat) : State :=
  let s := (s.toClk (paceClk j (s.mapN (s.prim lane)))).armBuild
  if s.arm.built && s.cycLanes.contains lane then s.queueSlot lane j else s

/-- The slots not yet queued whose pace time is at most `clk` after the boundary, in the order of their times: time, lane,
slot (R504). -/
def State.slotsDue (s : State) (clk : Nat) : List (Nat × Nat × Nat) :=
  sortBy (fun a b => decide (a.1 ≤ b.1)) (s.cycLanes.flatMap (fun n =>
    let k := s.mapN (s.prim n)
    ((upto k).filter (fun j => decide (paceClk j k ≤ clk) && !(s.lane n).qmask.testBit j)).map (fun j => (paceClk j k, n, j))))

/-- Every slot whose pace time lies at or before `clk` is released (R504). -/
def State.releaseTo (s : State) (clk : Nat) : State :=
  if s.resultOk then (s.slotsDue clk).foldl (fun s x => s.releaseSlot x.2.1 x.2.2) s else s

/-- SLOT_RELEASE (R504): slot `j` of a lane reaches the lane hub at its pace time, after the slots of earlier times. -/
def State.slotReleaseAct (s : State) (lane j : Nat) : State :=
  let k := paceClk j (s.mapN (s.prim lane))
  (s.releaseTo (k - 1)).releaseSlot lane j

/-- SLOT_RELEASE (R504). -/
def execSlotRelease (lane : Fin 20) (j : Fin 256) (s : State) : Host.Outcome State Fault Refusal :=
  s.live (s.slotReleaseAct lane j)

/-- Clocks from the boundary to ARM completion: 10.20 µs, 10.60 µs in shadow (R24, R344). -/
def State.armClk (s : State) : Nat := if s.pair.shadowStep then 4240 else 4080

/-- SHADOW_LATE judged for a shadow step: ARM complete in time or not (R34, R344). -/
def State.shadowJudge (s : State) (inTime : Bool) : State :=
  if !s.shadowing then s
  else if inTime then
    let k := min 1024 (s.pipe.shadowCnt + 1)
    { s with pipe := { s.pipe with shadowCnt := k, shadowLate := decide (k < 1024) } }
  else ({ s with pipe := { s.pipe with shadowCnt := 0, shadowLate := true } } : State).bump Reg.PIPE_LATE_CNT

/-- The shadow step judged once, at its ARM completion or when that time has passed without one (R34, R344). -/
def State.shadowSettle (s : State) : State :=
  if !s.pair.shadowStep || s.pipe.shJudged then s
  else ({ s with pipe := { s.pipe with shJudged := true } } : State).shadowJudge (s.pipe.armDone && s.pipe.armIn)

/-- ARM_COMPLETE (R147): every word built, every slot of the pace released; in direct mode LOAD_ALL set, whose ac counts for
PIPE_MARGIN (R254, log entry 76). `armIn` keeps whether it came by the time of R24 or R344. -/
def State.armComplete (s : State) : State :=
  if s.pipe.armDone || !s.running then s
  else
    let s := (s.releaseTo s.armClk).toClk s.armClk
    let inTime := decide (s.sys.clk - s.sys.bclk ≤ s.armClk)
    let s := s.armBuild
    if !s.arm.built then s
    else
      let s := { s with pipe := { s.pipe with armDone := true, armIn := inTime } }
      let s := s.cycLanes.foldl (fun s n => (upto (s.mapN (s.prim n))).foldl (fun s j => s.queueSlot n j) s) s
      (if s.laneMode then s.bulkResume else (s.pwmLoadAllAct).when s.isActive (fun s => s.marginAt s.acUp)).shadowSettle

/-- ARM_COMPLETE (R147). -/
def execArmComplete (s : State) : Host.Outcome State Fault Refusal := s.live s.armComplete

/-- PIPE_MARGIN_RST (R35). -/
def State.marginReset (s : State) : State := { s with pipe := { s.pipe with margin := 800 } }

/-- PIPE_MARGIN_RST (R35). -/
def execPipeMarginRst (s : State) : Host.Outcome State Fault Refusal := s.live s.marginReset

/-! ### Sets -/

/-- The sets formed at the first exit from COMMISSION after the arm configuration was written (R139). -/
def State.formSets (s : State) : State :=
  if s.arm.setsFormed || !s.laneMode then s
  else
    let s : State := { s with arm := { s.arm with sms := s.arm.sms.map (fun p => (p.1, { p.2 with set := 0 })) } }
    let s : State := s.arms.foldl (fun s a =>
      let ok := (s.armSms a).filter (fun n => (s.sm n).acc == 1)
      (s.armSms a).foldl (fun s n =>
        s.updSm n (fun m => { m with
          set := if m.acc ≥ 2 then 3 else if m.acc = 1 then (if (ok.take (s.armN a)).contains n then 1 else 2) else 0 })) s) s
    ({ s with arm := { s.arm with setsFormed := true } } : State).noSpareShow

/-- The arm configuration has changed (R139): topology, ranges. The next exit from COMMISSION forms the sets anew. -/
def State.armCfgChanged (s : State) : State :=
  ({ s with arm := { s.arm with setsFormed := false } } : State).noSpareShow

/-- A spare joins the ACTIVE set (R151). -/
def State.joinActive (s : State) (n : Nat) : State :=
  (s.updSm n (fun m => { m with set := 1, iso := false, pci := false, joining := false, ready := false, fail := 0 })).noSpareShow

/-- The spares of an arm that may be promoted. -/
def State.sparesOf (s : State) (a : Nat) : List Nat :=
  (s.armSms a).filter (fun n => (s.sm n).set == 2 && (s.sm n).inService)

/-- The ready spare with the lowest wear, ties to the lower number (R151). -/
def State.bestSpare (s : State) (a : Nat) : Option Nat :=
  ((s.sparesOf a).filter (fun n => (s.sm n).ready && !(s.sm n).joining)).foldl (fun (acc : Option Nat) n => match acc with
    | some b => if (s.sm n).lam < (s.sm b).lam then some n else acc
    | none => some n) none

/-- The spare with the highest voltage. -/
def State.fullestSpare (s : State) (a : Nat) : Option Nat :=
  ((s.sparesOf a).filter (fun n => !(s.sm n).joining)).foldl (fun (acc : Option Nat) n => match acc with
    | some b => if (s.sm n).vh > (s.sm b).vh then some n else acc
    | none => some n) none

/-- A promotion in arm `a` (R151): a ready spare at once, else the fullest one as soon as it is ready, else none. -/
def State.promote (s : State) (a : Nat) : State :=
  match s.bestSpare a, s.fullestSpare a with
  | some n, _ => s.joinActive n
  | none, some n => s.updSm n (fun m => { m with joining := true })
  | none, none =>
    (({ s with arm := { s.arm with noSpare := s.arm.noSpare.set a true } } : State)).setFlagEach Reg.ARM_FLAGS 1 a

/-- A submodule that has been asked to retire does so (R151); a wear retirement restarts the arm's gap (R232). -/
def State.retireAct (s : State) (n : Nat) : State :=
  let m := s.sm n
  match s.armOf n with
  | some a =>
    if m.set = 1 ∧ m.retire ≠ 0 then
      let s := s.updSm n (fun m => { m with set := 3, retire := 0, wearReq := false, usable := false, fail := 0 })
      let s := if m.retire = 3 then { s with ldg := { s.ldg with wearT := s.ldg.wearT.set a (some 0) } } else s
      ((s.bump Reg.ARM_RETIRE_CNT).setFlagEach Reg.ARM_FLAGS 2 n).promote a
    else s
  | none => s

/-- SM_RETIRE (R151). -/
def execSmRetire (n : Fin 4096) (s : State) : Host.Outcome State Fault Refusal := s.live (s.retireAct n)

/-- A chosen spare that has become ready joins (R151). -/
def State.sparePromoteAct (s : State) (n : Nat) : State :=
  if (s.sm n).joining && (s.sm n).ready && decide ((s.sm n).set = 2) then s.joinActive n else s

/-- SPARE_PROMOTE (R151). -/
def execSparePromote (n : Fin 4096) (s : State) : Host.Outcome State Fault Refusal := s.live (s.sparePromoteAct n)

/-- Retirements and promotions of the boundary, in ascending number (R151). -/
def State.setsBoundary (s : State) : State :=
  let l := s.arm.sms.map (·.1)
  let s := l.foldl (fun s n => s.retireAct n) s
  (l.foldl (fun s n => s.sparePromoteAct n) s).noSpareShow

/-! ### Comparators -/

/-- The arms a comparator restricts, each with the sign to which the trip's sign maps (R118; a line comparator in star and delta:
log entry 94). -/
def State.hwcArms (s : State) (line : Bool) (n : Nat) : List (Nat × Bool) :=
  if !line then [(n, false)]
  else if s.topo = 0 then [(2 * n, false), (2 * n + 1, true)]
  else [(n, false)]

/-- Whether a comparator that restricts arm `a` is tripped. -/
def State.armHeld (s : State) (a : Nat) : Bool :=
  (s.rt.armTrip.getD a none).isSome ||
  (upto 3).any (fun x => (s.rt.lineTrip.getD x none).isSome && (s.hwcArms true x).any (fun p => p.1 == a))

/-- HWC_TRIP (R117, R118). Of two comparators that hold an arm the latest trip gives the sign (log entry 94). -/
def State.hwcTripAct (s : State) (line : Bool) (n : Nat) (neg : Bool) : State :=
  if (line && decide (n ≥ 3)) || (!line && !s.flag Reg.GFE_MAP 24) then s
  else
    let s := s.bump Reg.RT_HWC_CNT
    if !s.released then s
    else
      let s := s.setFlag Reg.RT_FLAGS (if line then 5 else 4) n
      let s := { s with rt := { s.rt with
        lineTrip := if line then s.rt.lineTrip.set n (some neg) else s.rt.lineTrip,
        armTrip := if line then s.rt.armTrip else s.rt.armTrip.set n (some neg) } }
      if s.laneMode then
        (s.hwcArms line n).foldl (fun s p =>
          let d := neg != p.2
          let s := { s with rt := { s.rt with restr := s.rt.restr.set p.1 (some d), lastNeg := d } }
          s.sendRestrict true d p.1) s
      else s.pwmRefresh

/-- HWC_TRIP (R118). -/
def execHwcTrip (line : Bool) (n : Fin 6) (neg : Bool) (s : State) : Host.Outcome State Fault Refusal :=
  s.live (s.hwcTripAct line n neg)

/-- HWC_RELEASE (R117, R118): the restriction ends for an arm whose comparators have all released. -/
def State.hwcReleaseAct (s : State) (line : Bool) (n : Nat) : State :=
  let s := { s with rt := { s.rt with
    lineTrip := if line then s.rt.lineTrip.set n none else s.rt.lineTrip,
    armTrip := if line then s.rt.armTrip else s.rt.armTrip.set n none } }
  (s.hwcArms line n).foldl (fun s p =>
    match s.rt.restr.getD p.1 none with
    | some d => if s.armHeld p.1 then s
        else ({ s with rt := { s.rt with restr := s.rt.restr.set p.1 none } } : State).sendRestrict false d p.1
    | none => s) s

/-- HWC_RELEASE (R117). -/
def execHwcRelease (line : Bool) (n : Fin 6) (s : State) : Host.Outcome State Fault Refusal :=
  s.live (s.hwcReleaseAct line n)

end Sys2Proof.Machine
end

