-- ==== Sys2Proof/Machine/Cfg.lean ====
section
/-! DEFINITION. The writable fields of a register (R15, R17) and the configuration store (R505). -/
namespace Sys2Proof.Machine

/-- The register lies in the list of fixed stitch entries, which nothing writes (R52). -/
def fixedStitch (a : Nat) : Bool := decide (0x18000 ≤ a) && decide (a < 0x18090)

/-- The RW and RW/L fields of a register (R15). -/
def regMask (a : Nat) : Word :=
  if fixedStitch a then 0
  else match regFam a with
    | some f => word (f.rw ||| f.rwl)
    | none => 0

/-- The RW/L fields of a register (R17). -/
def lockMask (a : Nat) : Word :=
  if fixedStitch a then 0
  else match regFam a with
    | some f => word f.rwl
    | none => 0

/-- The fields of a register that the configuration store holds (R505): none of the stitch entries 9 to 2047,
ANG_GROUP_EN, CAL_SET and the safety parameters, and not PWMn_CFG.EN. -/
def cfgMask (a : Nat) : Word :=
  if (0x18090 ≤ a ∧ a < 0x20000) ∨ a = Reg.ANG_GROUP_EN ∨ a = Reg.CAL_SET_LO ∨ a = Reg.CAL_SET_HI ∨ a / 0x10000 = 12 then 0
  else if a / 0x10000 = 6 ∧ 0x100 ≤ a % 0x10000 ∧ a % 0x10000 < 0x700 ∧ a % 0x40 = 0 then regMask a &&& ~~~(1#32)
  else regMask a

/-- The fields of the store as the registers stand. -/
def State.cfgRegs (s : State) : List (Nat × Word) :=
  s.sys.regs.filterMap (fun p => if cfgMask p.1 = 0 then none else some (p.1, p.2 &&& cfgMask p.1))

/-- The bytes of a copy that its CRC covers (R505; their order is the model's, log entry 86). -/
def CfgCopy.bytes (c : CfgCopy) : List Byte :=
  leBytes 8 c.seq ++ c.regs.flatMap (fun p => leBytes 4 p.1 ++ leBytes 4 p.2.toNat) ++ c.marks.flatMap (leBytes 4)

/-- A copy is valid while its CRC-32 holds (R203, R505). -/
def CfgCopy.valid (c : CfgCopy) : Bool := c.crc == crc32 c.bytes

/-- A copy with its CRC-32 written (R505). -/
def CfgCopy.sealed (c : CfgCopy) : CfgCopy := { c with crc := crc32 c.bytes }

/-- The newer valid copy of the store (R505); none when neither is valid. -/
def State.cfgNewer (s : State) : Option CfgCopy :=
  match s.sys.cfgA.filter (·.valid), s.sys.cfgB.filter (·.valid) with
  | some a, some b => some (if b.seq > a.seq then b else a)
  | some a, none => some a
  | none, b => b

/-- The store is written, to the copy that is not the newer one (R505). -/
def State.cfgWrite (s : State) : State :=
  let n := s.cfgNewer
  let c : CfgCopy := { seq := (match n with | some x => x.seq + 1 | none => 0), crc := 0, regs := s.cfgRegs, marks := s.sys.marks }
  let toB := match n, s.sys.cfgA.filter (·.valid) with
    | some x, some a => decide (x = a)
    | _, _ => false
  if toB then { s with sys := { s.sys with cfgB := some c.sealed } } else { s with sys := { s.sys with cfgA := some c.sealed } }

/-- In INIT every field of the store takes its value from the newer valid copy (R505); with neither valid, the Reset values and no
marks stand. What SAF keeps in its own memory
stays marked (R388). -/
def State.cfgLoad (s : State) : State :=
  match s.cfgNewer with
  | none => s
  | some c =>
    let s := c.regs.foldl (fun s p => s.setReg p.1 ((regReset p.1 &&& ~~~cfgMask p.1) ||| p.2)) s
    { s with sys := { s.sys with marks := (s.sys.marks ++ c.marks).eraseDups } }

end Sys2Proof.Machine
end

