-- ==== Sys2Proof/Machine/Cal.lean ====
section
/-! DEFINITION. The calendar clock and module time (chapter 20, R462 to R468). -/
namespace Sys2Proof.Machine

/-- CAL_STAT.STATE codes (R465). -/
def CalState.code : CalState → Nat
  | .invalid => 0 | .free => 1 | .acquire => 2 | .locked => 3 | .holdover => 4

/-- Module time is traceable (R466). -/
def State.timeOk (s : State) : Bool :=
  decide (s.cal.st = .locked) || (decide (s.cal.st = .holdover) && s.cal.holdSince.isSome)

/-- CAL_STAT brought up to date (R470). -/
def State.calShow (s : State) : State :=
  s.setReg Reg.CAL_STAT (word (s.cal.st.code + 8 * b2n s.timeOk + 16 * b2n s.cal.batLow + 32 * b2n s.cal.batAbsent +
    64 * b2n s.cal.scap + 128 * b2n s.cal.port + 256 * b2n s.cal.utcValid))

/-- The selected source (CAL_CFG.SRC). -/
def State.calSrc (s : State) : Nat := s.fld Reg.CAL_CFG 0 3

/-- Module time moves by a step: count, flag, entry; the metering marks it (R322, R465). -/
def State.timeStepped (s : State) : State :=
  (({ s with mtr := { s.mtr with timeStep := true } } : State).bump Reg.CAL_STEP_CNT).setFlagEach Reg.CAL_FLAGS 0

/-- An offset of module time from the source, in ns (R465). Beyond CAL_STEP_LIM, or in INVALID, a step waits for the
boundary; otherwise the servo slews, its frequency correction a free value within ±200 ppm (log entry 6). -/
def State.calOffset (s : State) (off : Int) : State :=
  let s := s.setReg Reg.CAL_OFFSET (satWord off)
  let near := decide (off.natAbs ≤ s.regN Reg.CAL_TRACE_LIM)
  let big := decide (off.natAbs > s.regN Reg.CAL_STEP_LIM * 1000) || decide (s.cal.st = .invalid)
  let s := if big then { s with cal := { s.cal with step := some off } }
    else
      let d := s.draw
      d.2.setReg Reg.CAL_FREQ (BitVec.ofInt 32 (Int.ofNat (d.1.toNat % 400001) - 200000))
  let st : CalState :=
    if near then
      (match s.cal.st with
       | .locked => .locked
       | .holdover => .locked
       | _ => .acquire)
    else .acquire
  ({ s with cal := { s.cal with
      st := st, last := some s.sys.clk, holdSince := none,
      since := if near then some (s.cal.since.getD s.sys.clk) else none } } : State).calShow

/-- The module time of the end of the present UTC day, with the leap second announced, in whole seconds. -/
def State.utcMidnight (s : State) (leap61 : Bool) : Nat :=
  let ofs := s.fld Reg.CAL_UTC_OFS 0 16
  let utc := s.taiNs / 1000000000 - ofs
  (utc / 86400 + 1) * 86400 + (if leap61 then ofs + 1 else ofs - 1)

/-- CAL_UTC_OFS takes a value (R467); a change of it is a change of calendar time for the metering (R322). -/
def State.utcSet (s : State) (o : Nat) : State :=
  let same := decide (s.fld Reg.CAL_UTC_OFS 0 16 = o)
  let s := s.setReg Reg.CAL_UTC_OFS (word o)
  ({ s with cal := { s.cal with utcValid := true },
            mtr := { s.mtr with timeStep := s.mtr.timeStep || !same } } : State).calShow

/-- CAL_UTC_OFS taken from the announce messages (R467): the store keeps the value in force (R505). -/
def State.utcTake (s : State) (o : Nat) : State :=
  let same := decide (s.fld Reg.CAL_UTC_OFS 0 16 = o)
  (s.utcSet o).when (!same) State.cfgWrite

/-- PTP_MESSAGE_RX (R464, R465, R467). -/
def State.ptpRx (s : State) (m : PtpMsg) : State :=
  let src := s.calSrc
  let here := (decide (src = 1) && !m.port) || (decide (src = 2) && m.port) || decide (src = 3)
  if !here || decide (m.domain.toNat ≠ s.fld Reg.CAL_CFG 8 8) then s
  else
    let s : State := { s with cal := { s.cal with port := m.port } }
    let s := match m.utc with
      | some o => s.utcTake o.toNat
      | none => s
    let s : State := { s with cal := { s.cal with leap := m.leap.map (fun b => (s.utcMidnight b, b)) } }
    s.calOffset m.offset

/-- PTP_MESSAGE_RX (R464). -/
def execPtpMessageRx (m : PtpMsg) (s : State) : Host.Outcome State Fault Refusal := s.live (s.ptpRx m)

/-- PPS_IN_EDGE (R464): the offset is taken from the nearest whole second. -/
def State.ppsIn (s : State) : State :=
  if s.calSrc ≠ 4 then s
  else
    let r := s.taiNs % 1000000000
    s.calOffset (if r < 500000000 then Int.ofNat r else Int.ofNat r - 1000000000)

/-- PPS_IN_EDGE (R464). -/
def execPpsInEdge (s : State) : Host.Outcome State Fault Refusal := s.live s.ppsIn

/-- CAL_LOCKED (R465): the offset has stayed within CAL_TRACE_LIM. -/
def State.calLock (s : State) : State :=
  if s.cal.st = .acquire ∧ s.cal.since.isSome then ({ s with cal := { s.cal with st := .locked } } : State).calShow else s

/-- The clock at which the offset has stayed within CAL_TRACE_LIM for 10 s (R465). -/
def State.lockEnd (s : State) : Option Nat :=
  if s.cal.st = .acquire then s.cal.since.map (· + 4000000000) else none

/-- CAL_LOCKED (R465). -/
def execCalLocked (s : State) : Host.Outcome State Fault Refusal :=
  s.live (match s.lockEnd with
    | some t => s.atDue t State.calLock
    | none => s)

/-- CAL_HOLDOVER (R465, R466). -/
def State.calHold (s : State) : State :=
  if s.cal.st = .locked then
    let h := if s.regN Reg.CAL_HOLDOVER = 0 then none else some s.sys.clk
    (({ s with cal := { s.cal with st := .holdover, holdSince := h, since := none } } : State).calShow).setFlag Reg.CAL_FLAGS 2
  else s

/-- The clock at which the source of a LOCKED unit has been lost for 3 s (R465). -/
def State.sourceEnd (s : State) : Option Nat :=
  if s.cal.st = .locked then s.cal.last.map (· + 1200000000) else none

/-- CAL_HOLDOVER (R465). -/
def execCalHoldover (s : State) : Host.Outcome State Fault Refusal :=
  s.live (match s.sourceEnd with
    | some t => s.atDue t State.calHold
    | none => s)

/-- The clock at which a holdover ceases to be traceable (R466). -/
def State.holdEndClk (s : State) : Option Nat :=
  if s.cal.st = .holdover then s.cal.holdSince.map (· + s.regN Reg.CAL_HOLDOVER * 400000000) else none

/-- Module time is no longer traceable (R466). -/
def State.holdExpired (s : State) : State := ({ s with cal := { s.cal with holdSince := none } } : State).calShow

/-- CAL_HOLDOVER_EXPIRE (R466). -/
def execCalHoldoverExpire (s : State) : Host.Outcome State Fault Refusal :=
  s.live (match s.holdEndClk with
    | some t => s.atDue t State.holdExpired
    | none => s)

/-- The time a CAL_SET leads to: with PPS_IN as source the sub-second stands, and the whole seconds are those that come
nearest to the value written (R464). -/
def State.calSetTime (s : State) : Nat :=
  let v := s.regN Reg.CAL_SET_LO + s.regN Reg.CAL_SET_HI * 2 ^ 32
  if s.calSrc = 4 then
    let sub := s.sys.tai % (10 ^ 19)
    let w := v * 10 ^ 10
    if w < sub then sub else sub + (w - sub + 5 * 10 ^ 18) / 10 ^ 19 * 10 ^ 19
  else v * 10 ^ 10

/-- CAL_SET takes effect (R464): refused with SRC 1 to 3. -/
def State.calSetAct (s : State) : State :=
  if 1 ≤ s.calSrc ∧ s.calSrc ≤ 3 then s
  else
    let t := s.calSetTime
    let s : State := { s with sys := { s.sys with tai := t },
                              cal := { s.cal with st := if s.cal.st = .invalid then .free else s.cal.st } }
    s.timeStepped.calShow

/-- CAL_SET (R464). -/
def execCalSet (s : State) : Host.Outcome State Fault Refusal := s.live s.calSetAct

/-- The boundary's part (R465, R467): a step by the offset, a leap second. -/
def State.calBoundary (s : State) : State :=
  let s := match s.cal.step with
    | some off =>
      let t := (Int.ofNat s.sys.tai - off * 10000000000).toNat
      ({ s with sys := { s.sys with tai := t }, cal := { s.cal with step := none } } : State).timeStepped.calShow
    | none => s
  match s.cal.leap with
  | some (t, b) =>
    if s.taiNs ≥ t * 1000000000 then
      let o := s.fld Reg.CAL_UTC_OFS 0 16
      ({ s with cal := { s.cal with leap := none } } : State).utcTake (if b then min 255 (o + 1) else o - 1)
    else s
  | none => s

/-- BAT_MEASURE (R462): with no cell the reading is a free value (log entry 6). -/
def State.batMeasureAct (s : State) (mv : Option Word) : State :=
  match mv with
  | none =>
    let d := s.draw
    let s := d.2.setReg Reg.CAL_BAT_MV (word (d.1.toNat % 65536))
    ({ s with cal := { s.cal with batAbsent := true } } : State).calShow
  | some v =>
    let s := s.setReg Reg.CAL_BAT_MV v
    let s := if s.cal.batAbsent then
        let s := (s.setFlag Reg.CAL_FLAGS 4).ownInc 101
        ({ s with ldg := { s.ldg with ownSec := mset 0 s.ldg.ownSec 101 0 } } : State).ownUpd 101 (fun r => { r with hrs := 0 })
      else s
    let low := decide (v.toNat < 2700)
    let s := ({ s with cal := { s.cal with batAbsent := false, batLow := low } } : State).calShow
    if low then s.setFlag Reg.CAL_FLAGS 3 else s

/-- BAT_MEASURE (R462). -/
def execBatMeasure (mv : Option Word) (s : State) : Host.Outcome State Fault Refusal := s.live (s.batMeasureAct mv)

/-- Whether the part of own record `k` is powered, converting, on or enabled, as its HRS counts (R238). -/
def State.ownRuns (s : State) (k : Nat) : Bool :=
  if k < 22 then (s.port k).present
  else if k < 24 then true
  else if k < 28 then !(s.adc.cores.getD (k - 24) AdcCore.fresh).faulted
  else if k = 28 then decide (s.adc.spare ≠ .free)
  else if k < 97 then (s.mem.banks.getD (k - 29) ⟨false, false, true, 0, false⟩).inService
  else if k < 99 then false
  else if k < 102 then true
  else s.flag (Reg.PWMn_CFG ((k - 102) / 2)) 0

/-- A second towards the HRS of own record `k` (R238). -/
def State.ownSecond (s : State) (k : Nat) : State :=
  if !s.ownRuns k then s
  else
    let t := mget 0 s.ldg.ownSec k + 1
    if t < 3600 then { s with ldg := { s.ldg with ownSec := mset 0 s.ldg.ownSec k t } }
    else
      ({ s with ldg := { s.ldg with ownSec := mset 0 s.ldg.ownSec k 0 } } : State).ownUpd k
        (fun r => { r with hrs := min (2 ^ 24 - 1) (r.hrs + 1) })

/-- A day passes for SAF_PROOF_AGE every 86,400 s (R392, R393); the register saturates at its 16 bits. -/
def State.proofAge (s : State) : State :=
  if s.saf.proofDay + 1 < 86400 then { s with saf := { s.saf with proofDay := s.saf.proofDay + 1 } }
  else ({ s with saf := { s.saf with proofDay := 0 } } : State).setReg Reg.SAF_PROOF_AGE
    (word (min 0xFFFF (s.regN Reg.SAF_PROOF_AGE + 1)))

/-- TIME_RECORD (R238, R463): the whole second goes to MRAM; the hours of the own records run. Whether the
supercapacitor has reached its charge is a free value until it has (log entry 6). -/
def State.timeRecordAct (s : State) : State :=
  let s : State := { s with cal := { s.cal with mramSec := s.taiNs / 1000000000 } }
  let s := ((upto 150).foldl (fun s k => s.ownSecond k) s).proofAge
  if s.cal.scap then s
  else
    let d := s.draw
    ({ d.2 with cal := { d.2.cal with scap := d.1.getLsbD 0 } } : State).calShow

/-- TIME_RECORD (R463). -/
def execTimeRecord (s : State) : Host.Outcome State Fault Refusal := s.live s.timeRecordAct

/-- A read of CAL_TIME_LO latches CAL_TIME_HI (R463). -/
def State.calLatch (s : State) : State := { s with cal := { s.cal with latchHi := hi32 s.taiNs } }

/-- CAL_TIME_READ (R463). -/
def execCalTimeRead (s : State) : Host.Outcome State Fault Refusal := s.live s.calLatch

/-- PPS_OUT_PULSE (R468): the output rises, and falls after 100 ms; none while INVALID. -/
def execPpsOutPulse (s : State) : Host.Outcome State Fault Refusal :=
  s.live (if s.flag Reg.CAL_CFG 5 && decide (s.cal.st ≠ .invalid) then
    s.emits [.pin "PPS_OUT" true, .pin "PPS_OUT" false] else s)

end Sys2Proof.Machine
end

