-- ==== Sys2Proof/Machine/Ldg.lean ====
section
/-! DEFINITION. The endpoint ledger (chapter 09): records, merge, wear weights, the sweep, identity and acceptance,
retirement requests, replacement, archive, mirror and images. -/
namespace Sys2Proof.Machine

/-- The latest version of a record, changes that wait for the standby included (R235). -/
def State.recLatest (s : State) (a : Nat) : Rec :=
  match (s.ldg.mirror.reverse).find? (fun m => m.addr == a) with
  | some m => m.r
  | none => s.recAt a

/-- The live records of a submodule: address and record. -/
def State.liveOf (s : State) (smn : Nat) : List (Nat × Rec) :=
  s.ldg.recs.filter (fun p => p.1 / 8192 == smn && p.2.state != 0)

/-- The limit set of a type (LDG_TYPEMAP, R219). -/
def State.limsetOf (s : State) (typ : Nat) : Nat := s.fld (Reg.LDG_TYPEMAPj (typ / 8)) (4 * (typ % 8)) 4

/-- Counts with their nonzero limits, in one unit each (R221, R240). -/
def State.limits (s : State) (r : Rec) : List (Nat × Nat) :=
  let k := r.limset
  [(r.nsw, 256 * s.regN (Reg.LDG_LSs_NSW k)), (r.qah, 100 * s.regN (Reg.LDG_LSs_QAH k)),
   (r.nth, s.fld (Reg.LDG_LSs_NTH k) 0 24), (r.hrs, s.fld (Reg.LDG_LSs_HRS k) 0 24)].filter (fun p => decide (p.2 > 0))

/-- The usage of an endpoint in 2^-16, rounded down, at most 1 (R221, R222). -/
def State.usage16 (s : State) (r : Rec) : Nat :=
  ((s.limits r).map (fun p => min 65536 (p.1 * 65536 / p.2))).foldl max 0

/-- u_e = 1 (R221). -/
def State.wornNow (s : State) (r : Rec) : Bool := (s.limits r).any (fun p => decide (p.1 ≥ p.2))

/-- u_e ≥ WARN of the set (R221). -/
def State.warnNow (s : State) (r : Rec) : Bool :=
  let w := s.fld (Reg.LDG_LSs_CFG r.limset) 0 16
  (s.limits r).any (fun p => decide (p.1 * 65536 ≥ w * p.2))

/-- STATE after a merge (R221), with the state the submodule reports. -/
def State.stateRule (s : State) (r : Rec) (reported : Nat) : Nat :=
  let n := if reported = 4 ∨ r.state = 4 then 4 else if s.wornNow r then 3 else if s.warnNow r then 2 else 1
  max n (if r.state ≤ 4 then r.state else 0)

/-- λ of a submodule in 2^-16 (R222), saturating at the field's largest value. -/
def State.lambdaOf (s : State) (smn : Nat) : Nat :=
  min 65535 (((s.liveOf smn).filter (fun p => s.flag (Reg.LDG_LSs_CFG p.2.limset) 16)).foldl
    (fun m p => max m (s.usage16 p.2)) 0)

/-- Two decisions about the same value. -/
def LdgDec.same (x y : LdgDec) : Bool := match x, y with
  | .lambda n _, .lambda m _ => n == m
  | .accept n _, .accept m _ => n == m
  | .retire n _, .retire m _ => n == m
  | _, _ => false

/-- A decision for the boundary of step s + 4; one decided again before its boundary replaces the earlier one at that boundary
(R223). -/
def State.decide4 (s : State) (d : LdgDec) : State :=
  let l := if s.ldg.decs.any (fun x => x.2.same d) then s.ldg.decs.map (fun x => if x.2.same d then (x.1, d) else x)
    else s.ldg.decs ++ [(s.stepNo + 4, d)]
  { s with ldg := { s.ldg with decs := l } }

/-- A ready spare in an arm (R232). -/
def State.readySpare (s : State) (a : Nat) : Bool := (s.sparesOf a).any (fun n => (s.sm n).ready)

/-- LDG_WEAR_GAP has passed since the arm's previous wear retirement (R232). -/
def State.gapPassed (s : State) (a : Nat) : Bool :=
  match s.ldg.wearT.getD a none with
  | none => true
  | some t => decide (t ≥ s.fld Reg.LDG_WEAR_GAP 0 16 * 10 ^ 15)

/-- The held wear request of an arm that goes first: descending λ, ties to the lower number (R232). -/
def State.firstWear (s : State) (a : Nat) : Option Nat :=
  ((s.armSms a).filter (fun n => (s.sm n).wearReq && (s.sm n).set == 1)).foldl (fun (acc : Option Nat) n => match acc with
    | some b => if (s.sm n).lamNew > (s.sm b).lamNew then some n else acc
    | none => some n) none

/-- A wear retirement is on its way in an arm. -/
def State.wearOut (s : State) (a : Nat) : Bool :=
  s.ldg.decs.any (fun d => match d.2 with
    | .retire n 3 => decide (s.armOf n = some a)
    | _ => false) || (s.armSms a).any (fun n => (s.sm n).retire == 3)

/-- A held wear request released when its conditions hold (R232). -/
def State.wearReleaseAct (s : State) (smn : Nat) : State :=
  match s.armOf smn with
  | some a =>
    if s.firstWear a = some smn && s.readySpare a && s.gapPassed a && !s.wearOut a then
      (s.updSm smn (fun m => { m with wearReq := false })).decide4 (.retire smn 3)
    else s
  | none => s

/-- WEAR_RELEASE (R232). -/
def execWearRelease (smn : Fin 4096) (s : State) : Host.Outcome State Fault Refusal := s.live (s.wearReleaseAct smn)

/-- A wear request for a submodule (R232): released at once, or held; one of a submodule that is not ACTIVE waits until it is
(log entry 96). -/
def State.wearRequest (s : State) (smn : Nat) : State :=
  if (s.sm smn).wearReq || decide ((s.sm smn).set = 3) then s
  else
    let s1 := (s.updSm smn (fun m => { m with wearReq := true })).wearReleaseAct smn
    if (s1.sm smn).wearReq then s1.setFlag Reg.LDG_FLAGS 1 smn else s1

/-- A record becomes visible: λ anew, and the retirement requests of its STATE (R222, R232). -/
def State.putRec (s : State) (a : Nat) (r : Rec) : State :=
  let smn := a / 8192
  let was := (s.recAt a).state
  let s := { s with ldg := { s.ldg with recs := mset Rec.empty s.ldg.recs a r } }
  let l := s.lambdaOf smn
  let s := if l = (s.sm smn).lamNew then s
    else (s.updSm smn (fun m => { m with lamNew := l })).decide4 (.lambda smn l)
  let cfg := Reg.LDG_LSs_CFG r.limset
  if r.state = 4 ∧ was ≠ 4 ∧ s.flag cfg 18 ∧ (s.sm smn).set ≠ 3 then s.decide4 (.retire smn 2)
  else if r.state = 3 ∧ was ≠ 3 ∧ s.flag cfg 17 then s.wearRequest smn
  else s

/-- A change to a record on VC2 of the pair link (R235; its layout is internal, log entry 24). -/
def State.changeOut (s : State) (a : Nat) (r : Rec) : State :=
  s.queueBulk 20 2 false 0 (leBytes 1 0x4C ++ leBytes 4 a ++ r.bytes) (some (.change a r))

/-- A change to a record: sent to a qualified standby first, else visible at once (R235), and sent to a partner to which the
state is being transferred (R360). -/
def State.changeRec (s : State) (a : Nat) (r : Rec) : State :=
  if s.mirrored then
    ({ s with ldg := { s.ldg with mirror := s.ldg.mirror ++ [{ addr := a, r := r, since := s.sys.clk }] } } : State).changeOut a r
  else (s.when s.pair.xferOn (fun s => s.changeOut a r)).putRec a r

/-- The changes waiting for the standby become visible, in order (R235). -/
def State.mirrorApply (s : State) : State :=
  let l := s.ldg.mirror
  l.foldl (fun s m => s.putRec m.addr m.r) { s with ldg := { s.ldg with mirror := [] } }

/-- An acknowledgement of the standby has not come within 20 µs (R343): ACK_LATE, and its qualification counts as lost for 1,024
steps. -/
def State.ackLost (s : State) : State :=
  let s := s.setFlag Reg.PAIR_FLAGS 10
  { s with pair := { s.pair with ackBlock := 1024 } }

/-- LDG_MIRROR_TIMEOUT (R235): a change unacknowledged for 20 µs (8,000 clocks) is applied all the same. -/
def State.mirrorTimeout (s : State) : State :=
  match s.ldg.mirror with
  | [] => s
  | m0 :: _ => s.atDue (m0.since + 8000) (fun s =>
    let due (m : LdgMirror) : Bool := decide (m.since + 8000 ≤ s.sys.clk)
    (s.ldg.mirror.filter due).foldl (fun s m => s.putRec m.addr m.r)
      (({ s with ldg := { s.ldg with mirror := s.ldg.mirror.filter (fun m => !due m) } } : State).ackLost))

/-- LDG_MIRROR_TIMEOUT (R235). -/
def execLdgMirrorTimeout (s : State) : Host.Outcome State Fault Refusal := s.live s.mirrorTimeout

/-- The standby has acknowledged the block that carries a change. -/
def State.changeAcked (s : State) (m : LdgMirror) : Bool :=
  !(((s.assoc 20).queue ++ (s.assoc 20).kept).any (fun b => decide (b.mir = some (.change m.addr m.r))))

/-- An acknowledgement on the pair link: the changes that it covers become visible, in order (R206, R235). -/
def State.pairAcked (s : State) : State :=
  let l := s.ldg.mirror.takeWhile s.changeAcked
  l.foldl (fun s m => s.putRec m.addr m.r) { s with ldg := { s.ldg with mirror := s.ldg.mirror.drop l.length } }

/-! ### The archive -/

/-- A record archived (R234). -/
def State.archiveRec (s : State) (a : Nat) (r : Rec) : State :=
  let full := decide (s.ldg.archive.length ≥ 4194304)
  let l := if full then s.ldg.archive.drop 1 else s.ldg.archive
  let s := { s with ldg := { s.ldg with archive := l ++ [{ addr := a, r := r, tai := s.taiNs }], archBase := s.ldg.archBase + b2n full } }
  if full then s.setFlag Reg.LDG_FLAGS 5 else s

/-- The addresses of a number's live records, changes that wait for the standby included. -/
def State.liveLatest (s : State) (smn : Nat) : List Nat :=
  (((s.ldg.recs.map (·.1)) ++ s.ldg.mirror.map (·.addr)).eraseDups).filter (fun a =>
    decide (a / 8192 = smn) && decide ((s.recLatest a).state ≠ 0))

/-- Every live record of a number archived (R233), and no longer live: a change like any other (R235). -/
def State.archiveAll (s : State) (smn : Nat) : State :=
  (s.liveLatest smn).foldl (fun s a => (s.archiveRec a (s.recLatest a)).changeRec a Rec.empty) s

/-! ### The merge -/

/-- A reported item as a new record (R225). -/
def State.recOf (s : State) (i : LdgItem) : Rec :=
  let r : Rec := { id := i.id, typ := i.typ, state := 1, limset := s.limsetOf i.typ.toNat, stale := false, missed := false,
                   last := i.last, nsw := i.nsw.toNat, nth := i.nth.toNat, qah := i.qah.toNat, hrs := i.hrs.toNat }
  { r with state := s.stateRule r i.state.toNat }

/-- One reported item merged (R225, R231): the record after, and whether the module held more. -/
def State.mergeOne (s : State) (a : Nat) (i : LdgItem) : State :=
  let d := s.recLatest a
  if d.state = 0 then s.changeRec a (s.recOf i)
  else if d.id ≠ i.id then
    let s := s.setFlagEach Reg.LDG_FLAGS 2 (a / 8192)
    if s.flag Reg.LDG_CFG 3 then (s.archiveRec a d).changeRec a (s.recOf i)
    else s.changeRec a { d with state := 4 }
  else
    let r : Rec := { d with nsw := i.nsw.toNat, nth := i.nth.toNat, qah := i.qah.toNat, hrs := i.hrs.toNat }
    let m := { d.maxed r with last := i.last, stale := false, missed := false, limset := s.limsetOf i.typ.toNat }
    let m := { m with state := s.stateRule m i.state.toNat }
    let more := decide (m.nsw > r.nsw) || decide (m.nth > r.nth) || decide (m.qah > r.qah) || decide (m.hrs > r.hrs)
    let s := s.changeRec a m
    if more then (s.bump Reg.LDG_RECON_CNT).setFlag Reg.LDG_FLAGS 4 (a / 8192) else s

/-- The place in the archive of the record that quarantine created for an endpoint, while the archive holds it for the identity
(R230, R234). -/
def State.quarAt (s : State) (a : Nat) (id : BitVec 64) : Option Nat :=
  let q := mget 0 s.ldg.quarantined a
  if q ≤ s.ldg.archBase then none
  else match s.ldg.archive[q - 1 - s.ldg.archBase]? with
    | some x => if x.r.id = id then some (q - 1 - s.ldg.archBase) else none
    | none => none

/-- An item merged under quarantine: into a record created under a fresh address in the archive, never into the ledger (R230). -/
def State.mergeQuar (s : State) (a : Nat) (i : LdgItem) : State :=
  let r := s.recOf i
  match s.quarAt a i.id with
  | some k => { s with ldg := { s.ldg with archive := upd s.ldg.archive k (fun x => { x with
      r := { r.maxed x.r with state := max r.state x.r.state } }) } }
  | none =>
    let s := s.archiveRec a r
    { s with ldg := { s.ldg with quarantined := mset 0 s.ldg.quarantined a (s.ldg.archBase + s.ldg.archive.length) } }

/-- Opening a number ends the quarantine of its submodule (R230): later records of the number are others. -/
def State.quarEnd (s : State) (smn : Nat) : State :=
  { s with ldg := { s.ldg with quarantined := s.ldg.quarantined.filter (fun p => decide (p.1 / 8192 ≠ smn)) } }

/-- RECONCILE with the merged records (R225, R227). -/
def State.sendReconcile (s : State) (smn first tag n : Nat) : State :=
  let lam := (s.sm smn).lamNew
  let items := (upto n).flatMap (fun k =>
    (s.recLatest (epAddr smn (first + k))).bytes ++ leBytes 4 lam ++ leBytes 12 0)
  s.queueVc1 smn (vc1Header 3 n smn first tag ++ items)

/-- REPORT_RX (R225, R227). -/
def State.reportAct (s : State) (smn first tag : Nat) (items : List LdgItem) : State :=
  if !s.laneMode then s
  else if items.length = 0 ∨ items.length > 5 ∨ items.any (fun i => i.typ == 255) then s.bump Reg.LDG_SWEEP_MISS
  else
    let lane := match s.slotOf smn with | some (p, _) => p | none => 0
    let s := { s with ldg := { s.ldg with sweeps := upd s.ldg.sweeps lane (fun w => match w.visit with
      | some v => if v.smn = smn ∧ v.first = first then { w with visit := none } else w
      | none => w) } }
    let l := items.mapIdx (fun k i => (epAddr smn (first + k), i))
    match (s.sm smn).acc with
    | 2 => l.foldl (fun s p => s.mergeQuar p.1 p.2) s
    | 3 => s
    | _ =>
      if (s.sm smn).repl = 1 then s
      else (l.foldl (fun s p => s.mergeOne p.1 p.2) s).sendReconcile smn first tag items.length

/-- REPORT_RX (R225). -/
def execReportRx (smn : Fin 4096) (first : BitVec 13) (tag : Word) (items : List LdgItem) (s : State) :
    Host.Outcome State Fault Refusal := s.live (s.reportAct smn first.toNat tag.toNat items)

/-- REPORT_TIMEOUT (R226): MISSED in the group's records, the count, one revisit at the end of the pass. -/
def State.reportTimeoutAct (s : State) (smn first : Nat) : State :=
  let lane := match s.slotOf smn with | some (p, _) => p | none => 0
  match (s.ldg.sweeps.getD lane Sweep.fresh).visit with
  | some v =>
    if v.smn = smn ∧ v.first = first then
      let s := (upto v.n).foldl (fun s k =>
        let a := epAddr smn (first + k)
        let r := s.recLatest a
        if r.state = 0 then s else s.changeRec a { r with missed := true }) s
      let s := s.bump Reg.LDG_SWEEP_MISS
      { s with ldg := { s.ldg with sweeps := upd s.ldg.sweeps lane (fun w =>
        { w with visit := none, miss := if v.again then w.miss else w.miss ++ [(smn, first, v.n)] }) } }
    else s
  | none => s

/-- REPORT_TIMEOUT (R226). -/
def execReportTimeout (smn : Fin 4096) (first : BitVec 13) (s : State) : Host.Outcome State Fault Refusal :=
  s.live (s.reportTimeoutAct smn first.toNat)

/-! ### The sweep -/

/-- The endpoint count that a submodule accepted or quarantined declared (R224, R229, R230). -/
def State.declaredNep (s : State) (smn : Nat) : Nat :=
  if (s.sm smn).acc = 1 ∨ (s.sm smn).acc = 2 then min 8192 (s.sm smn).nep else 0

/-- The live records of a number that the sweep visits: none of a submodule under quarantine or refused (R224, R230). -/
def State.sweptRecs (s : State) (smn : Nat) : List (Nat × Rec) := if (s.sm smn).acc ≥ 2 then [] else s.liveOf smn

/-- One above the last endpoint index of a submodule that the sweep visits (R224). -/
def State.epCount (s : State) (smn : Nat) : Nat :=
  ((s.sweptRecs smn).map (fun p => p.1 % 8192 + 1)).foldl max (s.declaredNep smn)

/-- The first indices of a submodule's groups, ascending: those below its declared count, and those that hold a live endpoint
(R224). -/
def State.epGroups (s : State) (smn : Nat) : List Nat :=
  ((upto ((s.epCount smn + 4) / 5)).map (5 * ·)).filter (fun f =>
    decide (f < s.declaredNep smn) || (s.sweptRecs smn).any (fun p => p.1 % 8192 / 5 * 5 == f))

/-- The submodules of a primary lane that the sweep visits, ascending (R224): a number in replacement is skipped. -/
def State.sweepSms (s : State) (p : Nat) : List Nat :=
  ((upto (s.mapN p)).map (s.mapBase p + ·)).filter (fun n => decide ((s.sm n).repl = 0) && decide ((s.sm n).acc ≠ 3)
    && decide (s.epCount n > 0))

/-- The groups a pass of a lane has visited ahead of their place, because they held STALE records (R236). -/
def State.staleSeen (s : State) (p : Nat) : List (Nat × Nat) := (s.ldg.sweeps.getD p Sweep.fresh).seen

/-- The next group of a lane at or after (smn, ep) that this pass has not visited (R224). -/
def State.nextGroup (s : State) (p smn ep : Nat) : Option (Nat × Nat) :=
  ((s.sweepSms p).filter (fun n => decide (smn ≤ n))).findSome? (fun n =>
    ((s.epGroups n).find? (fun f => (decide (smn < n) || decide (ep ≤ f)) && !(s.staleSeen p).contains (n, f))).map (fun f => (n, f)))

/-- The first group of a lane that holds a STALE record and that this pass has not visited: neither ahead of its place nor in it
(R236). -/
def State.staleGroup (s : State) (p : Nat) : Option (Nat × Nat) :=
  let w := s.ldg.sweeps.getD p Sweep.fresh
  ((s.ldg.recs.filter (fun r => r.2.stale && (s.sweepSms p).contains (r.1 / 8192))).map (fun r =>
    (r.1 / 8192, r.1 % 8192 / 5 * 5))).find? (fun g =>
      (decide (w.smn < g.1) || (decide (w.smn = g.1) && decide (w.ep ≤ g.2))) && !w.seen.contains g)

/-- SWEEP_RD for a group (R225). -/
def State.sendVisit (s : State) (p smn first : Nat) (again : Bool) : State :=
  let n := min 5 (s.epCount smn - first)
  let t := s.ldg.tag + 1
  let s := { s with ldg := { s.ldg with
    tag := t, sweeps := upd s.ldg.sweeps p (fun w => { w with
      visit := some { smn := smn, first := first, n := n, tag := t % 2 ^ 32, again := again } }) } }
  s.queueVc1 smn (vc1Header 1 n smn first (t % 2 ^ 32))

/-- The end of a lane's pass; when every lane's pass has ended the sweep's has (R224). -/
def State.passEnd (s : State) (p : Nat) : State :=
  let s := { s with ldg := { s.ldg with sweeps := upd s.ldg.sweeps p (fun w => { w with done := true, smn := 0, ep := 0, seen := [] }) } }
  let lanes := s.primaries.filter (fun q => decide (s.sweepSms q ≠ []))
  if lanes.all (fun q => (s.ldg.sweeps.getD q Sweep.fresh).done) then
    let ms := (s.sys.clk - s.ldg.passClk) / 400000
    let s := (s.bump Reg.LDG_PASS_CNT).setReg Reg.LDG_PASS_MS (word ms)
    { s with ldg := { s.ldg with passClk := s.sys.clk, sweeps := s.ldg.sweeps.map (fun w => { w with done := false }) } }
  else s

/-- A standby that holds a group as merged goes on after it at a takeover (R235). -/
def State.sweepMerged (s : State) (a : Nat) (r : Rec) : State :=
  match s.slotOf (a / 8192) with
  | some (p, _) =>
    if r.state = 0 || r.stale || r.missed then s
    else { s with ldg := { s.ldg with sweeps := upd s.ldg.sweeps p (fun w => { w with
      smn := a / 8192, ep := a % 8192 / 5 * 5 + 5, done := false }) } }
  | none => s

/-- SWEEP_VISIT (R224, R225, R236): STALE groups first, then the next group, then the revisits of the pass. -/
def State.sweepVisitAct (s : State) (p : Nat) : State :=
  let w := s.ldg.sweeps.getD p Sweep.fresh
  if !s.flag Reg.LDG_CFG 2 || !s.isActive || !s.laneMode || w.visit.isSome || w.done then s
  else match s.staleGroup p with
    | some (n, f) =>
      ({ s with ldg := { s.ldg with sweeps := upd s.ldg.sweeps p (fun w => { w with seen := w.seen ++ [(n, f)] }) } } :
        State).sendVisit p n f false
    | none =>
      match s.nextGroup p w.smn w.ep with
      | some (n, f) =>
        ({ s with ldg := { s.ldg with sweeps := upd s.ldg.sweeps p (fun w => { w with smn := n, ep := f + 5 }) } } :
          State).sendVisit p n f false
      | none =>
        match w.miss with
        | (n, f, _) :: t =>
          ({ s with ldg := { s.ldg with sweeps := upd s.ldg.sweeps p (fun w => { w with miss := t }) } } :
            State).sendVisit p n f true
        | [] => s.passEnd p

/-- SWEEP_VISIT (R225). -/
def execSweepVisit (lane : Fin 20) (s : State) : Host.Outcome State Fault Refusal := s.live (s.sweepVisitAct lane)

/-! ### Identity -/

/-- The signed bytes of an IDENT (R229). -/
def identSigned (b : IdentBody) : List Byte :=
  leBytes 8 b.id.toNat ++ leBytes 2 b.maker.toNat ++ leBytes 2 b.nep.toNat ++ leBytes 2 b.hwrev.toNat ++ leBytes 2 0

/-- An identity check fails (R230): count, flag, entry. -/
def State.idFail (s : State) (smn : Nat) : State := (s.bump Reg.LDG_ID_FAIL).setFlagEach Reg.LDG_FLAGS 0 smn

/-- Acceptance by LDG_CFG.POLICY (R230): 2 treats the submodule as NEW. -/
def State.policyAcc (s : State) : Nat :=
  match s.fld Reg.LDG_CFG 0 2 with
  | 0 => 3
  | 1 => 2
  | _ => 1

/-- A submodule accepted as NEW (R230, R233): the number's live records go to the archive, with the requests they made; for an open
number REOPEN is sent. -/
def State.acceptNew (s : State) (smn : Nat) (id : BitVec 64) : State :=
  let isOpen := decide ((s.sm smn).repl = 1)
  let s := (s.archiveAll smn).updSm smn (fun m => { m with
    retire := 0, wearReq := false, repl := if isOpen then 2 else m.repl, newId := if isOpen then id else m.newId })
  if isOpen then s.queueVc1 smn (vc1Header 6 0 smn 0 id.toNat) else s

/-- A submodule's acceptance as last decided (R223). -/
def State.accLatest (s : State) (smn : Nat) : Nat :=
  (s.ldg.decs.findSome? (fun d => match d.2 with
    | .accept n v => if n = smn then some v else none
    | _ => none)).getD (s.sm smn).acc

/-- The acceptance of a FOREIGN or UNSIGNED submodule (R230): by POLICY, and as NEW under POLICY 2 (log entry 96); one refused or
under quarantine is released only by opening its number. -/
def State.acceptBy (s : State) (smn : Nat) (id : BitVec 64) : State :=
  if s.accLatest smn ≥ 2 ∧ (s.sm smn).repl ≠ 1 then s
  else
    let p := s.policyAcc
    (s.when (decide (p = 1)) (fun s => s.acceptNew smn id)).decide4 (.accept smn p)

/-- IDENT_RX (R229, R230); a direct-mode unit has no submodules to check (R20). -/
def State.identAct (s : State) (smn : Nat) (b : IdentBody) : State :=
  let ok := decide (b.nep.toNat ≥ 1) && decide (b.nep.toNat ≤ 8192) &&
    (match s.ldg.key with | some k => Config.ecdsaVerify k (identSigned b) b.sig | none => false)
  let e0 := s.recLatest (epAddr smn 0)
  let openNo := decide ((s.sm smn).repl = 1)
  let held := decide (s.accLatest smn ≥ 2) && !openNo
  let isNew := openNo || (s.liveLatest smn == [])
  let isMatch := decide (e0.state ≠ 0) && decide (e0.id = b.id) && !openNo
  if !s.laneMode then s
  else
    let s := s.updSm smn (fun m => { m with
      identAt := none, signed := ok, nep := b.nep.toNat % 2 ^ 14, foreign := ok && !isMatch && !isNew })
    if !ok then (s.idFail smn).acceptBy smn b.id
    else if isMatch then (if held then s else s.decide4 (.accept smn 1))
    else if isNew then (if held then s else (s.acceptNew smn b.id).decide4 (.accept smn 1))
    else (s.idFail smn).acceptBy smn b.id

/-- IDENT_RX (R230). -/
def execIdentRx (smn : Fin 4096) (b : IdentBody) (s : State) : Host.Outcome State Fault Refusal := s.live (s.identAct smn b)

/-- IDENT_TIMEOUT (R228, R230): no IDENT within 100 ms (40,000,000 clocks) of its request makes the submodule UNSIGNED. -/
def State.identTimeout (s : State) (smn : Nat) : State :=
  match (s.sm smn).identAt with
  | some t => s.atDue (t + 40000000) (fun s =>
      ((s.updSm smn (fun m => { m with identAt := none, signed := false, foreign := false })).idFail smn).acceptBy smn 0)
  | none => s

/-- IDENT_TIMEOUT (R230). -/
def execIdentTimeout (smn : Fin 4096) (s : State) : Host.Outcome State Fault Refusal := s.live (s.identTimeout smn)

/-! ### Decisions reach the arm manager -/

/-- One decision applied (R223): a retirement is asked for, and takes effect with those of R143 (R151); a number accepted after the
sets were formed joins the spares (log entry 82). -/
def State.applyDec (s : State) (d : LdgDec) : State :=
  match d with
  | .lambda n v => s.updSm n (fun m => { m with lam := v })
  | .accept n acc =>
    let inArm := (s.armOf n).isSome
    (s.updSm n (fun m => { m with
      acc := acc, set := if !s.arm.setsFormed then m.set else if acc ≥ 2 then 3
        else if acc = 1 ∧ m.set = 0 ∧ inArm then 2 else m.set })).noSpareShow
  | .retire n why => s.updSm n (fun m => { m with
      retire := if m.set = 1 ∨ (why = 2 ∧ m.set ≠ 3) then why else m.retire })

/-- LDG_DECISION_APPLY (R223): the decisions whose boundary has come, in ascending submodule number. -/
def State.decisionsApply (s : State) : State :=
  let num (d : LdgDec) : Nat := match d with | .lambda n _ => n | .accept n _ => n | .retire n _ => n
  let due := s.ldg.decs.filter (fun d => decide (d.1 ≤ s.stepNo))
  let s := { s with ldg := { s.ldg with decs := s.ldg.decs.filter (fun d => decide (d.1 > s.stepNo)) } }
  (sortBy (fun x y => decide (num x.2 ≤ num y.2)) due).foldl (fun s d => s.applyDec d.2) s

/-- LDG_DECISION_APPLY (R223). -/
def execLdgDecisionApply (s : State) : Host.Outcome State Fault Refusal := s.live s.decisionsApply.setsBoundary

/-- The ledger at a boundary: the gaps run, decisions due are applied, held wear requests are released. -/
def State.ldgBoundary (s : State) : State :=
  let dt := dtFs s.ang.rate.toNat
  let s := { s with ldg := { s.ldg with wearT := s.ldg.wearT.map (fun (t : Option Nat) => t.map (· + dt)) } }
  let s := s.decisionsApply
  s.arms.foldl (fun s a => match s.firstWear a with
    | some n => s.wearReleaseAct n
    | none => s) s

/-! ### Retire and replace -/

/-- The retire command (R232): a wear request for a named ACTIVE submodule; false is CONFLICT. -/
def State.retireCmd (s : State) (n : Nat) : Bool × State :=
  match s.armOf n with
  | some a => if (s.sm n).set = 1 && s.readySpare a then (true, s.wearRequest n) else (false, s)
  | none => (false, s)

/-- The replacement command (R233): whether the number may be opened, and the state with it open; in MAINTAIN any number may be. -/
def State.replaceCmd (s : State) (n : Nat) : Bool × State :=
  let m := s.sm n
  let other := match s.armOf n with
    | some a => (s.sparesOf a).any (fun k => k != n && (s.sm k).ready)
    | none => false
  let ok := decide (m.repl = 0) && (decide (s.mode = .maintain) ||
    ((decide (m.set = 3) || (decide (m.set = 2) && other)) &&
      (decide (s.mode = .connected) || decide (s.mode = .island) || decide (s.mode = .ready))))
  if ok then (true, (s.quarEnd n).updSm n (fun m => { m with repl := 1, ready := false, pci := false })) else (false, s)

/-- MAINTAIN ends with ACTIVE numbers still open (R233): they pass to RETIRED and spares are promoted. -/
def State.maintainExit (s : State) : State :=
  (s.arm.sms.map (·.1)).foldl (fun s n =>
    if (s.sm n).set = 1 ∧ (s.sm n).repl ≠ 0 then s.updSm n (fun m => { m with retire := 1 }) else s) s

/-! ### Images -/

/-- LDG_IMAGE_START (R236): the live records are copied for the other slot. -/
def State.imageStart (s : State) : State :=
  if s.ldg.imgBusy.isSome then s
  else { s with ldg := { s.ldg with
    imgBusy := some { seq := s.regN Reg.LDG_IMG_SEQ + 1, recs := s.ldg.recs, crcs := [] } } }

/-- LDG_IMAGE_START (R236). -/
def execLdgImageStart (s : State) : Host.Outcome State Fault Refusal := s.live s.imageStart

/-- LDG_IMAGE_DONE (R236): the slot not holding the latest image takes the copy; a failure leaves the other intact. -/
def State.imageDone (s : State) (ok : Bool) : State :=
  match s.ldg.imgBusy with
  | none => s
  | some i =>
    let seqOf (x : Option LdgImage) : Nat := match x with | some y => if y.valid then y.seq else 0 | none => 0
    let toA := decide (seqOf s.ldg.imgA ≤ seqOf s.ldg.imgB)
    let i' := if ok then some i.sealed else none
    let s := { s with ldg := { s.ldg with
      imgBusy := none, imgA := if toA then i' else s.ldg.imgA, imgB := if toA then s.ldg.imgB else i' } }
    if ok then ((s.setReg Reg.LDG_IMG_SEQ (word i.seq)).setReg Reg.LDG_IMG_TAI_LO (word s.taiNs)).setReg
      Reg.LDG_IMG_TAI_HI (word (s.taiNs / 2 ^ 32))
    else s.setFlag Reg.LDG_FLAGS 3

/-- LDG_IMAGE_DONE (R236). -/
def execLdgImageDone (ok : Bool) (s : State) : Host.Outcome State Fault Refusal := s.live (s.imageDone ok)

/-- The ledger at start (R236): the valid slot with the higher sequence number, every record STALE. -/
def State.imageLoad (s : State) : State :=
  let v (x : Option LdgImage) : Option LdgImage := x.filter (·.valid)
  let best := match v s.ldg.imgA, v s.ldg.imgB with
    | some a, some b => some (if b.seq > a.seq then b else a)
    | some a, none => some a
    | none, b => b
  match best with
  | some i => { s with ldg := { s.ldg with recs := i.recs.map (fun p => (p.1, { p.2 with stale := true })) } }
  | none => { s with ldg := { s.ldg with recs := [] } }

end Sys2Proof.Machine
end

