-- ==== Sys2Proof/Machine/Mem.lean ====
section
/-! DEFINITION. The memory system and the clock tree apart from what resets the unit (chapter 19): SRAM words, ports and errors,
scrubber, remapping, background test, patrol of the DRAM, eMMC life; backup measurement, dividers, band table. What the
blocks keep in the memories is held as their own state; no command reads an SRAM or DRAM word by its address (log entries 60,
85). -/
namespace Sys2Proof.Machine

/-! ### Banks and remapping (R429, R433) -/

/-- Physical bank `p`. -/
def State.bank (s : State) (p : Nat) : Bank := s.mem.banks.getD p ⟨false, false, true, 0, false⟩

/-- Change physical bank `p`. -/
def State.updBank (s : State) (p : Nat) (f : Bank → Bank) : State :=
  { s with mem := { s.mem with banks := upd s.mem.banks p f } }

/-- The physical bank that holds SRAM word `w` (R429). -/
def State.physBank (s : State) (w : Nat) : Nat := s.mem.remap.getD (w % 64) (w % 64)

/-- An SRAM word as any requester reads it: the shadow line while its slice is borrowed, else its cells (R429, R437). -/
def State.sramRead (s : State) (w : Nat) : BitVec 64 :=
  if s.mem.slice = some (w / 32) then s.mem.line.getD (w % 32) 0
  else mget 0 s.mem.sram (s.physBank w * 16384 + w / 64)

/-- A word written to its cells; during a copy of its bank, to the spare's too (R433). -/
def State.cellWrite (s : State) (w : Nat) (v : BitVec 64) : State :=
  let m := mset 0 s.mem.sram (s.physBank w * 16384 + w / 64) v
  let m := match s.mem.copy with
    | some (b, q) => if b = w % 64 then mset 0 m (q * 16384 + w / 64) v else m
    | none => m
  { s with mem := { s.mem with sram := m } }

/-- A write of an SRAM word: held in the shadow line while its slice is borrowed, else made in the cells (R430, R437). -/
def State.sramWrite (s : State) (w : Nat) (v : BitVec 64) : State :=
  if s.mem.slice = some (w / 32) then { s with mem := { s.mem with line := s.mem.line.set (w % 32) v } }
  else s.cellWrite w v

/-- What a read asked for returns, from the state before any write of its clock. -/
def State.sramAnswer (s : State) (portA : Bool) (r : Option SramReq) (t : State) : State :=
  match r with
  | some ⟨w, none⟩ => t.emit (.sram portA w (s.sramRead w).toNat)
  | _ => t

/-- What a write asked for does. -/
def State.sramApply (s : State) (r : Option SramReq) : State :=
  match r with
  | some ⟨w, some v⟩ => s.sramWrite w v
  | _ => s

/-- The accesses of one clock to one bank, at most one on each port (R430, R437): reads return the old value; of two writes of one
word port A's stands, and MEM_WW_CNT counts it. -/
def State.sramClock (s : State) (a b : Option SramReq) : State :=
  let both := match a, b with
    | some ⟨w, some _⟩, some ⟨x, some _⟩ => decide (w = x)
    | _, _ => false
  (s.sramAnswer true a (s.sramAnswer false b ((s.sramApply b).sramApply a))).when both (·.bump Reg.MEM_WW_CNT)

/-- The accesses that wait at the two ports of one bank, one on each port per clock (R430). -/
def State.sramBank (s : State) (as bs : List SramReq) : State :=
  (upto (max as.length bs.length)).foldl (fun s k => s.sramClock as[k]? bs[k]?) s

/-- The waiting accesses are served, each bank on its own ports; none in retention (R430, R435; log entry 85). -/
def State.sramServe (s : State) : State :=
  if s.mem.retv || (s.mem.reqA.isEmpty && s.mem.reqB.isEmpty) then s
  else
    let at_ (l : List SramReq) (b : Nat) : List SramReq := l.filter (fun r => decide (r.word % 64 = b))
    (upto 64).foldl (fun t b => t.sramBank (at_ s.mem.reqA b) (at_ s.mem.reqB b))
      { s with mem := { s.mem with reqA := [], reqB := [] } }

/-- The words of physical bank `p` copied to bank `q` (R433). -/
def bankCopied (m : List (Nat × BitVec 64)) (p q : Nat) : List (Nat × BitVec 64) :=
  m.foldl (fun l x => if x.1 / 16384 = p then mset 0 l (q * 16384 + x.1 % 16384) x.2 else l)
    (m.filter (fun x => decide (x.1 / 16384 ≠ q)))

/-- The lowest-numbered free spare, apart from one that is being filled (R433). -/
def State.freeSpare (s : State) : Option Nat :=
  [64, 65, 66, 67].find? (fun p => !(s.bank p).inService && !(s.bank p).retired && decide (s.mem.copy.map (·.2) ≠ some p))

/-- The borrowed slice has a word in logical bank `b` (R436). -/
def State.sliceHolds (s : State) (b : Nat) : Bool :=
  match s.mem.slice with
  | some n => decide (n % 2 = b / 32)
  | none => false

/-- The logical banks whose physical bank is due for remapping. -/
def State.dueBanks (s : State) : List Nat := (upto 64).filter (fun b => (s.bank (s.mem.remap.getD b b)).due)

/-- The copier takes the next due bank, once no copy runs and no borrowed slice has a word in it; with no spare free the bank stays
in service, and NO_SPARE is set (R433). -/
def State.remapStart (s : State) : State :=
  if s.mem.copy.isSome then s
  else
    match s.freeSpare, s.dueBanks.find? (fun b => !s.sliceHolds b) with
    | some q, some b => { s with mem := { s.mem with
        copy := some (b, q), sram := bankCopied s.mem.sram (s.mem.remap.getD b b) q } }
    | none, some b => (s.updBank (s.mem.remap.getD b b) (fun x => { x with due := false })).setFlag Reg.MEM_FLAGS 3
    | _, none => s

/-- A bank becomes due for remapping (R433); with no spare free it stays in service, and NO_SPARE is set. -/
def State.bankDue (s : State) (p : Nat) : State :=
  if !s.flag Reg.MEM_CFG 0 || !(s.bank p).inService then s
  else if s.freeSpare = none then s.setFlag Reg.MEM_FLAGS 3
  else (s.updBank p (fun b => { b with due := true })).remapStart

/-- A corrected error in an SRAM word (R431, R433). -/
def State.sramCe (s : State) (w : Nat) : State :=
  let p := s.physBank w
  let s := ((s.bump Reg.MEM_SRAM_CE).setFlag Reg.MEM_FLAGS 0).updBank p (fun b => { b with ce := b.ce + 1 })
  if (s.bank p).ce ≥ s.fld Reg.MEM_REMAP_CE 0 8 then s.bankDue p else s

/-- An uncorrectable error in an SRAM word (R431, R433), apart from what its requester does. -/
def State.sramUe (s : State) (w : Nat) : State :=
  (((s.bump Reg.MEM_SRAM_UE).setReg Reg.MEM_UE_ADDR (word w)).setFlag Reg.MEM_FLAGS 1).bankDue (s.physBank w)

/-- The copy ends: the spare serves the logical bank, the old bank is retired (R433). -/
def State.remapDone (s : State) : State :=
  match s.mem.copy with
  | none => s
  | some (b, q) =>
    let p := s.mem.remap.getD b b
    let s : State := { s with mem := { s.mem with
      remap := s.mem.remap.set b q, copy := none, remaps := s.mem.remaps + 1,
      sram := s.mem.sram.filter (fun x => decide (x.1 / 16384 ≠ p)) } }
    let s := s.updBank q (fun x => { x with inService := true, retv := false })
    let s := s.updBank p (fun x => { x with inService := false, retired := true, due := false })
    ((((s.ownInc (29 + p)).ownInc (29 + q)).setFlagEach Reg.MEM_FLAGS 2 b).remapStart)

/-- REMAP_DONE (R433). -/
def execRemapDone (s : State) : Host.Outcome State Fault Refusal := s.live s.remapDone

/-- SCRUB_STEP (R432): the next word is read; `err` is a corrected (true) or uncorrectable (false) error found. The
counts restart with each pass. -/
def State.scrub (s : State) (err : Option Bool) : State :=
  let w := s.mem.scrubPos
  let s := if w = 0 then { s with mem := { s.mem with banks := s.mem.banks.map (fun b => { b with ce := 0 }) } } else s
  let s : State := { s with mem := { s.mem with scrubPos := (w + 1) % 2 ^ 20 } }
  match err with
  | none => s
  | some true => s.sramCe w
  | some false => s.sramUe w

/-- SCRUB_STEP (R432). -/
def execScrubStep (err : Option Bool) (s : State) : Host.Outcome State Fault Refusal := s.live (s.scrub err)

/-! ### Background test (R436) -/

/-- A slice cannot be borrowed while a bank that serves one of its words is being copied. -/
def State.sliceBlocked (s : State) (n : Nat) : Bool :=
  match s.mem.copy with
  | some (b, _) => decide (n % 2 = b / 32)
  | none => false

/-- The position after slice `n` in ascending order; a pass completes after the last slice. -/
def State.slicePast (s : State) (n : Nat) : State :=
  { s with mem := { s.mem with
    mtPos := (n + 1) % 32768, mtPass := if n + 1 = 32768 then s.mem.mtPass + 1 else s.mem.mtPass } }

/-- Slice `n` is borrowed: its 32 words stand in the shadow line (R436, R437). -/
def State.sliceTake (s : State) (n : Nat) : State :=
  { s with mem := { s.mem with slice := some n, line := (upto 32).map (fun k => s.sramRead (32 * n + k)) } }

/-- A slice is borrowed: a skipped slice whose copy has ended, else the next one that can be (R436). -/
def State.sliceBorrow (s : State) : State :=
  if !s.flag Reg.MEM_CFG 1 || s.mem.slice.isSome || s.mem.retv || decide (s.sys.clk < s.mem.wakeEnd) then s
  else
    match s.mem.skipped.find? (fun n => !s.sliceBlocked n) with
    | some n => ({ s with mem := { s.mem with skipped := s.mem.skipped.filter (fun k => decide (k ≠ n)) } } : State).sliceTake n
    | none =>
      let n := s.mem.mtPos
      if s.sliceBlocked n then
        let s := ({ s with mem := { s.mem with skipped := s.mem.skipped ++ [n] } } : State).slicePast n
        let m := s.mem.mtPos
        (s.sliceTake m).slicePast m
      else (s.sliceTake n).slicePast n

/-- MT_SLICE_BORROW (R436). -/
def execMtSliceBorrow (s : State) : Host.Outcome State Fault Refusal := s.live s.sliceBorrow

/-- The shadow line written back to the cells of slice `n`, every write it took among its words (R436, R437). -/
def State.lineBack (s : State) (n : Nat) : State :=
  (upto 32).foldl (fun s k => s.cellWrite (32 * n + k) (s.mem.line.getD k 0)) s

/-- The slice is returned, unless a retention has paused the test (R435); each cell that failed is counted, and its bank is due for
remapping (R436). -/
def State.sliceReturn (s : State) (fails : List Nat) : State :=
  match if s.mem.retv then none else s.mem.slice with
  | none => s
  | some n =>
    let s := ({ s with mem := { s.mem with slice := none } } : State).lineBack n
    let one_ (s : State) (k : Nat) : State :=
      ((s.bump Reg.MEM_MT_FAIL).setFlag Reg.MEM_FLAGS 4).bankDue (s.physBank (n % 2 * 32 + k))
    (fails.foldl one_ s).remapStart

/-- MT_SLICE_RETURN (R436). -/
def execMtSliceReturn (fails : List (Fin 32)) (s : State) : Host.Outcome State Fault Refusal :=
  s.live (s.sliceReturn (fails.map (·.val)))

/-! ### Retention (R435) -/

/-- The conditions of whole-SRAM retention. -/
def State.retvWanted (s : State) : Bool :=
  s.flag Reg.MEM_CFG 2 && s.pwr.warn && s.pwr.saved && !(s.isActive && s.released)

/-- Retention begins as soon as its conditions hold; it ends with POWER_WARN, and after 20 µs, 8,000 clocks, the paused
work resumes. -/
def State.retvCheck (s : State) : State :=
  if s.mem.retv then
    if s.pwr.warn then s else { s with mem := { s.mem with retv := false, wakeEnd := s.sys.clk + 8000 } }
  else if s.retvWanted then { s with mem := { s.mem with retv := true } }
  else s

/-! ### DRAM and eMMC (R438, R440) -/

/-- The live records of the newer valid image slot (R236). -/
def State.newerImage (s : State) : List (Nat × Rec) :=
  match s.ldg.imgA.filter (·.valid), s.ldg.imgB.filter (·.valid) with
  | some a, some b => if b.seq > a.seq then b.recs else a.recs
  | some a, none => a.recs
  | none, some b => b.recs
  | none, none => []

/-- A burst of the ledger is lost: its two records are reloaded from the newer image and marked STALE (R438). -/
def State.ledgerBurst (s : State) (addr : Nat) : State :=
  let img := s.newerImage
  let one_ (l : List (Nat × Rec)) (a : Nat) : List (Nat × Rec) :=
    match img.find? (fun p => decide (p.1 = a)) with
    | some p => mset Rec.empty l a { p.2 with stale := true }
    | none => mset Rec.empty l a Rec.empty
  { s with ldg := { s.ldg with recs := [addr / 64 * 2, addr / 64 * 2 + 1].foldl one_ s.ldg.recs } }

/-- A burst of the acquisition region is lost: the record that holds it is discarded, and ACQ_LOST is written (R438).
Where records lie in the region is not stated: which record, if any, is a free value (log entry 6). -/
def State.acqBurst (s : State) : State :=
  let nums := s.acq.done.map (·.num) ++ s.acq.slots.filterMap (fun x => x.cur.map (·.num))
  let d := s.draw
  match nums[d.1.toNat % (nums.length + 1)]? with
  | none => d.2
  | some m =>
    let t := d.2
    let drop (x : AcqSlot) : AcqSlot :=
      match x.cur with
      | some r => if r.num = m then { x with cur := none, st := 4 } else x
      | none => x
    let t : State := { t with acq := { t.acq with
      done := t.acq.done.filter (fun r => decide (r.num ≠ m)), slots := t.acq.slots.map drop } }
    t.logEv 3 9 0x106 (m.toNat + 2 ^ 32 * m.toNat)

/-- The hourly reading of the eMMC's life estimates (R440). -/
def State.emmcCheck (s : State) (a b eol : Nat) : State :=
  let s : State := { s with mem := { s.mem with emmcLife := a + 2 ^ 4 * b + 2 ^ 8 * eol } }
  let s := s.ownUpd 99 (fun r => { r with nsw := max a b })
  if eol = 2 then s.setFlagEach Reg.MEM_FLAGS 7 0 (some 2)
  else if eol = 3 then s.logFlag Reg.MEM_FLAGS 7 0 (some 4)
  else s

/-- EMMC_LIFE_CHECK (R440). -/
def execEmmcLifeCheck (a b : BitVec 4) (eol : BitVec 2) (s : State) : Host.Outcome State Fault Refusal :=
  s.live (s.emmcCheck a.toNat b.toNat eol.toNat)

/-! ### Clock tree (R442, R443, R445) -/

/-- The backup oscillator is measured while REF and BPLL are both locked and SYS does not run from it (R442). -/
def State.bkMeasureAct (s : State) (ppm : Word) : State :=
  if s.clk.refOk && s.clk.bkOk && s.pll 1 && !s.clk.sysOnBk then
    ({ s with clk := { s.clk with measured := some s.sys.clk } } : State).setReg Reg.CLK_BK_PPM ppm
  else s

/-- BK_MEASURE (R442). -/
def execBkMeasure (ppm : Word) (s : State) : Host.Outcome State Fault Refusal := s.live (s.bkMeasureAct ppm)

/-- A write of 1 to CLK_GO arms a transfer; outside COMMISSION it is refused (R443). -/
def State.clkGoAct (s : State) : State :=
  if s.mode = .commission then { s with clk := { s.clk with go := true } } else s

/-- CLK_GO (R443). -/
def execClkGo (s : State) : Host.Outcome State Fault Refusal := s.live s.clkGoAct

/-- Both active dividers take their shadows (R443). -/
def State.divTransfer (s : State) : State :=
  if s.clk.go then ({ s with clk := { s.clk with go := false } } : State).setReg Reg.CLK_DIV (s.reg Reg.CLK_DIV_SH) else s

/-- DIVIDER_TRANSFER (R443). -/
def execDividerTransfer (s : State) : Host.Outcome State Fault Refusal := s.live s.divTransfer

/-- BAND_REJ (R445): a PLL with an override locks on its calibrated band instead. -/
def execBandRej (n : Fin 10) (s : State) : Host.Outcome State Fault Refusal :=
  s.live (if s.flag (Reg.CLK_BANDOVRn n) 7 then s.setFlagEach Reg.CLK_FLAGS 11 n else s)

end Sys2Proof.Machine
end

