-- ==== Sys2Proof/Machine/Mode.lean ====
section
/-! DEFINITION. The mode logic (chapter 04) with the transitions of chapter 05: what a computed step is counted
towards, the automatic causes, the choice of one transition at a boundary, its effects, and the targets. -/
namespace Sys2Proof.Machine

/-- |i| of the step just computed, as pu24 (R93, R112). -/
def State.iMag (s : State) : Int := sx (toPu24 s.gfe.i.abs)

/-- A line-current input named in GFE_MAP is unsettled, absent or over-range (R95 rows 18 and 19, R112). -/
def State.lineInvalid (s : State) : Bool :=
  let i := s.fld Reg.GFE_MAP 8 5
  (upto 3).any (fun k => (s.gfe.inputs.getD (i + k) (0, true)).2)

/-- f_bus of R102 from the DELTA values behind, newest first. -/
def State.fbusOf (s : State) (ds : List Int) : Word :=
  let k := min (ds.length - 1) 64
  if ds.length < 2 then s.ang.rate
  else
    let d := (BitVec.ofInt 32 (ds.getD 0 0 - ds.getD k 0)).toInt
    let r : Int := Int.ofNat s.ang.rate.toNat
    satWord (r - divRound (d * r) (k * 2 ^ 22))

/-- The closing conditions of R104 in the step just computed. -/
def State.syncNear (s : State) : Bool :=
  let d := s.sigI 25
  let slip := Int.ofNat s.ang.rate.toNat - sx s.mo.fbus
  decide (Int.ofNat d.natAbs * 3600 ≤ Int.ofNat (s.regN Reg.MODE_SY_DMAX) * 2 ^ 32) &&
  decide (Int.ofNat slip.natAbs ≤ sx (s.reg Reg.MODE_SY_FMAX)) &&
  decide (Int.ofNat (s.sigI 26 - s.sigI 14).natAbs ≤ sx (s.reg Reg.MODE_SY_VMAX))

/-- A timer that runs while a condition holds. -/
def timer (t dt : Nat) (c : Bool) : Nat := if c then t + dt else 0

/-- The step just computed counted towards every timed condition of the mode logic (R92, R93, R99, R102, R104, R105,
R112). -/
def State.modeObserve (s : State) : State :=
  let dt := dtFs s.ang.rate.toNat
  let inv := s.gfe.invalid
  let m := s.mode
  let dead := !inv && decide (s.sigI 14 + s.sigI 15 < sx (s.reg Reg.MODE_BUS_V_DEAD))
  let live := !inv && decide (s.sigI 14 ≥ sx (s.reg Reg.MODE_BUS_V_LIVE))
  let tb := msFs (s.regN Reg.MODE_BUS_T)
  let liveT := timer s.mo.liveT dt live
  let deadT := timer s.mo.deadT dt dead
  let watch := (decide (m = .sync) || decide (m = .ready)) && !s.mo.conv
  let lim := bits s.gfe.stat 1 2 ≠ 0 || bit s.gfe.stat 4
  let cast := decide (m = .castOn)
  let ds := if m.machine then (s.sigI 25 :: s.mo.deltas).take 65 else []
  let s := { s with mo := { s.mo with
    deadT := deadT, liveT := liveT, notLiveT := timer s.mo.notLiveT dt (decide (liveT < tb)),
    dead := s.mo.dead && decide (deadT ≥ tb), live := s.mo.live && decide (liveT ≥ tb),
    ocCnt := if watch && decide (s.iMag ≥ 0x000C_CCCD) then s.mo.ocCnt + 1 else 0,
    tRun := if cast && !lim then s.mo.tRun + dt else s.mo.tRun,
    tPause := if cast && lim then s.mo.tPause + dt else s.mo.tPause,
    pauseNext := cast && lim,
    kv1 := if cast && decide (s.reg Reg.GFE_KV = 0x0100_0000) then s.mo.kv1 + 1 else 0,
    deltas := ds, fbus := s.fbusOf ds,
    syncT := if m = Mode.sync then s.mo.syncT + dt else 0,
    boT := if m = Mode.bindOff then s.mo.boT + dt else 0,
    boCnt := if decide (m = Mode.bindOff) && decide (s.iMag ≤ sx (s.reg Reg.MODE_BO_IMIN)) then s.mo.boCnt + 1 else 0 } }
  let near := decide (m = .sync) && s.syncNear
  { s with mo := { s.mo with syOkT := timer s.mo.syOkT dt near, syncOk := s.mo.syncOk && near } }

/-- The bus is dead, or live, by the timings of R92. -/
def State.busDead (s : State) : Bool := decide (s.mo.deadT ≥ msFs (s.regN Reg.MODE_BUS_T))
/-- The bus is live (R92). -/
def State.busLive (s : State) : Bool := decide (s.mo.liveT ≥ msFs (s.regN Reg.MODE_BUS_T))

/-- BUS_QUALIFIED (R92). -/
def State.busQualAct (s : State) : State := { s with mo := { s.mo with dead := s.busDead, live := s.busLive } }

/-- BRK_DISAGREE (R93): the current shows the converter breaker closed against an open report. -/
def State.brkDisagreeAct (s : State) : State :=
  if s.mo.ocCnt ≥ 8 && !s.mo.conv && (decide (s.mode = .sync) || decide (s.mode = .ready)) then
    ({ s with mo := { s.mo with conv := true, ocCnt := 0 } } : State).setFlagEach Reg.MODE_FLAGS 1
  else s

/-- Change the causes of automatic transitions. -/
def State.cause (s : State) (f : Causes → Causes) : State := { s with mo := { s.mo with causes := f s.mo.causes } }

/-- CASTON_COMPLETE (R100). -/
def State.castonDoneAct (s : State) : State :=
  if decide (s.mode = .castOn) && decide (s.mo.kv1 ≥ 1024) then s.cause (fun c => { c with castonDone := true }) else s

/-- CASTON_FAIL (R100): the pause limit is exceeded. -/
def State.castonFailAct (s : State) : State :=
  if decide (s.mode = .castOn) && decide (s.mo.tPause > msFs (1000 * s.regN Reg.MODE_CO_TPAUSE)) && decide (s.mo.kv1 < 1024) then
    (s.setFlag Reg.MODE_FLAGS 4).cause (fun c => { c with castonFail := true })
  else s

/-- SYNC_OK (R104). -/
def State.syncOkAct (s : State) : State :=
  ({ s with mo := { s.mo with syncOk := decide (s.mode = .sync) && decide (s.mo.syOkT ≥ msFs (s.regN Reg.MODE_SY_TOK)) } } : State).trigUpdate

/-- SYNC_TIMEOUT (R105). -/
def State.syncTimeoutAct (s : State) : State :=
  if decide (s.mode = .sync) && decide (s.mo.syncT ≥ msFs (1000 * s.regN Reg.MODE_SY_TMAX)) then
    s.cause (fun c => { c with syncTimeout := true }) else s

/-- The bus has not been live for MODE_BUS_T in SYNC (R95 row 11). -/
def State.syncLostAct (s : State) : State :=
  if decide (s.mode = .sync) && decide (s.mo.notLiveT ≥ msFs (s.regN Reg.MODE_BUS_T)) then
    s.cause (fun c => { c with syncLostBus := true }) else s

/-- BIND_OFF_COMPLETE (R112). -/
def State.bindOffAct (s : State) : State :=
  if decide (s.mode = .bindOff) && decide (s.mo.boCnt ≥ 1024) then s.cause (fun c => { c with boEnd := some .complete }) else s

/-- BO_TIMEOUT (R112). -/
def State.boTimeoutAct (s : State) : State :=
  if decide (s.mode = .bindOff) && decide (s.mo.boT ≥ msFs (1000 * s.regN Reg.MODE_BO_TMAX)) then
    (s.setFlag Reg.MODE_FLAGS 6).cause (fun c => { c with boEnd := some .timeout }) else s

/-- A bind-off is aborted by an invalid line current (R112). -/
def State.boAbortAct (s : State) : State :=
  if decide (s.mode = .bindOff) && s.lineInvalid then
    (s.setFlag Reg.MODE_FLAGS 8).cause (fun c => { c with boEnd := some .abort }) else s

/-- RIDE_THROUGH_ENTRY (R121). -/
def State.rtEntryAct (s : State) : State :=
  if s.rt.entryCnt ≥ 2 && (decide (s.mode = .connected) || decide (s.mode = .island)) then
    s.cause (fun c => { c with rtEntry := true }) else s

/-- RIDE_THROUGH_EXIT (R121). -/
def State.rtExitAct (s : State) : State :=
  if decide (s.mode = .rideThrough) && s.rtExitHolds then s.cause (fun c => { c with rtExit := true }) else s

/-- HOLD_EXPIRED (R132). -/
def State.holdExpAct (s : State) : State :=
  if decide (s.mode = .coast) && decide (s.rt.coastT ≥ msFs (s.regN Reg.RT_HOLD)) then
    (s.setFlag Reg.RT_FLAGS 6).cause (fun c => { c with holdExp := true }) else s

/-- REJOIN (R133): 256 consecutive valid samples. -/
def State.rejoinSeen (s : State) : State :=
  if decide (s.mode = .coast) && decide (s.rt.validCnt ≥ 256) then s.cause (fun c => { c with rejoin := true }) else s

/-- Every condition that holds at the end of the step (R95). -/
def State.modeEvents (s : State) : State :=
  s.busQualAct.brkDisagreeAct.castonDoneAct.castonFailAct.syncOkAct.syncTimeoutAct.syncLostAct.bindOffAct.boTimeoutAct.boAbortAct.rtEntryAct.rtExitAct.holdExpAct.rejoinSeen

/-! ### Conditions of commanded transitions -/

/-- The primary lanes configured (LNK_CFG.ROLE = 1). -/
def State.primCfg (s : State) : List Nat := (upto 20).filter (fun n => s.fld (Reg.LNK_CFG n) 0 2 = 1)

/-- The registers without a default whose condition holds (R8), by the register tables. -/
def State.mustWrite (s : State) : List Nat :=
  let armEn := s.flag Reg.GFE_MAP 24
  let arms := (upto 6).flatMap (fun a =>
    (if s.laneMode then [Reg.ARMa_BASE a, Reg.ARMa_N a] else []) ++
    (if s.fld (Reg.ARMa_N a) 0 11 ≥ 1 then [Reg.ARMa_C a, Reg.ARMa_VNOM a] else []) ++
    (if s.fld (Reg.ARMa_N a) 0 11 ≥ 1 ∧ s.fld Reg.ARM_CFG 2 1 = 0 then [Reg.ARMa_WRATED a] else []))
  [Reg.GFE_SBASE, Reg.GFE_VBASE, Reg.GFE_MAP, Reg.GFE_VIN_FS, Reg.GFE_IIN_FS, Reg.RT_HWC_LINE, Reg.MTR_MAP, Reg.MTR_VFS,
   Reg.MTR_IFS, Reg.MTR_UN, Reg.MTR_IN, Reg.SPS_SLF_LO, Reg.SPS_SLF_HI, Reg.SPS_PLAUS] ++
  (if armEn then [Reg.GFE_AIN_FS, Reg.RT_HWC_ARM] else []) ++
  (if s.laneMode then [] else [Reg.ARM_DCL, Reg.SPS_PWM_MASK]) ++
  (if s.flag Reg.PWM_MAIN_CFG 8 then [Reg.PWM_VDC_FS] else []) ++
  s.primCfg.map (fun n => Reg.LNK_CFG n) ++ s.primCfg.map (fun n => Reg.LNK_MAP n) ++ arms

/-- No parameter without a default is unwritten, and every primary lane's map is nonempty (R8, R217). -/
def State.allWritten (s : State) : Bool :=
  s.mustWrite.all (fun a => s.sys.marks.contains a) && s.primCfg.all (fun n => decide (s.reg (Reg.LNK_MAP n) ≠ 0))

/-- A concentrator reaches only one unit (R22). -/
def State.anySingle (s : State) : Bool := s.lnk.lanes.any (fun l => l.singleHomed)

/-- The arm configuration is complete (R136). -/
def State.armsComplete (s : State) : Bool :=
  if !s.laneMode then true
  else if s.topo = 0 then (upto 6).all (fun a => decide (s.fld (Reg.ARMa_N a) 0 11 ≥ 1))
  else [3, 4, 5].all (fun a => decide (s.fld (Reg.ARMa_N a) 0 11 = 0) && decide (s.armK a = 0)) &&
    [0, 1, 2].all (fun a => s.flag (Reg.ARMa_SMCFG a) 0) && (decide (s.topo ≠ 2) || s.flag Reg.GFE_MAP 24)

/-- The conditions of row 1 in its order (R95). -/
def State.row1 (s : State) : List Bool :=
  [decide (s.saf.arch ≠ .fault), s.allWritten, s.setValid, !s.anySingle, !s.laneMode || s.unmappedSms.isEmpty, s.armsComplete]

/-- Rows of commanded transitions: row number and conditions; a condition marked true is SH_QUAL (R95, R97). -/
def State.cmdRow (s : State) (dest : Mode) : Option (Nat × List (Bool × Bool)) :=
  let plain (l : List Bool) : List (Bool × Bool) := l.map (fun b => (b, false))
  match s.mode, dest with
  | .commission, .ready => some (4, plain s.row1)
  | .ready, .commission => some (5, [])
  | .ready, .castOn => some (6, [(s.arm.prechOk, false), (s.saf.shQual, true), (s.mo.conv, false), (!s.mo.tie, false), (s.busDead, false)])
  | .ready, .sync => some (7, [(s.arm.prechOk, false), (s.saf.shQual, true), (!s.mo.conv, false), (s.busLive, false)])
  | .castOn, .ready => some (9, [])
  | .sync, .ready => some (11, [])
  | .connected, .bindOff => some (21, [])
  | .island, .bindOff => some (21, [])
  | .safeStop, .ready => some (26, plain [s.saf.resetOk])
  | .safeStop, .commission => some (27, plain [s.saf.resetOk])
  | .ready, .maintain => some (28, [])
  | .maintain, .ready => some (29, [])
  | _, _ => none

/-- A latched SPB forbids an entry to CAST_ON or SYNC (R369). -/
def State.spbBars (s : State) (dest : Mode) : Bool := s.saf.spb && (decide (dest = .castOn) || decide (dest = .sync))

/-- The verdict on a mode command (R97): none when it may pass, else whether the status is SAFETY_BLOCKED and the
reply's byte, when there is one. -/
def State.cmdVerdict (s : State) (dest : Mode) : Option (Bool × Option Nat) :=
  match s.cmdRow dest with
  | none => some (false, none)
  | some (_, cs) =>
    let bad := cs.filter (fun c => !c.1)
    if bad.isEmpty then (if s.spbBars dest then some (true, some 0) else none)
    else some (bad.all (fun c => c.2), some ((cs.takeWhile (fun c => c.1)).length + 1))

/-! ### The choice of a transition -/

/-- Connected or island by the tie breaker (R95 rows 8 and 10). -/
def State.byTie (s : State) : Mode := if s.mo.tie then .connected else .island

/-- The automatic transitions whose conditions hold (R95): row, rank of R96, mode. `conv0` and `tie0` are the breaker
positions before the reports of this boundary. -/
def State.autoRows (s : State) (conv0 tie0 : Bool) : List (Nat × Nat × Mode) :=
  let c := s.mo.causes
  let inv := s.gfe.invalid
  let m := s.mode
  let home : Mode := s.mo.origin.getD .island
  let spb := if s.saf.spb && decide (m ≠ .init) && decide (m ≠ .safeStop) then [(25, 1, Mode.safeStop)] else []
  let ssr := if s.saf.ssrPend && m.machine && decide (m ≠ .bindOff) then [(22, 2, Mode.bindOff)] else []
  let reopen : List (Nat × Nat × Mode) := if conv0 then [] else
    [(20, 5, if s.flag Reg.MODE_CFG 1 && s.busLive then Mode.sync else Mode.ready)]
  let coast : List (Nat × Nat × Mode) := if inv then [(16, 3, Mode.coast)] else []
  let own : List (Nat × Nat × Mode) := match m with
    | .castOn => (if inv then [(9, 3, Mode.ready)] else []) ++ (if c.castonDone then [(8, 6, s.byTie)] else []) ++
        (if c.castonFail then [(9, 6, Mode.ready)] else [])
    | .sync => (if inv then [(11, 3, Mode.ready)] else []) ++ (if s.mo.conv then [(10, 5, s.byTie)] else []) ++
        (if c.syncLostBus then [(11, 5, Mode.ready)] else []) ++ (if c.syncTimeout then [(11, 6, Mode.ready)] else [])
    | .connected => coast ++ (if c.rtEntry then [(14, 4, Mode.rideThrough)] else []) ++
        (if tie0 then [] else [(12, 5, Mode.island)]) ++ reopen
    | .island => coast ++ (if c.rtEntry then [(14, 4, Mode.rideThrough)] else []) ++
        (if tie0 then [(13, 5, Mode.connected)] else []) ++ reopen
    | .rideThrough => coast ++ (if c.rtExit then [(15, 4, home)] else []) ++ reopen
    | .coast => (if c.holdExp then (if s.lineInvalid then [(19, 1, Mode.safeStop)] else [(18, 3, Mode.bindOff)]) else []) ++
        (if c.rejoin then [(17, 4, if s.rt.fromRt && !s.rtExitHolds then Mode.rideThrough else home)] else [])
    | .bindOff => if c.boEnd.isSome then [if s.mo.ssr then (24, 1, Mode.safeStop) else (23, 6, Mode.ready)] else []
    | _ => []
  spb ++ ssr ++ own

/-- The transition of the highest rank, the lowest row where ranks are equal (R96). -/
def bestRow (l : List (Nat × Nat × Mode)) : Option (Nat × Nat × Mode) :=
  (sortBy (fun a b => decide ([a.2.1, a.1] ≤ [b.2.1, b.1])) l).head?

/-- The transition of this boundary: automatic ones, and the commanded one at rank 7 (R96). A unit in STANDBY or
SYNCING makes none of its own (R90). -/
def State.chooseRow (s : State) (conv0 tie0 : Bool) (cmd : Option (Nat × Mode)) : Option (Nat × Nat × Mode) :=
  if s.shadowing then none
  else bestRow (s.autoRows conv0 tie0 ++ (match cmd with | some (r, m) => [(r, 7, m)] | none => []))

/-! ### The effects of a transition -/

/-- ORIGIN after a transition (R98): the mode left, whatever is reported at that boundary (log entry 92). -/
def originOf (o : Option Mode) (frm dest : Mode) : Option Mode :=
  if dest = .rideThrough ∨ dest = .coast then
    (if frm = .connected then some .connected else if frm = .island then some .island else o)
  else none

/-- The P, Q, V and F targets set to the ramped setpoints (R111, R122). -/
def State.freezeTargets (s : State) (f : Bool) : State :=
  let s := ((s.setReg Reg.GFE_P_TGT (toPu24 s.gfe.pr)).setReg Reg.GFE_Q_TGT (toPu24 s.gfe.qr)).setReg Reg.GFE_V_TGT (toPu24 s.gfe.vr)
  if f then s.setReg Reg.GFE_F_TGT (satWord (divRound (s.gfe.fr * Int.ofNat s.fnom) (2 ^ 40))) else s

/-- The fault term of the impedance gain and the injection gain at a transition (R123, R124). The count of the entry condition
goes on between CONNECTED and ISLAND (R121). -/
def State.rtTrans (s : State) (frm dest : Mode) : State :=
  let n := if s.mo.origin = some .island then 1 else 0
  let ends := decide (dest = .connected) || decide (dest = .island)
  let fault := decide (frm = .rideThrough) || (decide (frm = .coast) && s.rt.fromRt)
  if dest = .rideThrough ∧ frm ≠ .coast then
    let s := { s with rt := { s.rt with kzFt := pu (s.reg (Reg.RTSn_KZ n)), entryCnt := 0, exitT := 0, fromRt := false } }
    s.setReg Reg.GFE_KN (if s.flag (Reg.RTSn_CFG n) 2 then s.reg (Reg.RTSn_KN n) else 0)
  else if dest = .coast then
    { s with rt := { s.rt with coastT := 0, validCnt := 0, fromRt := decide (frm = .rideThrough) } }
  else if dest = .rideThrough then { s with rt := { s.rt with fromRt := false, entryCnt := 0 } }
  else
    let s := if fault && ends then
        { s with rt := { s.rt with recRun := true, rec0 := s.rt.kzFt, recT := 0 } } else s
    let keep := (decide (frm = .connected) || decide (frm = .island)) && ends
    (({ s with rt := { s.rt with kzFt := one, entryCnt := if keep then s.rt.entryCnt else 0, exitT := 0, fromRt := false } } : State).setReg
      Reg.GFE_KN 0)

/-- The mode logic's own state on entering a mode (R86, R95); the count of R93 starts anew (log entry 91). -/
def State.enterFields (s : State) (frm dest : Mode) (ssr : Bool) : State :=
  { s with mo := { s.mo with
    mode := dest, origin := originOf s.mo.origin frm dest, causes := Causes.none0, syncOk := false, syOkT := 0, syncT := 0, boT := 0,
    boCnt := 0, ssr := ssr, stall := false, pause := false, pauseNext := false, kv1 := 0, ocCnt := 0,
    tRun := if dest = .castOn then 0 else s.mo.tRun, tPause := if dest = .castOn then 0 else s.mo.tPause,
    notLiveT := 0, deltas := if frm.machine then s.mo.deltas else [] } }

/-- Ride-through, gains and targets on entering a mode (R98, R99, R114). -/
def State.enterTargets (s : State) (frm dest : Mode) : State :=
  let s := s.rtTrans frm dest
  let s := (s.setReg Reg.GFE_KV (if dest = .castOn then 0 else 0x0100_0000)).setReg Reg.GFE_WSY 0
  let s := s.when (decide (dest = .castOn)) (fun s => { s with ang := { s.ang with castonRow := s.ang.row } })
  s.when ((decide (dest = .rideThrough) || decide (dest = .coast)) && (decide (frm = .connected) || decide (frm = .island)))
    (fun s => s.freezeTargets true)

/-- The flags of a transition (R95, R98, R99, R105). -/
def State.enterFlags (s : State) (row rank : Nat) (inv timeout wasOk : Bool) : State :=
  let s := s.when (decide (row = 9) && decide (rank = 3) && inv) (fun s => s.setFlag Reg.MODE_FLAGS 5)
  let s := s.when (decide (row = 11) && decide (rank = 5)) (fun s => s.setFlag Reg.MODE_FLAGS 3)
  let s := s.when (decide (row = 11) && decide (rank = 6) && timeout) (fun s => s.setFlag Reg.MODE_FLAGS 2)
  s.when (decide (row = 10) && !wasOk) (fun s => s.setFlag Reg.MODE_FLAGS 0)

/-- MODE_ENTRY for an entry at the present boundary (R107). -/
def State.entryWord (s : State) : Word := word (s.step10 + (s.ang.row.toNat % 2 ^ 22) * 1024)

/-- MODE_ENTRY, MODE_TRANS_CNT and the MODE entry of a transition (R95, R420). -/
def State.enterNote (s : State) (row rank : Nat) (frm dest : Mode) : State :=
  let s := (s.setReg Reg.MODE_ENTRY s.entryWord).bump Reg.MODE_TRANS_CNT
  s.logEv 0 0 0x101 (frm.code + dest.code * 2 ^ 8 + row * 2 ^ 16 + rank * 2 ^ 24)

/-- What SAF and the ledger do at a transition (R95, R378). -/
def State.enterSaf (s : State) (row : Nat) (frm dest : Mode) : State :=
  let s := s.when (decide (row = 22)) (fun s => { s with saf := { s.saf with ssrPend := false, ssrT := some 0 } })
  let s := s.when (decide (row = 24)) (fun s => ({ s with saf := { s.saf with ssrT := none } } : State).spbDemand 11)
  let s := s.when (decide (dest = .safeStop) || (decide (frm = .bindOff) && decide (dest = .ready)))
    (fun s => { s with saf := { s.saf with ssrT := none, ssr := false, ssrPend := false } })
  let s := s.when (decide (frm = .safeStop)) (fun s => { s with saf := { s.saf with resetOk := false } })
  s.when (decide (frm = .maintain)) (fun s => s.maintainExit)

/-- A transition takes effect (R95, R98, R99, R105, R114, R378): mode, origin, timers, flags, counters, log. -/
def State.enterMode (s : State) (row rank : Nat) (dest : Mode) : State :=
  let frm := s.mode
  let wasOk := s.mo.syncOk
  let timeout := s.mo.causes.syncTimeout
  let inv := s.gfe.invalid
  let s := s.when (decide (row = 17)) (fun s => s.rejoinAct)
  let s := ((s.enterFields frm dest (decide (row = 22))).enterTargets frm dest).enterFlags row rank inv timeout wasOk
  ((s.enterNote row rank frm dest).enterSaf row frm dest).safSettle.trigUpdate

/-- SS-R demanded in BIND_OFF: the running bind-off continues under SS-R from this boundary (R378). -/
def State.ssrInBindOff (s : State) : State :=
  if decide (s.mode = .bindOff) && s.saf.ssrPend then
    { s with mo := { s.mo with ssr := true }, saf := { s.saf with ssrPend := false, ssrT := some 0 } }
  else s

/-- A breaker report takes effect (R93, R98); with one of CONV the count of R93 starts anew (log entry 91). -/
def State.brkApply (s : State) (conv tie : Option Bool) : State :=
  let s := match conv with
    | some c => { s with mo := { s.mo with conv := c, ocCnt := 0 } }
    | none => s
  match tie with
  | some t =>
    let o := if s.mode = .rideThrough ∨ s.mode = .coast then some (if t then Mode.connected else Mode.island) else s.mo.origin
    { s with mo := { s.mo with tie := t, origin := o } }
  | none => s

/-! ### Targets and mode inputs -/

/-- Modes in which the host's setpoints are in force (R86). -/
def hostForce (m : Mode) : Bool :=
  match m with
  | .castOn | .connected | .island => true
  | _ => false

/-- The host's stored targets in force (R87). -/
def State.hostTargets (s : State) : State :=
  (((s.setReg Reg.GFE_P_TGT (s.reg Reg.MODE_HOST_P)).setReg Reg.GFE_Q_TGT (s.reg Reg.MODE_HOST_Q)).setReg
    Reg.GFE_V_TGT (s.reg Reg.MODE_HOST_V)).setReg Reg.GFE_F_TGT (s.reg Reg.MODE_HOST_F)

/-- SYNC (R103). -/
def State.syncTargets (s : State) : State :=
  let s := (((s.setReg Reg.GFE_P_TGT 0).setReg Reg.GFE_Q_TGT 0).setReg Reg.GFE_V_TGT (s.gfe.sig.getD 14 0)).setReg Reg.GFE_F_TGT s.mo.fbus
  let rate := s.ang.rate.toNat
  -- δ in radians at 2^-40: DELTA × 2π / 2^32
  let d := rnd (s.sigI 25 * Int.ofNat twoPi64) (2 ^ 56)
  let pm := pu (s.reg Reg.MODE_SY_PMAX)
  let p := clampI (-(qmul (pu (s.reg Reg.MODE_SY_KSY)) d)) (-pm) pm
  -- p × dt / (2H) × f_nom: dt = 2^14 / rate s, H in ms
  s.setReg Reg.GFE_WSY (satWord (divRound (p * 2 ^ 14 * 1000 * Int.ofNat s.fnom) (rate * 2 * max 1 (s.regN Reg.GFE_H) * 2 ^ 40)))

/-- BIND_OFF (R110, R111). -/
def State.boTargets (s : State) : State :=
  let fd := s.fDev
  let vd : Int := Int.ofNat (s.sigI 14 - 0x0100_0000).natAbs
  let lf := sx (s.reg Reg.MODE_BO_FDEV)
  let lv := sx (s.reg Reg.MODE_BO_VDEV)
  let beyond := decide (fd > lf) || decide (vd > lv)
  let back := decide (2 * fd < lf) && decide (2 * vd < lv)
  let s := s.setReg Reg.GFE_F_TGT (s.reg Reg.MODE_HOST_F)
  if s.mo.stall && !back then s
  else if beyond then
    (({ s with mo := { s.mo with stall := true } } : State).freezeTargets false).setFlag Reg.MODE_FLAGS 7
  else
    let s := { s with mo := { s.mo with stall := false } }
    let w := rnd (Int.ofNat s.ang.rate.toNat * 2 ^ 40) s.fnom
    let lim := pu 0x0133_3333
    let p := clampI (rndQ (-(s.gfe.fr - w) * 10000) (s.regN Reg.GFE_MP)) (-lim) lim
    ((s.setReg Reg.GFE_P_TGT (toPu24 p)).setReg Reg.GFE_Q_TGT 0).setReg Reg.GFE_V_TGT (s.gfe.sig.getD 14 0)

/-- GFE_KV during a cast-on (R99). -/
def State.kvWrite (s : State) : State :=
  if s.mode = .castOn then
    s.setReg Reg.GFE_KV (toPu24 (min one (rndQ (Int.ofNat s.mo.tRun * 2 ^ 40) (msFs (s.regN Reg.MODE_CO_TRAMP)))))
  else s

/-- The targets and mode inputs of the step that begins, under the mode in force (R82, R86, R99, R103, R110, R124). -/
def State.modeTargets (s : State) : State :=
  let s := if hostForce s.mode then s.hostTargets
    else if s.mode = Mode.sync then s.syncTargets
    else if s.mode = Mode.bindOff then s.boTargets
    else s
  let s := { s with mo := { s.mo with pause := s.mo.pauseNext && decide (s.mode = Mode.castOn), pauseNext := false } }
  s.kvWrite.ftInputs.kzEnd.kzWrite

/-! ### The rows of the mode logic -/

/-- BUS_QUALIFIED (R92). -/
def execBusQualified (s : State) : Host.Outcome State Fault Refusal := s.live s.busQualAct
/-- BRK_DISAGREE (R93). -/
def execBrkDisagree (s : State) : Host.Outcome State Fault Refusal := s.live s.brkDisagreeAct
/-- CASTON_COMPLETE (R100): row 8 at the next boundary. -/
def execCastonComplete (s : State) : Host.Outcome State Fault Refusal := s.live s.castonDoneAct
/-- CASTON_FAIL (R100). -/
def execCastonFail (s : State) : Host.Outcome State Fault Refusal := s.live s.castonFailAct
/-- SYNC_OK (R104). -/
def execSyncOk (s : State) : Host.Outcome State Fault Refusal := s.live s.syncOkAct
/-- SYNC_TIMEOUT (R105): row 11 at the next boundary. -/
def execSyncTimeout (s : State) : Host.Outcome State Fault Refusal := s.live s.syncTimeoutAct
/-- BIND_OFF_COMPLETE (R112). -/
def execBindOffComplete (s : State) : Host.Outcome State Fault Refusal := s.live s.bindOffAct
/-- BO_TIMEOUT (R112). -/
def execBoTimeout (s : State) : Host.Outcome State Fault Refusal := s.live s.boTimeoutAct
/-- RIDE_THROUGH_ENTRY (R121): row 14 at the next boundary. -/
def execRideThroughEntry (s : State) : Host.Outcome State Fault Refusal := s.live s.rtEntryAct
/-- RIDE_THROUGH_EXIT (R121): row 15 at the next boundary. -/
def execRideThroughExit (s : State) : Host.Outcome State Fault Refusal := s.live s.rtExitAct
/-- HOLD_EXPIRED (R132): row 18 or 19 at the next boundary. -/
def execHoldExpired (s : State) : Host.Outcome State Fault Refusal := s.live s.holdExpAct
/-- REJOIN (R133): row 17 at the next boundary. -/
def execRejoin (s : State) : Host.Outcome State Fault Refusal := s.live s.rejoinSeen

end Sys2Proof.Machine
end

