-- ==== Sys2Proof/Machine/Pair.lean ====
section
/-! DEFINITION. The pair controller (chapter 15): heartbeats, the loss of the partner, takeover, handover, shadow
records, qualification, and the change of a unit's role. -/
namespace Sys2Proof.Machine

/-! ### Roles -/

/-- A change of role with its effects (R260, R305, R351): a unit that leaves ACTIVE loses its remote captures. -/
def State.toRole (s : State) (r : Role) : State :=
  let was := s.isActive
  let s := s.setRole r
  let s := if was && decide (r ≠ Role.active) then s.remLoseActive else s
  s.safSettle

/-- The modes a unit may hold in ISOLATED (R89). -/
def Mode.isolated (m : Mode) : Bool := [Mode.init, .commission, .ready, .safeStop, .maintain].contains m

/-- A unit that has come to ISOLATED in a mode that role does not have passes to READY at the boundary (R89, R95, log entry 78). -/
def State.isolatedReady (s : State) : State :=
  if s.role = Role.isolated ∧ Mode.isolated s.mode = false then s.enterMode 0 0 .ready else s

/-- SYNCING is entered (R350, R353, R359, R361): the angle awaits its acquisition load, the transfer begins anew. -/
def State.toSyncing (s : State) : State :=
  let s := s.toRole Role.syncing
  let s := { s with pair := { s.pair with
    isolated := false, qual := false, xferOn := false, xferAdopt := false, ho := none,
    hoCommit := none, hoWant := none, detect := none, waitLone := false, qsteps := 0, coreSeen := false, xferRecs := [] } }
  (s.setReg Reg.PAIR_XFER 0).angDiscipline true

/-- The unit becomes ACTIVE with epoch E + 1, stored in MRAM (R351, R355). -/
def State.toActive (s : State) : State :=
  let e := s.pair.epoch + 1
  let s := { s with pair := { s.pair with
    epoch := e, epochMax := e, qual := false, detect := none, hoCommit := none, waitLone := false, isolated := false } }
  let s := s.toRole Role.active
  -- R208, R426: the new active audits each route before its first bulk block
  let s := s.primaries.foldl (fun s p => if (s.assoc p).route.isSome then s.startAudit p else s) s
  -- log entry 99: the idle times and gaps of the sessions count from here
  let c := s.cmd.core
  let sess := c.sess.map (fun x => { x with lastClk := s.sys.clk, heldClk := x.heldClk.map (fun _ => s.sys.clk) })
  { s with pwm := { s.pwm with ctrs := s.pwm.ctrs.map (fun c => { c with shWritten := true }) },
           cmd := { s.cmd with core := { c with sess := sess } } }

/-- A newer epoch seen in a heartbeat, a mark or a WITNESS is kept (R359). -/
def State.sawEpoch (s : State) (e : BitVec 16) : State :=
  if epochNewer e s.pair.epochMax then { s with pair := { s.pair with epochMax := e } } else s

/-- The unit holds ISOLATED by R336, R338 or R361. -/
def State.heldOut (s : State) : Bool :=
  s.pair.clash || s.pair.meterClash || s.pair.version || s.pair.out || s.sec.debug

/-- A newer epoch elsewhere stops an ACTIVE unit (R353). -/
def State.demote (s : State) : State :=
  let s := s.setFlag Reg.PAIR_FLAGS 7
  if s.pathUp false || s.pathUp true then s.toSyncing
  else
    let s := s.toRole Role.isolated
    if s.mode = .ready then s else s.enterMode 0 0 .ready

/-! ### Heartbeats and paths -/

/-- A block sent on both paths that are in LINK_UP. -/
def State.pairBoth (s : State) (name : String) (f : List Nat) : State :=
  [false, true].foldl (fun s b => if s.pathUp b then s.txPair b name f else s) s

/-- The fields of the own heartbeat (R340). -/
def State.hbFields (s : State) : List Nat :=
  [b2n s.unitB, (if s.mode = .init then 3 else s.role.code), b2n s.pair.qual, b2n s.hoOk, b2n s.pair.hoCommit.isSome,
   b2n s.pwr.warn, b2n s.pair.isolated, s.pair.epoch.toNat, s.mode.code, s.step10, s.pair.hseq % 64, s.pair.ver]

/-- HEARTBEAT_SEND (R339, R340): none in the silence of a proof (R363). -/
def State.hbSend (s : State) : State :=
  if !s.paired || s.pair.silence then s
  else
    let s := s.pairBoth "HEARTBEAT" s.hbFields
    { s with pair := { s.pair with hseq := (s.pair.hseq + 1) % 64 } }

/-- HEARTBEAT_SEND (R339). -/
def execHeartbeatSend (s : State) : Host.Outcome State Fault Refusal := s.live s.hbSend

/-- The partner's version judged (R338). -/
def State.hbVersion (s : State) (v : Nat) : State :=
  let ok := decide (v ≥ s.pair.oldVer)
  if ok then { s with pair := { s.pair with version := false } }
  else if s.pair.version then s
  else
    let s := { s with pair := { s.pair with version := true } }
    if s.isActive then s.setFlagEach Reg.PAIR_FLAGS 9 else (s.setFlag Reg.PAIR_FLAGS 9).toRole Role.isolated

/-- What a role does with a heartbeat (R350, R353, R359). -/
def State.hbRole (s : State) (h : Heartbeat) : State :=
  match s.role with
  | .active =>
    if h.role = Role.active ∧ epochNewer h.epoch s.pair.epoch then s.demote
    else if s.pair.isolated && h.qual then { s with pair := { s.pair with isolated := false } }
    else s
  | .standby => if s.pair.isolated then s.toSyncing else s
  | .syncing => s
  | .isolated => if h.role = Role.active ∧ !s.heldOut ∧ s.mode ≠ Mode.init then s.toSyncing else s

/-- HO_ACK taken by the active up to ac 1000 of step T − 1 (R355). -/
def State.hbAck (s : State) (h : Heartbeat) : State :=
  match s.pair.ho with
  | some x =>
    if s.isActive && h.hoAck && decide (s.stepNo + 1 = x.target) && decide (s.ac ≤ 1000) then
      { s with pair := { s.pair with ho := some { x with acked := true } } }
    else s
  | none => s

/-- HEARTBEAT_RX (R340, R347, R348). -/
def State.hbRx (s : State) (path : Bool) (h : Heartbeat) : State :=
  if !s.paired then s
  else
    let t := s.sys.clk
    let hold := if h.hoOk then (if s.pair.okT = 0 then t + 1 else s.pair.okT) else 0
    let s := { s with pair := { s.pair with
      paths := upd s.pair.paths (b2n path) (fun p => { p with last := some t, silent := false })
      hb := some h, lastHb := t, detect := none, decided := false, qualHb := s.pair.qual, startT := t, okT := hold } }
    let s := (s.sawEpoch h.epoch).hbVersion h.ver.toNat
    (s.hbRole h).hbAck h

/-- HEARTBEAT_RX (R340). -/
def execHeartbeatRx (path : Bool) (h : Heartbeat) (s : State) : Host.Outcome State Fault Refusal :=
  s.live ((s.linkBlock (20 + b2n path)).hbRx path h)

/-- The partner is lost (R348, R350): the detection at a standby, PAIR_ISOLATED at an active. -/
def State.partnerLost (s : State) : State :=
  match s.role with
  | .standby =>
    { s with pair := { s.pair with detect := some s.sys.clk, decided := false, detStep := s.step10, detWin := s.ac / 128 } }
  | .active => ({ s with pair := { s.pair with isolated := true, xferOn := false } } : State).setFlag Reg.PAIR_FLAGS 1
  | .syncing => ({ s with pair := { s.pair with xferAdopt := false } } : State).setReg Reg.PAIR_XFER 0
  | .isolated => s

/-- A path falls silent (R348): 6.00 µs since its last heartbeat. -/
def State.silentPath (s : State) (b : Bool) : State :=
  match s.pair.paths.getD (b2n b) ⟨none, true, none⟩ with
  | ⟨some t, false, _⟩ => s.atDue (t + 2400) (fun s =>
    let other := (s.pair.paths.getD (b2n (!b)) ⟨none, true, none⟩).silent
    let s := { s with pair := { s.pair with paths := upd s.pair.paths (b2n b) (fun p => { p with silent := true }) } }
    let s := (s.bump Reg.PAIR_PATH_CNT).setFlagEach Reg.PAIR_FLAGS 4 (b2n b) (some (if other then 0 else 1))
    if other then s.partnerLost else s)
  | _ => s

/-! ### The witness and the takeover -/

/-- The report of a configured concentrator for the window of the detection (R349): whether the partner is present. -/
def State.witnessOf (s : State) (p : Nat) : Option Bool :=
  ((s.lanesOf p).filterMap (fun n => match (s.lane n).wit with
    | some w =>
      if w.step = s.pair.detStep ∧ w.win = s.pair.detWin then some (if s.unitB then w.presA else w.presB) else none
    | none => none)).head?

/-- R424: commands journalled without an outcome complete with NO_RESPONSE, without being executed; accepted
commands whose boundary is still to come keep their place. -/
def State.resolveJournal (s : State) : State :=
  let open_ := s.cmd.core.jrn.filter (fun j => j.outcome.isNone && !j.accepted)
  let s := { s with cmd := { s.cmd with core := { s.cmd.core with
    jrn := s.cmd.core.jrn.map (fun j => if j.outcome.isNone && !j.accepted then ({ j with outcome := some 0x0201 } : Jrn).sealed else j)
    sess := s.cmd.core.sess.map (fun x =>
      open_.foldl (fun x j => if j.session = x.num then
        { x with cache := ({ seq := j.seq, opcode := j.opcode, status := 0x0201, data := [], resends := 0 } : Cached) ::
                   x.cache.filter (fun c => c.seq != j.seq) }
        else x) x) } } }
  open_.foldl (fun s j => s.logEv 3 0 0x0104 (ofLe (j.serial.take 8) + j.seq.toNat * 2 ^ 64 + j.opcode * 2 ^ 96)) s

/-- The step in progress dispatched at a takeover (R351): at ARM completion, at once, or out of slot. -/
def State.takeoverDispatch (s : State) : State :=
  if !s.pipe.armDone then s
  else
    let oos := decide (s.ac ≥ 800)
    s.cycLanes.foldl (fun s n => s.sendRegion n (s.prim n) oos) s

/-- ns from the decision to the last slot leaving (PAIR_TKO_DISP): a lane's slots take 12.8 ns each and the header
6.4 ns. -/
def State.dispatchNs (s : State) : Nat :=
  let k := (s.primaries.map s.mapN).foldl max 0
  let wait := if s.pipe.armDone then 0 else (s.sys.bclk + s.armClk - s.sys.clk) * 5 / 2
  wait + (2 * k + 1) * 64 / 10

/-- The restrictions in force, sent again by the unit that has become ACTIVE (R119, R351). -/
def State.resendRestr (s : State) : State :=
  (upto 6).foldl (fun s a => match s.rt.restr.getD a none with
    | some neg => s.sendRestrict true neg a
    | none => s) s

/-- A proof takeover begins: no submodule has confirmed yet (R363). -/
def State.proofClear (s : State) : State :=
  { s with arm := { s.arm with sms := s.arm.sms.map (fun p => (p.1, { p.2 with proofOk := false })) } }

/-- An SS-R demand that a takeover finds (R376): with pulses blocked it is SPB's; released, the stop begins anew at the boundary. -/
def State.takeSsr (s : State) : State :=
  if s.saf.ssr && !s.saf.spb then
    if !s.released then s.spbDemand 7
    else if s.saf.ssrT.isNone then { s with saf := { s.saf with ssrPend := true } } else s
  else s

/-- The takeover at the decision edge (R351, R376). -/
def State.takeover (s : State) : State :=
  let det := (s.sys.clk - s.pair.lastHb) * 5 / 2
  let proof := decide (s.mode = .maintain)
  let s := s.toActive.proofClear
  let s := { s with pair := { s.pair with
    proofSteps := if proof then some 0 else none, proofDir := s.unitB, isolated := false } }
  let s := (s.setReg Reg.PAIR_TKO_DET (word det)).setReg Reg.PAIR_TKO_DISP (word s.dispatchNs)
  let s := ((s.takeoverDispatch.resendRestr.snapTakeover).bump Reg.PAIR_TKO_CNT).setFlagEach Reg.PAIR_FLAGS 0
  s.takeSsr.resolveJournal.safSettle

/-- The decision on the reports that are in (R349, R350). -/
def State.witnessJudge (s : State) : State :=
  let l := s.primaries.map s.witnessOf
  let pres := (l.filter (fun o => o == some true)).length
  let abs := (l.filter (fun o => o == some false)).length
  let none_ := (l.filter (fun o => o == none)).length
  let s := s.setReg Reg.PAIR_WIT (word (l.length + pres * 2 ^ 8 + abs * 2 ^ 16 + none_ * 2 ^ 24))
  let s := { s with pair := { s.pair with decided := true } }
  if s.pair.hoCommit.isSome then s
  else if s.pair.qualHb && decide (2 * abs > l.length) then s.takeover
  else ({ s with pair := { s.pair with isolated := true, qual := false } } : State).setFlag Reg.PAIR_FLAGS 1

/-- WITNESS_DECISION (R349): when every report is in, or 4.00 µs after the detection. -/
def State.witnessDecide (s : State) : State :=
  match s.role, s.pair.detect with
  | .standby, some t =>
    if s.pair.decided then s
    else if s.primaries.any (fun p => (s.witnessOf p).isNone) then s.atDue (t + 1600) State.witnessJudge
    else s.witnessJudge
  | _, _ => s

/-- WITNESS_DECISION (R350). -/
def execWitnessDecision (s : State) : Host.Outcome State Fault Refusal := s.live s.witnessDecide

/-- WITNESS_RX (R213, R353, R359, R363). -/
def State.witnessSeen (s : State) (n : Nat) (w : Wit) : State :=
  let s := s.updLane n (fun l => { l with wit := some w })
  let s := if w.valid then s.sawEpoch w.epoch else s
  let s := if w.presA || (w.valid && !w.owner) then { s with pair := { s.pair with startT := s.sys.clk } } else s
  if s.isActive && s.paired && w.valid && epochNewer w.epoch s.pair.epoch then s.demote else s

/-- WITNESS_RX (R213). -/
def execWitnessRx (lane : Fin 20) (presA presB owner ownValid : Bool) (epoch : BitVec 16) (win : Fin 8) (step : Fin 1024)
    (s : State) : Host.Outcome State Fault Refusal :=
  s.live ((s.linkBlock lane).witnessSeen lane ⟨presA, presB, owner, ownValid, epoch, win, step, s.sys.clk⟩)

/-! ### Sample, reach, marks -/

/-- SAMPLE_RX (R341, R344): kept for the unit's own step when it is complete by 1.60 µs after the own boundary. -/
def State.sampleSeen (s : State) (row step : Nat) (l : List Word) : State :=
  if s.shadowing && decide (step = s.step10) && decide (row = s.ang.row.toNat % 2 ^ 22) && decide (l.length = s.mapInputs.length)
      && decide (s.sys.clk ≤ s.sys.bclk + 640) && !s.gfe.done then
    { s with pair := { s.pair with sample := some (s.stepNo, l.map (fun w => (val24 w, bit w 7 || bit w 5))) } }
  else s

/-- SAMPLE_RX (R344). -/
def execSampleRx (_unitB : Bool) (row : BitVec 22) (step : Fin 1024) (inputs : List Word) (s : State) :
    Host.Outcome State Fault Refusal :=
  s.live (s.sampleSeen row.toNat step inputs)

/-- SAMPLE as the active sends it with its control outputs (R341). -/
def State.sampleSend (s : State) : State :=
  if !s.isActive || !s.paired || s.pair.silence then s
  else
    let b := !s.pathUp false
    if !s.pathUp b then s
    else
      s.txPair b "SAMPLE" ([b2n s.unitB, s.step10, s.mapInputs.length, s.ang.row.toNat % 2 ^ 22] ++
        s.mapInputs.map (fun i => match s.ctlChan i with
          | some n => (s.reg (Reg.FLTn_OUT n)).toNat
          | none => 0x80))

/-- REACH_SEND (R341), at ac 128. -/
def State.reachOut (s : State) : State :=
  let s := s.toAc 128
  if !s.paired then s
  else s.pairBoth "REACH" [s.reachBits, b2n s.unitB, b2n (bit s.sys.order 1), s.linkedBits]

/-- REACH_SEND (R341). -/
def execReachSend (s : State) : Host.Outcome State Fault Refusal := s.live s.reachOut

/-- CONC_SINGLE_HOMED judged for every association (R22). -/
def State.singleHomed (s : State) : State :=
  if !s.paired then s
  else
    let fresh := match s.pair.reachAge with | some a => decide (a ≤ 1024) | none => false
    let own := s.linkedBits
    s.primaries.foldl (fun s p =>
      let now := fresh && (own.testBit p != s.pair.plinked.testBit p)
      let was := (s.lane p).singleHomed
      let s := s.updLane p (fun l => { l with singleHomed := now })
      if now && !was then s.setFlagEach (Reg.LNK_FLAGS p) 6 p else s) s

/-- REACH_RX (R336, R341). -/
def State.reachSeen (s : State) (meterM : Bool) (reach linked : Nat) : State :=
  if !s.paired then s
  else
    let s := { s with pair := { s.pair with preach := reach, plinked := linked, reachAge := some 0 } }
    let s :=
      if meterM = bit s.sys.order 1 then { s with pair := { s.pair with meterClash := false } }
      else if s.pair.meterClash then s
      else
        let s := ({ s with pair := { s.pair with meterClash := true } } : State).setFlagEach Reg.PAIR_FLAGS 13
        if s.isActive then s else s.toRole Role.isolated
    s.singleHomed

/-- REACH_RX (R341). -/
def execReachRx (_unitB meterM : Bool) (reach linked : BitVec 20) (s : State) : Host.Outcome State Fault Refusal :=
  s.live (s.reachSeen meterM reach.toNat linked.toNat)

/-- The mode inputs of the step in a shadow unit, once (R82, R90): when the mark has given the mode, at the latest before the
engine computes. -/
def State.modeSettle (s : State) : State :=
  if s.pair.modeDue then ({ s with pair := { s.pair with modeDue := false } } : State).modeTargets else s

/-- SS-R demanded in shadow (R376, R378): the timer of the unit's own SAF runs from the boundary of the mirrored bind-off, or from
the next where the bind-off runs already. -/
def State.ssrMirrored (s : State) : State :=
  if s.saf.ssrPend && decide (s.mode = Mode.bindOff) then { s with saf := { s.saf with ssrPend := false, ssrT := some 0 } } else s

/-- A shadow unit takes a mode from the active's mark (R89, R95, R131): what the transition does to the mirrored state, without a
flag, a count or an entry of its own (R90). -/
def State.followMode (s : State) (dest : Mode) : State :=
  let frm := s.mode
  if dest = frm then s.ssrMirrored
  else
    let s := s.when (decide (frm = .coast) && dest.machine && decide (dest ≠ .bindOff)) (fun s => s.rejoinTerm)
    let s := ((s.enterFields frm dest (s.mo.ssr && decide (dest = .bindOff))).enterTargets frm dest).setReg Reg.MODE_ENTRY s.entryWord
    s.ssrMirrored.safSettle.trigUpdate

/-- The mode that a mark of the unit's own step carries (R89). -/
def State.markMode (s : State) (m : Mark) : State :=
  if s.shadowing && s.pair.modeDue && decide (m.row = s.ang.row) && decide (m.step = s.step10) && decide (rateMin ≤ m.rate.toNat)
      && decide (m.rate.toNat ≤ rateMax) then (s.followMode m.mode).modeSettle
  else s

/-- PAIR_MARK_RX (R54): the phase error; the mode of the active travels with the mark (R89). -/
def State.pairMark (s : State) (path : Bool) (m : Mark) (a : Nat) : State :=
  if !s.paired then s else ((s.sawEpoch m.epoch).markRx path m a s.pair.qual).markMode m

/-- PAIR_MARK_RX (R54). -/
def execPairMarkRx (path : Bool) (m : Mark) (arrivalPs : Nat) (s : State) : Host.Outcome State Fault Refusal :=
  s.live ((s.linkBlock (20 + b2n path)).pairMark path m arrivalPs)

/-- PAIR_ECHO_REQ_RX (R197, R339): answered with the turnaround. -/
def execPairEchoReqRx (path : Bool) (tag : BitVec 16) (turn : BitVec 24) (s : State) : Host.Outcome State Fault Refusal :=
  s.live (let t := s.linkBlock (20 + b2n path)
    if t.paired && t.pathUp path then t.txPair path "ECHO_RSP" [tag.toNat, turn.toNat] else t)

/-- The echo of each path once per row (R339). -/
def State.pairEchoes (s : State) : State :=
  if !s.paired then s
  else [false, true].foldl (fun s b =>
    if s.pathUp b then
      let t := (s.ang.row.toNat * 2 + b2n b) % 65536
      ({ s with pair := { s.pair with
          paths := upd s.pair.paths (b2n b) (fun p => { p with sentEcho := some (t, s.sys.clk) }) } } : State).txPair b "ECHO_REQ"
        [t]
    else s) s

/-! ### Step records -/

/-- The mode inputs that the mode logic holds in registers (R82, R90). -/
def modeRegs : List Nat :=
  [Reg.GFE_P_TGT, Reg.GFE_Q_TGT, Reg.GFE_V_TGT, Reg.GFE_F_TGT, Reg.GFE_KV, Reg.GFE_WSY, Reg.GFE_KZ, Reg.GFE_KN,
   Reg.MODE_HOST_P, Reg.MODE_HOST_Q, Reg.MODE_HOST_V, Reg.MODE_HOST_F, Reg.MODE_ENTRY]

/-- Set membership as the record carries it (R342): the submodules in a set. -/
def State.setList (s : State) : List (Nat × Nat) :=
  (s.arm.sms.filter (fun p => p.2.set ≠ 0)).map (fun p => (p.1, p.2.set))

/-- The incumbents (R145, R342). -/
def State.incList (s : State) : List Nat := (s.arm.sms.filter (fun p => p.2.inc)).map (·.1)

/-- The digest of the unit's own step (R342). -/
def State.ownDigest (s : State) : Word :=
  Config.recDigest s.gfe s.arm.carry s.arm.pci s.setList s.incList s.ang.cmd

/-- The step record of the present step (R342). -/
def State.stepRecord (s : State) : StepRec :=
  { row := s.ang.row, step := s.step10, epoch := s.pair.epoch, gfe := s.gfe, carry := s.arm.carry, pci := s.arm.pci,
    sets := s.setList, incs := s.incList, formed := s.arm.setsFormed, mo := s.mo, rt := s.rt, cmd := s.ang.cmd, mtr := s.mtr.core, decs := s.ldg.decs,
    regs := modeRegs.map (fun a => (a, s.reg a)), cmds := if s.cmd.dirty then some s.cmd.core else none }

/-- The active sends its record from ac 800 (R342), with the journal entries made since. -/
def State.recordSend (s : State) : State :=
  if s.isActive && s.paired && !s.pair.silence && (s.pathUp false || s.pathUp true) then
    let t := s.emit (.record s.stepRecord s.ownDigest)
    { t with cmd := { t.cmd with dirty := false } }
  else s

/-- A step that differs (R345): a STANDBY raises DIVERGE, a SYNCING unit, which has adopted no state yet, counts anew only (log
entry 47). -/
def State.diverged (s : State) (own digest : Word) : State :=
  let s : State := { s with pair := { s.pair with qsteps := 0 } }
  if s.role = Role.standby then
    let s := s.bump Reg.PAIR_DIV_CNT
    let s := s.setReg Reg.PAIR_FLAGS (putBit (s.reg Reg.PAIR_FLAGS) 2 true)
    s.logEv 4 0x0B 2 (Reg.PAIR_FLAGS + own.toNat * 2 ^ 32 + digest.toNat * 2 ^ 64)
  else s

/-- The comparison of R345, in STANDBY and SYNCING (R360): references, rate command and digest bit for bit. -/
def State.recordCompare (s : State) (r : StepRec) (digest : Word) : State :=
  if s.pair.usedSample ∧ s.gfe.done then
    let own := s.ownDigest
    if s.gfe.ref1 = r.gfe.ref1 ∧ s.gfe.ref2 = r.gfe.ref2 ∧ s.ang.cmd = r.cmd ∧ own = digest then
      { s with pair := { s.pair with qsteps := min 1024 (s.pair.qsteps + 1) } }
    else s.diverged own digest
  else s

/-- The number of a record's step. -/
def StepRec.no (r : StepRec) : Nat := r.row.toNat * 1024 + r.step

/-- STEP_RECORD_RX (R342, R345): a record newer than what is held or adopted is kept for the next boundary, however late it
comes; that of the unit's own step is compared, and by ac 1000 it is in time. -/
def State.recordSeen (s : State) (r : StepRec) (digest : Word) : State :=
  let held := match s.pair.record with | some x => x.no | none => s.pair.adopted
  if s.shadowing && decide (r.no ≤ s.stepNo) && decide (held < r.no) then
    let own := decide (r.no = s.stepNo)
    let s : State := { s with pair := { s.pair with record := some r, entryNew := false, recGot := s.pair.recGot || (own && decide (s.ac ≤ 1000)) } }
    if own then s.recordCompare r digest else s
  else s

/-- STEP_RECORD_RX (R342). -/
def execStepRecordRx (r : StepRec) (digest : Word) (s : State) : Host.Outcome State Fault Refusal :=
  s.live (s.recordSeen r digest)

/-- A record missed at ac 1000 (R342). -/
def State.recMissAct (s : State) : State :=
  let s := s.toAc 1000
  if s.shadowing && s.paired && !s.pair.recGot then
    (({ s with pair := { s.pair with recOk := 0, recGot := true } } : State).bump Reg.PAIR_REC_MISS).setFlag Reg.PAIR_FLAGS 11
  else s

/-- REC_MISS (R342). -/
def execRecMiss (s : State) : Host.Outcome State Fault Refusal := s.live s.recMissAct

/-- MEAS_DIV (R346): an input beyond the tolerance in 8 consecutive steps. -/
def State.measDivAct (s : State) : State :=
  if s.role = Role.standby ∧ s.pair.measCnt ≥ 8 then
    ({ s with pair := { s.pair with measCnt := 0, measOk := 0 } } : State).setFlagEach Reg.PAIR_FLAGS 3
  else s

/-- MEAS_DIV (R346). -/
def execMeasDiv (s : State) : Host.Outcome State Fault Refusal := s.live s.measDivAct

/-- The measurements of both units compared over a step (R346): outputs with U or O on either side are left out. The
tolerance is in converter codes of 2^8. -/
def State.measCompare (s : State) (l : List (Int × Bool)) : State :=
  let tol : Int := Int.ofNat (s.fld Reg.PAIR_MEAS_TOL 0 16)
  let bad := (s.mapInputs.zip l).any (fun p =>
    let o := s.gfe.inputs.getD p.1 (0, true)
    !o.2 && !p.2.2 && decide (Int.ofNat (o.1 - p.2.1).natAbs > tol * 256))
  { s with pair := { s.pair with measCnt := if bad then s.pair.measCnt + 1 else 0 } }

/-! ### Adoption -/

/-- The mode state of a record taken (R37, R90): the mode, its timers and inputs; the role, and what the unit's own comparators
have tripped (R117, R118), stay its own. Where the mode has come to CAST_ON, its entry row is the one MODE_ENTRY names. -/
def State.adoptMode (s : State) (r : StepRec) : State :=
  let was := s.mode
  let s := { s with
    mo := { r.mo with role := s.mo.role },
    rt := { r.rt with lineTrip := s.rt.lineTrip, armTrip := s.rt.armTrip, restr := s.rt.restr, lastNeg := s.rt.lastNeg } }
  let s := r.regs.foldl (fun s p => if modeRegs.contains p.1 then s.setReg p.1 p.2 else s) s
  if was = r.mo.mode then s.ssrMirrored
  else
    let e := s.regN Reg.MODE_ENTRY / 1024
    let s := s.when (decide (r.mo.mode = .castOn)) (fun s => { s with ang := { s.ang with
      castonRow := BitVec.ofNat 64 (r.row.toNat - (r.row.toNat + 2 ^ 22 - e) % 2 ^ 22) } })
    s.ssrMirrored.safSettle.trigUpdate

/-- The command state of a record taken (R343), unless a journal entry has come after the record. -/
def State.adoptCmds (s : State) (r : StepRec) : State :=
  match r.cmds with
  | some c => if s.pair.entryNew then s else { s with cmd := { s.cmd with core := c }, pair := { s.pair with coreSeen := true } }
  | none => s

/-- The states of a record adopted (R90, R326, R342, R343, R235). -/
def State.adopt (s : State) (r : StepRec) : State :=
  let s := s.adoptMode r
  let s := { s with
    gfe := { r.gfe with done := s.gfe.done, delivered := s.gfe.delivered, inputs := s.gfe.inputs },
    arm := { s.arm with carry := r.carry, pci := r.pci, setsFormed := r.formed },
    ldg := { s.ldg with decs := r.decs },
    pair := { s.pair with epoch := r.epoch, adopted := r.no } }
  let nums := (s.arm.sms.map (·.1) ++ r.sets.map (·.1)).eraseDups
  let s := nums.foldl (fun s n => s.updSm n (fun m => { m with
    set := mget 0 r.sets n, inc := r.incs.contains n })) s
  (s.adoptCmds r).mtrAdopt r.mtr

/-- Adoption at a boundary (R90, R342, R360): a record newer than the one adopted; a SYNCING unit takes the mode state from it and
adopts the rest with the transfer alone (log entry 79). -/
def State.adoptBoundary (s : State) : State :=
  match s.pair.record with
  | some r =>
    if s.role = Role.standby ∧ r.no > s.pair.adopted then ({ s.adopt r with pair := { (s.adopt r).pair with record := none } } : State)
    else if s.role = Role.syncing then (s.adoptMode r).adoptCmds r
    else s
  | none => s

/-- The active starts the state transfer at a boundary, to a partner in SYNCING whose version it accepts (R338, R360). -/
def State.transferStart (s : State) : State :=
  let syncing := match s.pair.hb with | some h => decide (h.role = Role.syncing) | none => false
  if !s.isActive || !s.paired || !syncing || !(s.pathUp false || s.pathUp true) then
    { s with pair := { s.pair with xferOn := false } }
  else if s.pair.xferOn || s.pair.version then s
  else
    ({ s with pair := { s.pair with xferOn := true } } : State).emit
      (.transfer { srec := s.stepRecord, cmds := s.cmd.core, mtr := s.mtr.core, ledger := s.ldg.recs })

/-- STATE_TRANSFER_DONE (R360): the transfer is complete, with what has changed since it began (R235, R343); at the next boundary the unit becomes STANDBY. -/
def State.transferDone (s : State) (x : Transfer) : State :=
  if s.role = Role.syncing ∧ (s.hbCurrent false || s.hbCurrent true) then
    let s := { s with cmd := { s.cmd with core := if s.pair.coreSeen then s.cmd.core else x.cmds },
                      pair := { s.pair with xferAdopt := true, record := some (s.pair.record.getD x.srec) } }
    let s := { s with ldg := { s.ldg with
      recs := s.pair.xferRecs.foldl (fun (m : List (Nat × Rec)) (p : Nat × Rec) => mset Rec.empty m p.1 p.2) x.ledger } }
    s.setReg Reg.PAIR_XFER (word (100 + 256))
  else s

/-- STATE_TRANSFER_DONE (R360). -/
def execStateTransferDone (x : Transfer) (s : State) : Host.Outcome State Fault Refusal := s.live (s.transferDone x)

/-- The boundary after the transfer (R141, R360): the unit adopts it with the latest record and becomes STANDBY; it holds no word
built before. -/
def State.transferBoundary (s : State) : State :=
  if s.role = Role.syncing ∧ s.pair.xferAdopt then
    let s := match s.pair.record with
      | some r => s.adopt r
      | none => s
    let s : State := { s with arm := { s.arm with sms := s.arm.sms.map (fun p => (p.1, { p.2 with words := [] })) } }
    ({ s with pair := { s.pair with xferAdopt := false, record := none } } : State).toRole Role.standby
  else s

/-! ### Handover -/

/-- The partner's bit of R354 for a REASON: HO_OK for 0 to 2, QUAL for 3 to 5. -/
def State.partnerBit (s : State) (reason : Nat) : Bool :=
  match s.pair.hb with
  | some h => (if reason ≤ 2 then h.hoOk else h.qual) && decide (s.pair.ackBlock = 0) &&
      (s.hbCurrent false || s.hbCurrent true)
  | none => false

/-- HANDOVER sent four times on each path (R355). -/
def State.handoverSend (s : State) (x : Handover) : State :=
  (upto 4).foldl (fun s _ => s.pairBoth "HANDOVER" [b2n s.unitB, x.reason, x.target % 1024, x.target / 1024 % 2 ^ 22]) s

/-- The active names a target boundary (R355): false where the cause may not hand over. -/
def State.startHandover (s : State) (reason : Nat) : Bool × State :=
  if !s.isActive || !s.paired || !s.partnerBit reason then (false, s)
  else if s.pair.ho.isSome then (true, s)
  else
    let now := decide (s.ac < 960)
    let x : Handover := { target := s.stepNo + (if now then 1 else 2), reason := reason, acked := false }
    let s := { s with pair := { s.pair with ho := some x } }
    (true, if now then s.handoverSend x else s)

/-- HANDOVER_RX (R355): the standby commits while its bit is 1. -/
def State.handoverSeen (s : State) (reason row step : Nat) : State :=
  let okBit := if reason ≤ 2 then s.hoOk else s.pair.qual
  if s.role = Role.standby ∧ okBit ∧ s.pair.hoCommit.isNone then
    let own := s.ang.row.toNat
    let r := own - own % 2 ^ 22 + row
    let r := if r < own then r + 2 ^ 22 else r
    { s with pair := { s.pair with hoCommit := some { target := r * 1024 + step, reason := reason, acked := true } } }
  else s

/-- HANDOVER_RX (R355). -/
def execHandoverRx (_unitB : Bool) (reason : BitVec 3) (row : BitVec 22) (step : Fin 1024) (s : State) :
    Host.Outcome State Fault Refusal :=
  s.live (s.handoverSeen reason.toNat row.toNat step)

/-- REVERT (R358): unit A has shown HO_OK for PAIR_REVERT_T. -/
def State.revertAct (s : State) : State :=
  if s.flag Reg.PAIR_CFG 2 && s.unitB && s.isActive && decide (s.pair.okT ≠ 0) then
    s.atDue (s.pair.okT - 1 + s.regN Reg.PAIR_REVERT_T * 400000000) (fun s => (s.startHandover 1).2)
  else s

/-- REVERT (R358). -/
def execRevert (s : State) : Host.Outcome State Fault Refusal := s.live s.revertAct

/-- LONE_START (R359): PAIR_START_T after the latest sign of the partner, unit B becomes ACTIVE with the highest epoch it holds
plus 1. -/
def State.loneStartAct (s : State) : State :=
  if s.pair.waitLone && s.unitB && decide (s.role = Role.isolated) && !s.heldOut then
    s.atDue (s.pair.startT + s.regN Reg.PAIR_START_T * 400000000) (fun s =>
      ({ s with pair := { s.pair with epoch := s.pair.epochMax } } : State).toActive)
  else s

/-- LONE_START (R359). -/
def execLoneStart (s : State) : Host.Outcome State Fault Refusal := s.live s.loneStartAct

/-- Roles at a boundary (R355): a committed standby becomes ACTIVE, the old active STANDBY or stays. -/
def State.handoverBoundary (s : State) : State :=
  let s := match s.pair.hoCommit with
    | some x =>
      if s.stepNo ≥ x.target ∧ s.role = Role.standby then
        ((s.toActive.bump Reg.PAIR_HO_CNT).setFlagEach Reg.PAIR_FLAGS 5 x.reason).mtrTakeover
      else s
    | none => s
  match s.pair.ho with
  | some x =>
    if s.stepNo < x.target ∨ !s.isActive then s
    else if x.acked then
      let s := { s with pair := { s.pair with ho := none, hoWant := none, qual := false } }
      ((s.toRole Role.standby).angDiscipline false |>.bump Reg.PAIR_HO_CNT).setFlagEach Reg.PAIR_FLAGS 5 x.reason
    else ({ s with pair := { s.pair with ho := none } } : State).setFlag Reg.PAIR_FLAGS 6
  | none => s

/-- The causes that name a handover at a boundary: one still wanted, and health (R355, R357). -/
def State.handoverWanted (s : State) : State :=
  let s := match s.pair.ho with
    | some x => if s.stepNo + 1 = x.target then s.handoverSend x else s
    | none => s
  let s := match s.pair.hoWant with
    | some r => (s.startHandover r).2
    | none => s
  let lost := s.primaries.filter (fun p => (s.assoc p).noRoute)
  let more := (upto 20).all (fun i => !s.reachBits.testBit i || s.pair.preach.testBit i)
  if s.flag Reg.PAIR_CFG 3 && s.isActive && more && lost.any (fun p => s.pair.preach.testBit p) then (s.startHandover 2).2
  else s

/-! ### Qualification -/

/-- PAIR_DISQ (R347). -/
def State.disq (s : State) : Nat :=
  b2n (decide (s.role ≠ Role.standby) || s.pair.isolated) + 2 * b2n (decide (s.ang.st ≠ AngState.locked)) + 4 * b2n s.pipe.shadowLate +
  8 * b2n (decide (s.pair.recOk < 64)) + 16 * b2n (decide (s.pair.qsteps < 1024)) + 32 * b2n (decide (s.pair.measOk < 1024)) +
  64 * b2n (decide (2 * ((upto 20).filter (fun i => s.reachBits.testBit i)).length ≤ s.primaries.length)) +
  128 * b2n (!(s.pathUp false && s.hbCurrent false) && !(s.pathUp true && s.hbCurrent true))

/-- Qualification and the counts of the pair at a boundary (R22, R343, R346, R347). -/
def State.qualBoundary (s : State) : State :=
  let s := { s with pair := { s.pair with
    recOk := min 1024 (s.pair.recOk + 1), measOk := min 1024 (s.pair.measOk + 1), ackBlock := s.pair.ackBlock - 1,
    reachAge := s.pair.reachAge.map (· + 1), recGot := false, usedSample := false, sample := none,
    shadowStep := !s.isActive } }
  let s := s.measDivAct
  let d := s.disq
  let s := (s.setReg Reg.PAIR_DISQ (word d)).singleHomed
  { s with pair := { s.pair with qual := decide (d = 0) } }

/-! ### The proof takeover -/

/-- PROOF_RESULT (R363): after 8 steps the new active counts concentrators and submodules. -/
def State.proofResultAct (s : State) : State :=
  match s.pair.proofSteps with
  | some k =>
    if k < 8 then s
    else
      let owned := (s.primaries.filter (fun p => (s.lanesOf p).any (fun n => match (s.lane n).wit with
        | some w => w.valid && (w.owner == s.unitB) && decide (w.epoch = s.pair.epoch)
        | none => false))).length
      let bad := (s.arm.sms.filter (fun p => decide (p.2.set = 1 ∨ p.2.set = 2) && !p.2.proofOk)).length
      let pass := decide (owned = s.primaries.length) && decide (bad = 0)
      let s := s.setReg Reg.PAIR_PROOF (word (1 + 2 * b2n pass + 4 * b2n (!s.pair.proofDir) + owned * 2 ^ 8 + min 4095 bad * 2 ^ 16))
      let s := { s with pair := { s.pair with proofSteps := none } }
      if pass then s else s.setFlagEach Reg.PAIR_FLAGS 12 (owned + bad * 2 ^ 16)
  | none => s

/-- PROOF_RESULT (R363). -/
def execProofResult (s : State) : Host.Outcome State Fault Refusal := s.live s.proofResultAct

/-- The proving active falls silent (R363): its IDLE blocks show DISP = 0. -/
def State.proofStart (s : State) : State :=
  ({ s with pair := { s.pair with silence := true, silenceAt := s.sys.clk }, lnk := { s.lnk with disp := false } } : State).idles

/-- PROOF_SILENCE_END (R363): after 100 µs heartbeats resume and the old active passes through SYNCING. -/
def State.proofSilenceEndAct (s : State) : State :=
  if s.pair.silence then
    s.atDue (s.pair.silenceAt + 40000) (fun s => ({ s with pair := { s.pair with silence := false } } : State).toSyncing)
  else s

/-- PROOF_SILENCE_END (R363). -/
def execProofSilenceEnd (s : State) : Host.Outcome State Fault Refusal := s.live s.proofSilenceEndAct

/-- PAIR_CTRL.ISOLATE or PAIR_ACTION 2 takes effect (R361): false is CONFLICT. -/
def State.isolateAct (s : State) : Bool × State :=
  if s.isActive then (false, s)
  else if s.role = Role.isolated then (true, { s with pair := { s.pair with out := true } })
  else (true, ({ s with pair := { s.pair with out := true, qual := false } } : State).toRole Role.isolated)

/-- PAIR_CTRL.REJOIN or PAIR_ACTION 3 (R361): false is CONFLICT where the unit is not ISOLATED. -/
def State.rejoinPair (s : State) : Bool × State :=
  if s.role ≠ Role.isolated then (false, s)
  else
    let s := { s with pair := { s.pair with out := false } }
    (true, if s.heldOut then s else s.toSyncing)

end Sys2Proof.Machine
end

