-- ==== Sys2Proof/Machine/Boot.lean ====
section
/-! DEFINITION. Reset and start: supply, the reset sequence and its causes, lock losses, the start of the unit, the end of
INIT and the unit's first role (chapters 15, 19, 20, 21). -/
namespace Sys2Proof.Machine

/-! ### The event log at a start (R417) -/

/-- Entries moved to the indexed log in the order given, numbered within equal positions (R416, R417); at most the
latest 262,144 are held, and an overwritten entry sets EVLOG_FLAGS.WRAP (R421). -/
def Evlog.index (ev : Evlog) (l : List EvEntry) (restaged : Bool) : Evlog :=
  l.foldl (fun ev e =>
    let sub := match ev.indexed.getLast? with
      | some p => if p.key.samePos e.key then p.subseq + 1 else 0
      | none => 0
    let e : EvEntry := { e with index := ev.next, subseq := sub, restaged := restaged }
    let idx := ev.indexed ++ [e]
    { ev with indexed := idx.drop (idx.length - 262144), next := ev.next + 1,
              oldest := if idx.length > 262144 then ev.oldest + 1 else ev.oldest }) ev

/-- The log with some of its staged entries indexed; WRAP is set where one was overwritten. -/
def State.evIndex (s : State) (pick : EvEntry → Bool) (restaged : Bool) : State :=
  let ev := s.sys.ev
  let l := sortBy (fun a b => a.key.le b.key) (ev.staged.filter pick)
  let ev' := ({ ev with staged := ev.staged.filter (fun e => !pick e) } : Evlog).index l restaged
  let s1 : State := { s with sys := { s.sys with ev := ev' } }
  if ev'.oldest > ev.oldest then s1.setReg Reg.EVLOG_FLAGS (putBit (s1.reg Reg.EVLOG_FLAGS) 1 true) else s1

/-- The boundary of step s+2 indexes the entries decided in step s (R417). -/
def State.evBoundary (s : State) : State :=
  s.evIndex (fun e => !s.running || e.key.run != s.sys.ev.run || decide (e.key.row.toNat * 1024 + e.key.step + 2 ≤ s.stepNo)) false

/-! ### The reset sequence (R457) -/

/-- Registers whose value survives every reset (R428, R469, R470, R480), with what SAF and the ledger keep in MRAM. -/
def keptRegs : List Nat :=
  [Reg.PWR_RST_CNT, Reg.CAL_UTC_OFS, Reg.SEC_MINVER, Reg.SEC_TAMPER_CNT, Reg.SEC_ZERO_TAI_LO, Reg.SEC_ZERO_TAI_HI,
   Reg.SAF_DEM_CNT, Reg.SAF_PROOF, Reg.SAF_PROOF_AGE, Reg.CAL_BAT_MV] ++ spsAddrs

/-- A submodule's entry as MRAM keeps it (R235): set, acceptance, replacement. An accepted identity is accepted anew
after the start (R230). -/
def Sm.kept (m : Sm) : Sm :=
  { Sm.fresh with set := m.set, acc := if m.acc = 1 then 0 else m.acc, signed := m.signed, foreign := m.foreign, repl := m.repl,
                  newId := m.newId, nep := m.nep, wearReq := m.wearReq }

/-- A port after a reset: what is plugged into its cage stays. -/
def Port.kept (p : Port) : Port :=
  { Port.fresh0 with present := p.present, sfpId := p.sfpId, sfpTech := p.sfpTech, hiPower := p.hiPower, los := p.los,
                     txFault := p.txFault }

/-- An association as MRAM keeps it (R425). -/
def Assoc.stored (x : Assoc) : Assoc :=
  { Assoc.fresh with expect := x.expect, used := x.used, limitTx := x.limitTx, next := x.next, consumed := x.consumed }

/-- The numbers of the records that DRAM held (R426). -/
def State.lostRecs (s : State) : Option (Nat × Nat) :=
  match s.acq.done.map (·.num.toNat) ++ s.acq.slots.filterMap (fun x => x.cur.map (·.num.toNat)) with
  | [] => s.acq.lost
  | n :: l => some (l.foldl min n, l.foldl max n)

/-- The state after a reset (R457): State.reset with what MRAM, eMMC, NOR and the calendar domain keep, and with what
stands outside the unit (log entry 1). -/
def State.cleared (s : State) : State :=
  let z := State.reset
  let keep := keptRegs.foldl (fun m a => regsSet m a (s.reg a)) []
  { z with
    sys := { z.sys with clk := s.sys.clk, bclk := s.sys.clk, tai := s.sys.tai, regs := keep, order := s.sys.order,
                        serial := s.sys.serial, fwver := s.sys.fwver, hwrev := s.sys.hwrev,
                        marks := s.sys.marks.filter (fun a => decide (a / 0x10000 = 12)), cfgA := s.sys.cfgA,
                        cfgB := s.sys.cfgB, ev := { s.sys.ev with item := 0 }, out := s.sys.out, free := s.sys.free }
    arm := { z.arm with sms := s.arm.sms.map (fun p => (p.1, p.2.kept)), setsFormed := s.arm.setsFormed }
    lnk := { z.lnk with ports := s.lnk.ports.map Port.kept, assocs := s.lnk.assocs.map Assoc.stored }
    ldg := { z.ldg with own := s.ldg.own, archive := s.ldg.archive, archBase := s.ldg.archBase, imgA := s.ldg.imgA, imgB := s.ldg.imgB,
                        ownSec := s.ldg.ownSec, key := s.ldg.key, quarantined := s.ldg.quarantined }
    pair := { z.pair with epochMax := s.pair.epochMax, epoch := s.pair.epoch, ver := s.pair.ver, oldVer := s.pair.oldVer }
    saf := { z.saf with chkConf := s.saf.chkConf, proofDay := s.saf.proofDay,
                        sins := s.saf.sins.map (fun i => { i with fault := false, leftAt := none, bothLeft := false,
                                                                  seenA := false, seenB := false, apart := none }) }
    pwr := { z.pwr with on := false, vinA := s.pwr.vinA, vinB := s.pwr.vinB, vhu := s.pwr.vhu, okA := s.pwr.okA,
                        okB := s.pwr.okB, llA := s.pwr.llA, llB := s.pwr.llB, llSeq := s.pwr.llSeq, cause := s.pwr.cause,
                        rail := s.pwr.rail }
    pwm := { z.pwm with ctrs := s.pwm.ctrs.map (fun c => { Counter.fresh with edgesA := c.edgesA, edgesB := c.edgesB }),
                        trips := s.pwm.trips.map (fun t => { t with latch := false, blankEnd := none }) }
    adc := { z.adc with trigPin := s.adc.trigPin }
    acq := { z.acq with lost := s.lostRecs }
    mtr := { z.mtr with sealed := s.mtr.sealed, everSealed := s.mtr.everSealed, broken := s.mtr.broken, digest := s.mtr.digest,
                        fwhash := s.mtr.fwhash, audit := s.mtr.audit, audits := s.mtr.audits, substCnt := s.mtr.substCnt,
                        pairSubst := s.mtr.pairSubst, ambient := s.mtr.ambient, lastT := s.mtr.lastT, mramA := s.mtr.mramA,
                        mramB := s.mtr.mramB, mramTurn := s.mtr.mramTurn }
    snap := { z.snap with pinIn := s.snap.pinIn }
    far := s.far
    cmd := { z.cmd with core := { z.cmd.core with jrn := s.cmd.core.jrn } }
    mem := { z.mem with remap := s.mem.remap, remaps := s.mem.remaps,
                        banks := s.mem.banks.map (fun b => { b with ce := 0, due := false, retv := !b.inService && !b.retired }) }
    cal := { z.cal with utcValid := s.cal.utcValid, batAbsent := s.cal.batAbsent, batLow := s.cal.batLow, scap := s.cal.scap,
                        domainOk := s.cal.domainOk, mramSec := s.cal.mramSec }
    sec := { s.sec with up := none, debug := false, nonce := 0, loaderOnly := false }
    pending := s.pending }

/-- A reset is decided (R457, R459): the RESET entry, the loop, the gates, the transmitters and the relay, then the
unit is held in reset. A reset in progress absorbs later causes. -/
def State.resetNow (s : State) (cause : Nat) (rail : Nat := 0) : State :=
  if !s.pwr.on && !s.pwr.booted then s
  else
    let s := s.logEv 6 0xF 0x109 (cause + rail * 256)
    let s := (s.emits (if s.loopOn then [Out.pin "PBL" false] else [])).emits
      [.pin "GATES" false, .pin "TX_DISABLE" true, .pin "WDOG_RELAY" false]
    let s := s.bump Reg.PWR_RST_CNT
    let t := s.cleared
    { t with pwr := { t.pwr with cause := cause, rail := rail } }

/-- A reset asked for (R409, R431, R460): a paired ACTIVE whose partner shows the bit of `reason` hands over first and
resets at the first boundary at which it is STANDBY, or after 8 boundaries; every other unit resets at once. -/
def State.resetVia (s : State) (cause reason : Nat) : State :=
  if s.isActive && s.paired && s.partnerBit reason then
    let s := (s.startHandover reason).2
    { s with pwr := { s.pwr with handoverLeft := some (8, cause) } }
  else s.resetNow cause

/-- The pending reset of `resetVia` at a boundary. -/
def State.resetBoundary (s : State) : State :=
  match s.pwr.handoverLeft with
  | none => s
  | some (k, c) =>
    if s.role = Role.standby ∨ k ≤ 1 then s.resetNow c
    else { s with pwr := { s.pwr with handoverLeft := some (k - 1, c) } }

/-- A reset acts on a unit without a running clock too (R446, R459). -/
def State.resettable (s t : State) : Host.Outcome State Fault Refusal := .next (if s.pwr.on || s.pwr.booted then t else s)

/-- SUPPLY_RESET (R454). -/
def execSupplyReset (s : State) : Host.Outcome State Fault Refusal := s.resettable (s.resetNow 1)

/-- RAIL_FAULT (R456). -/
def execRailFault (rail : Fin 6) (s : State) : Host.Outcome State Fault Refusal := s.resettable (s.resetNow 7 rail)

/-- WATCHDOG_RESET (R461). -/
def execWatchdogReset (s : State) : Host.Outcome State Fault Refusal := s.resettable (s.resetNow 4)

/-- RESET_IN_PRESS (R460). -/
def State.resetPress (s : State) : State :=
  if s.pwr.stuck then s
  else ({ s with pwr := { s.pwr with resetIn := true } } : State).resetVia 2 5

/-- RESET_IN_PRESS (R460). -/
def execResetInPress (s : State) : Host.Outcome State Fault Refusal := s.resettable s.resetPress

/-- RESET_IN_HANDOVER_TIMEOUT (R460). -/
def execResetInHandoverTimeout (s : State) : Host.Outcome State Fault Refusal :=
  s.live (match s.pwr.handoverLeft with
    | some (_, c) => s.resetNow c
    | none => s)

/-- RST_STUCK (R460). -/
def execRstStuck (s : State) : Host.Outcome State Fault Refusal :=
  s.live (if s.pwr.stuck then s
    else ({ s with pwr := { s.pwr with stuck := true, resetIn := true } } : State).setFlagEach Reg.PWR_FLAGS 3)

/-- RST_STUCK_CLEAR (R460). -/
def execRstStuckClear (s : State) : Host.Outcome State Fault Refusal :=
  s.live { s with pwr := { s.pwr with stuck := false, resetIn := false } }

/-! ### Supply (R450, R452, R453, R455) -/

/-- An input takes a value; the hold-up rail stands 0.1 V below the higher input that is at or above 33.0 V. -/
def State.vinSet (s : State) (b : Bool) (mv : Nat) : State :=
  let s : State := if b then { s with pwr := { s.pwr with vinB := mv, okB := decide (mv ≥ 33000) } }
    else { s with pwr := { s.pwr with vinA := mv, okA := decide (mv ≥ 33000) } }
  let hi := max s.pwr.vinA s.pwr.vinB
  if hi ≥ 33000 then { s with pwr := { s.pwr with vhu := hi - 100 } } else s

/-- INPUT_LOST (R450): with the other input at or above 33.0 V, the flag and its entry. -/
def State.inputLost (s : State) (b : Bool) (mv : Nat) : State :=
  if mv ≥ 33000 then s
  else
    let other := if b then s.pwr.okA else s.pwr.okB
    let s := s.vinSet b mv
    if other && s.pwr.on then s.setFlagEach Reg.PWR_FLAGS 2 (b2n b) else s

/-- INPUT_LOST (R450). -/
def execInputLost (b : Bool) (mv : Word) (s : State) : Host.Outcome State Fault Refusal := .next (s.inputLost b mv.toNat)

/-- INPUT_RESTORED (R450). -/
def execInputRestored (b : Bool) (mv : Word) (s : State) : Host.Outcome State Fault Refusal :=
  .next (if mv.toNat ≥ 33000 then s.vinSet b mv.toNat else s)

/-- POWER_WARN (R452): the lifeline save begins. -/
def State.powerWarn (s : State) (a b : Nat) : State :=
  if s.pwr.warn || decide (max a b ≥ 33000) then s
  else
    let s := (s.vinSet false a).vinSet true b
    let s : State := { s with pwr := { s.pwr with warn := true, saving := true, saved := false, llCap := none } }
    (s.bump Reg.PWR_WARN_CNT).setFlagEach Reg.PWR_FLAGS 0

/-- POWER_WARN (R452). -/
def execPowerWarn (mvA mvB : Word) (s : State) : Host.Outcome State Fault Refusal := s.live (s.powerWarn mvA.toNat mvB.toNat)

/-- POWER_WARN_CLEAR (R455). -/
def State.powerClear (s : State) (a b : Nat) : State :=
  if !s.pwr.warn || decide (max a b ≤ 34000) then s
  else
    let s := (s.vinSet false a).vinSet true b
    let s : State := { s with pwr := { s.pwr with warn := false } }
    ((s.bump Reg.PWR_BOS_CNT).setFlagEach Reg.PWR_FLAGS 1).retvCheck

/-- POWER_WARN_CLEAR (R455). -/
def execPowerWarnClear (mvA mvB : Word) (s : State) : Host.Outcome State Fault Refusal :=
  s.live (s.powerClear mvA.toNat mvB.toNat)

/-- What a save takes at a boundary (R453). -/
def State.checkpoint (s : State) : Lifeline :=
  { mo := s.mo, epoch := s.pair.epoch, rt := s.rt, gfe := s.gfe, arm := s.arm,
    mtr := s.mtr.core, assocs := s.lnk.assocs.map Assoc.stored, run := 0, next := 0, tai := s.taiNs, row := s.ang.row,
    step := s.step10, seq := s.pwr.llSeq + 1, crc := 0 }

/-- The boundary whose state the save takes (R453): the first at or after the warning. -/
def State.lifelineCapture (s : State) : State :=
  if s.pwr.saving && s.pwr.llCap.isNone then { s with pwr := { s.pwr with llCap := some s.checkpoint } } else s

/-- The end of a save (R453): the run and index of the event log, and the CRC-32 over the copy. -/
def State.lifelineSeal (s : State) (c : Lifeline) : Lifeline :=
  ({ c with run := s.sys.ev.run, next := s.sys.ev.next } : Lifeline).sealed

/-- The save ends (R453): into the copy that is not in force; a save that fails leaves that copy invalid. -/
def State.lifelineDone (s : State) (ok : Bool) : State :=
  if !s.pwr.saving then s
  else
    let c := s.lifelineSeal (s.pwr.llCap.getD s.checkpoint)
    let toB := match s.pwr.llA, s.lifeline with
      | some a, some x => decide (a = x)
      | _, _ => false
    let v := if ok then some c else none
    let s : State := { s with pwr := { s.pwr with
      llA := if toB then s.pwr.llA else v, llB := if toB then v else s.pwr.llB, saving := false, saved := ok,
      llSeq := s.pwr.llSeq + 1, llCap := none } }
    if ok then s.retvCheck else s.setFlag Reg.PWR_FLAGS 4

/-- LIFELINE_DONE (R453). -/
def execLifelineDone (ok : Bool) (s : State) : Host.Outcome State Fault Refusal := s.live (s.lifelineDone ok)

/-! ### Lock losses (R446, R447) -/

/-- A clock cause takes the unit out of ACTIVE (R447): a handover where the partner's heartbeat showed QUAL = 1, as far as a path
still works, the partner taking over else; without such a partner a demand, whose event is class 5 (R420). -/
def State.clockCause (s : State) (hard qual : Bool) : State :=
  let s := s.setFlag Reg.CLK_FLAGS 12 0 (if s.isActive && !qual then some 5 else none)
  if !s.isActive then s
  else if qual then
    (({ s with pair := { s.pair with hoWant := some 4 } } : State).startHandover 4).2
  else if hard then s.spbDemand 10
  else s.ssrDemand

/-- PLL `n` in or out of lock. -/
def State.pllSet (s : State) (n : Nat) (b : Bool) : State := { s with clk := { s.clk with lock := s.clk.lock.set n b } }

/-- A declared loss: its count, flag and entry. -/
def State.lossDeclared (s : State) (flag : Nat) (cls : Nat) : State :=
  (s.bump Reg.CLK_LOL_CNT).setFlagEach Reg.CLK_FLAGS flag 0 (some cls)

/-- SYS passes to BPLL, or, with BPLL lost, the unit stops without a clock: the loop no longer reverses (R446). -/
def State.toBackup (s : State) : State :=
  if s.clk.bkOk && s.pll 1 then
    { s with clk := { s.clk with sysOnBk := true }, ang := { s.ang with backup := true } }
  else
    ({ s with pwr := { s.pwr with on := false } } : State).emits (if s.loopOn then [Out.pin "PBL" false] else [])

/-- The partner's heartbeat shows QUAL = 1 (R447). -/
def State.partnerQual (s : State) : Bool := s.paired && s.partnerBit 4

/-- SPLL_LOSS (R446). -/
def State.spllLoss (s : State) : State :=
  if !s.pll 0 then s
  else
    let bk := s.clk.bkOk && s.pll 1
    let s := ((s.pllSet 0 false).lossDeclared 2 2).toBackup
    if bk then s.clockCause false s.partnerQual else s

/-- SPLL_LOSS (R446). -/
def execSpllLoss (s : State) : Host.Outcome State Fault Refusal := s.live s.spllLoss

/-- REF_LOST (R446): SYS on BPLL, the other PLLs on BK ÷ 4, every port out of LINK_UP. -/
def State.refLoss (s : State) : State :=
  if !s.clk.refOk then s
  else
    let bk := s.clk.bkOk && s.pll 1
    let s := ({ s with clk := { s.clk with refOk := false, refOnBk := bk } } : State).lossDeclared 0 2
    let s := (s.pllSet 0 false).toBackup
    if !bk then s
    else ((upto 22).foldl (fun s n => if s.linkUp n then s.lolAct n else s) s).clockCause true s.partnerQual

/-- REF_LOST (R446). -/
def execRefLost (s : State) : Host.Outcome State Fault Refusal := s.live s.refLoss

/-- QPLL_LOSS (R446): the ports of the quad leave LINK_UP. -/
def State.qpllLoss (s : State) (q : Nat) : State :=
  if !s.pll (4 + q) then s
  else
    let s := (s.pllSet (4 + q) false).lossDeclared (5 + q) 4
    (upto 22).foldl (fun s n => if n / 4 = q ∧ s.linkUp n then s.lolAct n else s) s

/-- QPLL_LOSS (R446). -/
def execQpllLoss (q : Fin 6) (s : State) : Host.Outcome State Fault Refusal := s.live (s.qpllLoss q)

/-- QPLL_RELOCK (R446). -/
def execQpllRelock (q : Fin 6) (ok : Bool) (s : State) : Host.Outcome State Fault Refusal :=
  s.live (if ok then s.pllSet (4 + q) true else s)

/-- APLL_LOSS (R446). -/
def State.apllLoss (s : State) : State :=
  if !s.pll 3 then s
  else
    let s := (s.pllSet 3 false).lossDeclared 4 4
    { s with clk := { s.clk with apllAt := some s.sys.clk, apllLate := false } }

/-- APLL_LOSS (R446). -/
def execApllLoss (s : State) : Host.Outcome State Fault Refusal := s.live s.apllLoss

/-- APLL_RELOCK (R446). -/
def execApllRelock (s : State) : Host.Outcome State Fault Refusal :=
  s.live (if s.clk.apllAt.isSome then
    ({ s with clk := { s.clk with apllAt := none } } : State).pllSet 3 true else s)

/-- The clock at which the 1 ms for the relock of APLL ends (R446). -/
def State.apllEnd (s : State) : Option Nat := if s.clk.apllLate then none else s.clk.apllAt.map (· + 400000)

/-- APLL has not relocked within 1 ms: a hard clock cause (R446). -/
def State.apllLateAct (s : State) : State :=
  ({ s with clk := { s.clk with apllLate := true } } : State).clockCause true s.partnerQual

/-- APLL_RELOCK_TIMEOUT (R446). -/
def execApllRelockTimeout (s : State) : Host.Outcome State Fault Refusal :=
  s.live (match s.apllEnd with
    | some t => s.atDue t State.apllLateAct
    | none => s)

/-- DPLL_LOSS (R446): a hard clock cause, then a module reset. -/
def State.dpllLoss (s : State) : State :=
  if !s.pll 2 then s
  else
    let s := (s.pllSet 2 false).lossDeclared 3 4
    let ho := s.isActive && s.partnerQual
    let s := s.clockCause true s.partnerQual
    if ho then { s with pwr := { s.pwr with handoverLeft := some (8, 6) } } else s.resetNow 6

/-- DPLL_LOSS (R446). -/
def execDpllLoss (s : State) : Host.Outcome State Fault Refusal := s.live s.dpllLoss

/-- BPLL_LOSS (R446): while SYS runs from it, no clock is left. -/
def State.bpllLoss (s : State) : State :=
  if !s.pll 1 then s
  else
    let s := ({ s with clk := { s.clk with bkOk := false } } : State).pllSet 1 false
    let s := s.lossDeclared 1 4
    if s.clk.sysOnBk then s.toBackup else s

/-- BPLL_LOSS (R446). -/
def execBpllLoss (s : State) : Host.Outcome State Fault Refusal := s.live s.bpllLoss

/-! ### Memory errors of the control cluster (R431, R438) -/

/-- What firmware does on an uncorrectable error: an entry, then a reset, after a handover where possible. -/
def State.firmwareReset (s : State) (reg flag : Nat) : State :=
  (s.logEv (flagClass reg flag) 0xD flag reg true).resetVia 5 0

/-- SRAM_ECC_ERROR (R431). -/
def State.sramError (s : State) (w : Nat) (corrected : Bool) (u : SramUser) : State :=
  if corrected then s.sramCe w
  else
    let s := s.sramUe w
    match u with
    | .bulkRx a => s.nakOut a
    | .bulkKept a =>
      let port := (s.assoc a).route
      let s := s.updAssoc a (fun x => { x with kept := x.kept.drop 1 })
      match port with
      | some n => if s.linkUp n then s.retrain n else s
      | none => s
    | .acqBuffer k => s.dropNewest k
    | .control => s.firmwareReset Reg.MEM_FLAGS 1
    | .maintenance => s

/-- SRAM_ECC_ERROR (R431). -/
def execSramEccError (addr : BitVec 20) (corrected : Bool) (user : SramUser) (s : State) :
    Host.Outcome State Fault Refusal := s.live (s.sramError addr.toNat corrected user)

/-- DRAM_PATROL (R438). -/
def State.dramPatrolAct (s : State) (addr : Nat) (err : Option Bool) : State :=
  match err with
  | none => s
  | some true => (s.bump Reg.MEM_DRAM_CE).setFlag Reg.MEM_FLAGS 5
  | some false =>
    let b := addr - addr % 64
    let s := ((s.bump Reg.MEM_DRAM_UE).setReg Reg.MEM_DRAM_UE_ADDR (word b)).setFlagEach Reg.MEM_FLAGS 6
    if addr < 0x4000_0000 then s.ledgerBurst addr
    else if addr < 0xC000_0000 then s.acqBurst
    else s.firmwareReset Reg.MEM_FLAGS 6

/-- DRAM_PATROL (R438). -/
def execDramPatrol (addr : Word) (err : Option Bool) (s : State) : Host.Outcome State Fault Refusal :=
  s.live (s.dramPatrolAct addr.toNat err)

/-! ### Keys (R471, R477) -/

/-- The secure element erases every key that R471 marks, and every session closes (R477). -/
def State.zeroKeys (s : State) : State :=
  { s with sec := { s.sec with devKey := none, mtrKey := none, zeroDue := false },
           cmd := { s.cmd with core := { s.cmd.core with sess := [], modeOwn := 0, setOwn := 0 }, waits := [], parked := [] } }

/-- Zeroisation (R477, R333): keys, sessions, flag, count, time, entry, and the meter passes to SEAL_BROKEN. -/
def State.zeroise (s : State) : State :=
  let s := s.zeroKeys
  let s := (s.bump Reg.SEC_TAMPER_CNT).setReg Reg.SEC_ZERO_TAI_LO (word s.taiNs)
  let s := s.setReg Reg.SEC_ZERO_TAI_HI (hi32 s.taiNs)
  let s : State := { s with mtr := { s.mtr with sealed := false, broken := s.mtr.broken || s.mtr.everSealed } }
  s.setFlagEach Reg.SEC_FLAGS 0 0 (some 4)

/-- TAMPER_OPEN (R476, R477): the latch sets; an unpowered unit zeroises at its next start. -/
def State.tamperOpenAct (s : State) : State :=
  let was := s.sec.latch
  let s : State := { s with sec := { s.sec with coverOpen := true, latch := true } }
  if was then s
  else if s.pwr.on then s.zeroise
  else { s with sec := { s.sec with zeroDue := true } }

/-- TAMPER_OPEN (R477). -/
def execTamperOpen (s : State) : Host.Outcome State Fault Refusal := .next s.tamperOpenAct

/-! ### The start (R458) -/

/-- The image of a bank: A or B. -/
def State.image (s : State) (b : Bool) : Option Image := if b then s.sec.imgB else s.sec.imgA

/-- An image passes the checks of R472. -/
def State.imageOk (s : State) (b : Bool) : Bool :=
  match s.image b with
  | some i => i.valid && decide (i.secver ≥ s.reg Reg.SEC_MINVER)
  | none => false

/-- The boot loader loads the image chosen, or the other one (R472). -/
def State.bootImage (s : State) : State :=
  let want := s.sec.chosen
  let pick : Option Bool := if s.imageOk want then some want else if s.imageOk (!want) then some (!want) else none
  match pick with
  | none => { s with sec := { s.sec with loaderOnly := true } }
  | some b =>
    let s : State := { s with sec := { s.sec with running := b } }
    let s := match s.image b with
      | some i => { s with sys := { s.sys with fwver := i.ver }, pair := { s.pair with ver := i.pairVer, oldVer := i.pairOld } }
      | none => s
    let s := s.ownInc (97 + b2n b)
    if b ≠ want then s.setFlag Reg.SEC_FLAGS 1 else s

/-- The band each VCO is calibrated to is a free value (R445, log entry 6). -/
def State.bandsCal (s : State) : State :=
  (upto 10).foldl (fun s n => let d := s.draw; d.2.setReg (Reg.CLK_BANDn n) (word (d.1.toNat % 32))) s

/-- The values the supply inputs are found at: those last reported, free values where none reported stands at or above
33.0 V (log entry 6). -/
def State.vinAtStart (s : State) : State :=
  if s.pwr.okA || s.pwr.okB then s
  else
    let d := s.draw
    let e := d.2.draw
    let hi := 34100 + d.1.toNat % 40901
    let lo := e.1.toNat % 75001
    if d.1.toNat % 2 = 0 then (e.2.vinSet false hi).vinSet true lo else (e.2.vinSet true hi).vinSet false lo

/-- The journal at a start (R424): a torn entry is discarded; CMD_DISCARDED for each command journalled as accepted for a
boundary it never reached. -/
def State.discardJournal (s : State) : State :=
  let l := s.cmd.core.jrn.filter (fun j => j.valid && j.accepted && j.outcome.isNone)
  let s := l.foldl (fun s j => s.logEv 3 0 0x0103 (ofLe (j.serial.take 8) + j.seq.toNat * 2 ^ 64 + j.opcode * 2 ^ 96)) s
  { s with cmd := { s.cmd with core := { s.cmd.core with jrn := [] } } }

/-- The metering state restored from MRAM (R325): the interval open at the failure and the one open at the restart carry
PARTIAL. -/
def State.mtrRestore (s : State) : State :=
  match s.mtrNewer with
  | none => s
  | some c =>
    let c := c.mark 0x80
    ({ s with mtr := { s.mtr with core := c, own := c, partNext := true } } : State).setFlag Reg.MTR_FLAGS 7

/-- The calendar domain at the start (R463, R465, R476): with the cell absent through a loss of supply it may have lost
power, which is then a free value (log entry 6). -/
def State.calStart (s : State) : State :=
  let off := decide (s.pwr.cause ≤ 1) && s.cal.batAbsent
  let d := s.draw
  let s := if off then d.2 else s
  if off && d.1.getLsbD 0 then
    let s : State := { s with cal := { s.cal with st := .invalid, domainOk := false },
                              sys := { s.sys with tai := s.cal.mramSec * 10000000000 * 1000000000 } }
    let s := s.setFlag Reg.CAL_FLAGS 1
    let s := if s.sec.latch then s else { s with sec := { s.sec with latch := true, zeroDue := true } }
    s.calShow
  else ({ s with cal := { s.cal with st := .free, domainOk := true } } : State).calShow

/-- Each cage is read at the start as at an insertion, without its life count (R163). -/
def State.cagesStart (s : State) : State :=
  (upto 22).foldl (fun s n =>
    let p := s.port n
    if !p.present then s
    else
      let bad := moduleRefused p.sfpId p.sfpTech p.hiPower
      let lin := s.linChoice n p.sfpTech
      let t := presetTaps (if lin then 1 else 0)
      let s := s.updPort n (fun p => { p with refused := bad, lin := lin, linMode := lin, own := t, far := t })
      let s := s.setReg (Reg.PHY_SFP n) (word (p.sfpId.toNat + p.sfpTech.toNat * 256 + b2n p.hiPower * 65536))
      s.cageUse n bad) s

/-- The supply is good and the reset ends: the clocks lock, the bands and the inputs are measured (R458). -/
def State.startPower (s : State) : State :=
  let s : State := { s with pwr := { s.pwr with on := true, booted := true, resetIn := false } }
  let s : State := { s with clk := { s.clk with refOk := true, bkOk := true, lock := List.replicate 10 true } }
  s.bandsCal.vinAtStart

/-- The new run of the event log (R417): the staged entries are indexed before any new one; then the debug port, the
provisional key and the nonce of the start. -/
def State.startRun (s : State) : State :=
  let s := s.evIndex (fun _ => true) true
  let s : State := { s with sys := { s.sys with ev := { s.sys.ev with run := s.sys.ev.run + 1 } } }
  let s : State := { s with sec := { s.sec with debug := s.sec.debugNext, debugNext := false, provKey := s.sec.provKey + 1 } }
  let s := s.when s.sec.debug (fun s => s.setFlag Reg.SEC_FLAGS 3)
  let d := s.draw
  { d.2 with sec := { d.2.sec with nonce := d.1 } }

/-- The entry of acquisition records that the reset lost (R426). -/
def State.startLost (s : State) : State :=
  match s.acq.lost with
  | some (a, b) => ({ s with acq := { s.acq with lost := none } } : State).logEv 3 9 0x106 (a + b * 2 ^ 32)
  | none => s

/-- What the image started does in INIT: configuration, the first entries, the journal, what MRAM and eMMC kept, the
calendar, the cages. -/
def State.startImage (s : State) : State :=
  let s := s.cfgLoad
  let s := s.logEv 0 0 0x100 (s.sys.fwver.toNat + b2n s.sec.running * 2 ^ 32)
  let s := s.when (decide (s.pwr.cause = 0)) (fun s => s.logEv 6 0xF 0x109 0)
  s.discardJournal.startLost.mtrRestore.imageLoad.calStart.cagesStart

/-- UNIT_START (R415, R417, R424, R426, R458, R472, R505): from the rails to INIT. -/
def State.unitStart (s : State) : State :=
  if s.pwr.booted then s
  else
    let s := s.startPower.startRun.bootImage
    let s := s.when (!s.sec.loaderOnly) State.startImage
    s.when s.sec.zeroDue State.zeroise

/-- UNIT_START (R458). -/
def execUnitStart (s : State) : Host.Outcome State Fault Refusal := .next s.unitStart

/-! ### The end of INIT (R95, R359) -/

/-- The role a unit takes at the end of INIT, or when its PAIR_CFG changes after it (R359). -/
def State.startRole (s : State) : State :=
  let active (s : State) : State :=
    if s.isActive then s else ({ s with pair := { s.pair with epoch := s.pair.epochMax } } : State).toActive
  if !s.paired then active s
  else if s.heldOut then (if s.role = Role.isolated then s else s.toRole Role.isolated)
  else if (match s.pair.hb with | some h => decide (h.role = Role.active) | none => false) && (s.hbCurrent false || s.hbCurrent true) then
    s.toSyncing
  else if !s.unitB then active s
  else
    let s := if s.role = Role.isolated then s else s.toRole Role.isolated
    { s with pair := { s.pair with waitLone := true, startT := s.sys.clk } }

/-- The watchdog relay follows its conditions (R461). -/
def State.relayUpdate (s : State) : State :=
  let on := s.pwr.on && s.pwr.booted && decide (s.mode ≠ .init) && decide (s.saf.arch ≠ .fault)
  if s.pwr.relay = on then s
  else ({ s with pwr := { s.pwr with relay := on } } : State).emit (.pin "WDOG_RELAY" on)

/-- SEC_MINVER rises to the security version of the running image (R473). -/
def State.minverRaise (s : State) : State :=
  match s.image s.sec.running with
  | some i => if i.secver > s.reg Reg.SEC_MINVER then s.setReg Reg.SEC_MINVER i.secver else s
  | none => s

/-- INIT_COMPLETE (R95): the angle base starts, the mode takes row 1, 2 or 3, the unit its role. -/
def State.initComplete (s : State) (pass : Bool) : State :=
  if s.mode ≠ .init || !s.pwr.booted || s.sec.loaderOnly || (pass && decide (s.saf.arch = .start)) then s
  else
    let s := s.angStart.minverRaise.unmappedCheck
    let s := if !pass || decide (s.saf.arch = .fault) then s.enterMode 3 1 .safeStop
      else if s.row1.all id then s.enterMode 1 6 .ready
      else s.enterMode 2 6 .commission
    s.startRole.relayUpdate

end Sys2Proof.Machine
end

