-- ==== Sys2Proof/Machine/RegRange.lean ====
section
/-! DEFINITION. The ranges of the register tables (R8, R14) and the conditions that the rules of each block set on the
register set a command leaves (R407). -/
namespace Sys2Proof.Machine

/-- The range of one field of a register family: address, strides and counts of its indices, lowest bit, width,
least and greatest value. -/
structure RangeRow where
  at_ : Nat
  dims : List (Nat × Nat)
  lo : Nat
  n : Nat
  min : Nat
  max : Nat
  deriving DecidableEq, Repr

/-- The ranges of the register tables: every field whose range is smaller than its width, part 1. -/
def rangeRows0 : List RangeRow :=
  [⟨0x1001C, [], 0, 10, 0xA, 0x3E8⟩,
   ⟨0x18000, [(0x10, 2048)], 1, 2, 0x0, 0x2⟩,
   ⟨0x20000, [], 2, 2, 0x0, 0x2⟩,
   ⟨0x20000, [], 8, 4, 0x0, 0xB⟩,
   ⟨0x20010, [], 0, 21, 0x3E8, 0x1E8480⟩,
   ⟨0x20014, [], 0, 20, 0x3E8, 0xC3500⟩,
   ⟨0x20018, [], 0, 5, 0x0, 0x1D⟩,
   ⟨0x20018, [], 8, 5, 0x0, 0x1D⟩,
   ⟨0x20018, [], 16, 5, 0x0, 0x1A⟩,
   ⟨0x2001C, [], 0, 32, 0x800000, 0x8000000⟩,
   ⟨0x20020, [], 0, 32, 0x800000, 0x8000000⟩,
   ⟨0x20024, [], 0, 32, 0x800000, 0x8000000⟩,
   ⟨0x20028, [], 0, 32, 0x0, 0x4000000⟩,
   ⟨0x20040, [], 0, 32, 0xC8, 0x4E20⟩,
   ⟨0x20044, [], 0, 32, 0x0, 0x7D0⟩,
   ⟨0x20048, [], 0, 32, 0xA, 0x7D0⟩,
   ⟨0x2004C, [], 0, 32, 0x64, 0x3E8⟩,
   ⟨0x20050, [], 0, 32, 0x0, 0x7D0⟩,
   ⟨0x20054, [], 0, 32, 0x1F4, 0x186A0⟩,
   ⟨0x20058, [], 0, 32, 0x800000, 0x4000000⟩,
   ⟨0x20060, [], 0, 32, 0x0, 0xA000000⟩,
   ⟨0x20064, [], 0, 32, 0x5, 0x1388⟩,
   ⟨0x20068, [], 0, 32, 0x0, 0x1000000⟩,
   ⟨0x2006C, [], 0, 32, 0x1000000, 0x1800000⟩]

/-- The ranges of the register tables: every field whose range is smaller than its width, part 2. -/
def rangeRows1 : List RangeRow :=
  [⟨0x20070, [], 0, 32, 0x0, 0x800000⟩,
   ⟨0x20074, [], 0, 32, 0x51EB8, 0x800000⟩,
   ⟨0x20078, [], 0, 32, 0x800000, 0x1800000⟩,
   ⟨0x20080, [], 0, 32, 0x0, 0x5000000⟩,
   ⟨0x20084, [], 0, 32, 0xC8, 0x186A0⟩,
   ⟨0x20088, [], 0, 32, 0x0, 0x19999A⟩,
   ⟨0x2008C, [], 0, 32, 0x51EB8, 0x800000⟩,
   ⟨0x20090, [], 0, 32, 0x51EB8, 0x800000⟩,
   ⟨0x20094, [], 0, 32, 0x0, 0x800000⟩,
   ⟨0x200A0, [], 0, 32, 0x0, 0x5000000⟩,
   ⟨0x200A4, [], 0, 32, 0x1F4, 0x30D40⟩,
   ⟨0x200A8, [], 0, 32, 0x0, 0x64000000⟩,
   ⟨0x200AC, [], 0, 32, 0x0, 0xE10⟩,
   ⟨0x200B0, [], 0, 32, 0x0, 0x64000000⟩,
   ⟨0x200E0, [], 0, 32, 0x4189, 0xA000000⟩,
   ⟨0x200E4, [], 0, 32, 0x4189, 0xA000000⟩,
   ⟨0x200E8, [], 0, 32, 0x4189, 0x19999A⟩,
   ⟨0x320, [], 0, 32, 0x28F5C, 0x4CCCCD⟩,
   ⟨0x324, [], 0, 32, 0x800000, 0x1000000⟩,
   ⟨0x328, [], 0, 32, 0xA, 0x1388⟩,
   ⟨0x330, [], 0, 32, 0x1F4, 0x4E20⟩,
   ⟨0x334, [], 0, 32, 0x1, 0x3C⟩,
   ⟨0x340, [], 0, 32, 0x28F5C, 0x2000000⟩,
   ⟨0x344, [], 0, 32, 0x28F5C, 0x333333⟩]

/-- The ranges of the register tables: every field whose range is smaller than its width, part 3. -/
def rangeRows2 : List RangeRow :=
  [⟨0x348, [], 0, 32, 0xA, 0x12C⟩,
   ⟨0x34C, [], 0, 32, 0x28F5C, 0x800000⟩,
   ⟨0x350, [], 0, 32, 0x147AE, 0x19999A⟩,
   ⟨0x354, [], 0, 32, 0xA, 0x7D0⟩,
   ⟨0x358, [], 0, 32, 0x5, 0x258⟩,
   ⟨0x360, [], 0, 32, 0x28F5C, 0x333333⟩,
   ⟨0x364, [], 0, 32, 0x1, 0x258⟩,
   ⟨0x368, [], 0, 32, 0x19999A, 0x2000000⟩,
   ⟨0x36C, [], 0, 32, 0x28F5C, 0x333333⟩,
   ⟨0x2040C, [], 0, 32, 0xA, 0x3E8⟩,
   ⟨0x20410, [], 0, 32, 0x32, 0x1C2⟩,
   ⟨0x20414, [], 0, 32, 0x1000000, 0x4000000⟩,
   ⟨0x20418, [], 0, 32, 0x14, 0x1F4⟩,
   ⟨0x2041C, [], 0, 32, 0x0, 0x1F4⟩,
   ⟨0x20420, [], 0, 12, 0x1, 0xFFF⟩,
   ⟨0x20424, [], 0, 12, 0x1, 0xFFF⟩,
   ⟨0x20500, [(0x100, 2)], 0, 2, 0x0, 0x2⟩,
   ⟨0x20504, [(0x100, 2)], 0, 32, 0x0, 0xA000000⟩,
   ⟨0x20508, [(0x100, 2)], 0, 32, 0x1000000, 0x4000000⟩,
   ⟨0x2050C, [(0x100, 2)], 0, 32, 0x800000, 0xF33333⟩,
   ⟨0x20510, [(0x100, 2)], 0, 32, 0x8CCCCD, 0x1000000⟩,
   ⟨0x20514, [(0x100, 2)], 0, 32, 0x10CCCCD, 0x1800000⟩,
   ⟨0x20518, [(0x100, 2)], 0, 32, 0x1000000, 0x1733333⟩,
   ⟨0x2051C, [(0x100, 2)], 0, 32, 0x51EB8, 0x800000⟩]

/-- The ranges of the register tables: every field whose range is smaller than its width, part 4. -/
def rangeRows3 : List RangeRow :=
  [⟨0x20520, [(0x100, 2)], 0, 32, 0x28F5C, 0x733333⟩,
   ⟨0x20524, [(0x100, 2)], 0, 32, 0x1, 0x1F4⟩,
   ⟨0x20528, [(0x100, 2)], 0, 32, 0xCCCCD, 0x5000000⟩,
   ⟨0x20544, [(0x100, 2), (0x8, 8)], 0, 32, 0x0, 0x1800000⟩,
   ⟨0x20584, [(0x100, 2), (0x8, 8)], 0, 32, 0x1000000, 0x7FFFFFFF⟩,
   ⟨0x205C4, [(0x100, 2), (0x8, 8)], 0, 32, 0x0, 0x7FFFFFFF⟩,
   ⟨0x30000, [], 0, 2, 0x0, 0x2⟩,
   ⟨0x3001C, [], 0, 5, 0x1, 0x10⟩,
   ⟨0x30024, [], 0, 4, 0x1, 0xF⟩,
   ⟨0x30028, [], 0, 16, 0x10, 0xFFFF⟩,
   ⟨0x3002C, [], 0, 16, 0x8000, 0xFD71⟩,
   ⟨0x30030, [], 0, 16, 0x999A, 0xFFFF⟩,
   ⟨0x30034, [], 0, 16, 0x8000, 0xFFFF⟩,
   ⟨0x30104, [(0x40, 6)], 0, 11, 0x0, 0x400⟩,
   ⟨0x30110, [(0x40, 6)], 0, 32, 0x64, 0x186A0⟩,
   ⟨0x30118, [(0x40, 6)], 0, 32, 0x1, 0x3D0900⟩,
   ⟨0x40300, [(0x400, 22)], 1, 2, 0x0, 0x2⟩,
   ⟨0x40000, [(0x400, 20)], 0, 2, 0x0, 0x2⟩,
   ⟨0x40000, [(0x400, 20)], 8, 5, 0x0, 0x13⟩,
   ⟨0x40060, [(0x400, 20)], 0, 8, 0x1, 0xFF⟩,
   ⟨0x40060, [(0x400, 20)], 8, 8, 0x1, 0xFF⟩,
   ⟨0x40060, [(0x400, 20)], 16, 8, 0x1, 0xFF⟩,
   ⟨0x48000, [], 0, 4, 0x2, 0xF⟩,
   ⟨0x48000, [], 8, 8, 0xA, 0xC8⟩]

/-- The ranges of the register tables: every field whose range is smaller than its width, part 5. -/
def rangeRows4 : List RangeRow :=
  [⟨0x50000, [], 0, 2, 0x0, 0x2⟩,
   ⟨0x5000C, [], 0, 12, 0x8, 0xE10⟩,
   ⟨0x50110, [(0x20, 16)], 0, 16, 0x8000, 0xFFFF⟩,
   ⟨0x60000, [], 4, 3, 0x0, 0x4⟩,
   ⟨0x60004, [(0x4, 3)], 0, 5, 0x0, 0x17⟩,
   ⟨0x60004, [(0x4, 3)], 8, 5, 0x0, 0x17⟩,
   ⟨0x6002C, [], 0, 32, 0x800000, 0x8000000⟩,
   ⟨0x60040, [(0x8, 8)], 8, 8, 0x0, 0xC8⟩,
   ⟨0x60040, [(0x8, 8)], 16, 5, 0x0, 0x17⟩,
   ⟨0x60130, [(0x40, 24)], 0, 2, 0x0, 0x2⟩,
   ⟨0x60130, [(0x40, 24)], 2, 2, 0x0, 0x2⟩,
   ⟨0x70104, [(0x40, 4)], 0, 2, 0x0, 0x2⟩,
   ⟨0x80000, [], 0, 5, 0x0, 0x17⟩,
   ⟨0x80004, [], 0, 5, 0x7, 0x8⟩,
   ⟨0x80100, [(0x10, 32)], 1, 5, 0x0, 0x17⟩,
   ⟨0x80100, [(0x10, 32)], 10, 2, 0x0, 0x2⟩,
   ⟨0x90040, [(0x10, 8)], 8, 2, 0x0, 0x2⟩,
   ⟨0x90100, [(0x40, 16)], 1, 2, 0x0, 0x2⟩,
   ⟨0x90100, [(0x40, 16)], 4, 7, 0x0, 0x64⟩,
   ⟨0x90100, [(0x40, 16)], 16, 5, 0x0, 0x10⟩,
   ⟨0x90104, [(0x40, 16)], 0, 12, 0x1, 0x800⟩,
   ⟨0x90108, [(0x40, 16)], 0, 24, 0x2, 0xFFFFFF⟩,
   ⟨0xA0008, [], 0, 5, 0x0, 0x1D⟩,
   ⟨0xA0008, [], 8, 5, 0x0, 0x1D⟩]

/-- The ranges of the register tables: every field whose range is smaller than its width, part 6. -/
def rangeRows5 : List RangeRow :=
  [⟨0xA000C, [], 0, 32, 0x1, 0x1E8480⟩,
   ⟨0xA0010, [], 0, 32, 0x3E8, 0xEE6B2800⟩,
   ⟨0xA0014, [], 0, 32, 0x1, 0xF4240⟩,
   ⟨0xA0018, [], 0, 32, 0x3E8, 0x77359400⟩,
   ⟨0xA0080, [(0x4, 16)], 0, 11, 0x0, 0x59F⟩,
   ⟨0xB0024, [], 0, 32, 0x3C, 0x15180⟩,
   ⟨0xB0028, [], 0, 32, 0x1, 0x258⟩,
   ⟨0xB002C, [], 0, 16, 0x1, 0x7FFF⟩,
   ⟨0x100, [], 0, 2, 0x0, 0x2⟩,
   ⟨0x100, [], 2, 2, 0x0, 0x2⟩,
   ⟨0x140, [], 0, 10, 0x1, 0x258⟩,
   ⟨0xD0018, [], 0, 12, 0x1, 0xE10⟩,
   ⟨0xD0020, [], 0, 8, 0x1, 0xFF⟩,
   ⟨0xD0024, [], 0, 10, 0x1, 0x3E8⟩,
   ⟨0xE0018, [], 0, 2, 0x0, 0x2⟩,
   ⟨0xE0018, [], 4, 2, 0x0, 0x2⟩,
   ⟨0xF0028, [], 0, 10, 0xA, 0x3E8⟩,
   ⟨0x100000, [], 0, 3, 0x0, 0x4⟩,
   ⟨0x100014, [], 0, 16, 0x0, 0xFF⟩,
   ⟨0x100020, [], 0, 32, 0xA, 0xF4240⟩,
   ⟨0x100024, [], 0, 32, 0x64, 0xF4240⟩,
   ⟨0x100028, [], 0, 32, 0x0, 0x15180⟩]

/-- The ranges of the register tables: every field whose range is smaller than its width. -/
def rangeRows : List RangeRow := rangeRows0 ++ rangeRows1 ++ rangeRows2 ++ rangeRows3 ++ rangeRows4 ++ rangeRows5

/-- The ranges of the safety parameter set (R393), part 1. -/
def spsRanges0 : List RangeRow :=
  [⟨0xC0104, [], 0, 32, 0x64, 0xEA60⟩,
   ⟨0xC0108, [], 0, 32, 0x28000000, 0x46000000⟩,
   ⟨0xC010C, [], 0, 32, 0x28000000, 0x46000000⟩,
   ⟨0xC0110, [], 0, 32, 0x1, 0x3E8⟩,
   ⟨0xC0114, [], 0, 32, 0x32, 0x384⟩,
   ⟨0xC0118, [], 0, 32, 0x1, 0x3E8⟩,
   ⟨0xC011C, [], 0, 32, 0x28F5C, 0x333333⟩,
   ⟨0xC0120, [], 0, 32, 0xA, 0x3E8⟩,
   ⟨0xC0124, [], 16, 12, 0x8, 0x19A⟩,
   ⟨0xC0140, [(0x4, 8)], 2, 2, 0x0, 0x2⟩,
   ⟨0xC0140, [(0x4, 8)], 4, 9, 0x5, 0x1F4⟩,
   ⟨0xC0160, [(0x4, 4)], 0, 3, 0x0, 0x5⟩]

/-- The ranges of the safety parameter set (R393). -/
def spsRanges : List RangeRow := spsRanges0


/-- Every range of the register at an address holds for the value it has. -/
def rangesOk (rows : List RangeRow) (s : State) (a : Nat) : Bool :=
  rows.all (fun r => !(decide (r.at_ ≤ a) && dimsMatch r.dims (a - r.at_)) ||
    (decide (r.min ≤ s.fld a r.lo r.n) && decide (s.fld a r.lo r.n ≤ r.max)))

/-! ### Angle -/

/-- The fields of stitch entry `n` are allowed (R48, R50). -/
def State.entryOk (s : State) (n : Nat) : Bool :=
  let ctl := s.reg (Reg.STn_CTL n)
  let act := bits ctl 4 3
  let tgt := s.reg (Reg.STn_TGT n)
  (decide (bits ctl 1 2 ≠ 0) || decide (s.fld (Reg.STn_POS n) 10 10 = 0)) && decide (act ≠ 7) &&
    (decide (act ≠ 4) || decide (tgt = 0)) && (decide (act ≠ 5) || decide (bits tgt 0 2 ≠ 3))

/-- The enabled entries: form, position, row (R51). -/
def State.entries (s : State) : List (Nat × Nat × Nat) :=
  let of (n : Nat) := (s.fld (Reg.STn_CTL n) 1 2, s.fld (Reg.STn_POS n) 0 20, s.regN (Reg.STn_ROW n))
  (upto 9).map of ++ s.sys.regs.filterMap (fun p =>
    if 0x18090 ≤ p.1 ∧ p.1 < 0x20000 ∧ p.1 % 16 = 0 ∧ bit p.2 0 then some (of ((p.1 - 0x18000) / 16)) else none)

/-- Entry `x` falls on ac `p` of the row, of row `r` for a ONCE entry (R51). -/
def entryFalls (p r : Nat) (x : Nat × Nat × Nat) : Bool :=
  if x.1 = 0 then decide (x.2.1 % 1024 = p % 1024)
  else if x.1 = 1 then decide (x.2.1 = p)
  else decide (x.2.1 = p) && decide (x.2.2 = r)

/-- No ac has more than 64 enabled entries (R51): the count is greatest at the position of some entry. -/
def State.stitchLimit (s : State) : Bool :=
  let l := s.entries
  l.all (fun x => decide ((l.filter (entryFalls x.2.1 x.2.2)).length ≤ 64))

/-! ### Engine, ride-through, arms, lanes -/

/-- Ranges [a, a+m) and [b, b+n) share no number; an empty range shares none. -/
def apart (a m b n : Nat) : Bool := decide (m = 0) || decide (n = 0) || decide (a + m ≤ b) || decide (b + n ≤ a)

/-- GFE_MAP (R62, R85): the ranges do not overlap and end at AIN31. -/
def State.gfeMapOk (s : State) : Bool :=
  let m := s.reg Reg.GFE_MAP
  let v := bits m 0 5
  let i := bits m 8 5
  let a := bits m 16 5
  apart v 3 i 3 && decide (v + 3 ≤ 32) && decide (i + 3 ≤ 32) &&
    (!bit m 24 || (apart v 3 a 6 && apart i 3 a 6 && decide (a + 6 ≤ 32)))

/-- Each _OUT level of set `n` lies strictly inside its _IN level (R121). -/
def State.rtLevelsOk (s : State) (n : Nat) : Bool :=
  decide (s.regN (Reg.RTSn_VLO_OUT n) > s.regN (Reg.RTSn_VLO_IN n)) &&
    decide (s.regN (Reg.RTSn_VHI_OUT n) < s.regN (Reg.RTSn_VHI_IN n)) &&
    decide (s.regN (Reg.RTSn_VN_OUT n) < s.regN (Reg.RTSn_VN_IN n))

/-- Numbers do not decrease. -/
def rising : List Nat → Bool
  | a :: b :: t => decide (a ≤ b) && rising (b :: t)
  | _ => true

/-- The times of envelope `e` of set `n` (R125): T_0 is 0, the points in use do not decrease. -/
def State.envOrderOk (s : State) (n e : Nat) : Bool :=
  let t := (upto 8).map (fun k => s.regN (0x20540 + 0x100 * n + 0x40 * e + 8 * k))
  decide (t.head? = some 0) && rising (t.filter (fun x => decide (x ≠ 0xFFFF_FFFF)))

/-- The levels of R121 and the envelopes of R125 of set `n`. -/
def State.rtSetOk (s : State) (n : Nat) : Bool := s.rtLevelsOk n && (upto 3).all (fun e => s.envOrderOk n e)

/-- TRIG_OUT has one owner (R127). -/
def State.trigOk (s : State) : Bool := !(s.flag Reg.RT_CFG 0 && s.flag Reg.MODE_CFG 0)

/-- HYST lies below LVL (R134). -/
def State.hwcOk (s : State) (a : Nat) : Bool := decide (s.fld a 16 12 < s.fld a 0 12)

/-- SPS_SLA_MAX exceeds RT_DREJOIN (R380). -/
def State.slaOk (s : State) : Bool := decide (s.regN Reg.SPS_SLA_MAX > s.regN Reg.RT_DREJOIN)

/-- The number of submodules of arm `a`, spares included. -/
def State.armSize (s : State) (a : Nat) : Nat := s.fld (Reg.ARMa_N a) 0 11 + s.fld (Reg.ARMa_K a) 0 11

/-- The conditions of R136 on the arm ranges. -/
def State.armRangesOk (s : State) : Bool :=
  (upto 6).all (fun a =>
    let b := s.fld (Reg.ARMa_BASE a) 0 12
    let m := s.armSize a
    decide (m ≤ 1024) && (decide (m = 0) || decide (b + m ≤ 4096)) &&
      (upto a).all (fun c => apart b m (s.fld (Reg.ARMa_BASE c) 0 12) (s.armSize c)))

/-- LNK_MAP of lane `n` (R209, R217): 0, or 1 to 256 slots within 4,096 numbers. -/
def State.mapOk (s : State) (n : Nat) : Bool :=
  decide (s.reg (Reg.LNK_MAP n) = 0) ||
    (decide (1 ≤ s.mapN n) && decide (s.mapN n ≤ 256) && decide (s.mapBase n + s.mapN n ≤ 4096))

/-- The maps of the primary lanes do not overlap (R137). -/
def State.mapsApart (s : State) : Bool :=
  s.primaries.all (fun p => s.primaries.all (fun r => decide (r ≤ p) ||
    apart (s.mapBase p) (s.mapN p) (s.mapBase r) (s.mapN r)))

/-! ### PWM -/

/-- The period of counter `n` for its time base (R241). -/
def State.perOk (s : State) (n : Nat) : Bool :=
  let per := s.fld (Reg.PWMn_PER_SH n) 0 25
  decide ((if s.flag (Reg.PWMn_CFG n) 1 then 40 else 256) ≤ per) && decide (per ≤ 2 ^ 24)

/-- The assignment of the main converter while it is enabled (R253). -/
def State.mainOk (s : State) : Bool :=
  let l := s.mainCtrs.map (·.1)
  decide (l.eraseDups.length = l.length) &&
    l.all (fun n => !s.flag (Reg.PWMn_CFG n) 1 && decide ((s.ctr n).per = 16384 * s.psteps))

/-! ### Filter chain and acquisition -/

/-- Following the chain from channel `n` ends at an input within `k` stages (R277). -/
def State.chainEnds (s : State) : Nat → Nat → Bool
  | 0, _ => false
  | k + 1, n => if s.chChain n then s.chainEnds k (s.chSrc n) else true

/-- No loop of chained channels (R277). -/
def State.noLoops (s : State) : Bool := (upto 32).all (fun n => s.chainEnds 33 n)

/-- Control and metering channels (R281). -/
def State.rolesOk (s : State) : Bool :=
  (upto 32).all (fun n => decide (s.chRole n = 0) ||
    (!s.chChain n && s.alock n && (upto n).all (fun m => decide (s.chRole m ≠ s.chRole n) || decide (s.chSrc m ≠ s.chSrc n))))

/-- The channels a remote slot asks for (R304). -/
def State.remNmem (s : State) (k : Nat) : Nat := ((upto 4).filter (fun i => s.flag (Reg.SLOTk_REM k) (16 + i))).length

/-- The members of slot `k` sample at the same positions (R295). -/
def State.membersOk (s : State) (k : Nat) : Bool :=
  let l := s.members k
  let chans := (l.filter (fun c => decide (c / 64 = 1))).map (· % 64)
  let sigs := l.any (fun c => decide (c / 64 = 2))
  let d := if sigs then some 8 else chans.head?.map (fun n => s.dtot n)
  l.all (fun c => decide (c / 64 = 1) && decide (c % 64 < 32) || decide (c / 64 = 2)) &&
    (chans.all (fun n => s.alock n && decide (some (s.dtot n) = d)) || decide (l.length = 1))

/-- An enabled slot `k` is allowed (R295). -/
def State.slotOk (s : State) (k : Nat) : Bool :=
  let kind := s.slotKind k
  let nmem := if kind = 2 then s.remNmem k else s.slotNmem k
  let nfr := s.fld (Reg.SLOTk_NFR k) 0 24
  let size := s.fld (Reg.SLOTk_SIZE k) 0 12 * 2 ^ 20
  !s.flag (Reg.SLOTk_CFG k) 0 ||
    ((decide (kind = 2) || (decide (1 ≤ s.slotNmem k) && s.membersOk k)) &&
     (decide (kind = 1) || (decide (1024 + 4 * nmem * nfr ≤ size) && decide (2 ≤ nfr))) &&
     (decide (kind ≠ 2) || decide (nfr ≤ 8192)) && decide (1 ≤ size))

/-- The slots together (R295): every enabled one is allowed, and their sizes fit the region. -/
def State.slotsOk (s : State) : Bool :=
  (upto 16).all (fun k => s.slotOk k) &&
    decide (((upto 16).map (fun k => if s.flag (Reg.SLOTk_CFG k) 0 then s.fld (Reg.SLOTk_SIZE k) 0 12 else 0)).sum ≤ 2048)

/-- No unit triggers a continuous slot (R294). -/
def State.trgSlotsOk (s : State) : Bool :=
  (upto 8).all (fun u => !s.flag (Reg.TRGu_CFG u) 13 || decide (s.slotKind (s.fld (Reg.TRGu_CFG u) 16 4) ≠ 1))

/-! ### Metering -/

/-- MTR_TZ (R335): −720 to +840 minutes, a multiple of 15. -/
def State.tzOk (s : State) : Bool :=
  let t := (BitVec.ofNat 16 (s.fld Reg.MTR_TZ 0 16)).toInt
  decide (-720 ≤ t) && decide (t ≤ 840) && decide (t % 15 = 0)

/-- MTR_INTV (R319). -/
def State.intvOk (s : State) : Bool := [1, 2, 3, 4, 5, 6, 10, 12, 15, 20, 30, 60].contains (s.fld Reg.MTR_INTV 0 6)

/-- The minute of switch point `t` is a multiple of MTR_INTV (R321). -/
def State.tswOk (s : State) (t : Nat) : Bool := decide (s.fld (Reg.MTR_TSWt t) 0 11 % max 1 (s.fld Reg.MTR_INTV 0 6) = 0)

/-- No two enabled switch points with equal minutes share a day (R321). -/
def State.tswApart (s : State) : Bool :=
  (upto 16).all (fun t => (upto t).all (fun u =>
    let x := s.reg (Reg.MTR_TSWt t)
    let y := s.reg (Reg.MTR_TSWt u)
    !(bit x 15 && bit y 15 && decide (bits x 0 11 = bits y 0 11) && decide (bits (x &&& y) 16 7 ≠ 0))))

/-! ### The whole -/

/-- A pair runs in lane mode only (R336). -/
def State.pairModeOk (s : State) : Bool := !s.paired || s.laneMode

/-- The conditions that a write to address `a` brings with it, on the register set as the command leaves it; the
limit of R51 is checked apart. -/
def State.crossOk (s : State) (a : Nat) : Bool :=
  let o := a % 0x10000
  match a / 0x10000 with
  | 0 => if a = Reg.PIPE_CFG then s.pairModeOk else if a = Reg.MODE_CFG then s.trigOk else true
  | 1 => if 0x8090 ≤ o then s.entryOk ((o - 0x8000) / 16) else true
  | 2 =>
    if a = Reg.GFE_MAP then s.gfeMapOk
    else if a = Reg.RT_CFG then s.trigOk
    else if a = Reg.RT_DREJOIN then s.slaOk
    else if a = Reg.RT_HWC_ARM ∨ a = Reg.RT_HWC_LINE then s.hwcOk a
    else if 0x500 ≤ o ∧ o < 0x700 then s.rtSetOk ((o - 0x500) / 0x100)
    else true
  | 3 =>
    if 0x100 ≤ o ∧ o < 0x280 ∧ o % 0x40 < 0xC then s.armRangesOk
    else if a = Reg.ARM_SP_VHI ∨ a = Reg.ARM_SP_VLO then decide (s.regN Reg.ARM_SP_VHI > s.regN Reg.ARM_SP_VLO)
    else true
  | 4 =>
    if o < 0x5000 ∧ o % 0x400 = 4 then s.mapOk (o / 0x400) && s.mapsApart
    else if o < 0x5000 ∧ o % 0x400 = 0 then s.mapsApart
    else true
  | 6 =>
    if 0x100 ≤ o ∧ o < 0x700 ∧ o % 0x40 = 4 then s.perOk ((o - 0x100) / 0x40)
    else if o < 0x10 then !s.flag Reg.PWM_MAIN_CFG 0 || s.mainOk
    else true
  | 7 => if a = Reg.ADC_ANGLE then s.rolesOk && s.slotsOk else true
  | 8 => if 0x100 ≤ o ∧ o < 0x300 then s.noLoops && s.rolesOk && s.slotsOk else true
  | 9 => if 0x40 ≤ o then s.trgSlotsOk && s.slotsOk else true
  | 10 =>
    if a = Reg.MTR_TZ then s.tzOk
    else if a = Reg.MTR_INTV then s.intvOk && (upto 16).all (fun t => s.tswOk t)
    else if 0x80 ≤ o ∧ o < 0xC0 then s.tswOk ((o - 0x80) / 4) && s.tswApart
    else true
  | 11 => if a = Reg.PAIR_CFG then s.pairModeOk else true
  | _ => true

end Sys2Proof.Machine
end

