-- ==== Sys2Proof/Machine/RegWrite.lean ====
section
/-! DEFINITION. Register write sets: validation and application of a block register access (R17, R30, R405 to R407). -/
namespace Sys2Proof.Machine

/-! ### Entries -/

/-- OP of an entry (R406): 0 read, 1 write, 2 modify, 3 refused. -/
def entryOp (e : RegEntry) : Nat := e.addr.toNat % 4

/-- The register address of an entry. -/
def entryAt (e : RegEntry) : Nat := e.addr.toNat - e.addr.toNat % 4

/-- The entry writes. -/
def entryWrites (e : RegEntry) : Bool := decide (entryOp e = 1) || decide (entryOp e = 2)

/-- The addresses a set writes, in entry order. -/
def writtenBy (es : List RegEntry) : List Nat := ((es.filter entryWrites).map entryAt).eraseDups

/-- The value an entry writes: a modify works on the register as it stands (R406). -/
def State.entryVal (s : State) (e : RegEntry) : Word :=
  if entryOp e = 2 then (s.readReg (entryAt e) &&& ~~~e.mask) ||| (e.value &&& e.mask) else e.value

/-- The RW and RW/L fields of a register take a value; nothing else follows. -/
def State.rawWrite (s : State) (a : Nat) (v : Word) : State :=
  s.setReg a ((s.reg a &&& ~~~regMask a) ||| (v &&& regMask a))

/-- One entry of a set applied to the fields alone. -/
def State.rawEntry (s : State) (e : RegEntry) : State := if entryWrites e then s.rawWrite (entryAt e) (s.entryVal e) else s

/-- A set applied to the fields alone. -/
def State.rawSet (s : State) (es : List RegEntry) : State := es.foldl State.rawEntry s

/-- The accesses accepted for boundary `t`, with their sessions. -/
def State.accFor (s : State) (t : Nat) : List (List RegEntry) :=
  (s.cmd.core.acc ++ s.cmd.own).filterMap (fun x => match x.op with
    | .regAccess es => if x.target = t then some es else none
    | _ => none)

/-- The registers as they will stand at boundary `t`, by the accesses accepted for it (R407). -/
def State.staged (s : State) (t : Nat) : State := (s.accFor t).foldl (fun s es => s.rawSet es) s

/-! ### Validation -/

/-- The first entry that `bad` refuses, the fields advancing with each entry. -/
def firstBad (bad : State → RegEntry → Bool) : State → Nat → List RegEntry → Option Nat
  | _, _, [] => none
  | s, i, e :: t => if bad s e then some i else firstBad bad (s.rawEntry e) (i + 1) t

/-- A register of the pair as a whole (R405, R412): the system block from 0x0200 and blocks 1 to 10, the lanes apart. -/
def pairWide (a : Nat) : Bool :=
  decide (0x200 ≤ a ∧ a < 0x10000) || decide (1 ≤ a / 0x10000 ∧ a / 0x10000 ≤ 10 ∧ a / 0x10000 ≠ 4)

/-- The address is FLTn_CFG of some channel. -/
def isFltCfg (a : Nat) : Bool := decide (0x80100 ≤ a ∧ a < 0x80300 ∧ a % 16 = 0)

/-- The address is PWMn_CFG of some counter. -/
def isPwmCfg (a : Nat) : Bool := decide (0x60100 ≤ a ∧ a < 0x60700 ∧ a % 0x40 = 0)

/-- The address is one of the five shadows of some counter. -/
def isPwmShadow (a : Nat) : Bool :=
  decide (0x60100 ≤ a ∧ a < 0x60700 ∧ 4 ≤ a % 0x40 ∧ a % 0x40 ≤ 0x14)

/-- The number of the counter at an address. -/
def ctrAt (a : Nat) : Nat := (a - 0x60100) / 0x40

/-- The write is forbidden in the role and mode (R17, R274, R281, R354, R363, R405, R443). -/
def State.modeBad (s0 s : State) (e : RegEntry) : Bool :=
  let a := entryAt e
  let v := s.entryVal e
  let d := v ^^^ s0.reg a
  let com := decide (s.mode = .commission)
  entryWrites e &&
    ((pairWide a && !s.isActive) || (!com && decide (d &&& lockMask a ≠ 0)) ||
     (!com && isFltCfg a && decide (d &&& regMask a ≠ 0) && (decide (bits v 10 2 ≠ 0) || decide (s0.fld a 10 2 ≠ 0))) ||
     (!com && (decide (a = Reg.CLK_DIV_SH) || decide (a = Reg.CLK_GO))) ||
     (decide (a = Reg.ADC_PATCH) && !com && decide (s.mode ≠ .maintain)) ||
     (decide (a = Reg.PAIR_CTRL) &&
       ((bit v 0 && !s.isActive) || (bit v 1 && (decide (s.mode ≠ .maintain) || !s.isActive)))))

/-- A value or an address lies outside its range, or the set leaves a combination that a rule refuses (R406, R407). -/
def State.rangeBad (after s : State) (e : RegEntry) : Bool :=
  let a := entryAt e
  let v := s.entryVal e
  decide (entryOp e = 3) || decide (a ≥ 0x130000) ||
    (entryWrites e && (!rangesOk rangeRows (s.rawWrite a v) a || !after.crossOk a ||
      (decide (0x18000 ≤ a ∧ a < 0x20000) && !after.stitchLimit) ||
      (decide (0x40000 ≤ a ∧ a < 0x45000 ∧ a % 0x400 = 0x64) && bit v 0 && decide (s.fld (a - 0x64) 0 2 = 0))))

/-- The write is to a sealed parameter, without the right (R330): `metro` is the metrology role. -/
def State.sealBad (s : State) (metro : Bool) (e : RegEntry) : Bool :=
  entryWrites e && s.mtr.sealed && s.sealedRegs.contains (entryAt e) && !(metro && decide (s.mode = .commission))

/-- The register belongs to the safety channels (R388). -/
def safetyBad (e : RegEntry) : Bool := entryWrites e && decide (entryAt e / 0x10000 = 12)

/-- The write conflicts with the state or with another session's access (R249, R274, R287, R295, R354, R361, R404,
R464). -/
def State.conflictBad (s0 : State) (others : List Nat) (s : State) (e : RegEntry) : Bool :=
  let a := entryAt e
  let v := s.entryVal e
  let d := (v ^^^ s.reg a) &&& regMask a
  let k := (a - 0x90100) / 0x40
  let main := !s0.laneMode && (isPwmCfg a || isPwmShadow a) && s0.isMain (ctrAt a)
  let slot := decide (0x90100 ≤ a ∧ a < 0x90500 ∧ a % 0x40 < 0x20) && s0.flag (Reg.SLOTk_CFG k) 0 &&
    (decide (a % 0x40 ≠ 0) || decide (d &&& ~~~(1#32) ≠ 0))
  let calSet := (decide (a = Reg.CAL_SET_LO) || decide (a = Reg.CAL_SET_HI)) && decide (1 ≤ s.calSrc ∧ s.calSrc ≤ 3)
  let patch := decide (a = Reg.ADC_PATCH) && ((bit v 8 && s.patchBusy) ||
    (bit v 9 && (match s.adc.spare with | .serving g => s.flag Reg.ADC_STAT g | _ => false)))
  let soft := decide (a = Reg.FLT_SYNC_SOFT) && (upto 32).any (fun n => bit v n && s0.alock n)
  let pair := decide (a = Reg.PAIR_CTRL) &&
    ((bit v 0 && !s.partnerBit 0) || (bit v 2 && s.isActive) || (bit v 3 && decide (s.role ≠ Role.isolated)))
  entryWrites e && (others.contains a || main || slot || calSet || patch || soft || pair)

/-- The verdict on an access for boundary `t` (R400, R407): the status and the index of the entry that fails; none
when it may pass. -/
def State.accessVerdict (s : State) (es : List RegEntry) (t session : Nat) (metro : Bool) : Option (Nat × Nat) :=
  let s0 := s.staged t
  let after := s0.rawSet es
  let others := (s.cmd.core.acc ++ s.cmd.own).flatMap (fun x => match x.op with
    | .regAccess es => if x.target = t ∧ !x.fw ∧ session ≠ 0 ∧ x.q.session.val ≠ session then writtenBy es else []
    | _ => [])
  let checks : List (Nat × (State → RegEntry → Bool)) :=
    [(0x103, State.modeBad s0), (0x104, State.rangeBad after), (0x107, fun s => s.sealBad metro), (0x301, fun _ => safetyBad),
     (0x101, State.conflictBad s0 others)]
  checks.findSome? (fun c => (firstBad c.2 s0 0 es).map (fun i => (c.1, i)))

/-! ### Application -/

/-- The parameters without a default (R8): an accepted write marks them written. -/
def noDefault (a : Nat) : Bool :=
  [Reg.GFE_SBASE, Reg.GFE_VBASE, Reg.GFE_MAP, Reg.GFE_VIN_FS, Reg.GFE_IIN_FS, Reg.GFE_AIN_FS, Reg.RT_HWC_ARM,
   Reg.RT_HWC_LINE, Reg.MTR_MAP, Reg.MTR_VFS, Reg.MTR_IFS, Reg.MTR_UN, Reg.MTR_IN, Reg.ARM_DCL, Reg.SPS_PWM_MASK,
   Reg.SPS_SLF_LO, Reg.SPS_SLF_HI, Reg.SPS_PLAUS, Reg.PWM_VDC_FS].contains a ||
  decide (0x30100 ≤ a ∧ a < 0x30280 ∧ [0, 4, 0x10, 0x14, 0x18].contains (a % 0x40)) ||
  decide (0x40000 ≤ a ∧ a < 0x45000 ∧ [0, 4].contains (a % 0x400))

/-- A parameter without a default is marked written (R8). -/
def State.mark (s : State) (a : Nat) : State :=
  if noDefault a && !s.sys.marks.contains a then { s with sys := { s.sys with marks := s.sys.marks ++ [a] } } else s

/-- One write of a set takes effect on the register (R15): RW and RW/L fields take the value, W1C fields with a 1 clear,
DONE and LATE of a stitch entry clear with STn_CTL; PWMn_CFG.EN is left to the array (R250). -/
def State.putEntry (s : State) (serial : List Byte) (e : RegEntry) : State :=
  if entryWrites e then
    let a := entryAt e
    let v := s.entryVal e
    let old := s.reg a
    let m := if isPwmCfg a then regMask a &&& ~~~(1#32) else regMask a
    let w1c := match regFam a with
      | some f => word f.w1c
      | none => 0
    let ctl := decide (0x18090 ≤ a ∧ a < 0x20000 ∧ a % 16 = 0)
    let new := ((old &&& ~~~m) ||| (v &&& m)) &&& ~~~(v &&& w1c)
    let s1 := (s.setReg a (if ctl then setBits new 8 2 0 else new)).mark a
    if s.sealedRegs.contains a then s1.sealedWrite a old (s1.reg a) serial else s1
  else s

/-- A lane's configuration changes (R209 to R211): a route on a lane that no longer serves its association is lost, and the
lane is assessed again (R201). -/
def State.laneCfg (s0 s : State) (n : Nat) : State :=
  let s := (s0.primaries ++ s.primaries).eraseDups.foldl (fun s p =>
    match (s.assoc p).route with
    | some r => if (s.lanesOf p).contains r then s else s.routeLost p
    | none => s) s
  s.assess n

/-- A channel's source becomes angle-locked or ceases to be (R279): the next position of each locked channel. -/
def State.angleMask (s : State) : State :=
  (upto 32).foldl (fun s n => if s.alock n then s.updChan n (fun c => { c with next := s.stepNo * 8 }) else s) s

/-- A trip input's configuration changes (R257): its polarity decides which level is active. -/
def State.tripCfg (s0 s : State) (i : Nat) : State :=
  if s0.flag (Reg.TRIPi_CFG i) 1 = s.flag (Reg.TRIPi_CFG i) 1 then s
  else
    let s := s.updTrip i (fun t => { t with active := !t.active })
    if (s.trip i).active && s.flag (Reg.TRIPi_CFG i) 0 && !s.blanked i && !(s.trip i).latch then s.tripLatch i else s

/-- The calendar's configuration changes (R465): without a source the state is FREE. -/
def State.calCfg (s : State) : State :=
  let st := if s.calSrc = 0 ∧ s.cal.st ≠ .invalid then .free else s.cal.st
  ({ s with cal := { s.cal with st := st } } : State).calShow

/-- The pair's configuration changes (R336): after INIT the unit takes its role anew when EN or UNIT has changed. -/
def State.pairCfg (s0 s : State) : State :=
  if (s0.paired = s.paired ∧ s0.unitB = s.unitB) ∨ s.mode = .init then s else s.startRole

/-- What follows a write of register `a`: `s0` is the state before the set, `v` the last value written. -/
def State.writeHook (s0 s : State) (a : Nat) (v : Word) : State :=
  let o := a % 0x10000
  match a / 0x10000 with
  | 0 => if a = Reg.MODE_CFG then s.trigUpdate else s
  | 1 =>
    if a = Reg.ANG_CFG then (s.setReg Reg.GFE_F_TGT (word s.fnom)).setReg Reg.MODE_HOST_F (word s.fnom)
    else if 0x8090 ≤ o then s.onceCheck ((o - 0x8000) / 16)
    else s
  | 2 => if a = Reg.RT_CFG then s.trigUpdate else s
  | 3 =>
    let m := if a = Reg.ARM_CFG then 3 else if 0x100 ≤ o ∧ o < 0x280 ∧ o % 0x40 < 12 then 0xFFFF else 0
    if bits (s0.reg a) 0 16 &&& m = bits (s.reg a) 0 16 &&& m then s else s.armCfgChanged
  | 4 =>
    if o < 0x5800 ∧ o % 0x400 = 0x300 then s.phyCfgAct (o / 0x400)
    else if o < 0x5000 ∧ (o % 0x400 = 0 ∨ o % 0x400 = 4) then State.laneCfg s0 s (o / 0x400)
    else s
  | 6 =>
    if isPwmCfg a then s.pwmSetEn (ctrAt a) (bit v 0)
    else if isPwmShadow a then (if s.isActive then s.updCtr (ctrAt a) (fun c => { c with shWritten := true }) else s)
    else if 0x40 ≤ o ∧ o < 0x80 ∧ o % 8 = 0 then State.tripCfg s0 s ((o - 0x40) / 8)
    else s
  | 7 =>
    if a = Reg.ADC_ANGLE then s.angleMask
    else if 0x100 ≤ o ∧ o < 0x200 ∧ o % 0x40 = 4 then s.refTo ((o - 0x100) / 0x40) (s.fld a 0 2) false
    else s
  | 8 =>
    if isFltCfg a then (if s0.reg a = s.reg a then s else s.chanChanged ((o - 0x100) / 16))
    else if (a = Reg.FLT_CTL_CFG ∨ a = Reg.FLT_MTR_CFG) ∧ s0.reg a ≠ s.reg a then
      (upto 32).foldl (fun s n => if s.chRole n = o / 4 + 1 then s.chanChanged n else s) s
    else s
  | 9 =>
    if 0x40 ≤ o ∧ o < 0xC0 ∧ o % 16 = 0 then s.trgEnable ((o - 0x40) / 16) (s0.flag a 0)
    else if 0x100 ≤ o ∧ o < 0x500 ∧ o % 0x40 = 0 then s.slotEnable ((o - 0x100) / 0x40) (s0.flag a 0)
    else s
  | 11 => if a = Reg.PAIR_CFG then State.pairCfg s0 s else s
  | 16 =>
    if a = Reg.CAL_CFG then s.calCfg
    else if a = Reg.CAL_UTC_OFS then (s.setReg a (s0.reg a)).utcSet (s.fld a 0 16)
    else if a = Reg.CAL_SET_HI then s.calSetAct
    else s
  | _ => s

/-- PAIR_CTRL and PAIR_ACTION (R354, R361, R363): 0 handover, 1 proof, 2 isolate, 3 rejoin; false where the rule refuses
it with CONFLICT. -/
def State.pairAct (s : State) (k : Nat) : Bool × State :=
  if k = 0 then s.startHandover 0
  else if k = 1 then (true, s.proofStart)
  else if k = 2 then s.isolateAct
  else s.rejoinPair

/-- SEC_CTRL.TAMPER_CLR (R477): the latch clears while the cover is closed. -/
def State.tamperClear (s : State) : State :=
  if s.sec.coverOpen then s else { s with sec := { s.sec with latch := false } }

/-- The action bits of a lane's registers, at offset `o` of its window (R181, R197, R211). -/
def State.laneAct (s : State) (n o : Nat) (v : Word) : Bool × State :=
  if o = 0x338 then (true, if bit v 0 then s.retrain n else s)
  else if o = 0x64 ∧ n < 20 then
    let r := if bit v 0 then s.routeTo n else (true, s)
    (r.1, if bit v 1 && r.2.linkUp n then r.2.echoSend n else r.2)
  else (true, s)

/-- The WO registers and action bits of one entry (R407); false where the action is refused at the boundary. -/
def State.woAct (s : State) (a : Nat) (v : Word) : Bool × State :=
  let o := a % 0x10000
  let if_ (c : Bool) (t : State) : Bool × State := (true, if c then t else s)
  if a / 0x10000 = 4 then (if o < 0x5800 then s.laneAct (o / 0x400) (o % 0x400) v else (true, s))
  else if a = Reg.PIPE_CTRL then if_ (bit v 0) s.marginReset
  else if a = Reg.PWM_LOAD then if_ (bit v 0) s.pwmLoadAllAct
  else if a = Reg.PWM_TRIP_CLR then (true, s.tripClrAct (bits v 0 8))
  else if a = Reg.ADC_SWTRIG then (true, s.scanTrig (bits v 0 5) none 4)
  else if a = Reg.ADC_PATCH then
    let s1 := if bit v 8 then s.patchGo (bits v 0 2) else s
    (true, if bit v 9 then s1.patchRelease else s1)
  else if 0x70100 ≤ a ∧ a < 0x70200 ∧ a % 0x40 = 8 then if_ (bit v 8) (s.urgent ((o - 0x100) / 0x40) (bits v 0 3))
  else if a = Reg.FLT_SYNC_SOFT then (true, s.syncSoft v.toNat)
  else if a = Reg.FLT_SYNC_HARD then (true, s.syncHard v.toNat)
  else if a = Reg.ACQ_MFIFO_POP then if_ (bit v 0) s.mfifoPop
  else if a = Reg.ACQ_TRG_ARM then (true, s.trgArm (bits v 0 8) 0)
  else if a = Reg.SNAP_CMD then if_ (bit v 0) (s.snapRaise 1)
  else if a = Reg.CLK_GO then if_ (bit v 0) s.clkGoAct
  else if a = Reg.SEC_CTRL then if_ (bit v 0) s.tamperClear
  else if a = Reg.PAIR_CTRL then
    (upto 4).foldl (fun r k => if bit v k then (let x := r.2.pairAct k; (r.1 && x.1, x.2)) else r) (true, s)
  else (true, s)

/-- The value a set leaves at `a`: each write names it whole, a modify where its mask does (R406). -/
def State.valueAfter (s : State) (es : List RegEntry) (a : Nat) : Word :=
  es.foldl (fun v e => if entryWrites e && entryAt e == a then
      (if entryOp e = 2 then (v &&& ~~~e.mask) ||| (e.value &&& e.mask) else e.value) else v) (s.reg a)

/-- A write set takes effect (R30, R407): the writes in entry order, what follows from each register, then the WO
registers and action bits in entry order. False where an action bit is refused at the boundary. -/
def State.applyAccess (s0 : State) (es : List RegEntry) (serial : List Byte) : Bool × State :=
  let s := es.foldl (fun s e => s.putEntry serial e) s0
  let s := (writtenBy es).foldl (fun s a => State.writeHook s0 s a (s0.valueAfter es a)) s
  let r := es.foldl (fun (r : Bool × State) e =>
    if entryWrites e then
      (let x := r.2.woAct (entryAt e) (r.2.entryVal e); (r.1 && x.1, x.2))
    else r) (true, s)
  (r.1, r.2.safSettle)

/-- A set writes a field that the configuration store holds (R505). -/
def writesStore (es : List RegEntry) : Bool := (writtenBy es).any (fun a => decide (cfgMask a ≠ 0))

/-- TAMPER_CLR (R477): the write of SEC_CTRL.TAMPER_CLR made with the cover closed. -/
def execTamperClr (s : State) : Host.Outcome State Fault Refusal :=
  s.live ({ s with sec := { s.sec with coverOpen := false } } : State).tamperClear

end Sys2Proof.Machine
end

