-- ==== Sys2Proof/Machine/Opcode.lean ====
section
/-! DEFINITION. The opcodes of command packets (R409): code, role, timing, parameter lengths, and the command that the
parameters of a packet spell. -/
namespace Sys2Proof.Machine

/-- The entries of an access include a write (R407). -/
def anyWrite (es : List RegEntry) : Bool := es.any entryWrites

/-- The opcode (R409). -/
def opCode : HostOp → Nat
  | .ping => 0x0101 | .ident => 0x0102 | .ownClaim _ => 0x0103 | .ownRelease _ => 0x0104 | .evlogRead _ _ => 0x0105
  | .mgmtSend _ _ _ _ => 0x0106 | .reset => 0x0107 | .modeSet _ => 0x0201 | .brkReport _ _ => 0x0202
  | .setP _ => 0x0301 | .setQ _ => 0x0302 | .setV _ => 0x0303 | .setF _ => 0x0304 | .setMulti _ _ _ _ _ => 0x0305
  | .regAccess _ => 0x0401 | .regReadRange _ _ => 0x0402 | .ldgRead _ _ => 0x0501 | .ldgArchRead _ _ => 0x0502
  | .ldgRetire _ => 0x0503 | .ldgReplace _ => 0x0504 | .ldgKeySet _ => 0x0505 | .acqHead => 0x0601
  | .acqRead _ _ _ => 0x0602 | .acqFree _ => 0x0603 | .acqStream _ _ _ => 0x0604 | .mtrReadout => 0x0701
  | .mtrProfile _ _ => 0x0702 | .mtrAuditRead _ _ => 0x0703 | .mtrSeal => 0x0704 | .mtrFwhash => 0x0705
  | .pairAction _ => 0x0801 | .spsWrite _ _ => 0x0901 | .spsConfirm _ => 0x0902 | .safReset => 0x0903
  | .safSpb => 0x0904 | .safProof _ => 0x0905 | .safProofOut _ _ => 0x0906 | .fwBegin _ _ => 0x0A01
  | .fwData _ _ => 0x0A02 | .fwEnd => 0x0A03 | .fwActivate _ => 0x0A04 | .close => 0x0B03 | .trustSet _ => 0x0B10
  | .keyGen _ => 0x0B11 | .certSet _ => 0x0B12 | .debugUnlock _ => 0x0B13 | .unknown c => c | .badLen c => c

/-- The role an opcode needs (R395, R409), by its bit: 0 VIEW, 1 OPERATE, 2 ENGINEER, 3 METROLOGY, 4 SAFETY,
5 SECURITY. -/
def opRole : HostOp → Nat
  | .ping | .ident | .evlogRead _ _ | .regReadRange _ _ | .ldgRead _ _ | .ldgArchRead _ _ | .acqHead | .acqRead _ _ _
  | .acqStream _ _ _ | .mtrReadout | .mtrProfile _ _ | .mtrAuditRead _ _ | .close | .unknown _ | .badLen _ => 0
  | .ownClaim _ | .ownRelease _ | .modeSet _ | .brkReport _ _ | .setP _ | .setQ _ | .setV _ | .setF _
  | .setMulti _ _ _ _ _ | .acqFree _ | .safReset | .safSpb => 1
  | .regAccess es => if anyWrite es then 2 else 0
  | .pairAction k => if k = 0 then 1 else 2
  | .mgmtSend _ _ _ _ | .reset | .ldgRetire _ | .ldgReplace _ | .ldgKeySet _ | .fwBegin _ _ | .fwData _ _ | .fwEnd
  | .fwActivate _ => 2
  | .mtrSeal | .mtrFwhash => 3
  | .spsWrite _ _ | .spsConfirm _ | .safProof _ | .safProofOut _ _ => 4
  | .trustSet _ | .keyGen _ | .certSet _ | .debugUnlock _ => 5

/-- The opcode is marked boundary (R402, R409). -/
def opBoundary : HostOp → Bool
  | .modeSet _ | .brkReport _ _ | .setP _ | .setQ _ | .setV _ | .setF _ | .setMulti _ _ _ _ _ | .ldgRetire _
  | .ldgReplace _ | .ldgKeySet _ | .mtrSeal | .mtrFwhash | .pairAction _ | .spsWrite _ _ | .spsConfirm _ | .safReset
  | .safProof _ | .trustSet _ | .keyGen _ | .certSet _ => true
  | .regAccess es => anyWrite es
  | _ => false

/-- The opcode is immediate and changes state (R402), so it waits for its journal entry; SAF_SPB acts at validation
(R409). -/
def opChanges : HostOp → Bool
  | .ownClaim _ | .ownRelease _ | .mgmtSend _ _ _ _ | .reset | .acqFree _ | .safProofOut _ _ | .fwBegin _ _ | .fwData _ _
  | .fwEnd | .fwActivate _ | .close | .debugUnlock _ => true
  | _ => false

/-- The reads of a command are taken at the read instant of R408. -/
def opReads : HostOp → Bool
  | .regReadRange _ _ => true
  | .regAccess es => es.any (fun e => !entryWrites e)
  | _ => false

/-- The parameters do not suit the opcode (LENGTH, R400). -/
def opBadLen : HostOp → Bool
  | .badLen _ => true
  | .mgmtSend _ _ _ body => decide (body.length > 240)
  | .regAccess es => decide (es.length = 0) || decide (es.length > 64)
  | .ldgKeySet key => decide (key.length ≠ 97)
  | .spsWrite _ vals => decide (vals.length > 349)
  | .fwData _ data => decide (data.length = 0) || decide (data.length > 1024)
  | .trustSet l | .certSet l => decide (l.length = 0) || decide (l.length > 1400)
  | .debugUnlock t => decide (t.length ≠ 160)
  | _ => false

/-- The opcodes a unit in STANDBY or SYNCING executes (R405); of an access, the writes to its own registers (log entry 29). -/
def opAnyUnit (op : HostOp) : Bool :=
  decide (opRole op = 0) ||
  match op with
  | .mtrSeal | .mtrFwhash | .spsWrite _ _ | .spsConfirm _ | .safProofOut _ _ | .safReset | .fwBegin _ _ | .fwData _ _
  | .fwEnd | .fwActivate _ | .reset => true
  | .pairAction k => decide (k = 2) || decide (k = 3)
  | .regAccess _ => true
  | _ => false

/-- The opcodes that need COMMISSION (R409). -/
def opCommission : HostOp → Bool
  | .ldgKeySet _ | .mtrSeal | .mtrFwhash | .spsWrite _ _ | .spsConfirm _ | .trustSet _ | .keyGen _ | .certSet _ => true
  | _ => false

/-- The mode of a code (R86). -/
def modeOf (c : Nat) : Option Mode :=
  [Mode.init, .commission, .ready, .castOn, .sync, .connected, .island, .rideThrough, .coast, .bindOff, .safeStop,
   .maintain][c]?

/-! ### Parameters of a packet -/

/-- The bytes `i` to `i + n − 1` of the parameters as a number. -/
def par (p : List Byte) (i n : Nat) : Nat := ofLe ((p.drop i).take n)

/-- The entries of a REG_ACCESS (R406). -/
def parEntries (p : List Byte) : List RegEntry :=
  (upto (p.length / 12)).map (fun i => ⟨word (par p (12 * i) 4), word (par p (12 * i + 4) 4), word (par p (12 * i + 8) 4)⟩)

/-- The opcodes with parameters of a fixed length, and that length (R409). -/
def opLength (c : Nat) : Option Nat :=
  match c with
  | 0x0101 | 0x0102 | 0x0107 | 0x0601 | 0x0701 | 0x0704 | 0x0705 | 0x0903 | 0x0904 | 0x0A03 | 0x0B03 => some 0
  | 0x0103 | 0x0104 | 0x0201 | 0x0801 | 0x0905 | 0x0A04 | 0x0B11 => some 1
  | 0x0202 | 0x0503 | 0x0504 | 0x0906 => some 2
  | 0x0301 | 0x0302 | 0x0303 | 0x0304 | 0x0603 | 0x0902 => some 4
  | 0x0402 | 0x0502 | 0x0702 | 0x0703 => some 5
  | 0x0501 => some 6
  | 0x0A01 => some 8
  | 0x0105 => some 9
  | 0x0602 => some 10
  | 0x0604 => some 11
  | 0x0305 => some 17
  | 0x0505 => some 97
  | 0x0B13 => some 160
  | _ => none

/-- The command of an opcode with a fixed parameter length. -/
def opFixed (c : Nat) (p : List Byte) : HostOp :=
  let b (i : Nat) : Byte := BitVec.ofNat 8 (par p i 1)
  let w (i : Nat) : Word := word (par p i 4)
  let h (i : Nat) : BitVec 16 := BitVec.ofNat 16 (par p i 2)
  match c with
  | 0x0101 => .ping | 0x0102 => .ident | 0x0103 => .ownClaim (b 0) | 0x0104 => .ownRelease (b 0)
  | 0x0105 => .evlogRead (BitVec.ofNat 64 (par p 0 8)) (b 8) | 0x0107 => .reset | 0x0201 => .modeSet (b 0)
  | 0x0202 => .brkReport (b 0) (b 1) | 0x0301 => .setP (w 0) | 0x0302 => .setQ (w 0) | 0x0303 => .setV (w 0)
  | 0x0304 => .setF (w 0) | 0x0305 => .setMulti (b 0) (w 1) (w 5) (w 9) (w 13) | 0x0402 => .regReadRange (w 0) (b 4)
  | 0x0501 => .ldgRead (w 0) (h 4) | 0x0502 => .ldgArchRead (w 0) (b 4) | 0x0503 => .ldgRetire (h 0)
  | 0x0504 => .ldgReplace (h 0) | 0x0505 => .ldgKeySet p | 0x0601 => .acqHead | 0x0602 => .acqRead (w 0) (w 4) (h 8)
  | 0x0603 => .acqFree (w 0) | 0x0604 => .acqStream (b 0) (BitVec.ofNat 64 (par p 1 8)) (h 9) | 0x0701 => .mtrReadout
  | 0x0702 => .mtrProfile (w 0) (b 4) | 0x0703 => .mtrAuditRead (w 0) (b 4) | 0x0704 => .mtrSeal | 0x0705 => .mtrFwhash
  | 0x0801 => .pairAction (b 0) | 0x0902 => .spsConfirm (w 0) | 0x0903 => .safReset | 0x0904 => .safSpb
  | 0x0905 => .safProof (b 0) | 0x0906 => .safProofOut (b 0) (b 1) | 0x0A01 => .fwBegin (w 0) (w 4) | 0x0A03 => .fwEnd
  | 0x0A04 => .fwActivate (b 0) | 0x0B03 => .close | 0x0B11 => .keyGen (b 0) | 0x0B13 => .debugUnlock p
  | _ => .unknown c

/-- The command that an opcode and its parameters spell (R409). -/
def parseOp (c : Nat) (p : List Byte) : HostOp :=
  match opLength c with
  | some n => if p.length = n then opFixed c p else .badLen c
  | none =>
    match c with
    | 0x0106 =>
      if 5 ≤ p.length ∧ p.length ≤ 245 then
        .mgmtSend ((par p 0 1).testBit 0) (BitVec.ofNat 16 (par p 1 2)) (BitVec.ofNat 16 (par p 3 2)) (p.drop 5)
      else .badLen c
    | 0x0401 => if p.length % 12 = 0 then .regAccess (parEntries p) else .badLen c
    | 0x0901 =>
      let n := par p 2 2
      if 4 ≤ p.length ∧ p.length = 4 + 4 * n then
        .spsWrite (BitVec.ofNat 16 (par p 0 2)) ((upto n).map (fun i => word (par p (4 + 4 * i) 4)))
      else .badLen c
    | 0x0A02 => if 5 ≤ p.length then .fwData (word (par p 0 4)) (p.drop 4) else .badLen c
    | 0x0B10 => .trustSet p
    | 0x0B12 => .certSet p
    | _ => .unknown c

end Sys2Proof.Machine
end

