-- ==== Sys2Proof/Machine/HostRead.lean ====
section
/-! DEFINITION. The reply data of the commands that read (R332, R408 to R410, R418). -/
namespace Sys2Proof.Machine

/-- A list of bytes brought to a length: zeros follow, what is longer is cut. -/
def fixLen (n : Nat) (l : List Byte) : List Byte := (l ++ List.replicate (n - l.length) 0).take n

/-- PING (R409). -/
def State.pingData (s : State) : List Byte :=
  leBytes 1 (b2n s.unitB) ++ leBytes 1 s.role.code ++ leBytes 1 s.mode.code ++ leBytes 1 0 ++ leBytes 8 s.ang.row.toNat ++
    leBytes 2 s.step10 ++ leBytes 2 s.ac ++ leBytes 8 s.taiNs

/-- IDENT (R409): the version of an absent image reads 0. -/
def State.identData (s : State) : List Byte :=
  let ver (b : Bool) : Nat := match s.image b with | some i => i.ver.toNat | none => 0
  ([Reg.SYS_ID, Reg.SYS_ORDER, Reg.SYS_SERIAL_LO, Reg.SYS_SERIAL_HI, Reg.SYS_FWVER, Reg.SYS_HWREV, Reg.SYS_IMAGE].flatMap
    (fun a => leBytes 4 (s.readReg a).toNat)) ++ leBytes 4 (ver false) ++ leBytes 4 (ver true) ++ leBytes 4 s.pair.ver

/-- The bytes of an event-log entry (R418). -/
def EvEntry.bytes (e : EvEntry) : List Byte :=
  leBytes 8 e.index ++ leBytes 4 e.key.run.toNat ++ leBytes 2 e.key.step ++ leBytes 2 e.key.ac ++ leBytes 8 e.key.row.toNat ++
    leBytes 2 e.subseq ++ leBytes 1 e.cls ++
    leBytes 1 (b2n e.unit + 2 * b2n e.shadow + 4 * b2n e.fw + 8 * b2n e.restaged + 16 * b2n e.preAngle) ++
    leBytes 1 e.source ++ leBytes 1 0 ++ leBytes 2 e.code ++ leBytes 8 e.time ++ leBytes 24 e.data

/-- EVLOG_READ (R409, R421). -/
def State.evlogData (s : State) (first n : Nat) : Nat × List Byte :=
  if first < s.sys.ev.oldest then (0x202, [])
  else (0, ((s.sys.ev.indexed.filter (fun e => decide (first ≤ e.index))).take n).flatMap EvEntry.bytes)

/-- LDG_READ (R409, R410): records as they stand after the latest merge; the space ends at 2^25. -/
def State.ldgData (s : State) (addr n : Nat) : List Byte :=
  (upto (min n (2 ^ 25 - addr))).flatMap (fun i => (s.recAt (addr + i)).bytes)

/-- LDG_ARCH_READ (R409). -/
def State.archData (s : State) (first n : Nat) : Nat × List Byte :=
  if first < s.ldg.archBase then (0x202, [])
  else (0, ((s.ldg.archive.drop (first - s.ldg.archBase)).take n).flatMap (fun x => x.r.bytes ++ leBytes 8 x.tai))

/-- The head record: the lowest unread complete one, unless a record in capture has a lower number (R303). -/
def State.acqHeadRec (s : State) : Option AcqRec :=
  match s.acq.done with
  | [] => none
  | r :: _ =>
    if s.acq.slots.any (fun x => match x.cur with | some c => decide (c.num.toNat < r.num.toNat) | none => false) then none
    else some r

/-- ACQ_HEAD (R409). -/
def State.headData (s : State) : List Byte :=
  match s.acqHeadRec with
  | some r => leBytes 4 r.num.toNat ++ leBytes 1 r.slot ++ leBytes 4 r.size
  | none => leBytes 4 0xFFFFFFFF

/-- ACQ_READ (R409): CONFLICT unless the number is the head. -/
def State.recData (s : State) (num : Word) (off n : Nat) : Nat × List Byte :=
  match s.acqHeadRec with
  | some r => if r.num = num then (0, r.bytes off (min n (r.size - off))) else (0x101, [])
  | none => (0x101, [])

/-- The gaps of a continuous slot, oldest first. -/
def AcqSlot.gaps (x : AcqSlot) : List (Nat × Nat) := x.gapRing ++ x.gapOpen.toList

/-- The oldest frame index a continuous slot still accounts for. -/
def AcqSlot.oldest (x : AcqSlot) : Nat :=
  min ((x.ring.head?.map (·.1)).getD x.index) ((x.gaps.head?.map (·.1)).getD x.index)

/-- The gaps that overlap frames `first` to `first + n − 1`. -/
def AcqSlot.gapsIn (x : AcqSlot) (first n : Nat) : List (Nat × Nat) :=
  x.gaps.filter (fun g => decide (g.1 < first + n) && decide (first < g.1 + g.2))

/-- ACQ_STREAM (R409): head, gap entries, then the frames; a frame inside a gap holds unspecified data (R300, log
entry 6). -/
def State.streamData (s : State) (k first n : Nat) : Nat × List Byte :=
  let x := s.slotK k
  if first < x.oldest then (0x202, [])
  else
    let w := 4 * max 1 (s.slotNmem k)
    let fits (m : Nat) : Bool := decide (16 + 16 * (x.gapsIn first m).length + w * m ≤ 11200)
    let m := ((upto (min n (x.index - first) + 1)).filter fits).getLast?.getD 0
    let frame (i : Nat) : List Word :=
      match x.ring.find? (fun p => decide (p.1 = i)) with
      | some p => p.2.ws
      | none => (upto (s.slotNmem k)).map (fun j => Config.gapWord k i j)
    let g := x.gapsIn first m
    (0, leBytes 8 first ++ leBytes 4 m ++ leBytes 2 g.length ++ leBytes 2 0 ++
      g.flatMap (fun p => leBytes 8 p.1 ++ leBytes 8 p.2) ++
      (upto m).flatMap (fun i => (frame (first + i)).flatMap (fun v => leBytes 4 v.toNat)))

/-- A stream read from `first` frees what lies before it: the host asks again from the index after the last frame held
(R409). -/
def State.streamFree (s : State) (k first : Nat) : State :=
  s.updSlot k (fun x => { x with
    ring := x.ring.filter (fun p => decide (first ≤ p.1)),
    gapRing := x.gapRing.filter (fun g => decide (first < g.1 + g.2)) })

/-! ### Signed readouts (R332, R333) -/

/-- The key that signs a readout, by identifier, and whether the readout is certified. Identifiers: twice the number
of a generated key, or twice the number of the provisional key plus 1. -/
def State.signKey (s : State) (metro : Bool) : Nat × Bool :=
  if metro && bit s.sys.order 1 && s.mtrReady then (2 * s.sec.mtrKey.getD 0, true)
  else if s.devReady then (2 * s.sec.devKey.getD 0, false)
  else (2 * s.sec.provKey + 1, false)

/-- The FLAGS of a readout. -/
def State.readoutFlags (s : State) : Nat :=
  b2n (!(s.signKey true).2) + 2 * b2n s.mtr.broken + 4 * b2n (!s.mtr.sealed) + 8 * b2n s.unitB + 16 * b2n (!s.isActive)

/-- A message with its signature: all zero in SEAL_BROKEN (R333). -/
def State.signed (s : State) (m : List Byte) : List Byte :=
  m ++ (if s.mtr.broken then List.replicate 96 0 else fixLen 96 (Config.ecdsaSign (s.signKey true).1 (Config.sha384 m)))

/-- MTR_READOUT (R332). -/
def State.readoutData (s : State) : List Byte := s.signed (s.readoutHead s.readoutFlags ++ s.mtr.core.regBytes)

/-- MTR_PROFILE (R332): the closed intervals from number `first` on; NOT_FOUND where none is held or the first has been
overwritten. -/
def State.profileData (s : State) (first n : Nat) : Nat × List Byte :=
  let l := s.mtr.core.prof.reverse
  let hit := (l.filter (fun r => decide (first ≤ r.no))).take n
  let gone := decide (s.mtr.core.nrec > l.length) && (match l.head? with | some r => decide (first < r.no) | none => true)
  if hit.isEmpty || gone then (0x202, [])
  else (0, s.signed (s.readoutHead s.readoutFlags ++ leBytes 2 hit.length ++ leBytes 2 0 ++ hit.flatMap MtrProf.bytes))

/-- MTR_AUDIT_READ (R330). -/
def State.auditData (s : State) (first n : Nat) : Nat × List Byte :=
  let l := s.mtr.audits.reverse
  let gone := match l.head? with | some e => decide (first < e.n.toNat) && decide (1 < e.n.toNat) | none => false
  if gone then (0x202, [])
  else (0, ((l.filter (fun e => decide (first ≤ e.n.toNat))).take n).flatMap MtrAudit.bytes)

/-! ### Register reads (R408) -/

/-- One register read by a host: an RC register is cleared, ANG_THETA and CAL_TIME_LO latch (R46, R463); a register whose
value is free has been drawn. -/
def State.readOne (s : State) (a : Nat) : Word × State :=
  let v := s.readReg a
  let rc := match regFam a with
    | some f => f.rc
    | none => false
  let s := if rc then s.setReg a 0 else s
  let s := if a = Reg.ANG_THETA then s.thetaLatch
    else if a = Reg.CAL_TIME_LO then s.calLatch
    else if a = Reg.PWR_PIN ∨ (a = Reg.PWR_VHU ∧ !s.pwr.okA ∧ !s.pwr.okB) ∨ (0x40000 ≤ a ∧ a < 0x45800 ∧ a % 0x400 = Reg.PHY_EYE 0 % 0x400) then s.draw.2
    else s
  (v, s)

/-- The registers a command reads, in order (R406, R408). -/
def readAddrs : HostOp → List Nat
  | .regReadRange first n => (upto n.toNat).map (fun i => first.toNat + 4 * i)
  | .regAccess es => (es.filter (fun e => decide (entryOp e = 0))).map entryAt
  | _ => []

/-- The reads of a command, all of one instant (R408). -/
def State.readRegs (s : State) (op : HostOp) : List Byte × State :=
  (readAddrs op).foldl (fun r a => let x := r.2.readOne a; (r.1 ++ leBytes 4 x.1.toNat, x.2)) ([], s)

/-! ### The reads -/

/-- Status and reply data of a command that only reads. -/
def State.viewData (s : State) (op : HostOp) : Nat × List Byte :=
  match op with
  | .ping => (0, s.pingData)
  | .ident => (0, s.identData)
  | .evlogRead f n => s.evlogData f.toNat n.toNat
  | .ldgRead a n => (0, s.ldgData a.toNat n.toNat)
  | .ldgArchRead f n => s.archData f.toNat n.toNat
  | .acqHead => (0, s.headData)
  | .acqRead num off n => s.recData num off.toNat n.toNat
  | .acqStream k f n => s.streamData k.toNat f.toNat n.toNat
  | .mtrReadout => (0, s.readoutData)
  | .mtrProfile f n => s.profileData f.toNat n.toNat
  | .mtrAuditRead f n => s.auditData f.toNat n.toNat
  | _ => (0, [])

end Sys2Proof.Machine
end

