-- ==== Sys2Proof/Machine/Reply.lean ====
section
/-! DEFINITION. Sessions, replies and the journal (R395, R396, R398, R399, R343): how a reply comes to leave. -/
namespace Sys2Proof.Machine

/-! ### Sessions -/

/-- An allotted session by its number. -/
def State.sess (s : State) (n : Nat) : Option Sess := s.cmd.core.sess.find? (fun x => x.num == n)

/-- Change what both units hold of the commands; the next step record carries it (R343). -/
def State.updCmds (s : State) (f : CmdCore → CmdCore) : State := { s with cmd := { s.cmd with core := f s.cmd.core, dirty := true } }

/-- Session `n` replaced by `f` of it. -/
def State.updSess (s : State) (n : Nat) (f : Sess → Sess) : State :=
  s.updCmds (fun c => { c with sess := c.sess.map (fun x => if x.num = n then f x else x) })

/-- An accepted command of session `n` no longer names it. -/
def dropSession (n : Nat) (a : Accepted) : Accepted :=
  if a.q.session.val = n then { a with q := { a.q with session := 0 } } else a

/-- A session closes (R395, R403): its ownership ends, its held commands and waiting replies go; what it has had accepted
still takes effect, with no one to answer. -/
def State.closeSess (s : State) (n : Nat) : State :=
  let s := s.updCmds (fun c => { c with
    sess := c.sess.filter (fun x => x.num != n), acc := c.acc.map (dropSession n),
    modeOwn := if c.modeOwn = n then 0 else c.modeOwn, setOwn := if c.setOwn = n then 0 else c.setOwn })
  { s with
    cmd := { s.cmd with own := s.cmd.own.map (dropSession n), waits := s.cmd.waits.filter (fun w => w.q.session.val != n) }
    saf := { s.saf with proof := s.saf.proof.map (fun p => { p with cmd := dropSession n p.cmd }) } }

/-! ### Replies -/

/-- A reply of this unit as it stands now (R396). -/
def State.mkReply (s : State) (q : Req) (opcode status : Nat) (data : List Byte) : Reply :=
  { session := q.session.val, seq := q.seq, opcode := opcode, completion := false, last := true, part := 0, status := status,
    port := q.port, unit := s.unitB, role := s.role.code, mode := s.mode.code, trow := 0, tstep := 0, time := s.taiNs,
    resend := 0, data := data }

/-- The parts of a reply (R399): at most 8 of 1,400 bytes, the last marked. -/
def Reply.parts (r : Reply) : List Reply :=
  let k := max 1 (min 8 ((r.data.length + 1399) / 1400))
  (upto k).map (fun i => { r with part := i, last := decide (i + 1 = k), data := (r.data.drop (1400 * i)).take 1400 })

/-- The header of a reply packet (R396). -/
def Reply.header (r : Reply) : List Byte :=
  leBytes 1 1 ++ leBytes 1 (1 + 2 * b2n r.completion + 4 * b2n r.last + 8 * r.part) ++ leBytes 1 r.session ++ leBytes 1 0 ++
    leBytes 4 r.seq.toNat ++ leBytes 2 r.opcode ++ leBytes 2 r.data.length ++ leBytes 2 r.status ++
    leBytes 1 (b2n r.unit + 2 * r.role) ++ leBytes 1 r.mode ++ leBytes 4 r.trow.toNat ++ leBytes 2 r.tstep ++ leBytes 2 0 ++
    leBytes 8 r.time

/-- The nonce of a reply packet (R397): the salt of the direction, SEQ, and the part, completion and resend count. -/
def Reply.nonce (r : Reply) (salt : List Byte) : List Byte :=
  salt ++ leBytes 4 r.seq.toNat ++ leBytes 4 (r.part + 2 ^ 8 * b2n r.completion + 2 ^ 9 * r.resend)

/-- A reply packet (R396, R397): in clear on session 0, under the session's key for its direction on the others. -/
def State.packet (s : State) (r : Reply) : List Byte :=
  match s.sess r.session with
  | some x =>
    let body := fixLen r.data.length (Config.gcmEncrypt x.keyOut (r.nonce x.saltOut) r.data)
    r.header ++ body ++ fixLen 16 (Config.gcmTag x.keyOut (r.nonce x.saltOut) r.header body)
  | none => r.header ++ r.data ++ fixLen 16 (Config.clearTag r.header r.data)

/-- A reply leaves: its parts, each with its packet. -/
def State.sendReply (s : State) (r : Reply) : State :=
  s.emits (r.parts.flatMap (fun p => [Out.reply p, Out.datagram p.port (s.packet p)]))

/-- The latest reply to a sequence number is kept, for the last 64 numbers (R398); its resends go on counting. -/
def Sess.remember (x : Sess) (r : Reply) : Sess :=
  let old := (x.cache.find? (fun c => c.seq == r.seq)).map (·.resends)
  let c : Cached := { seq := r.seq, opcode := r.opcode, status := r.status, data := r.data, resends := old.getD 0 }
  { x with cache := c :: x.cache.filter (fun c => c.seq != r.seq && decide (x.last.toNat < c.seq.toNat + 64)) }

/-- The journal takes a command at validation (R424). -/
def State.journal (s : State) (x : Sess) (q : Req) (op : HostOp) (accepted : Bool) : State :=
  let j : Jrn := { serial := x.serial, session := x.num, seq := q.seq, opcode := opCode op, accepted := accepted, outcome := none, crc := 0 }
  s.updCmds (fun c => { c with jrn := c.jrn ++ [j.sealed] })

/-- The outcome is appended to the journal entry before the reply that carries it leaves (R424). -/
def State.outcome (s : State) (session : Nat) (seq : Word) (status : Nat) : State :=
  s.updCmds (fun c => { c with jrn := c.jrn.map (fun j =>
    if j.session = session ∧ j.seq = seq ∧ j.outcome.isNone then ({ j with outcome := some status } : Jrn).sealed else j) })

/-- A reply is delivered: outcome, cache, packets. ACCEPTED is no outcome. -/
def State.deliver1 (s : State) (r : Reply) : State :=
  let s := if r.status = 1 then s else s.outcome r.session r.seq r.status
  (s.updSess r.session (fun x => x.remember r)).sendReply r

/-- The journal block of a command on VC2 of the pair link (R343; its layout is internal, log entry 24). -/
def journalBlock (r : Reply) : List Byte :=
  leBytes 1 0x4A ++ leBytes 1 r.session ++ leBytes 4 r.seq.toNat ++ leBytes 2 r.opcode

/-- The command state as a journal entry leaves it (R343): with the reply of a command that awaits nothing but its
acknowledgement. -/
def State.entryCore (s : State) (w : Wait) : CmdCore :=
  if w.run.isSome then s.cmd.core
  else { s.cmd.core with sess := s.cmd.core.sess.map (fun x => if x.num = w.reply.session then x.remember w.reply else x) }

/-- A first reply joins those that wait. The ACTIVE unit of a pair puts its journal entry on VC2, and where the standby is
qualified the reply waits for the acknowledgement (R343). -/
def State.pushWait (s : State) (w : Wait) : State :=
  let s1 : State := { s with cmd := { s.cmd with waits := s.cmd.waits ++ [{ w with ack := s.mirrored, since := s.sys.clk }] } }
  if s.isActive && s.paired && (s.linkUp 20 || s.linkUp 21) then
    s1.queueBulk 20 2 false 0 (journalBlock w.reply) (some (.entry (s.entryCore w)))
  else s1

/-- The completion of an accepted command joins the replies to send (R399): status, data, and the mode and time of its
validation; a write set of the firmware has no reply. -/
def State.complete (s : State) (a : Accepted) (status : Nat) (data : List Byte) : State :=
  if a.fw then s
  else match s.sess a.q.session.val with
  | none => s.outcome a.q.session.val a.q.seq status
  | some _ =>
    let r : Reply := { s.mkReply a.q (opCode a.op) status data with
      completion := true, mode := a.vmode, time := a.vtime, trow := word (a.target / 1024), tstep := a.target % 1024 }
    { s with cmd := { s.cmd with waits := s.cmd.waits ++ [{ q := a.q, reply := r, run := none, read := none, ack := false, tag := none,
                                                                 since := s.sys.clk }] } }

end Sys2Proof.Machine
end

