-- ==== Sys2Proof/Machine/HostAct.lean ====
section
/-! DEFINITION. What host commands do when they execute (R403, R409, R411 and the rules of their chapters): immediate
commands, and boundary commands at their boundary. -/
namespace Sys2Proof.Machine

/-! ### Ownership (R403) -/

/-- The owner of a class: 2 mode, 3 setpoint; 0 none. -/
def State.classOwner (s : State) (c : Nat) : Nat := if c = 2 then s.cmd.core.modeOwn else s.cmd.core.setOwn

/-- The owner of a class set. -/
def State.setOwner (s : State) (c n : Nat) : State :=
  s.updCmds (fun x => if c = 2 then { x with modeOwn := n } else { x with setOwn := n })

/-! ### Management (R411) -/

/-- The association whose concentrator declares an identifier. -/
def State.concLane (s : State) (id : Nat) : Option Nat :=
  s.primaries.find? (fun p => (s.lanesOf p).any (fun n => match (s.lane n).decl with
    | some d => decide (d.conc = id)
    | none => false))

/-- A management request goes out on VC3 with the next TAG. -/
def State.mgmtOut (s : State) (conc : Bool) (id code : Nat) (body : List Byte) : State :=
  let t := (s.cmd.tag + 1) % 2 ^ 32
  let s : State := { s with cmd := { s.cmd with tag := t } }
  let blk := leBytes 1 1 ++ leBytes 1 (b2n conc) ++ leBytes 2 (if conc then 0 else id) ++ leBytes 4 t ++ leBytes 2 code ++
    leBytes 2 body.length ++ leBytes 4 0 ++ body
  if conc then
    match s.concLane id with
    | some p => s.queueBulk p 3 true 0 blk
    | none => s
  else
    match s.slotOf id with
    | some (p, slot) => s.queueBulk p 3 false slot blk
    | none => s

/-! ### Records -/

/-- ACQ_FREE (R303): the head record leaves; its space is free. -/
def State.acqFreeAct (s : State) (num : Word) : Nat × State :=
  match s.acqHeadRec with
  | some r =>
    if r.num = num then (0, { s with acq := { s.acq with done := s.acq.done.filter (fun x => decide (x.num ≠ num)) } }) else (0x101, s)
  | none => (0x101, s)

/-! ### Firmware (R331, R338, R472, R473) -/

/-- An image bank takes a value. -/
def State.setImage (s : State) (b : Bool) (i : Option Image) : State :=
  if b then { s with sec := { s.sec with imgB := i } } else { s with sec := { s.sec with imgA := i } }

/-- FW_BEGIN: the image not running is given up and an upload into it begins. -/
def State.fwBeginAct (s : State) (len : Nat) (ver : Word) : State :=
  let b := !s.sec.running
  ({ s with sec := { s.sec with up := some { img := b, len := len, ver := ver, data := [], ended := none } } } : State).setImage b none

/-- FW_DATA: bytes of the staged image. -/
def State.fwDataAct (s : State) (off : Nat) (data : List Byte) : State :=
  let put (m : List (Nat × Byte)) : List (Nat × Byte) := (data.mapIdx (fun i b => (i, b))).foldl (fun m p => mins m (off + p.1) p.2) m
  { s with sec := { s.sec with up := s.sec.up.map (fun u => { u with data := put u.data }) } }

/-- Bytes `lo` to `lo + n − 1`. -/
def slice (p : List Byte) (lo n : Nat) : List Byte := (p.drop lo).take n

/-- The checks of R472 on a decrypted image. -/
def State.imagePasses (s : State) (p : List Byte) : Bool :=
  let f (lo n : Nat) : Nat := ofLe (slice p lo n)
  decide (f 0 4 = 0x3447464D) && decide (f 12 4 + 512 = p.length) && decide (f 16 2 ≤ 15) && decide (f 18 2 ≤ f 16 2) &&
    decide (slice p 20 48 = Config.sha384 (Config.legalPart p)) && decide (slice p 68 48 = Config.sha384 (p.drop 512)) &&
    Config.ecdsaVerify s.sec.root (p.take 116) (slice p 116 96) && decide (f 8 4 ≥ s.regN Reg.SEC_MINVER)

/-- FW_END: 0 valid, 1 a check failed, 2 incomplete, with the hash of the legally relevant part; the upload is over. -/
def State.fwEndAct (s : State) : List Byte × State :=
  let none_ := List.replicate 48 (0 : Byte)
  match s.sec.up with
  | none => (leBytes 1 2 ++ none_, s)
  | some u =>
    let ended (n : Nat) (s : State) : State := { s with sec := { s.sec with up := some { u with ended := some n } } }
    if u.data.length ≠ u.len then (leBytes 1 2 ++ none_, ended 2 s)
    else
      match Config.imgDecrypt (u.data.map (·.2)) with
      | none => (leBytes 1 1 ++ none_, ended 1 s)
      | some p =>
        let f (lo n : Nat) : Nat := ofLe (slice p lo n)
        let ok := s.imagePasses p
        let legal := fixLen 48 (Config.sha384 (Config.legalPart p))
        let i : Image := { ver := word (f 4 4), secver := word (f 8 4), pairVer := f 16 2, pairOld := f 18 2, legal := legal, valid := ok }
        (leBytes 1 (b2n (!ok)) ++ legal, (ended (b2n (!ok)) s).setImage u.img (some i))

/-- FW_ACTIVATE is refused (R331, R338, R473). -/
def State.activateBad (s : State) (b : Bool) : Bool :=
  match s.image b with
  | none => true
  | some i =>
    !i.valid || decide (i.secver < s.reg Reg.SEC_MINVER) || (s.mtr.sealed && decide (i.legal ≠ s.mtr.fwhash)) ||
      (s.paired && (s.hbCurrent false || s.hbCurrent true) &&
        (match s.pair.hb with | some h => decide (h.ver.toNat < i.pairOld) | none => false))

/-! ### Debug (R478) -/

/-- A debug token holds: serial, nonce, expiry, signature of the Rospen root. -/
def State.tokenOk (s : State) (t : List Byte) : Bool :=
  decide (ofLe (slice t 0 8) = s.sys.serial.toNat) && decide (ofLe (slice t 8 8) = s.sec.nonce.toNat) &&
    decide (ofLe (slice t 16 8) ≥ s.taiNs) && Config.ecdsaVerify s.sec.root (t.take 64) (slice t 64 96)

/-- A fresh nonce (R478; its value is free, log entry 6). -/
def State.freshNonce (s : State) : State := let d := s.draw; { d.2 with sec := { d.2.sec with nonce := d.1 } }

/-- An accepted token: the keys go, the meter loses its seal, and the unit resets with the port open. -/
def State.debugAct (s : State) : State :=
  let s := s.zeroKeys
  let s : State := { s with mtr := { s.mtr with sealed := false, broken := s.mtr.broken || s.mtr.everSealed },
                            sec := { s.sec with debugNext := true } }
  s.resetNow 8

/-! ### Safety (R386 to R392) -/

/-- The addresses and values of an SPS_WRITE. -/
def spsList (off : Nat) (vals : List Word) : List (Nat × Word) := vals.mapIdx (fun i v => (0xC0000 + off + 4 * i, v))

/-- An SPS_WRITE as a set of fields. -/
def State.spsPut (s : State) (l : List (Nat × Word)) : State := l.foldl (fun s p => (s.rawWrite p.1 p.2).mark p.1) s

/-- An SPS_WRITE names the set alone and leaves every value in its range (R388, R393). -/
def State.spsOk (s : State) (l : List (Nat × Word)) : Bool :=
  let t := s.spsPut l
  let lo := t.regN Reg.SPS_SLF_LO
  let hi := t.regN Reg.SPS_SLF_HI
  decide (1 ≤ l.length) && decide (l.length ≤ 32) &&
    l.all (fun p => spsAddrs.contains p.1 && rangesOk spsRanges (s.rawWrite p.1 p.2) p.1) &&
    (decide (lo = 0) || decide (hi = 0) || decide (hi ≥ lo + 0x0100_0000)) &&
    (!l.any (fun p => decide (p.1 = Reg.SPS_SLA_MAX)) || t.slaOk)

/-- SPS_WRITE takes effect; CONFIRMED is cleared (R389). -/
def State.spsAct (s : State) (l : List (Nat × Word)) : State :=
  let t := s.spsPut l
  ((upto 8).foldl State.sinApart { t with saf := { t.saf with confirmed := false } }).safSettle

/-- SPS_CONFIRM (R389, R390): false where the value is not SAF_CHK. -/
def State.confirmAct (s : State) (chk : Word) : Bool × State :=
  if chk = s.safChk then
    (true, ({ s with saf := { s.saf with confirmed := true, chkConf := chk } } : State).safSettle)
  else (false, s.setFlag Reg.SAF_FLAGS 6)

/-- The reset by command (R386): it allows the mode command of row 26 or 27; in a unit in STANDBY or SYNCING it clears the
unit's own latches only (R405). -/
def State.safResetAct (s : State) : Bool × State :=
  if s.resetAccepts then
    let t := s.resetClear
    (true, if t.shadowing then t else { t with saf := { t.saf with resetOk := true } })
  else (false, s)

/-- The result of a proof test recorded (R392): pass and fail bits; the days count anew once all five have passed. Test 4 is
SH's self-test (R368), tests 1 and 2 release a stuck loop. -/
def State.proofRecord (s : State) (t : Nat) (pass : Bool) : State :=
  let r := putBit (putBit (s.reg Reg.SAF_PROOF) (t - 1) pass) (7 + t) (!pass)
  let s := s.setReg Reg.SAF_PROOF r
  let s := if bits r 0 5 = 31 then
      ({ s with saf := { s.saf with proofDay := 0 } } : State).setReg Reg.SAF_PROOF_AGE 0 else s
  if t = 4 then { s with saf := { s.saf with shTest := pass } }
  else if pass && decide (t ≤ 2) then { s with saf := { s.saf with stuck := false } } else s

/-- The running proof test ends with a result: recorded, and its command completes (R392, R399). -/
def State.proofEnd (s : State) (pass : Bool) : State :=
  match s.saf.proof with
  | none => s
  | some p =>
    let s := ({ s with saf := { s.saf with proof := none } } : State).proofRecord p.test pass
    s.safSettle.complete p.cmd 0 (leBytes 1 (b2n pass))

/-- Test 3 has seen every enabled input (R392). -/
def State.proof3Check (s : State) : State :=
  match s.saf.proof with
  | some p =>
    if p.test = 3 ∧ (upto 8).all (fun k => !s.sinEn k || ((s.sin k).seenA && (s.sin k).seenB)) then s.proofEnd true else s
  | none => s

/-- The disagreement of input `k` has passed t_disc (R385). In proof test 3 the channel that is away from rest has shown its
demand and its fault (R392). -/
def State.sinFaultDue (s : State) (k : Nat) : State :=
  let s := s.updSin k (fun i => { i with apart := none })
  if s.sinEn k && s.safActs && (s.restA k != s.restB k) then
    let s := s.updSin k (fun i => { i with seenA := i.seenA || !s.restA k, seenB := i.seenB || !s.restB k })
    (if (s.sin k).fault then s else s.sinFaultAct k).proof3Check
  else s

/-- A proof test starts (R392): XCHK, SH to qualify again, and the first action of the test. -/
def State.proofBegin (s : State) (t : Nat) (a : Accepted) : State :=
  let outs := (upto 4).filter (fun j => decide (s.fld (Reg.SPS_SOUTj j) 0 3 ≠ 0))
  let s : State := { s with saf := { s.saf with
    arch := .xchk, shQual := false, agree := 0, proof := some { test := t, cmd := a, start := s.sys.clk, outs := outs, chB := false, held := s.sys.clk, await := false },
    sins := if t = 3 then s.saf.sins.map (fun i => { i with seenA := false, seenB := false }) else s.saf.sins } }
  let s := s.safSettle
  if t = 5 ∧ outs.isEmpty then s.proofEnd true else s.proof3Check

/-- The clock at which the 100 ms of a low hold of test 5 end (R392). -/
def State.holdEnd (s : State) : Option Nat :=
  match s.saf.proof with
  | some p => if p.test = 5 ∧ !p.await then some (p.held + 40000000) else none
  | none => none

/-- A low hold of test 5 ends, and the next channel or the confirmation follows (R392). -/
def State.holdOver (s : State) : State :=
  match s.saf.proof with
  | some p =>
    let p' : Proof := if p.chB then { p with await := true } else { p with chB := true, held := s.sys.clk }
    ({ s with saf := { s.saf with proof := some p' } } : State).soutUpdate
  | none => s

/-- The clock at which the 600 s of test 3 or 5 end (R392). -/
def State.proofLimit (s : State) : Option Nat :=
  match s.saf.proof with
  | some p => if p.test = 3 ∨ p.test = 5 then some (p.start + 240000000000) else none
  | none => none

/-- PROOF_TEST_DECIDED (R392): tests 1, 2 and 4 decide; in test 5 a low hold ends. -/
def State.proofDecided (s : State) (pass : Bool) : State :=
  match s.saf.proof with
  | none => s
  | some p =>
    if p.test = 1 ∨ p.test = 2 ∨ p.test = 4 then s.proofEnd pass
    else match s.holdEnd with
      | some t => s.atDue t State.holdOver
      | none => s

/-- SAF_PROOF_OUT (R392): CONFLICT unless test 5 awaits that output. -/
def State.proofSeen (s : State) (out : Nat) (seen : Bool) : Nat × State :=
  match s.saf.proof with
  | some p =>
    if p.test = 5 ∧ p.await ∧ p.outs.head? = some out then
      if !seen then (0, s.proofEnd false)
      else if p.outs.length ≤ 1 then (0, s.proofEnd true)
      else
        let p' : Proof := { p with outs := p.outs.drop 1, chB := false, held := s.sys.clk, await := false }
        (0, ({ s with saf := { s.saf with proof := some p' } } : State).soutUpdate)
    else (0x101, s)
  | none => (0x101, s)

/-! ### Metering (R330, R331) -/

/-- MTR_SEAL: the digest, the counter, an audit entry. -/
def State.sealAct (s : State) (serial : List Byte) : List Byte × State :=
  let old := first32 s.mtr.digest
  let d := fixLen 48 s.sealDigest
  let s : State := { s with mtr := { s.mtr with sealed := true, everSealed := true, broken := false, digest := d } }
  (d, s.auditAdd Reg.MTR_DIGEST old (first32 d) serial)

/-- The hash of the staged image's legally relevant part, once FW_END has found the image valid. -/
def State.stagedHash (s : State) : Option (List Byte) :=
  match s.sec.up with
  | some u => if u.ended = some 0 then (s.image u.img).map (·.legal) else none
  | none => none

/-- MTR_FWHASH: a change under the seal while SEALED. -/
def State.fwhashAct (s : State) (h serial : List Byte) : State :=
  let old := first32 s.mtr.fwhash
  let s : State := { s with mtr := { s.mtr with fwhash := h } }
  if s.mtr.sealed then
    ({ s with mtr := { s.mtr with digest := fixLen 48 s.sealDigest } } : State).auditAdd (Reg.MTR_FWHASHw 0) old (first32 h) serial
  else s

/-! ### Keys (R471) -/

/-- KEY_GEN: a new key, whose certificate must be written anew; the reply carries the certificate request. -/
def State.keyGenAct (s : State) (metro : Bool) : List Byte × State :=
  let n := s.sec.gen + 1
  let sec := if metro then { s.sec with gen := n, mtrKey := some n, mtrCert := none } else { s.sec with gen := n, devKey := some n, devCert := none }
  (Config.certRequest (b2n metro) n, { s with sec := sec })

/-- The generated key a certificate is for: false the device key, true the metrology key. -/
def State.certFor (s : State) (c : List Byte) : Option Bool :=
  let p := Config.certPub c
  if (match s.sec.devKey with | some n => decide (p = Config.pubKey 0 n) | none => false) then some false
  else if (match s.sec.mtrKey with | some n => decide (p = Config.pubKey 1 n) | none => false) then some true
  else none

/-- CERT_SET: the certificate of a generated key. -/
def State.certAct (s : State) (c : List Byte) : Bool × State :=
  match s.certFor c with
  | some true => (true, { s with sec := { s.sec with mtrCert := some c } })
  | some false => (true, { s with sec := { s.sec with devCert := some c } })
  | none => (false, s)

/-! ### Immediate commands -/

/-- An immediate command executes: status, reply data, state. RESET, DEBUG_UNLOCK and CLOSE act after their reply. -/
def State.immOp (s : State) (q : Req) (op : HostOp) : Nat × List Byte × State :=
  let n := q.session.val
  match op with
  | .ownClaim c =>
    let o := s.classOwner c.toNat
    if o ≠ 0 ∧ o ≠ n then (0x101, [], s) else (0, [], s.setOwner c.toNat n)
  | .ownRelease c => if s.classOwner c.toNat = n then (0, [], s.setOwner c.toNat 0) else (0x101, [], s)
  | .acqFree num => let r := s.acqFreeAct num; (r.1, [], r.2)
  | .acqStream k f _ =>
    let r := s.viewData op
    (r.1, r.2, if r.1 = 0 then s.streamFree k.toNat f.toNat else s)
  | .safSpb => (0, [], s.spbDemand 9)
  | .safProofOut o seen => let r := s.proofSeen o.toNat (decide (seen.toNat = 1)); (r.1, [], r.2)
  | .fwBegin len ver =>
    if (match s.sec.up with | some u => u.ended.isNone | none => false) then (0x10B, [], s) else (0, [], s.fwBeginAct len.toNat ver)
  | .fwData off data => (0, [], s.fwDataAct off.toNat data)
  | .fwEnd => let r := s.fwEndAct; (0, r.1, r.2)
  | .fwActivate b =>
    if s.activateBad (decide (b.toNat = 1)) then (0x101, [], s)
    else (0, [], { s with sec := { s.sec with chosen := decide (b.toNat = 1) } })
  | .mgmtSend c id code body => (0, [], s.mgmtOut c id.toNat code.toNat body)
  | .reset => (0, [], s.resetVia 3 0)
  | .close => (0, [], s.closeSess n)
  | .debugUnlock _ => (0, [], s.debugAct)
  | _ => let r := s.viewData op; (r.1, r.2, s)

/-! ### Boundary commands -/

/-- The host's stored target of one setpoint (R87): 0 P, 1 Q, 2 V, 3 F. -/
def State.setTarget (s : State) (k : Nat) (v : Word) : State :=
  s.setReg ([Reg.MODE_HOST_P, Reg.MODE_HOST_Q, Reg.MODE_HOST_V, Reg.MODE_HOST_F].getD k 0) v

/-- The setpoints a command names: which and the value. -/
def setpoints : HostOp → List (Nat × Word)
  | .setP v => [(0, v)]
  | .setQ v => [(1, v)]
  | .setV v => [(2, v)]
  | .setF v => [(3, v)]
  | .setMulti m p q v f => [(0, p), (1, q), (2, v), (3, f)].filter (fun x => m.toNat.testBit x.1)
  | _ => []

/-- STORED of a setpoint command's completion (R402): 1 where the mode in force stores it only. -/
def State.storedByte (s : State) : List Byte := leBytes 1 (b2n (!hostForce s.mode))

/-- A boundary command takes effect at its boundary: final status, completion data, state. The two commands of the mode
class have had their effect before. -/
def State.bndOp (s : State) (a : Accepted) : Nat × List Byte × State :=
  let ok (r : Bool × State) (bad : Nat) : Nat × List Byte × State := (if r.1 then 0 else bad, [], r.2)
  match a.op with
  | .setP _ | .setQ _ | .setV _ | .setF _ | .setMulti _ _ _ _ _ =>
    (0, s.storedByte, (setpoints a.op).foldl (fun s p => s.setTarget p.1 p.2) s)
  | .regAccess es =>
    let r := s.applyAccess es a.serial
    let t := if writesStore es then r.2.cfgWrite else r.2
    (if r.1 then 0 else 0x101, [], t)
  | .ldgRetire n => ok (s.retireCmd n.toNat) 0x101
  | .ldgReplace n => ok (s.replaceCmd n.toNat) 0x101
  | .ldgKeySet k => (0, [], { s with ldg := { s.ldg with key := some k } })
  | .mtrSeal => let r := s.sealAct a.serial; (0, r.1, r.2)
  | .mtrFwhash => match s.stagedHash with
    | some h => (0, h, s.fwhashAct h a.serial)
    | none => (0x101, [], s)
  | .pairAction k => ok (s.pairAct k.toNat) 0x101
  | .spsWrite off vals => (0, [], s.spsAct (spsList off.toNat vals))
  | .spsConfirm c => ok (s.confirmAct c) 0x301
  | .safReset => ok s.safResetAct 0x301
  | .trustSet l => (0, [], { s with sec := { s.sec with anchor := some l } })
  | .keyGen k => let r := s.keyGenAct (decide (k.toNat = 1)); (0, r.1, r.2)
  | .certSet c => ok (s.certAct c) 0x104
  | _ => (0, [], s)

end Sys2Proof.Machine
end

