-- ==== Sys2Proof/Machine/Pipe.lean ====
section
/-! DEFINITION. The fixed events of a control step (R24 to R35, R344): the control sample, the engine's result, the
dispatch deadline. -/
namespace Sys2Proof.Machine

/-- The control outputs handed to the engine at 1.20 µs, and SAMPLE sent (R282, R341). -/
def State.deliver (s : State) : State :=
  if s.gfe.delivered || !s.running then s else s.ctlDeliver.sampleSend

/-- CONTROL_SAMPLE_DELIVERY (R282). -/
def execControlSampleDelivery (s : State) : Host.Outcome State Fault Refusal := s.live s.deliver

/-- The inputs a shadow computes on (R344): the active's sample of the step, else its own, counted. -/
def State.shadowInputs (s : State) : State :=
  if !s.shadowing || !s.paired then s
  else
    match s.pair.sample with
    | some (n, l) =>
      if n = s.stepNo then
        let s := s.measCompare l
        let inp := (upto 32).map (fun i => match (s.mapInputs.zip l).find? (fun p => p.1 == i) with
          | some p => p.2
          | none => s.gfe.inputs.getD i (0, true))
        { s with gfe := { s.gfe with inputs := inp }, pair := { s.pair with usedSample := true } }
      else s.bump Reg.PAIR_SMP_MISS
    | none => s.bump Reg.PAIR_SMP_MISS

/-- What follows a result of the engine: excursions, the mode logic's counts, the acquisition of the published signals.
A shadow unit takes the counts from the mirrored state (R90). -/
def State.gfeObserve (s : State) : State :=
  let s := if s.shadowing then s else s.excursions.rtObserve.modeObserve.trigUpdate
  s.acqSignals

/-- GFE_COMPLETE (R66): at 7.20 µs, 7.60 µs in shadow; `fault` leaves the step without a result. -/
def State.gfeDone (s : State) (fault : Bool) : State :=
  if s.gfe.done || !s.running then s
  else
    let s := s.deliver
    let s := s.toClk (if s.pair.shadowStep then 3040 else 2880)
    let s := s.modeSettle
    if fault then (if s.shadowing then s.gfeFault else s.gfeFault.stepMissed) else s.shadowInputs.gfeStep.gfeObserve

/-- The lanes whose slots of the step are not all queued in time (R33). -/
def State.lateNow (s : State) : List Nat :=
  s.cycLanes.filter (fun n =>
    !(s.lane n).whole && (!maskFull (s.lane n).qmask (s.mapN (s.prim n)) || decide ((s.lane n).qlate ≠ 0)))

/-- Late in two consecutive steps (R34): a handover where the standby is qualified, else SPB. -/
def State.lateTwice (s : State) : State :=
  let handed := s.paired && s.partnerBit 3
  -- R420: an event that raises a safety demand is class 5
  let s := s.setFlag Reg.PIPE_STAT 3 0 (if handed then none else some 5)
  if handed then ({ s with pair := { s.pair with hoWant := some 3 } } : State).startHandover 3 |>.2
  else s.spbDemand 10

/-- The dispatch judged (R33, R34): counts, the flag and entry, the second late step in a row. -/
def State.judgeDispatch (s : State) : State :=
  if !s.isActive || s.pair.silence then
    (({ s with pipe := { s.pipe with judged := true, lateLast := false } } : State)).shadowSettle
  else
    let l := s.lateNow
    let late := if s.laneMode then !l.isEmpty else !s.pipe.armDone
    let was := s.pipe.lateLast
    let mask := l.foldl (fun m n => m + 2 ^ n) 0
    let s := { s with pipe := { s.pipe with judged := true, lateLast := late } }
    if !late then s
    else
      let s := s.bump Reg.PIPE_LATE_CNT
      let s := if s.flag Reg.PIPE_CFG 1 then s.logEv 3 0 0x0107 mask else s
      if was then s.lateTwice else s

/-- DISPATCH_DEADLINE (R33), at ac 800; the step record goes out from then on (R342). -/
def State.deadline (s : State) : State :=
  if s.pipe.judged || !s.running then s else (s.toAc 800).judgeDispatch.recordSend

/-- DISPATCH_DEADLINE (R33). -/
def execDispatchDeadline (s : State) : Host.Outcome State Fault Refusal := s.live s.deadline

/-- Some lane's slots of the step are not all queued. -/
def State.slotsMissing (s : State) : Bool :=
  s.cycLanes.any (fun n => !(s.lane n).whole && !maskFull (s.lane n).qmask (s.mapN (s.prim n)))

/-- PIPE_MARGIN for slots never queued in the step: they count as queued at its end (R35). -/
def State.marginEnd (s : State) : State := if s.isActive && s.slotsMissing then s.marginAt 1024 else s

end Sys2Proof.Machine
end

