-- ==== Sys2Proof/Machine/HostCmd.lean ====
section
/-! DEFINITION. Command packets (chapter 17): validation, acceptance, arbitration, the order of replies, sequence numbers. -/
namespace Sys2Proof.Machine

/-! ### Validation (R400) -/

/-- The boundary at which a command validated now takes effect (R29). -/
def State.cmdTarget (s : State) : Nat := s.stepNo + (if s.ac < 960 then 1 else 2)

/-- The class of an opcode. -/
def opClass (op : HostOp) : Nat := opCode op / 256

/-- What a boundary command acts on (R404): a kind and a number. -/
def opKeys : HostOp → List (Nat × Nat)
  | .modeSet _ => [(0, 0)]
  | .brkReport c t => (if c = 2 then [] else [(1, 0)]) ++ (if t = 2 then [] else [(1, 1)])
  | .setP v => (setpoints (.setP v)).map (fun p => (2, p.1))
  | .setQ v => (setpoints (.setQ v)).map (fun p => (2, p.1))
  | .setV v => (setpoints (.setV v)).map (fun p => (2, p.1))
  | .setF v => (setpoints (.setF v)).map (fun p => (2, p.1))
  | .setMulti m p q v f => (setpoints (.setMulti m p q v f)).map (fun p => (2, p.1))
  | .regAccess es => (writtenBy es).map (fun a => (3, a))
  | .ldgRetire n => [(0x503, n.toNat)]
  | .ldgReplace n => [(0x504, n.toNat)]
  | .ldgKeySet _ => [(0x505, 0)]
  | .pairAction k => [(0x801, k.toNat)]
  | .spsWrite _ _ => [(0x901, 0)]
  | .spsConfirm _ => [(0x902, 0)]
  | .safReset => [(0x903, 0)]
  | .safProof t => [(0x905, t.toNat)]
  | _ => []

/-- The mode commands an ISOLATED unit accepts (R91): among COMMISSION, READY and MAINTAIN, and the reset out of SAFE_STOP. -/
def State.isolatedMode (s : State) (c : Nat) : Bool :=
  [Mode.commission, .ready, .maintain, .safeStop].contains s.mode &&
  (match modeOf c with
   | some m => [Mode.commission, .ready, .maintain].contains m
   | none => false)

/-- The role and the mode of the unit forbid the opcode (R86, R97, R400, R405, R409, R478). -/
def State.modeForbids (s : State) (op : HostOp) : Bool :=
  let isolated := decide (s.role = Role.isolated) &&
    (decide (opRole op = 5) || (match op with
      | .regAccess _ => true
      | .modeSet c => s.isolatedMode c.toNat
      | _ => false))
  (!s.isActive && !opAnyUnit op && !isolated) || (opCommission op && decide (s.mode ≠ .commission)) ||
  match op with
  | .modeSet c =>
    (s.sec.debug && !([1, 2, 11].contains c.toNat)) ||
    (match modeOf c.toNat with
     | some m => (match s.cmdVerdict m with | some (safety, _) => !safety | none => false)
     | none => false)
  | .setP _ | .setQ _ | .setV _ | .setF _ | .setMulti _ _ _ _ _ => decide (s.mode = .init)
  | .reset => s.isActive && s.released && !(s.paired && s.partnerBit 0)
  | .debugUnlock _ => s.isActive && s.released
  | .safProof _ => decide (s.mode ≠ .maintain)
  | .pairAction k => decide (k = 1) && decide (s.mode ≠ .maintain)
  | _ => false

/-- A setpoint lies in its range (R81, the ranges of GFE_P_TGT to GFE_F_TGT). -/
def State.targetOk (s : State) (k : Nat) (v : Word) : Bool :=
  match k with
  | 2 => decide (0x00E66666 ≤ v.toNat) && decide (v.toNat ≤ 0x0119999A)
  | 3 => decide (95 * s.fnom ≤ 100 * v.toNat) && decide (100 * v.toNat ≤ 105 * s.fnom)
  | _ => decide ((sx v).natAbs ≤ 0x01333333)

/-- A count of R409 lies outside its range. -/
def countBad (n lo hi : Nat) : Bool := decide (n < lo) || decide (hi < n)

/-- A value of the command lies outside its range (R400, R409). -/
def State.valueBad (s : State) (op : HostOp) : Bool :=
  match op with
  | .ownClaim c | .ownRelease c => decide (c ≠ 2) && decide (c ≠ 3)
  | .evlogRead _ n => countBad n.toNat 1 64
  | .mgmtSend conc id _ _ => !conc && decide (id.toNat ≥ 4096)
  | .modeSet c => (modeOf c.toNat).isNone ||
      (decide (s.mode = .commission) && !s.mtrInputs.all (fun i => (s.mtrChan i).isSome))
  | .brkReport c t => decide (c.toNat > 2) || decide (t.toNat > 2)
  | .setP _ | .setQ _ | .setV _ | .setF _ => !(setpoints op).all (fun p => s.targetOk p.1 p.2)
  | .setMulti m _ _ _ _ => decide (m.toNat > 15) || !(setpoints op).all (fun p => s.targetOk p.1 p.2)
  | .regReadRange a n => countBad n.toNat 1 64 || decide (a.toNat % 4 ≠ 0) || decide (a.toNat + 4 * (n.toNat - 1) ≥ 0x130000)
  | .ldgRead a n => countBad n.toNat 1 256 || decide (a.toNat ≥ 2 ^ 25)
  | .ldgArchRead _ n => countBad n.toNat 1 128
  | .ldgRetire n | .ldgReplace n => decide (n.toNat ≥ 4096)
  | .acqRead _ _ n => countBad n.toNat 1 8192
  | .acqStream k _ n => countBad n.toNat 1 2048 || decide (k.toNat ≥ 16) || decide (s.slotKind k.toNat ≠ 1)
  | .mtrProfile _ n | .mtrAuditRead _ n => countBad n.toNat 1 64
  | .pairAction k => decide (k.toNat > 3)
  | .spsWrite off vals => decide (off.toNat % 4 ≠ 0) || !s.spsOk (spsList off.toNat vals)
  | .safProof t => countBad t.toNat 1 5
  | .safProofOut o seen => decide (o.toNat > 3) || decide (seen.toNat > 1)
  | .fwData off d => match s.sec.up with
    | some u => u.ended.isSome || decide (off.toNat + d.length > u.len)
    | none => true
  | .fwActivate b => decide (b.toNat > 1)
  | .keyGen k => decide (k.toNat > 1) || (decide (k = 1) && !bit s.sys.order 1)
  | .certSet c => (s.certFor c).isNone
  | .debugUnlock t => !s.tokenOk t
  | _ => false

/-- The safety channels refuse the command (R97, R369, R386, R390, R392). -/
def State.safetyRefuses (s : State) (op : HostOp) : Bool :=
  match op with
  | .modeSet c => match modeOf c.toNat with
    | some m => (s.cmdVerdict m).isSome
    | none => false
  | .spsConfirm c => decide (c ≠ s.safChk)
  | .safReset => !s.resetAccepts
  | .safProof _ => !s.safActs
  | _ => false

/-- The commands accepted and not yet completed. -/
def State.openCmds (s : State) : List Accepted :=
  s.cmd.core.acc ++ s.cmd.own ++ (match s.saf.proof with | some p => [p.cmd] | none => [])

/-- An accepted command of another session holds the same thing at the same boundary, and the sender is not the owner
who displaces it (R404). -/
def State.held (s : State) (q : Req) (op : HostOp) (t : Nat) : Bool :=
  let c := opClass op
  let owner := (decide (c = 2) || decide (c = 3)) && decide (s.classOwner c = q.session.val)
  !owner && (s.cmd.core.acc ++ s.cmd.own).any (fun a =>
    decide (a.target = t) && decide (a.fate = 0) && !a.fw && decide (a.q.session ≠ q.session) && (opKeys a.op).any (fun k => (opKeys op).contains k))

/-- The command conflicts with another or with the state (R232, R233, R330, R331, R354, R361, R392, R404). -/
def State.conflicts (s : State) (q : Req) (op : HostOp) : Bool :=
  s.held q op s.cmdTarget ||
  match op with
  | .ldgRetire n => !(s.retireCmd n.toNat).1
  | .ldgReplace n => !(s.replaceCmd n.toNat).1
  | .mtrSeal => !(bit s.sys.order 1 && s.mtrReady)
  | .mtrFwhash => s.stagedHash.isNone
  | .pairAction k => (decide (k = 0) && !s.partnerBit 0) || (decide (k = 2) && s.isActive) ||
      (decide (k = 3) && decide (s.role ≠ Role.isolated))
  | .safProof _ => s.saf.proof.isSome
  | _ => false

/-- The commands of sessions among them: a write set of the firmware is none. -/
def State.openOfSessions (s : State) : List Accepted := s.openCmds.filter (fun a => !a.fw)

/-- The limits of R400 have been reached. -/
def State.atCapacity (s : State) (q : Req) : Bool :=
  let l := s.openOfSessions
  decide (l.length ≥ 128) || decide ((l.filter (fun a => a.q.session == q.session)).length ≥ 32)

/-- The byte of a refused mode command (R97), and the index of the failing entry of an access whose cause is not one of its
entries: that of its first write (R406). -/
def State.refusalData (s : State) (op : HostOp) (status : Nat) : List Byte :=
  match op with
  | .modeSet c =>
    if status = 0x103 ∨ status = 0x301 then
      match (modeOf c.toNat).bind (fun m => s.cmdVerdict m) with
      | some (_, some b) => leBytes 1 b
      | _ => []
    else []
  | .regAccess es => if status = 0x108 ∨ status = 0x109 then [] else leBytes 2 ((es.findIdx? entryWrites).getD 0)
  | _ => []

/-- The verdict of validation in the order of R400: the status and data of the first failure; none when the command
passes. -/
def State.verdict (s : State) (x : Sess) (q : Req) (op : HostOp) : Option (Nat × List Byte) :=
  let owned := (decide (opClass op = 2) || decide (opClass op = 3)) && decide (s.classOwner (opClass op) ≠ 0) &&
    decide (s.classOwner (opClass op) ≠ x.num)
  let unknown := match op with | .unknown _ => true | _ => false
  let early : List (Nat × Bool) :=
    [(0x108, unknown), (0x109, opBadLen op), (0x10A, !x.roles.testBit (opRole op)), (0x103, s.modeForbids op), (0x102, owned),
     (0x104, s.valueBad op)]
  let late : List (Nat × Bool) :=
    [(0x301, s.safetyRefuses op), (0x101, s.conflicts q op), (0x10B, opBoundary op && s.atCapacity q)]
  let entry : Option (Nat × Nat) := match op with
    | .regAccess es => s.accessVerdict es s.cmdTarget q.session.val (x.roles.testBit 3)
    | _ => none
  match early.find? (·.2) with
  | some (st, _) => some (st, s.refusalData op st)
  | none =>
    match entry with
    | some (st, i) => some (st, leBytes 2 i)
    | none => (late.find? (·.2)).map (fun p => (p.1, s.refusalData op p.1))

/-- What a refusal leaves behind (R390, R478). -/
def State.refused (s : State) (op : HostOp) (status : Nat) : State :=
  match op with
  | .spsConfirm _ => if status = 0x301 then s.setFlag Reg.SAF_FLAGS 6 else s
  | .debugUnlock _ => if status = 0x104 then (s.setFlag Reg.SEC_FLAGS 2).freshNonce else s
  | _ => s

/-! ### Acceptance (R402, R404) -/

/-- What acceptance does to an earlier command for the same boundary and thing: of the same session it is overwritten, of
another it gives way to the owner. -/
def overtaken (q : Req) (op : HostOp) (t : Nat) (a : Accepted) : Accepted :=
  if a.target = t ∧ a.fate = 0 ∧ !a.fw ∧ (opKeys a.op).any (fun k => (opKeys op).contains k) then
    { a with fate := if a.q.session = q.session then 0x105 else 0x102 }
  else a

/-- A command is accepted for boundary `t`. -/
def State.accept (s : State) (q : Req) (op : HostOp) (serial : List Byte) (t : Nat) : State :=
  let a : Accepted := { q := q, op := op, target := t, fate := 0, vmode := s.mode.code, vtime := s.taiNs, serial := serial, fw := false }
  let s := s.updCmds (fun c => { c with acc := c.acc.map (overtaken q op t) })
  let s : State := { s with cmd := { s.cmd with own := s.cmd.own.map (overtaken q op t) } }
  if s.isActive then s.updCmds (fun c => { c with acc := c.acc ++ [a] })
  else { s with cmd := { s.cmd with own := s.cmd.own ++ [a] } }

/-! ### Write sets of the firmware (R19, R29, R30) -/

/-- The request a write set of the firmware stands under: no session. -/
def fwReq : Req := { session := 0, seq := 0, port := .h0 }

/-- A write set of the firmware joins what takes effect at boundary `t`; of two that write one register at one boundary, the later
stands (R29, R404). A set that names a pair-wide register is mirrored with the commands of the pair (R405). -/
def State.stageFw (s : State) (es : List RegEntry) (t : Nat) : State :=
  let a : Accepted := { q := fwReq, op := .regAccess es, target := t, fate := 0, vmode := s.mode.code, vtime := s.taiNs,
                        serial := List.replicate 8 0, fw := true }
  if s.isActive && es.any (fun e => pairWide (entryAt e)) then s.updCmds (fun c => { c with acc := c.acc ++ [a] })
  else { s with cmd := { s.cmd with own := s.cmd.own ++ [a] } }

/-- A write set takes effect now, and the configuration store with it (R407, R505). -/
def State.applyFw (s : State) (es : List RegEntry) : State :=
  let t := (s.applyAccess es (List.replicate 8 0)).2
  if writesStore es then t.cfgWrite else t

/-- A register that a write of the firmware reaches on its own clock: those of the PWM counters that PWM_MAIN_CFG does not name,
PWM_LOAD, SNAP_CMD and the WO registers of the converters (R247, R249, R276, R306). -/
def State.fwAtOnce (s : State) (a : Nat) : Bool :=
  (decide (0x60100 ≤ a ∧ a < 0x60700) && !s.isMain ((a - 0x60100) / 0x40)) ||
  [Reg.PWM_LOAD, Reg.ADC_SWTRIG, Reg.ADC_PATCH, Reg.SNAP_CMD].contains a || decide (0x70100 ≤ a ∧ a < 0x70200 ∧ a % 0x40 = 8)

/-- REGISTER_WRITE (R19, R29, R30, R249, R407): a write set of the firmware, of at most 64 registers, is validated here and takes
effect at its step boundary, or at once where no pipeline reads what it writes; refused, it has no effect. It carries no
session, so it has no metrology role. While θ stands still there is no boundary to wait for (log entry 77). -/
def State.registerWrite (s : State) (es : List RegEntry) : State :=
  if es.length = 0 ∨ es.length > 64 ∨ (s.accessVerdict es s.cmdTarget 0 false).isSome then s
  else if s.running && !es.all (fun e => s.fwAtOnce (entryAt e)) then s.stageFw es s.cmdTarget
  else s.applyFw es

/-- REGISTER_WRITE (R407). -/
def execRegisterWrite (es : List RegEntry) (s : State) : Host.Outcome State Fault Refusal := s.live (s.registerWrite es)

/-- A whole write of a register. -/
def writeEntry (a : Nat) (v : Word) : RegEntry := { addr := word (a + 1), value := v, mask := 0 }

/-- The write of LNK_CTRL.ROUTE of a lane (R211). -/
def routeEntry (lane : Fin 20) : RegEntry := writeEntry (Reg.LNK_CTRL lane) 1

/-- REF_SELECT (R271): the write of GRPg_REF, which takes effect at its step boundary. -/
def execRefSelect (g : Fin 4) (src : Fin 3) (s : State) : Host.Outcome State Fault Refusal :=
  s.live (s.registerWrite [writeEntry (Reg.GRPg_REF g) (word src)])

/-- FLT_SYNC_SOFT (R287): the write of its register, which takes effect at its step boundary (R29). -/
def execFltSyncSoft (mask : Word) (s : State) : Host.Outcome State Fault Refusal :=
  s.live (s.registerWrite [writeEntry Reg.FLT_SYNC_SOFT mask])

/-- FLT_SYNC_HARD (R288): the write of its register, which takes effect at its step boundary (R29). -/
def execFltSyncHard (mask : Word) (s : State) : Host.Outcome State Fault Refusal :=
  s.live (s.registerWrite [writeEntry Reg.FLT_SYNC_HARD mask])

/-- ACQ_TRG_ARM (R292): the write of its register, which takes effect at its step boundary. -/
def execAcqTrgArm (mask : BitVec 8) (s : State) : Host.Outcome State Fault Refusal :=
  s.live (s.registerWrite [writeEntry Reg.ACQ_TRG_ARM (word mask.toNat)])

/-- ACQ_MFIFO_POP (R301): the write of its register, which takes effect at its step boundary (R309). -/
def execAcqMfifoPop (s : State) : Host.Outcome State Fault Refusal := s.live (s.registerWrite [writeEntry Reg.ACQ_MFIFO_POP 1])

/-- ROUTE_WRITE (R211): the write of LNK_CTRL.ROUTE, which takes effect at its step boundary (R29). -/
def execRouteWrite (lane : Fin 20) (s : State) : Host.Outcome State Fault Refusal := s.live (s.registerWrite [routeEntry lane])

/-! ### First replies in order (R343, R399, R408) -/

/-- Commands that act once their reply has left: the unit resets, or the session closes. -/
def lateOp : HostOp → Bool
  | .reset | .close | .debugUnlock _ => true
  | _ => false

/-- A waiting reply is put back, unless its session has closed. -/
def State.keepWait (s : State) (w : Wait) : State :=
  if (s.sess w.q.session.val).isSome then { s with cmd := { s.cmd with waits := s.cmd.waits ++ [w] } } else s

/-- No reply waits. -/
def State.noWaits (s : State) : State := { s with cmd := { s.cmd with waits := [] } }

/-- A waiting reply can leave. -/
def Wait.ready (w : Wait) : Bool := !w.ack && w.read.isNone && w.tag.isNone

/-- `b` may not leave before `a` (R399): first replies of a session go in order, and so do its completions; a completion
follows its own first reply. -/
def Wait.before (a b : Wait) : Bool :=
  decide (a.q.session = b.q.session) &&
    (if b.reply.completion then a.reply.completion || decide (a.q.seq = b.q.seq) else !a.reply.completion)

/-- A waiting reply leaves; a command that acts after its reply acts. -/
def State.sendWait (s : State) (w : Wait) : State :=
  match w.run with
  | some op =>
    let r := s.immOp w.q op
    let s := s.deliver1 { w.reply with status := r.1, data := r.2.1 }
    if r.1 = 0 then (s.immOp w.q op).2.2 else s
  | none => s.deliver1 w.reply

/-- Every reply that can leave leaves, oldest first. -/
def State.flush (s : State) : State :=
  s.cmd.waits.foldl (fun s w =>
    if (s.sess w.q.session.val).isNone then s
    else if !w.ready || s.cmd.waits.any (fun a => a.before w) then s.keepWait w
    else s.sendWait w) s.noWaits

/-- An immediate command executes and its reply is known; a management request keeps it waiting for the answer. -/
def State.runWait (s : State) (w : Wait) (op : HostOp) : Wait × State :=
  let r := s.immOp w.q op
  let tag := match op with
    | .mgmtSend _ _ _ _ => if r.1 = 0 then some r.2.2.cmd.tag else none
    | _ => none
  ({ w with run := none, tag := tag, since := if tag.isSome then r.2.2.sys.clk else w.since, reply := { w.reply with status := r.1, data := r.2.1 } }, r.2.2)

/-- Acknowledgements arrive for the waiting replies that `pick` names (R343): commands that waited for them execute. -/
def State.release (s : State) (pick : Wait → Bool) : State :=
  s.cmd.waits.foldl (fun s w =>
    if w.ack && pick w then
      match w.run with
      | some op =>
        if lateOp op then s.keepWait { w with ack := false }
        else
          let r := s.runWait { w with ack := false } op
          r.2.keepWait r.1
      | none => s.keepWait { w with ack := false }
    else s.keepWait w) s.noWaits

/-- The reads that waited for the changeover of the signal window are taken (R408). -/
def State.takeReads (s : State) : State :=
  s.cmd.waits.foldl (fun s w =>
    match w.read with
    | some op =>
      let r := s.readRegs op
      r.2.keepWait { w with read := none, reply := { w.reply with data := r.1 } }
    | none => s.keepWait w) s.noWaits

/-- The journal entry of a waiting reply has been acknowledged: its block is neither queued nor kept. -/
def State.acked (s : State) (w : Wait) : Bool :=
  let x := s.assoc 20
  !((x.queue ++ x.kept).any (fun b => decide (b.vc = 2) && decide (b.payload = journalBlock w.reply)))

/-! ### Execution -/

/-- A command that has passed into its session's order is validated and executed or accepted (R400, R402, R424). -/
def State.hostExec (s : State) (q : Req) (op : HostOp) : State :=
  match s.sess q.session.val with
  | none => s
  | some x =>
    let base : Wait := { q := q, reply := s.mkReply q (opCode op) 0 [], run := none, read := none, ack := false, tag := none, since := s.sys.clk }
    match s.verdict x q op with
    | some (st, data) =>
      (((s.refused op st).journal x q op false).pushWait { base with reply := { base.reply with status := st, data := data } }).flush
    | none =>
      -- the read instant of R408
      let late := opReads op && s.running && !s.gfe.done
      let rd := if opReads op && !late then s.readRegs op else ([], s)
      let base := { base with read := if late then some op else none }
      if opBoundary op then
        let t := s.cmdTarget
        let rep : Reply := { base.reply with status := 1, data := rd.1, trow := word (t / 1024), tstep := t % 1024 }
        (((rd.2.accept q op x.serial t).journal x q op true).pushWait { base with reply := rep }).flush
      else if opReads op then
        ((rd.2.journal x q op false).pushWait { base with reply := { base.reply with data := rd.1 } }).flush
      else
        let r := s.immOp q op
        let s := s.journal x q op false
        if r.1 ≠ 0 then (s.pushWait { base with reply := { base.reply with status := r.1, data := r.2.1 } }).flush
        else if lateOp op || (opChanges op && s.mirrored) then (s.pushWait { base with run := some op }).flush
        else
          let w := s.runWait base op
          (w.2.pushWait w.1).flush

/-! ### Sequence numbers (R398) -/

/-- A duplicate is answered from the cache, at most 127 times. -/
def State.duplicate (s : State) (x : Sess) (q : Req) : State :=
  match x.cache.find? (fun c => c.seq == q.seq) with
  | none => s
  | some c =>
    if c.resends ≥ 127 then s
    else
      let s := s.updSess x.num (fun y => { y with cache := y.cache.map (fun d => if d.seq = q.seq then { d with resends := d.resends + 1 } else d) })
      (s.bump Reg.CMD_DUP_CNT).sendReply { s.mkReply q c.opcode 0x106 (leBytes 2 c.status ++ leBytes 2 0 ++ c.data) with resend := c.resends + 1 }

/-- Held commands whose turn has come execute in order; at 0xFFFF_FFFF the session closes (R395). -/
def State.drain : Nat → Fin 9 → State → State
  | 0, _, s => s
  | k + 1, n, s =>
    match s.sess n.val with
    | none => s
    | some x =>
      if x.last = 0xFFFFFFFF then s.closeSess n.val
      else
        match x.held.find? (fun h => h.1 == x.last + 1) with
        | none => s
        | some h =>
          let rest := x.held.filter (fun y => y.1 != h.1)
          State.drain k n ((s.updSess n.val (fun y => { y with
            last := h.1, held := rest, heldClk := if rest.isEmpty then none else y.heldClk })).hostExec ⟨n, h.1, h.2.2⟩ h.2.1)

/-- A valid packet is sorted by its SEQ. -/
def State.sortSeq (s : State) (x : Sess) (q : Req) (op : HostOp) : State :=
  let l := x.last.toNat
  let n := q.seq.toNat
  if n = l + 1 then
    State.drain 17 q.session ((s.updSess x.num (fun y => { y with last := q.seq, held := y.held.filter (fun h => h.1 != q.seq) })).hostExec q op)
  else if l + 2 ≤ n ∧ n ≤ l + 16 then
    if x.held.any (fun h => h.1 == q.seq) then s
    else s.updSess x.num (fun y => { y with
      held := y.held ++ [(q.seq, op, q.port)], heldClk := some (y.heldClk.getD s.sys.clk) })
  else if 1 ≤ n ∧ n ≤ l ∧ l ≤ n + 63 then s.duplicate x q
  else s.bump Reg.CMD_MALFORMED

/-- A port takes commands (R394): its mode and address, S0 its enable. -/
def State.portOpen (s : State) : HostPort → Bool
  | .h0 => decide (s.fld Reg.NET_CFG 0 2 ≠ 0) && decide (s.reg Reg.NET_H0_ADDR ≠ 0)
  | .h1 => decide (s.fld Reg.NET_CFG 2 2 ≠ 0) && decide (s.reg Reg.NET_H1_ADDR ≠ 0)
  | .s0 => s.flag Reg.NET_CFG 4

/-- Commands are held at the port while the SRAM is in RETV and until it is awake (R435). -/
def State.asleep (s : State) : Bool := s.mem.retv || decide (s.sys.clk < s.mem.wakeEnd)

/-- A command is held at its port (R435). -/
def State.park (s : State) (p : Parked) : State := { s with cmd := { s.cmd with parked := s.cmd.parked ++ [p] } }

/-- In the boot loader only the firmware class and RESET are served, on S0, for ENGINEER (R472). -/
def State.served (s : State) (x : Sess) (q : Req) (op : HostOp) : Bool :=
  !s.sec.loaderOnly ||
    (decide (q.port = .s0) && x.roles.testBit 2 && (decide (opClass op = 0x0A) || decide (op = .reset)))

/-- An authenticated command of an open session arrives (R397, R398). -/
def State.hostIn (s : State) (q : Req) (op : HostOp) : State :=
  if !s.pwr.booted || !s.portOpen q.port then s
  else if s.asleep then s.park (.op q op)
  else
    match s.sess q.session.val with
    | some x =>
      if !x.fin then s.bump Reg.CMD_MALFORMED
      else if !s.served x q op then s
      else
        let s := s.updSess x.num (fun y => { y with port := q.port, lastClk := s.sys.clk })
        s.sortSeq x q op
    | none => s.bump Reg.CMD_MALFORMED

end Sys2Proof.Machine
end

