-- ==== Sys2Proof/Machine/Session.lean ====
section
/-! DEFINITION. Packets and handshakes (R395 to R397, R474, R475), and the events that release waiting replies. -/
namespace Sys2Proof.Machine

/-! ### The handshake (R474) -/

/-- The lowest free session number. -/
def State.freeSess (s : State) : Option Nat := ((upto 8).map (· + 1)).find? (fun n => (s.sess n).isNone)

/-- A reply in clear on session 0. -/
def State.clearReply (s : State) (port : HostPort) (seq : Word) (status : Nat) (data : List Byte) : State :=
  s.sendReply (s.mkReply ⟨0, seq, port⟩ 0x0B01 status data)

/-- The roles of a session (R474, R475): VIEW always; while the device key or certificate is absent, at most SECURITY
beside it. -/
def State.grantRoles (s : State) (r : Nat) : Nat := if s.devReady then r % 64 ||| 1 else r % 64 &&& 0x20 ||| 1

/-- The host's certificate chain at the end of a HELLO's parameters. -/
def helloChain (p : List Byte) : List Byte := p.drop 132

/-- A HELLO is well formed. -/
def helloOk (p : List Byte) : Bool :=
  decide (132 ≤ p.length) && decide (par p 0 1 = 1) && decide (par p 130 2 ≤ 1268) && decide (p.length = 132 + par p 130 2)

/-- The certificate of a HELLO: public key, roles, serial, when its chain ends at the trust anchor and, while TIME_OK, every
certificate is in its validity. -/
def State.helloCert (s : State) (p : List Byte) : Option (List Byte × Nat × List Byte) :=
  match Config.certChain (s.sec.anchor.getD []) (helloChain p) with
  | some (pub, roles, serial, nb, na) =>
    if s.flag Reg.CAL_STAT 3 && !(decide (nb ≤ s.taiNs) && decide (s.taiNs ≤ na)) then none else some (pub, roles, serial)
  | none => none

/-- The HELLO reply without its signature: session number, ephemeral key, random, device certificate. -/
def State.helloHead (s : State) (n draw : Nat) : List Byte :=
  let c := if s.devReady then s.sec.devCert.getD [] else []
  leBytes 1 n ++ fixLen 129 (Config.ephemeral draw) ++ leBytes 2 c.length ++ c

/-- A session is allotted (R474): its keys and salts follow from the host's key and random and the module's draw. -/
def State.allot (s : State) (port : HostPort) (seq : Word) (p : List Byte) (n : Nat) (cert : List Byte × Nat × List Byte) : State :=
  let k := s.sys.free
  let head := s.helloHead n k
  let reply := head ++ fixLen 96 (Config.ecdsaSign (s.signKey false).1 (Config.sha384 (p ++ head)))
  let keys := fixLen 72 (Config.kdf (slice p 1 129 ++ leBytes 8 k))
  let x : Sess := {
    num := n, fin := false, roles := s.grantRoles cert.2.1, serial := cert.2.2, certKey := cert.1, keyIn := slice keys 0 32,
    keyOut := slice keys 32 32, saltIn := slice keys 64 4, saltOut := slice keys 68 4, transcript := p ++ reply, last := 0,
    port := port, lastClk := s.sys.clk, held := [], heldClk := none, cache := [] }
  let s := s.draw.2
  (s.updCmds (fun c => { c with sess := c.sess ++ [x] })).clearReply port seq 0 reply

/-- A HELLO arrives (R395, R405, R474, R475). -/
def State.helloIn (s : State) (port : HostPort) (seq : Word) (p : List Byte) : State :=
  if !s.pwr.booted || !s.portOpen port then s
  else if !s.devReady && decide (port ≠ .s0) then s
  else if s.sec.loaderOnly && decide (port ≠ .s0) then s
  else if s.shadowing then s.clearReply port seq 0x103 []
  else
    match s.freeSess with
    | none => s.clearReply port seq 0x10B []
    | some n =>
      if !helloOk p then s.bump Reg.CMD_AUTH_FAIL
      else
        match s.helloCert p with
        | some c => s.allot port seq p n c
        | none => s.bump Reg.CMD_AUTH_FAIL

/-- A FINISH arrives on its session with SEQ = 1 (R398, R474): the session opens, or its number is freed. -/
def State.finishIn (s : State) (port : HostPort) (n : Fin 9) (sig : List Byte) : State :=
  if !s.pwr.booted || !s.portOpen port then s
  else
    match s.sess n.val with
    | none => s.bump Reg.CMD_MALFORMED
    | some x =>
      let q : Req := ⟨n, 1, port⟩
      if x.fin then s.duplicate x q
      else if sig.length = 96 ∧ Config.ecdsaVerify x.certKey (Config.sha384 x.transcript) sig then
        (s.updSess n.val (fun y => { y with fin := true, last := 1, port := port, lastClk := s.sys.clk })).deliver1
          (s.mkReply q 0x0B02 0 [])
      else (s.closeSess n.val).bump Reg.CMD_AUTH_FAIL

/-! ### Packets (R396, R397) -/

/-- The nonce of a command packet: the salt of the direction, SEQ, and a word of 0. -/
def cmdNonce (x : Sess) (seq : Nat) : List Byte := x.saltIn ++ leBytes 4 seq ++ leBytes 4 0

/-- A datagram arrives at an open port: malformed, failed, or a command. -/
def State.packetIn (s : State) (port : HostPort) (d : List Byte) : State :=
  let plen := par d 10 2
  let n := par d 2 1
  let seq := par d 4 4
  let code := par d 8 2
  let body := slice d 32 plen
  let tag := slice d (32 + plen) 16
  if d.length < 48 ∨ plen > 1400 ∨ d.length ≠ 48 + plen ∨ par d 0 1 ≠ 1 then s.bump Reg.CMD_MALFORMED
  else if n = 0 then (if code = 0x0B01 then s.helloIn port (word seq) body else s.bump Reg.CMD_MALFORMED)
  else
    match s.sess n with
    | none => s.bump Reg.CMD_MALFORMED
    | some x =>
      let q : Req := ⟨Fin.ofNat 9 n, word seq, port⟩
      if Config.gcmTag x.keyIn (cmdNonce x seq) (d.take 32) body ≠ tag then s.bump Reg.CMD_AUTH_FAIL
      else
        let p := fixLen plen (Config.gcmDecrypt x.keyIn (cmdNonce x seq) body)
        if x.fin then s.hostIn q (parseOp code p)
        else if code = 0x0B02 ∧ seq = 1 then s.finishIn port (Fin.ofNat 9 n) p
        else s.bump Reg.CMD_MALFORMED

/-- PACKET_RX (R394, R397, R435). -/
def State.packetRx (s : State) (port : HostPort) (d : List Byte) : State :=
  if !s.pwr.booted || !s.portOpen port then s
  else if s.asleep then s.park (.packet port d)
  else s.packetIn port d

/-- Commands held during a retention are validated after wake, oldest first (R435). -/
def State.unpark (s : State) : State :=
  if s.asleep || s.cmd.parked.isEmpty then s
  else
    s.cmd.parked.foldl (fun s p => match p with
      | .packet port d => s.packetRx port d
      | .op q o => s.hostIn q o
      | .hello port p => s.helloIn port 0 p
      | .finish port n sig => s.finishIn port n sig) { s with cmd := { s.cmd with parked := [] } }

/-- PACKET_RX (R397). -/
def execPacketRx (port : HostPort) (d : List Byte) (s : State) : Host.Outcome State Fault Refusal := s.live (s.packetRx port d)

/-- REORDER_TIMEOUT (R398): the gap has stayed open 20 ms. -/
def State.reorderOut (s : State) (n : Nat) : State :=
  match s.sess n with
  | some x =>
    if x.held.isEmpty then s
    else (s.updSess n (fun y => { y with held := [], heldClk := none })).bumpBy Reg.CMD_GAP_DROP x.held.length
  | none => s

/-- The clock at which the 20 ms of a gap end. -/
def Sess.gapEnd (x : Sess) : Option Nat := if x.held.isEmpty then none else x.heldClk.map (· + 8000000)

/-- REORDER_TIMEOUT (R398). -/
def execReorderTimeout (session : Fin 9) (s : State) : Host.Outcome State Fault Refusal :=
  s.live (match (s.sess session.val).bind Sess.gapEnd with
    | some t => s.atDue t (fun s => s.reorderOut session.val)
    | none => s)

/-- The clock at which a session has been idle for CMD_SESS_TMO (R395). -/
def State.idleEnd (s : State) (x : Sess) : Nat := x.lastClk + s.fld Reg.CMD_SESS_TMO 0 10 * 400000000

/-- SESSION_TIMEOUT (R395). -/
def execSessionTimeout (session : Fin 9) (s : State) : Host.Outcome State Fault Refusal :=
  s.live (match s.sess session.val with
    | some x => s.atDue (s.idleEnd x) (fun s => s.closeSess session.val)
    | none => s)

/-- HELLO (R474); the row gives no SEQ, so its reply carries 0. -/
def execHello (port : HostPort) (p : List Byte) (s : State) : Host.Outcome State Fault Refusal :=
  s.live (if s.asleep then s.park (.hello port p) else s.helloIn port 0 p)

/-- FINISH (R474). -/
def execFinish (port : HostPort) (session : Fin 9) (sig : List Byte) (s : State) : Host.Outcome State Fault Refusal :=
  s.live (if s.asleep then s.park (.finish port session sig) else s.finishIn port session sig)

/-! ### What releases waiting replies -/

/-- A bulk block that association `a` delivers: the one it expects, whole (R205). -/
def State.delivers (s : State) (a : Nat) (b : BulkBlk) (crcOk : Bool) : Bool :=
  decide (b.vc ≠ 0) && !bulkBroken b crcOk && decide (b.seq = (s.assoc a).expect)

/-- What a delivered block of the pair link brings a shadow unit (R235, R343, R360): the command state of an entry; a change to
the ledger, which a SYNCING unit keeps for the end of the transfer too. -/
def State.mirrorIn (s : State) (b : BulkBlk) : State :=
  if !s.shadowing then s
  else
    match b.mir with
    | some (.entry c) => { s with cmd := { s.cmd with core := c }, pair := { s.pair with entryNew := true, coreSeen := true } }
    | some (.change a r) =>
      (({ s with pair := { s.pair with xferRecs := if s.role = Role.syncing then s.pair.xferRecs ++ [(a, r)] else [] } } : State).putRec
        a r).sweepMerged a r
    | none => s

/-- BULK_BLOCK_RX (R205). -/
def execBulkBlockRx (lane : Fin 22) (b : BulkBlk) (crcOk : Bool) (s : State) : Host.Outcome State Fault Refusal :=
  s.live (let t := s.linkBlock lane
    match t.assocOf lane with
    | some a =>
      let u := t.bulkRx lane a b crcOk
      if a = 20 ∧ t.delivers a b crcOk then u.mirrorIn b else u
    | none => t)

/-- ACK_RX (R206): on the pair link it releases what waited for it (R235, R343). -/
def State.ackSeen (s : State) (n : Nat) (seq : Byte) (nak : Bool) : State :=
  match s.assocOf n with
  | none => s
  | some a =>
    let s := s.ackAct n a seq nak
    if a ≠ 20 then s
    else
      let s := s.pairAcked
      (s.release s.acked).flush

/-- ACK_RX (R206). -/
def execAckRx (lane : Fin 22) (seq : Byte) (nak : Bool) (s : State) : Host.Outcome State Fault Refusal :=
  s.live ((s.linkBlock lane).ackSeen lane.val seq nak)

/-- ACK_LATE (R343): 20 µs without the acknowledgement; the active proceeds, and the standby's qualification counts as lost
for 1,024 steps. -/
def State.ackLateAct (s : State) : State :=
  match s.cmd.waits.find? (·.ack) with
  | some w => s.atDue (w.since + 8000) (fun s =>
    let now := s.sys.clk
    (s.ackLost.release (fun w => decide (w.since + 8000 ≤ now))).flush)
  | none => s

/-- ACK_LATE (R343). -/
def execAckLate (s : State) : Host.Outcome State Fault Refusal := s.live s.ackLateAct

/-- PATH_SILENT (R348). A lost partner no longer acknowledges: what waited goes on. -/
def execPathSilent (path : Bool) (s : State) : Host.Outcome State Fault Refusal :=
  s.live (
    let t := s.silentPath path
    if t.mirrored then t else (t.release (fun _ => true)).flush)

/-- GFE_COMPLETE (R66): the reads that waited for the changeover are taken (R408). -/
def State.gfeComplete (s : State) (fault : Bool) : State := ((s.gfeDone fault).takeReads).flush

/-- GFE_COMPLETE (R66). -/
def execGfeComplete (fault : Bool) (s : State) : Host.Outcome State Fault Refusal := s.live (s.gfeComplete fault)

/-- MGMT_ANSWER_RX (R411): the request with that TAG completes. -/
def State.mgmtAnswer (s : State) (tag : Nat) (status : Nat) (data : List Byte) : State :=
  let hit (w : Wait) : Bool := decide (w.tag = some tag)
  if s.cmd.waits.any hit then
    ({ s with cmd := { s.cmd with waits := s.cmd.waits.map (fun w =>
        if hit w then { w with tag := none, reply := { w.reply with status := status, data := data } } else w) } } : State).flush
  else s.bump Reg.CMD_MALFORMED

/-- MGMT_ANSWER_RX (R411). -/
def execMgmtAnswerRx (tag : Word) (code : BitVec 16) (body : List Byte) (s : State) : Host.Outcome State Fault Refusal :=
  s.live (s.mgmtAnswer tag.toNat 0 (leBytes 2 code.toNat ++ body))

/-- MGMT_TIMEOUT (R411): NO_RESPONSE after 100 ms. -/
def execMgmtTimeout (tag : Word) (s : State) : Host.Outcome State Fault Refusal :=
  s.live (match s.cmd.waits.find? (fun w => decide (w.tag = some tag.toNat)) with
    | some w => s.atDue (w.since + 40000000) (fun s => s.mgmtAnswer tag.toNat 0x201 [])
    | none => s)

/-- MGMT_EVENT_RX (R411, R419): an entry of source 0x80. -/
def execMgmtEventRx (smn code : BitVec 16) (body : List Byte) (s : State) : Host.Outcome State Fault Refusal :=
  s.live (s.logEv 1 0x80 code.toNat (smn.toNat + ofLe (body.take 16) * 2 ^ 32))

/-! ### Safety inputs and proof tests -/

/-- SIN_CHANGE (R384). -/
def execSinChange (k : Fin 8) (chB level : Bool) (s : State) : Host.Outcome State Fault Refusal :=
  s.live (s.sinChangeAct k chB level)

/-- SIN_FAULT (R385): the 1 ms ticks may have counted beyond t_disc once a disagreement has lasted longer than t_disc − 1 ms;
it latches by itself at t_disc + 1 ms. -/
def State.sinFaultSeen (s : State) (k : Nat) : State :=
  match (s.sin k).apart with
  | some t => s.atDue (t + (s.sinDisc k - 1) * 400000 + 1) (fun s => (s.sinFaultDue k).flush)
  | none => s

/-- SIN_FAULT (R385). -/
def execSinFault (k : Fin 8) (s : State) : Host.Outcome State Fault Refusal := s.live (s.sinFaultSeen k)

/-- PROOF_TEST_DECIDED (R392). -/
def execProofTestDecided (pass : Bool) (s : State) : Host.Outcome State Fault Refusal := s.live (s.proofDecided pass).flush

/-- PROOF_TIMEOUT (R392): test 3 or 5 fails 600 s after its boundary. -/
def execProofTimeout (s : State) : Host.Outcome State Fault Refusal :=
  s.live (match s.proofLimit with
    | some t => s.atDue t (fun s => (s.proofEnd false).flush)
    | none => s)

end Sys2Proof.Machine
end

