-- ==== Sys2Proof/Machine/Host.lean ====
section
/-! DEFINITION. The rows of the opcodes of R409: each is the arrival of that authenticated command on an open session. The
four pair commands come also as actions of PAIR_CTRL. -/
namespace Sys2Proof.Machine

/-- PING (R409). -/
def execPing (q : Req) (s : State) : Host.Outcome State Fault Refusal := s.live (s.hostIn q .ping)

/-- IDENT (R409). -/
def execIdent (q : Req) (s : State) : Host.Outcome State Fault Refusal := s.live (s.hostIn q .ident)

/-- OWN_CLAIM (R403). -/
def execOwnClaim (q : Req) (cls : Byte) (s : State) :
    Host.Outcome State Fault Refusal := s.live (s.hostIn q (.ownClaim cls))

/-- OWN_RELEASE (R403). -/
def execOwnRelease (q : Req) (cls : Byte) (s : State) :
    Host.Outcome State Fault Refusal := s.live (s.hostIn q (.ownRelease cls))

/-- EVLOG_READ (R409). -/
def execEvlogRead (q : Req) (first : BitVec 64) (n : Byte) (s : State) :
    Host.Outcome State Fault Refusal := s.live (s.hostIn q (.evlogRead first n))

/-- MGMT_SEND (R411). -/
def execMgmtSend (q : Req) (conc : Bool) (id code : BitVec 16) (body : List Byte) (s : State) :
    Host.Outcome State Fault Refusal := s.live (s.hostIn q (.mgmtSend conc id code body))

/-- RESET (R409). -/
def execReset (q : Req) (s : State) : Host.Outcome State Fault Refusal := s.live (s.hostIn q .reset)

/-- MODE_SET (R97). -/
def execModeSet (q : Req) (code : Byte) (s : State) :
    Host.Outcome State Fault Refusal := s.live (s.hostIn q (.modeSet code))

/-- BRK_REPORT (R93). -/
def execBrkReport (q : Req) (conv tie : Byte) (s : State) :
    Host.Outcome State Fault Refusal := s.live (s.hostIn q (.brkReport conv tie))

/-- SET_P (R81). -/
def execSetP (q : Req) (v : Word) (s : State) : Host.Outcome State Fault Refusal := s.live (s.hostIn q (.setP v))

/-- SET_Q (R81). -/
def execSetQ (q : Req) (v : Word) (s : State) : Host.Outcome State Fault Refusal := s.live (s.hostIn q (.setQ v))

/-- SET_V (R81). -/
def execSetV (q : Req) (v : Word) (s : State) : Host.Outcome State Fault Refusal := s.live (s.hostIn q (.setV v))

/-- SET_F (R81). -/
def execSetF (q : Req) (v : Word) (s : State) : Host.Outcome State Fault Refusal := s.live (s.hostIn q (.setF v))

/-- SET_MULTI (R409). -/
def execSetMulti (q : Req) (mask : Byte) (p qq v f : Word) (s : State) :
    Host.Outcome State Fault Refusal := s.live (s.hostIn q (.setMulti mask p qq v f))

/-- REG_ACCESS (R406). -/
def execRegAccess (q : Req) (es : List RegEntry) (s : State) :
    Host.Outcome State Fault Refusal := s.live (s.hostIn q (.regAccess es))

/-- REG_READ_RANGE (R408). -/
def execRegReadRange (q : Req) (first : Word) (n : Byte) (s : State) :
    Host.Outcome State Fault Refusal := s.live (s.hostIn q (.regReadRange first n))

/-- LDG_READ (R409). -/
def execLdgRead (q : Req) (addr : Word) (n : BitVec 16) (s : State) :
    Host.Outcome State Fault Refusal := s.live (s.hostIn q (.ldgRead addr n))

/-- LDG_ARCH_READ (R409). -/
def execLdgArchRead (q : Req) (first : Word) (n : Byte) (s : State) :
    Host.Outcome State Fault Refusal := s.live (s.hostIn q (.ldgArchRead first n))

/-- LDG_RETIRE (R232). -/
def execLdgRetire (q : Req) (smn : BitVec 16) (s : State) :
    Host.Outcome State Fault Refusal := s.live (s.hostIn q (.ldgRetire smn))

/-- LDG_REPLACE (R233). -/
def execLdgReplace (q : Req) (smn : BitVec 16) (s : State) :
    Host.Outcome State Fault Refusal := s.live (s.hostIn q (.ldgReplace smn))

/-- LDG_KEY_SET (R228). -/
def execLdgKeySet (q : Req) (key : List Byte) (s : State) :
    Host.Outcome State Fault Refusal := s.live (s.hostIn q (.ldgKeySet key))

/-- ACQ_HEAD (R409). -/
def execAcqHead (q : Req) (s : State) : Host.Outcome State Fault Refusal := s.live (s.hostIn q .acqHead)

/-- ACQ_READ (R409). -/
def execAcqRead (q : Req) (num off : Word) (n : BitVec 16) (s : State) :
    Host.Outcome State Fault Refusal := s.live (s.hostIn q (.acqRead num off n))

/-- ACQ_FREE (R303). -/
def execAcqFree (q : Req) (num : Word) (s : State) :
    Host.Outcome State Fault Refusal := s.live (s.hostIn q (.acqFree num))

/-- ACQ_STREAM (R409). -/
def execAcqStream (q : Req) (slot : Byte) (first : BitVec 64) (n : BitVec 16) (s : State) :
    Host.Outcome State Fault Refusal := s.live (s.hostIn q (.acqStream slot first n))

/-- MTR_READOUT (R332). -/
def execMtrReadout (q : Req) (s : State) : Host.Outcome State Fault Refusal := s.live (s.hostIn q .mtrReadout)

/-- MTR_PROFILE (R332). -/
def execMtrProfile (q : Req) (first : Word) (n : Byte) (s : State) :
    Host.Outcome State Fault Refusal := s.live (s.hostIn q (.mtrProfile first n))

/-- MTR_AUDIT_READ (R330). -/
def execMtrAuditRead (q : Req) (first : Word) (n : Byte) (s : State) :
    Host.Outcome State Fault Refusal := s.live (s.hostIn q (.mtrAuditRead first n))

/-- MTR_SEAL (R330). -/
def execMtrSeal (q : Req) (s : State) : Host.Outcome State Fault Refusal := s.live (s.hostIn q .mtrSeal)

/-- MTR_FWHASH (R331). -/
def execMtrFwhash (q : Req) (s : State) : Host.Outcome State Fault Refusal := s.live (s.hostIn q .mtrFwhash)

/-- SPS_WRITE (R388). -/
def execSpsWrite (q : Req) (off : BitVec 16) (vals : List Word) (s : State) :
    Host.Outcome State Fault Refusal := s.live (s.hostIn q (.spsWrite off vals))

/-- SPS_CONFIRM (R389). -/
def execSpsConfirm (q : Req) (chk : Word) (s : State) :
    Host.Outcome State Fault Refusal := s.live (s.hostIn q (.spsConfirm chk))

/-- SAF_RESET (R386). -/
def execSafReset (q : Req) (s : State) : Host.Outcome State Fault Refusal := s.live (s.hostIn q .safReset)

/-- SAF_SPB (R377). -/
def execSafSpb (q : Req) (s : State) : Host.Outcome State Fault Refusal := s.live (s.hostIn q .safSpb)

/-- SAF_PROOF (R392). -/
def execSafProof (q : Req) (test : Byte) (s : State) :
    Host.Outcome State Fault Refusal := s.live (s.hostIn q (.safProof test))

/-- SAF_PROOF_OUT (R392). -/
def execSafProofOut (q : Req) (out seen : Byte) (s : State) :
    Host.Outcome State Fault Refusal := s.live (s.hostIn q (.safProofOut out seen))

/-- FW_BEGIN (R409). -/
def execFwBegin (q : Req) (len ver : Word) (s : State) :
    Host.Outcome State Fault Refusal := s.live (s.hostIn q (.fwBegin len ver))

/-- FW_DATA (R409). -/
def execFwData (q : Req) (off : Word) (data : List Byte) (s : State) :
    Host.Outcome State Fault Refusal := s.live (s.hostIn q (.fwData off data))

/-- FW_END (R473). -/
def execFwEnd (q : Req) (s : State) : Host.Outcome State Fault Refusal := s.live (s.hostIn q .fwEnd)

/-- FW_ACTIVATE (R473). -/
def execFwActivate (q : Req) (img : Byte) (s : State) :
    Host.Outcome State Fault Refusal := s.live (s.hostIn q (.fwActivate img))

/-- CLOSE (R395). -/
def execClose (q : Req) (s : State) : Host.Outcome State Fault Refusal := s.live (s.hostIn q .close)

/-- TRUST_SET (R474). -/
def execTrustSet (q : Req) (anchor : List Byte) (s : State) :
    Host.Outcome State Fault Refusal := s.live (s.hostIn q (.trustSet anchor))

/-- KEY_GEN (R471). -/
def execKeyGen (q : Req) (kind : Byte) (s : State) :
    Host.Outcome State Fault Refusal := s.live (s.hostIn q (.keyGen kind))

/-- CERT_SET (R471). -/
def execCertSet (q : Req) (cert : List Byte) (s : State) :
    Host.Outcome State Fault Refusal := s.live (s.hostIn q (.certSet cert))

/-- DEBUG_UNLOCK (R478). -/
def execDebugUnlock (q : Req) (token : List Byte) (s : State) :
    Host.Outcome State Fault Refusal := s.live (s.hostIn q (.debugUnlock token))

/-- A pair command (R354, R361, R363): of a session, or an action of PAIR_CTRL taken at once where its rule allows it. -/
def State.pairRow (s : State) (q : Option Req) (k : Byte) : State :=
  match q with
  | some q => s.hostIn q (.pairAction k)
  | none =>
    if !s.pwr.booted || (decide (k = 1) && (!s.isActive || decide (s.mode ≠ .maintain))) then s else (s.pairAct k.toNat).2

/-- PAIR_HANDOVER (R354). -/
def execPairHandover (q : Option Req) (s : State) : Host.Outcome State Fault Refusal := s.live (s.pairRow q 0)

/-- PAIR_PROOF (R363). -/
def execPairProof (q : Option Req) (s : State) : Host.Outcome State Fault Refusal := s.live (s.pairRow q 1)

/-- PAIR_ISOLATE (R361). -/
def execPairIsolate (q : Option Req) (s : State) : Host.Outcome State Fault Refusal := s.live (s.pairRow q 2)

/-- PAIR_REJOIN (R361). -/
def execPairRejoin (q : Option Req) (s : State) : Host.Outcome State Fault Refusal := s.live (s.pairRow q 3)

end Sys2Proof.Machine
end

