-- ==== Sys2Proof/Machine/Timed.lean ====
section
/-! DEFINITION. What comes about by itself at a clock the state holds: the edges of the PWM array, the ends of settling and
calibration, outputs of the filter chain, the closing of records, the snapshot block (log entry 59). -/
namespace Sys2Proof.Machine

/-- What is under way, in the order in which things due on one clock come about. -/
inductive Timed where
  | load (n : Nat)
  | period (n : Nat)
  | cmp (n : Nat)
  | xc (n k : Nat)
  | dead (n : Nat) (outB : Bool)
  | blank (i : Nat)
  | filter (n : Nat)
  | refSettled (g : Nat)
  | spareCal
  | recClose (k : Nat)
  | snapLow
  | snapCopy
  | sinFault (k : Nat)
  | ssrLimit
  | proofHold
  | proofLimit
  | reorder (n : Nat)
  | idle (n : Nat)
  | noAnswer (tag : Nat)
  | ackLate
  | mirrorLate
  | apllLate
  | calLock
  | calHold
  | calExpire
  deriving DecidableEq, Repr

/-- It comes about (R241 to R252, R258, R271, R273, R280, R299, R307, R378, R385, R392, R395, R398, R411, R235, R343, R446, R465, R466). -/
def State.timed (s : State) : Timed → State
  | .load n => s.transfer n
  | .period n => s.periodDue n
  | .cmp n => s.cmpMatchAct n
  | .xc n k => s.xcMatchAct n k
  | .dead n outB => s.deadTimeAct n outB
  | .blank i => s.blankCloseAct i
  | .filter n => s.fltDeliver n
  | .refSettled g => s.refSettle g
  | .spareCal => s.spareCalAct
  | .recClose k => s.recordCloseAct k
  | .snapLow => s.snapLow
  | .snapCopy => s.snapDone
  | .sinFault k => (s.sinFaultDue k).flush
  | .ssrLimit => s.ssrExpired
  | .proofHold => s.holdOver
  | .proofLimit => (s.proofEnd false).flush
  | .reorder n => s.reorderOut n
  | .idle n => s.closeSess n
  | .noAnswer tag => s.mgmtAnswer tag 0x201 []
  | .ackLate => s.ackLateAct
  | .mirrorLate => s.mirrorTimeout
  | .apllLate => s.apllLateAct
  | .calLock => s.calLock
  | .calHold => s.calHold
  | .calExpire => s.holdExpired

/-- The clock of the present step at which counter `n` reaches count ≥ `v`; none where its time base stands still. -/
def State.countClk (s : State) (n v : Nat) : Option Nat :=
  if s.flag (Reg.PWMn_CFG n) 1 then some (max s.sys.bclk ((s.ctr n).base + v))
  else if s.running then some (s.accClk (((s.ctr n).base + v - s.ang.row.toNat * 2 ^ 24) * 2 ^ 40))
  else none

/-- What counter `n` has under way: a transfer while disabled, the end of its period, its compares, delayed edges. -/
def State.counterDue (s : State) (n : Nat) (c : Counter) : List (Nat × Timed) :=
  let at_ (b : Bool) (v : Nat) (e : Timed) : List (Nat × Timed) :=
    if b then ((s.countClk n v).map (fun t => (t, e))).toList else []
  let edge (r : Option Nat) (outB : Bool) : List (Nat × Timed) :=
    (r.map (fun t => (t + s.fld (Reg.PWMn_DT n) 0 12, Timed.dead n outB))).toList
  if !s.ctrEn n then (if c.pend then [(s.sys.clk, .load n)] else [])
  else
    at_ true c.per (.period n) ++ at_ (decide (c.ost = 0) && c.raw && decide (c.cmp < c.per)) c.cmp (.cmp n) ++
    at_ (!c.xm0 && decide (c.xc0 < c.per)) c.xc0 (.xc n 0) ++ at_ (!c.xm1 && decide (c.xc1 < c.per)) c.xc1 (.xc n 1) ++
    edge c.riseA false ++ edge c.riseB true

/-- What the record slot `k` has under way: a record closes 20 µs after REARM was entered, once there is room (R299). -/
def State.slotDue (s : State) (k : Nat) (x : AcqSlot) : List (Nat × Timed) :=
  if decide (x.st = 4) && (s.flag (Reg.SLOTk_CFG k) 3 || s.slotRoom k) then [(x.rearm + 8000, .recClose k)] else []

/-- What SAF has under way: input faults at t_disc + 1 ms, the limit of SS-R, the times of a proof test (R378, R385, R392). -/
def State.safDue (s : State) : List (Nat × Timed) :=
  (s.saf.sins.mapIdx (fun k i => (i.apart.map (fun t => (t + (s.sinDisc k + 1) * 400000, Timed.sinFault k))).toList)).flatten ++
  (s.ssrLimit.map (fun t => (t, Timed.ssrLimit))).toList ++ (s.holdEnd.map (fun t => (t, Timed.proofHold))).toList ++
  (s.proofLimit.map (fun t => (t, Timed.proofLimit))).toList

/-- What the sessions have under way in a unit that is no shadow: gaps, idle times, requests without an answer,
acknowledgements of the partner (R235, R343, R395, R398, R411). -/
def State.hostDue (s : State) : List (Nat × Timed) :=
  (if s.shadowing then [] else
    s.cmd.core.sess.flatMap (fun x => (x.gapEnd.map (fun t => (t, Timed.reorder x.num))).toList ++ [(s.idleEnd x, Timed.idle x.num)])) ++
  s.cmd.waits.flatMap (fun w => (w.tag.map (fun t => (w.since + 40000000, Timed.noAnswer t))).toList ++
    (if w.ack then [(w.since + 8000, Timed.ackLate)] else [])) ++
  (s.ldg.mirror.head?.map (fun m => (m.since + 8000, Timed.mirrorLate))).toList

/-- Everything under way with its clock. -/
def State.timedAll (s : State) : List (Nat × Timed) :=
  (s.pwm.ctrs.mapIdx (fun n c => s.counterDue n c)).flatten ++
  (s.pwm.trips.mapIdx (fun i t => (t.blankEnd.map (fun e => (e, Timed.blank i))).toList)).flatten ++
  (s.fltNext.map (fun p => (p.1, Timed.filter p.2))).toList ++
  (s.adc.settleEnd.mapIdx (fun g t => (t.map (fun e => (e, Timed.refSettled g))).toList)).flatten ++
  (s.calEnd.map (fun t => (t, Timed.spareCal))).toList ++
  (s.acq.slots.mapIdx (fun k x => s.slotDue k x)).flatten ++
  (if s.snap.pinOut then [(s.snap.latchClk + 400, .snapLow)] else []) ++
  (if s.snap.busy.isSome then [(s.snap.latchClk + 1600, .snapCopy)] else []) ++ s.safDue ++ s.hostDue ++
  (s.apllEnd.map (fun t => (t, Timed.apllLate))).toList ++ (s.lockEnd.map (fun t => (t, Timed.calLock))).toList ++
  (s.sourceEnd.map (fun t => (t, Timed.calHold))).toList ++ (s.holdEndClk.map (fun t => (t, Timed.calExpire))).toList

/-- What comes about first, of all that is due by clock `lim`. -/
def State.timedNext (s : State) (lim : Nat) : Option (Nat × Timed) :=
  s.timedAll.foldl (fun a x =>
    if lim < x.1 then a
    else match a with
      | some b => if x.1 < b.1 then some x else some b
      | none => some x) none

end Sys2Proof.Machine
end

