-- ==== Sys2Proof/Machine/Boundary.lean ====
section
/-! DEFINITION. The stitch scheduler (R47 to R53), the boundary sequence of R26, and the passing of time while nothing is
commanded. -/
namespace Sys2Proof.Machine

/-! ### Stitches -/

/-- Entry `n` is enabled: the fixed ones always, the others by EN and their group (R47, R49). -/
def State.entryOn (s : State) (n : Nat) : Bool :=
  decide (n < 9) || (s.flag (Reg.STn_CTL n) 0 && s.flag Reg.ANG_GROUP_EN (s.fld (Reg.STn_CTL n) 12 4))

/-- The ac of the present step at which entry `n` fires (R47, R48); none when it does not fire in this step. -/
def State.entryAc (s : State) (n : Nat) : Option Nat :=
  if !s.entryOn n then none
  else if n < 9 then some (128 * (n - 1))
  else
    let p := s.fld (Reg.STn_POS n) 0 20
    let here := decide (p / 1024 = s.step10)
    let form := s.fld (Reg.STn_CTL n) 1 2
    if form = 0 then some (p % 1024)
    else if form = 1 ∧ here then some (p % 1024)
    else if form = 2 ∧ here ∧ s.reg (Reg.STn_ROW n) = s.ang.row.truncate 32 then some (p % 1024)
    else none

/-- The action of entry `n` (R47, R50). -/
def State.entryAction (s : State) (n : Nat) : Nat :=
  if n = 0 then 7 else if n < 9 then 1 else s.fld (Reg.STn_CTL n) 4 3

/-- An edge on TRIG_OUT (R50): 0 rising, 1 falling, 2 toggle; none while the mode logic or the ride-through claims the
pin (R104, R127). -/
def State.doutAct (s : State) (edge : Nat) : State :=
  if s.trigClaim.isSome then s
  else s.setTrig (if edge = 0 then true else if edge = 1 then false else !s.ang.trigOut)

/-- The action of an entry issued at ac `p` of the present step (R50). A scan of a fixed entry is angle-locked (R279). -/
def State.stitchAct (s : State) (n p : Nat) : State :=
  let t := s.reg (Reg.STn_TGT n)
  match s.entryAction n with
  | 1 =>
    if n < 9 then s.scanTrigAngle (s.fld Reg.ADC_ANGLE 0 5) (some (s.stepNo * 1024 + p))
    else s.scanTrigAngle (bits t 0 5) none
  | 2 => s.pwmSync (bits t 0 24)
  | 3 => s.trgArm (bits t 0 8) ((s.stepNo * 1024 + p) * 2 ^ 12)
  | 4 => s.snapRaise 2
  | 5 => s.doutAct (bits t 0 2)
  | 6 => s.emit (.task (bits t 8 1) (bits t 0 6))
  | 7 => s.sendMarks
  | _ => s

/-- A ONCE entry that fires clears EN and sets DONE (R48). -/
def State.onceDone (s : State) (n : Nat) : State :=
  let a := Reg.STn_CTL n
  if 9 ≤ n ∧ s.fld a 1 2 = 2 then s.setReg a (putBit (putBit (s.reg a) 0 false) 8 true) else s

/-- Entry `n` fires at ac `p` of the present step (R49). -/
def State.stitchFire (s : State) (n p : Nat) : State := ((s.toAc p).onceDone n).stitchAct n p

/-- The numbers of the entries that are fixed or enabled, ascending. -/
def State.entryNums (s : State) : List Nat :=
  upto 9 ++ s.enabledEntries

/-- The order in which entries fire (R26, R49): by ac; at ac 0 the scans last; then by entry number. -/
def State.entryKey (s : State) (x : Nat × Nat) : List Nat :=
  [x.1, if x.1 = 0 ∧ s.entryAction x.2 = 1 then 1 else 0, x.2]

/-- The entries of the present step that have not fired, up to ac `lim`: position and number, in their order. -/
def State.entriesDue (s : State) (lim : Nat) : List (Nat × Nat) :=
  sortBy (fun a b => decide (s.entryKey a ≤ s.entryKey b))
    ((s.entryNums.filterMap (fun n => (s.entryAc n).map (fun p => (p, n)))).filter (fun x =>
      decide (x.1 ≤ lim) && decide (s.ang.fired ≤ s.stepNo * 1024 + x.1)))

/-- θ has reached ac `lim` of the present step: every entry up to it that has not fired does (R49). -/
def State.fireTo (s : State) (lim : Nat) : State :=
  let base := s.stepNo * 1024
  let s := (s.entriesDue lim).foldl (fun s x => s.stitchFire x.2 x.1) s
  { s with ang := { s.ang with fired := max s.ang.fired (base + lim + 1) } }

/-- STITCH_FIRE (R49): θ reaches the position of entry `n` in the present step; no effect where it has been passed. -/
def State.stitchReach (s : State) (n : Nat) : State :=
  if !s.running then s
  else
    match s.entryAc n with
    | some p => if s.stepNo * 1024 + p < s.ang.fired then s else s.fireTo p
    | none => s

/-- STITCH_FIRE (R49). -/
def execStitchFire (n : Fin 2048) (s : State) : Host.Outcome State Fault Refusal := s.live (s.stitchReach n.val)

/-! ### The step that ends -/

/-- The stitches up to the position that clock `k` after the boundary falls on. -/
def State.fireToClk (s : State) (k : Nat) : State := s.fireTo (s.toClk k).ac

/-- What R24 places at a fixed time or ac of the step, up to clock `clk` after the boundary and up to `ac`, as far as no
command has brought it about already, with the stitches before each. Once the dispatch deadline has been judged, a result
that is still missing is late and does not come by itself. -/
def State.pipelineTo (s : State) (clk ac : Nat) : State :=
  let s := if clk ≥ 480 && !s.gfe.delivered then (s.fireToClk 480).deliver else s
  let s := if ac ≥ 256 && !s.pipe.respTaken then (s.fireTo 255).respDeadline else s
  let g := if s.pair.shadowStep then 3040 else 2880
  let s := if clk ≥ g && !s.gfe.done && !s.pipe.judged then (s.fireToClk g).gfeComplete false else s
  let s := if clk ≥ 2880 && !s.pipe.armDone && !s.pipe.judged then s.releaseTo (min clk s.armClk) else s
  let s := if clk ≥ s.armClk && !s.pipe.armDone && !s.pipe.judged then (s.fireToClk s.armClk).armComplete else s
  let s := if clk ≥ s.armClk then s.shadowSettle else s
  let s := if ac ≥ 800 && !s.pipe.judged then (s.fireTo 799).deadline else s
  if ac ≥ 1000 then (s.fireTo 999).recMissAct else s

/-- The clock runs to `t` inside the present step; the fixed events and the stitches that lie before it come about. -/
def State.runTo (s : State) (t : Nat) : State :=
  let u := s.toSysClk t
  if s.running then ((s.pipelineTo (u.sys.clk - u.sys.bclk) u.ac).fireTo u.ac).toSysClk t else u

/-- What is under way comes about, up to clock `lim` of the present step, each at its own clock and after the fixed events and
stitches before it. -/
def State.elapse (s : State) (lim : Nat) : Nat → State
  | 0 => s
  | k + 1 =>
    match s.timedNext lim with
    | some (t, e) => (if t < s.sys.clk then s.actAt t (fun u => u.timed e) else (s.runTo t).timed e).elapse lim k
    | none => s

/-- How many things may come about in one step: more than the shortest periods of all counters allow. -/
def elapseMax : Nat := 65536

/-- A standby to which no record has come counts the mode logic's timers through the step (R351). -/
def State.standbyCount (s : State) : State :=
  if s.role = Role.standby ∧ s.pair.record.isNone ∧ s.gfe.done then s.rtObserve.modeObserve else s

/-- What the end of a step brings, in the step still: its fixed events and stitches, reads that waited for the engine (R408),
the chain's outputs, metering, the safety functions. -/
def State.endStep (s : State) : State :=
  let s := s.elapse (s.sys.clk + s.toBoundary - 1) elapseMax
  let s := (s.pipelineTo 16384 1023).fireTo 1023
  let s := s.pass (s.toBoundary - 1)
  let s := s.when (!s.gfe.done && !s.shadowing) (fun s => s.stepMissed)
  s.marginEnd.armEnd.fltEnd.mtrBoundary.safBoundary.standbyCount.takeReads

/-! ### The boundary -/

/-- The item of R26 in progress, for the order of events (R416). -/
def State.atItem (s : State) (k : Nat) : State := { s with sys := { s.sys with ev := { s.sys.ev with item := k } } }

/-- Item 1 (R36, R40, R56 to R59), and a step of module time due at this boundary (R465, R467). -/
def State.item1 (s : State) : State :=
  let seen := s.ang.markSeen
  let e := s.ang.eSeen
  let s := ((s.atItem 1).angBoundary.angDiscBoundary seen e).atItem 0
  let s := s.calBoundary
  { s with ang := { s.ang with boundTai := s.taiNs,
                               bounds := ((s.stepNo, s.taiNs, s.ang.rate.toNat) :: s.ang.bounds).take 1024 } }

/-- The mirrored state adopted, and the roles that change at this boundary (R90, R326, R342, R355, R360). -/
def State.rolesBoundary (s : State) : State :=
  let s := s.adoptBoundary.transferBoundary.handoverBoundary.isolatedReady
  if s.isActive && s.mtr.mirror then s.mtrTakeover else s

/-- The commands whose boundary has come, accepted by the pair or by this unit alone; they leave the lists. -/
def State.takeDue (s : State) : List Accepted × List Accepted × State :=
  let t := s.stepNo
  let core := s.cmd.core.acc.filter (fun a => decide (a.target ≤ t))
  let own := s.cmd.own.filter (fun a => decide (a.target ≤ t))
  let s := if core.isEmpty then s else s.updCmds (fun c => { c with acc := c.acc.filter (fun a => decide (t < a.target)) })
  (core, own, { s with cmd := { s.cmd with own := s.cmd.own.filter (fun a => decide (t < a.target)) } })

/-- A breaker position of BRK_REPORT: 0 open, 1 closed, 2 as it is. -/
def brkPos (k : Nat) : Option Bool := if k = 2 then none else some (decide (k = 1))

/-- The breaker reports of the boundary, in order (R93); one displaced by the owner has no effect (R404). -/
def State.brkDue (s : State) (l : List Accepted) : State :=
  l.foldl (fun s a => match a.op with
    | .brkReport c t => if a.fate = 0x102 then s else s.brkApply (brkPos c.toNat) (brkPos t.toNat)
    | _ => s) s

/-- The mode command of the boundary, the last that nothing has displaced: the mode of its validation and the mode it names. -/
def modeDue (l : List Accepted) : Option (Nat × Mode) :=
  (l.filterMap (fun a => match a.op with
    | .modeSet c => if a.fate = 0 then (modeOf c.toNat).map (fun m => (a.vmode, m)) else none
    | _ => none)).getLast?

/-- The commanded transition checked again at its boundary (R97, R369). -/
def State.cmdCandidate (s : State) (dest : Mode) : Option (Nat × Mode) :=
  match s.cmdRow dest with
  | some (row, cs) => if cs.all (·.1) && !s.spbBars dest then some (row, dest) else none
  | none => none

/-- The host's mode command at its boundary (R97): none where the mode has changed since its validation. -/
def State.hostCandidate (s : State) (want : Nat × Mode) : Option (Nat × Mode) :=
  if want.1 = s.mode.code then s.cmdCandidate want.2 else none

/-- The transition of the boundary (R95, R96): whether the host's mode command is the one that took effect. A reset
on a safety input leads to READY (R386). -/
def State.transition (s : State) (conv0 tie0 : Bool) (want : Option (Nat × Mode)) : Bool × State :=
  let host := want.bind s.hostCandidate
  let reset := if s.saf.resetReady && decide (s.mode = .safeStop) then s.cmdCandidate .ready else none
  let cmd := match host with | some x => some x | none => reset
  let s : State := { s with saf := { s.saf with resetReady := false } }
  match s.chooseRow conv0 tie0 cmd with
  | some (row, rank, dest) =>
    let t := s.enterMode row rank dest
    (decide (rank = 7) && host.isSome,
      if s.mode = .commission ∧ dest ≠ .commission then t.formSets.routesHome else t)
  | none => (false, s)

/-- A discarded mode command (R97): CMD_DROPPED and an entry. -/
def State.dropped (s : State) (want : Option (Nat × Mode)) (done : Bool) : State :=
  s.when (want.isSome && !done) (fun s => s.setFlagEach Reg.MODE_FLAGS 9)

/-- SAF_PROOF at its boundary (R392): the test starts, and its completion waits for the result. -/
def State.proofDue (s : State) (a : Accepted) (t : Nat) : State :=
  if s.mode ≠ Mode.maintain then s.complete a 0x103 []
  else if s.saf.proof.isSome then s.complete a 0x101 []
  else s.proofBegin t a

/-- A command takes effect at its boundary and completes (R399, R402, R404); `done` is whether the mode command took
effect. -/
def State.runDue (done : Bool) (s : State) (a : Accepted) : State :=
  if a.fate = 0x102 then s.complete a 0x102 []
  else
    match a.op with
    | .modeSet _ => s.complete a (if a.fate ≠ 0 then a.fate else if done then 0 else 0x103) []
    | .brkReport _ _ => s.complete a a.fate []
    | .safProof t => if a.fate ≠ 0 then s.complete a a.fate [] else s.proofDue a t.toNat
    | _ =>
      let r := s.bndOp a
      if a.fate ≠ 0 then r.2.2.complete a a.fate [] else r.2.2.complete a r.1 r.2.1

/-- A write set or a setpoint of the pair at a unit that is not ACTIVE: the pair-wide registers are written there too, at the
same boundary; the ACTIVE answers (R87, R405). -/
def State.mirrorDue (s : State) (a : Accepted) : State :=
  match a.op with
  | .regAccess es =>
    if a.fate = 0x102 then s
    else
      let l := es.filter (fun e => pairWide (entryAt e))
      let t := (s.applyAccess l a.serial).2
      if writesStore l then t.cfgWrite else t
  | .setP _ | .setQ _ | .setV _ | .setF _ | .setMulti _ _ _ _ _ =>
    if a.fate = 0x102 then s else (setpoints a.op).foldl (fun s p => s.setTarget p.1 p.2) s
  | _ => s

/-- Commands and mode transitions of the boundary (R26 item 2). -/
def State.commandsBoundary (s : State) : State :=
  let conv0 := s.mo.conv
  let tie0 := s.mo.tie
  let (core, own, s) := s.takeDue
  let mine := if s.isActive then core ++ own else own
  let want := modeDue mine
  let s := s.brkDue mine
  let s := if s.shadowing then s else s.modeEvents
  let r := s.transition conv0 tie0 want
  let s := r.2.dropped want r.1
  let s := if s.shadowing then s else s.ssrInBindOff
  let s := if s.isActive then s else core.foldl State.mirrorDue s
  mine.foldl (State.runDue r.1) s

/-- What holds for the step that begins under the mode and the registers now in force. -/
def State.stepBegin (s : State) : State :=
  let s := if s.shadowing then { s with pair := { s.pair with modeDue := true } } else s.modeTargets
  let s := s.mainPeriods.pwmRefresh
  s.rtBoundary.adcBoundary.fltGd.ldgBoundary.setsBoundary.unmappedCheck.remBoundary

/-- The marks of the step that has ended are cleared. -/
def State.stepMarks (s : State) : State :=
  { s with
    lnk := { s.lnk with
      disp := s.isActive && !s.pair.silence && (upto 20).any (fun n => decide ((s.lane n).qmask ≠ 0) &&
        ((s.lane n).whole || maskFull (s.lane n).qmask (s.mapN (s.prim n))))
      lanes := s.lnk.lanes.map (fun l => { l with alive := false, qmask := 0, qlate := 0, whole := false }) }
    pipe := { s.pipe with armDone := false, armIn := false, shJudged := false, respTaken := false, judged := false }
    gfe := { s.gfe with done := false, delivered := false }
    pair := { s.pair with proofSteps := s.pair.proofSteps.map (· + 1) } }

/-- The lamp ALARM clears when the four flag registers read 0 (R495). -/
def State.alarmClear (s : State) : State :=
  if [Reg.SEC_FLAGS, Reg.PWR_FLAGS, Reg.PAIR_FLAGS, Reg.SAF_FLAGS].all (fun a => decide (s.reg a = 0)) then
    { s with sys := { s.sys with ev := { s.sys.ev with alarm := false } } }
  else s

/-- The parts of a boundary beside the pipeline: qualification, handovers, the lifeline copy, retention, commands that
waited for memory, the event log, a reset that waited for a handover. -/
def State.besides (s : State) : State :=
  s.bulkResume.qualBoundary.handoverWanted.transferStart.lifelineCapture.sramServe.retvCheck.unpark.relayUpdate.alarmClear.evBoundary.flush.resetBoundary

/-- Echoes once per row (R197, R339). -/
def State.rowEchoes (s : State) : State :=
  if s.step10 = 0 then ((upto 20).foldl (fun s n => if s.linkUp n then s.echoSend n else s) s).pairEchoes else s

/-- Items 3 to 5 (R26): STEP_MARK, the other stitches at ac 0, the scans they start; IDLE and the echoes follow. -/
def State.items345 (s : State) : State := (((s.atItem 3).fireTo 0).atItem 0).idles.rowEchoes

/-- The words held are those of the steps that have ended, the last four of them (R141). -/
def State.armStale (s : State) : State :=
  let now := s.stamp
  { s with arm := { s.arm with
    built := false
    sms := s.arm.sms.map (fun p => (p.1, { p.2 with
      words := p.2.words.filter (fun w => decide ((now + 65536 - w.stamp) % 65536 ≤ 4)) })) } }

/-- The boundary of a step after item 1: item 2, then items 3 to 5 unless the unit has been reset. -/
def State.boundaryRest (s : State) : State :=
  let s := ((s.atItem 2).armStale.rolesBoundary.kzClock.commandsBoundary.stepBegin.stepMarks.atItem 0).besides
  if s.pwr.on then s.items345 else s

/-- STEP_BOUNDARY (R26): no effect while θ stands still. -/
def State.boundary (s : State) : State := if s.running then s.endStep.item1.boundaryRest else s

/-- STEP_BOUNDARY (R26). -/
def execStepBoundary (s : State) : Host.Outcome State Fault Refusal := s.live s.boundary

/-- INIT_COMPLETE (R37, R95): the angle starts, and with it step 0, whose boundary this is. -/
def execInitComplete (pass : Bool) (s : State) : Host.Outcome State Fault Refusal :=
  let t := s.initComplete pass
  s.live (if !s.running && t.running then t.stepBegin.items345 else t)

/-! ### Time while nothing is commanded -/

/-- One edge of the system clock (log entry 3): module time runs; θ runs once it has started, and what lies at the
position it reaches comes about. -/
def State.clockEdge (s : State) : State :=
  if !s.pwr.on then s
  else if !s.running then
    let s : State := { s with sys := { s.sys with clk := s.sys.clk + 1, tai := s.sys.tai + s.tick } }
    s.elapse s.sys.clk elapseMax
  else if s.toBoundary ≤ 1 then s.boundary
  else
    let s := s.pass 1
    let s := (s.pipelineTo (s.sys.clk - s.sys.bclk) s.ac).fireTo s.ac
    s.elapse s.sys.clk elapseMax

end Sys2Proof.Machine
end

