-- ==== Sys2Proof/Machine/Dispatch.lean ====
section
/-! DEFINITION. The dispatch: one arm per command, each one call of its meaning. -/
namespace Sys2Proof.Machine

def exec (i : Instr) (s : State) : Host.Outcome State Fault Refusal :=
  match i with
  | .stitchFire n => Sys2Proof.Machine.execStitchFire n s
  | .registerWrite es => Sys2Proof.Machine.execRegisterWrite es s
  | .gfeComplete fault => Sys2Proof.Machine.execGfeComplete fault s
  | .slotRelease lane j => Sys2Proof.Machine.execSlotRelease lane j s
  | .hwcTrip line n neg => Sys2Proof.Machine.execHwcTrip line n neg s
  | .hwcRelease line n => Sys2Proof.Machine.execHwcRelease line n s
  | .pairMarkRx path m arrivalPs => Sys2Proof.Machine.execPairMarkRx path m arrivalPs s
  | .responseWordRx lane slot step w => Sys2Proof.Machine.execResponseWordRx lane slot step w s
  | .smRetire n => Sys2Proof.Machine.execSmRetire n s
  | .sparePromote n => Sys2Proof.Machine.execSparePromote n s
  | .smCmdRx n w => Sys2Proof.Machine.execSmCmdRx n w s
  | .smLocalAc0 n x => Sys2Proof.Machine.execSmLocalAc0 n x s
  | .smPblLost n => Sys2Proof.Machine.execSmPblLost n s
  | .smRestrict n set neg ac => Sys2Proof.Machine.execSmRestrict n set neg ac s
  | .smOwnProtection n bypass => Sys2Proof.Machine.execSmOwnProtection n bypass s
  | .sfpInsert port id tech pins => Sys2Proof.Machine.execSfpInsert port id tech pins s
  | .sfpWithdraw port => Sys2Proof.Machine.execSfpWithdraw port s
  | .losAssert port => Sys2Proof.Machine.execLosAssert port s
  | .losClear port => Sys2Proof.Machine.execLosClear port s
  | .lol ev => Sys2Proof.Machine.execLol ev s
  | .blockLock ev => Sys2Proof.Machine.execBlockLock ev s
  | .rxPolarityInvert port => Sys2Proof.Machine.execRxPolarityInvert port s
  | .hiBer ev held => Sys2Proof.Machine.execHiBer ev held s
  | .trainingBlockRx port b => Sys2Proof.Machine.execTrainingBlockRx port b s
  | .requestTimeout port => Sys2Proof.Machine.execRequestTimeout port s
  | .adaptTimeout port => Sys2Proof.Machine.execAdaptTimeout port s
  | .attemptTimeout port => Sys2Proof.Machine.execAttemptTimeout port s
  | .failedExpire port => Sys2Proof.Machine.execFailedExpire port s
  | .fallbackPresetWindow port pass => Sys2Proof.Machine.execFallbackPresetWindow port pass s
  | .confirmDone port => Sys2Proof.Machine.execConfirmDone port s
  | .phyRetrain port => Sys2Proof.Machine.execPhyRetrain port s
  | .ctlBlockDiscard port => Sys2Proof.Machine.execCtlBlockDiscard port s
  | .orphanBlock lane => Sys2Proof.Machine.execOrphanBlock lane s
  | .idleRx conc n disp unitB epoch => Sys2Proof.Machine.execIdleRx conc n disp unitB epoch s
  | .cycUpRx lane first count step words => Sys2Proof.Machine.execCycUpRx lane first count step words s
  | .bulkBlockRx lane b crcOk => Sys2Proof.Machine.execBulkBlockRx lane b crcOk s
  | .bulkBlockSend assoc => Sys2Proof.Machine.execBulkBlockSend assoc s
  | .ackRx lane seq nak => Sys2Proof.Machine.execAckRx lane seq nak s
  | .ackSend assoc => Sys2Proof.Machine.execAckSend assoc s
  | .creditRx lane vc limit => Sys2Proof.Machine.execCreditRx lane vc limit s
  | .creditSend assoc vc => Sys2Proof.Machine.execCreditSend assoc vc s
  | .retryTimeout assoc => Sys2Proof.Machine.execRetryTimeout assoc s
  | .auditRx lane audits => Sys2Proof.Machine.execAuditRx lane audits s
  | .auditRepeat assoc => Sys2Proof.Machine.execAuditRepeat assoc s
  | .echoRspRx lane tag turn rttPs => Sys2Proof.Machine.execEchoRspRx lane tag turn rttPs s
  | .echoTimeout lane => Sys2Proof.Machine.execEchoTimeout lane s
  | .echoNow lane => Sys2Proof.Machine.execEchoNow lane s
  | .declareRx lane dDn dUp conc cport alt => Sys2Proof.Machine.execDeclareRx lane dDn dUp conc cport alt s
  | .witnessRx lane presA presB owner ownValid epoch win step => Sys2Proof.Machine.execWitnessRx lane presA presB owner ownValid epoch win step s
  | .routeWrite lane => Sys2Proof.Machine.execRouteWrite lane s
  | .concMarkRx c lane m tPs => Sys2Proof.Machine.execConcMarkRx c lane m tPs s
  | .concCycDnRx c unitB epoch step first words => Sys2Proof.Machine.execConcCycDnRx c unitB epoch step first words s
  | .concOosRunRx c unitB epoch step first words => Sys2Proof.Machine.execConcOosRunRx c unitB epoch step first words s
  | .concRestrictRx c unitB set neg arm first last rseq => Sys2Proof.Machine.execConcRestrictRx c unitB set neg arm first last rseq s
  | .concWitnessWindow c leftA leftB => Sys2Proof.Machine.execConcWitnessWindow c leftA leftB s
  | .concEchoReply c lane tag turn => Sys2Proof.Machine.execConcEchoReply c lane tag turn s
  | .concDeclare c lane dDn dUp cport alt => Sys2Proof.Machine.execConcDeclare c lane dDn dUp cport alt s
  | .concAuditRx c unitB lane => Sys2Proof.Machine.execConcAuditRx c unitB lane s
  | .concLoopLost c => Sys2Proof.Machine.execConcLoopLost c s
  | .sweepVisit lane => Sys2Proof.Machine.execSweepVisit lane s
  | .reportRx smn first tag items => Sys2Proof.Machine.execReportRx smn first tag items s
  | .reportTimeout smn first => Sys2Proof.Machine.execReportTimeout smn first s
  | .identRx smn b => Sys2Proof.Machine.execIdentRx smn b s
  | .identTimeout smn => Sys2Proof.Machine.execIdentTimeout smn s
  | .wearRelease smn => Sys2Proof.Machine.execWearRelease smn s
  | .ldgImageDone ok => Sys2Proof.Machine.execLdgImageDone ok s
  | .periodStart n => Sys2Proof.Machine.execPeriodStart n s
  | .cmpMatch n => Sys2Proof.Machine.execCmpMatch n s
  | .deadTimeExpire n outB => Sys2Proof.Machine.execDeadTimeExpire n outB s
  | .xcMatch n k => Sys2Proof.Machine.execXcMatch n k s
  | .pwmEnable n en => Sys2Proof.Machine.execPwmEnable n en s
  | .tripInput k active => Sys2Proof.Machine.execTripInput k active s
  | .blankClose k => Sys2Proof.Machine.execBlankClose k s
  | .tripClr mask => Sys2Proof.Machine.execTripClr mask s
  | .scanTrigger groups => Sys2Proof.Machine.execScanTrigger groups s
  | .trigInEdge level => Sys2Proof.Machine.execTrigInEdge level s
  | .adcSwtrig mask => Sys2Proof.Machine.execAdcSwtrig mask s
  | .conversionDone core code => Sys2Proof.Machine.execConversionDone core code s
  | .conversionTimeout core => Sys2Proof.Machine.execConversionTimeout core s
  | .urgentRequest g pos => Sys2Proof.Machine.execUrgentRequest g pos s
  | .adcPatchGo g => Sys2Proof.Machine.execAdcPatchGo g s
  | .clampOverdrive input active => Sys2Proof.Machine.execClampOverdrive input active s
  | .refSelect g src => Sys2Proof.Machine.execRefSelect g src s
  | .refSettled g => Sys2Proof.Machine.execRefSettled g s
  | .refFault g => Sys2Proof.Machine.execRefFault g s
  | .missingSample n => Sys2Proof.Machine.execMissingSample n s
  | .filterOutput n => Sys2Proof.Machine.execFilterOutput n s
  | .fltSyncSoft mask => Sys2Proof.Machine.execFltSyncSoft mask s
  | .fltSyncHard mask => Sys2Proof.Machine.execFltSyncHard mask s
  | .recordClose k => Sys2Proof.Machine.execRecordClose k s
  | .acqTrgArm mask => Sys2Proof.Machine.execAcqTrgArm mask s
  | .capDataRx smn tag n first data => Sys2Proof.Machine.execCapDataRx smn tag n first data s
  | .capEndRx smn tag status sent => Sys2Proof.Machine.execCapEndRx smn tag status sent s
  | .remoteTimeout k => Sys2Proof.Machine.execRemoteTimeout k s
  | .snapInEdge level => Sys2Proof.Machine.execSnapInEdge level s
  | .heartbeatRx path h => Sys2Proof.Machine.execHeartbeatRx path h s
  | .pathSilent path => Sys2Proof.Machine.execPathSilent path s
  | .sampleRx unitB row step inputs => Sys2Proof.Machine.execSampleRx unitB row step inputs s
  | .reachRx unitB meterM reach linked => Sys2Proof.Machine.execReachRx unitB meterM reach linked s
  | .stepRecordRx r digest => Sys2Proof.Machine.execStepRecordRx r digest s
  | .handoverRx unitB reason row step => Sys2Proof.Machine.execHandoverRx unitB reason row step s
  | .stateTransferDone x => Sys2Proof.Machine.execStateTransferDone x s
  | .pairHandover q => Sys2Proof.Machine.execPairHandover q s
  | .pairProof q => Sys2Proof.Machine.execPairProof q s
  | .pairIsolate q => Sys2Proof.Machine.execPairIsolate q s
  | .pairRejoin q => Sys2Proof.Machine.execPairRejoin q s
  | .safStartTest pass sw1 => Sys2Proof.Machine.execSafStartTest pass sw1 s
  | .shLost why => Sys2Proof.Machine.execShLost why s
  | .sinChange k chB level => Sys2Proof.Machine.execSinChange k chB level s
  | .sinFault k => Sys2Proof.Machine.execSinFault k s
  | .slfViolation sh => Sys2Proof.Machine.execSlfViolation sh s
  | .slaViolation sh => Sys2Proof.Machine.execSlaViolation sh s
  | .sdpViolation sh => Sys2Proof.Machine.execSdpViolation sh s
  | .sw1Read sw1 => Sys2Proof.Machine.execSw1Read sw1 s
  | .packetRx port d => Sys2Proof.Machine.execPacketRx port d s
  | .reorderTimeout session => Sys2Proof.Machine.execReorderTimeout session s
  | .sessionTimeout session => Sys2Proof.Machine.execSessionTimeout session s
  | .ping q => Sys2Proof.Machine.execPing q s
  | .ident q => Sys2Proof.Machine.execIdent q s
  | .ownClaim q cls => Sys2Proof.Machine.execOwnClaim q cls s
  | .ownRelease q cls => Sys2Proof.Machine.execOwnRelease q cls s
  | .evlogRead q first n => Sys2Proof.Machine.execEvlogRead q first n s
  | .mgmtSend q conc id code body => Sys2Proof.Machine.execMgmtSend q conc id code body s
  | .mgmtAnswerRx tag code body => Sys2Proof.Machine.execMgmtAnswerRx tag code body s
  | .mgmtTimeout tag => Sys2Proof.Machine.execMgmtTimeout tag s
  | .mgmtEventRx smn code body => Sys2Proof.Machine.execMgmtEventRx smn code body s
  | .reset q => Sys2Proof.Machine.execReset q s
  | .modeSet q code => Sys2Proof.Machine.execModeSet q code s
  | .brkReport q conv tie => Sys2Proof.Machine.execBrkReport q conv tie s
  | .setP q v => Sys2Proof.Machine.execSetP q v s
  | .setQ q v => Sys2Proof.Machine.execSetQ q v s
  | .setV q v => Sys2Proof.Machine.execSetV q v s
  | .setF q v => Sys2Proof.Machine.execSetF q v s
  | .setMulti q mask p qq v f => Sys2Proof.Machine.execSetMulti q mask p qq v f s
  | .regAccess q es => Sys2Proof.Machine.execRegAccess q es s
  | .regReadRange q first n => Sys2Proof.Machine.execRegReadRange q first n s
  | .ldgRead q addr n => Sys2Proof.Machine.execLdgRead q addr n s
  | .ldgArchRead q first n => Sys2Proof.Machine.execLdgArchRead q first n s
  | .ldgRetire q smn => Sys2Proof.Machine.execLdgRetire q smn s
  | .ldgReplace q smn => Sys2Proof.Machine.execLdgReplace q smn s
  | .ldgKeySet q key => Sys2Proof.Machine.execLdgKeySet q key s
  | .acqHead q => Sys2Proof.Machine.execAcqHead q s
  | .acqRead q num off n => Sys2Proof.Machine.execAcqRead q num off n s
  | .acqFree q num => Sys2Proof.Machine.execAcqFree q num s
  | .acqStream q slot first n => Sys2Proof.Machine.execAcqStream q slot first n s
  | .mtrReadout q => Sys2Proof.Machine.execMtrReadout q s
  | .mtrProfile q first n => Sys2Proof.Machine.execMtrProfile q first n s
  | .mtrAuditRead q first n => Sys2Proof.Machine.execMtrAuditRead q first n s
  | .mtrSeal q => Sys2Proof.Machine.execMtrSeal q s
  | .mtrFwhash q => Sys2Proof.Machine.execMtrFwhash q s
  | .spsWrite q off vals => Sys2Proof.Machine.execSpsWrite q off vals s
  | .spsConfirm q chk => Sys2Proof.Machine.execSpsConfirm q chk s
  | .safReset q => Sys2Proof.Machine.execSafReset q s
  | .safSpb q => Sys2Proof.Machine.execSafSpb q s
  | .safProof q test => Sys2Proof.Machine.execSafProof q test s
  | .safProofOut q out seen => Sys2Proof.Machine.execSafProofOut q out seen s
  | .fwBegin q len ver => Sys2Proof.Machine.execFwBegin q len ver s
  | .fwData q off data => Sys2Proof.Machine.execFwData q off data s
  | .fwEnd q => Sys2Proof.Machine.execFwEnd q s
  | .fwActivate q img => Sys2Proof.Machine.execFwActivate q img s
  | .hello port p => Sys2Proof.Machine.execHello port p s
  | .finish port session sig => Sys2Proof.Machine.execFinish port session sig s
  | .close q => Sys2Proof.Machine.execClose q s
  | .trustSet q anchor => Sys2Proof.Machine.execTrustSet q anchor s
  | .keyGen q kind => Sys2Proof.Machine.execKeyGen q kind s
  | .certSet q cert => Sys2Proof.Machine.execCertSet q cert s
  | .debugUnlock q token => Sys2Proof.Machine.execDebugUnlock q token s
  | .sramEccError addr corrected user => Sys2Proof.Machine.execSramEccError addr corrected user s
  | .scrubStep err => Sys2Proof.Machine.execScrubStep err s
  | .mtSliceReturn fails => Sys2Proof.Machine.execMtSliceReturn fails s
  | .dramPatrol addr err => Sys2Proof.Machine.execDramPatrol addr err s
  | .emmcLifeCheck a b eol => Sys2Proof.Machine.execEmmcLifeCheck a b eol s
  | .bkMeasure ppm => Sys2Proof.Machine.execBkMeasure ppm s
  | .bandRej n => Sys2Proof.Machine.execBandRej n s
  | .qpllLoss q => Sys2Proof.Machine.execQpllLoss q s
  | .qpllRelock q ok => Sys2Proof.Machine.execQpllRelock q ok s
  | .inputLost b mv => Sys2Proof.Machine.execInputLost b mv s
  | .powerWarn mvA mvB => Sys2Proof.Machine.execPowerWarn mvA mvB s
  | .powerWarnClear mvA mvB => Sys2Proof.Machine.execPowerWarnClear mvA mvB s
  | .lifelineDone ok => Sys2Proof.Machine.execLifelineDone ok s
  | .railFault rail => Sys2Proof.Machine.execRailFault rail s
  | .initComplete pass => Sys2Proof.Machine.execInitComplete pass s
  | .batMeasure mv => Sys2Proof.Machine.execBatMeasure mv s
  | .ptpMessageRx m => Sys2Proof.Machine.execPtpMessageRx m s
  | .smBulkRequestRx n r => Sys2Proof.Machine.execSmBulkRequestRx n r s
  | .concLatRx c lane d tag => Sys2Proof.Machine.execConcLatRx c lane d tag s
  | .pairEchoReqRx path tag turn => Sys2Proof.Machine.execPairEchoReqRx path tag turn s
  | .proofTestDecided pass => Sys2Proof.Machine.execProofTestDecided pass s
  | .concLoopRestored c => Sys2Proof.Machine.execConcLoopRestored c s
  | .inputRestored b mv => Sys2Proof.Machine.execInputRestored b mv s
  | .stepBoundary => Sys2Proof.Machine.execStepBoundary s
  | .controlSampleDelivery => Sys2Proof.Machine.execControlSampleDelivery s
  | .responseDeadline => Sys2Proof.Machine.execResponseDeadline s
  | .armComplete => Sys2Proof.Machine.execArmComplete s
  | .dispatchDeadline => Sys2Proof.Machine.execDispatchDeadline s
  | .pipeMarginRst => Sys2Proof.Machine.execPipeMarginRst s
  | .angThetaRead => Sys2Proof.Machine.execAngThetaRead s
  | .angleLocked => Sys2Proof.Machine.execAngleLocked s
  | .lockLost => Sys2Proof.Machine.execLockLost s
  | .angleHold => Sys2Proof.Machine.execAngleHold s
  | .busQualified => Sys2Proof.Machine.execBusQualified s
  | .brkDisagree => Sys2Proof.Machine.execBrkDisagree s
  | .castonComplete => Sys2Proof.Machine.execCastonComplete s
  | .castonFail => Sys2Proof.Machine.execCastonFail s
  | .syncOk => Sys2Proof.Machine.execSyncOk s
  | .syncTimeout => Sys2Proof.Machine.execSyncTimeout s
  | .bindOffComplete => Sys2Proof.Machine.execBindOffComplete s
  | .boTimeout => Sys2Proof.Machine.execBoTimeout s
  | .rideThroughEntry => Sys2Proof.Machine.execRideThroughEntry s
  | .rideThroughExit => Sys2Proof.Machine.execRideThroughExit s
  | .excursionEnd => Sys2Proof.Machine.execExcursionEnd s
  | .holdExpired => Sys2Proof.Machine.execHoldExpired s
  | .rejoin => Sys2Proof.Machine.execRejoin s
  | .kzTermEnd => Sys2Proof.Machine.execKzTermEnd s
  | .prechOk => Sys2Proof.Machine.execPrechOk s
  | .ldgDecisionApply => Sys2Proof.Machine.execLdgDecisionApply s
  | .ldgMirrorTimeout => Sys2Proof.Machine.execLdgMirrorTimeout s
  | .ldgImageStart => Sys2Proof.Machine.execLdgImageStart s
  | .pwmLoadAll => Sys2Proof.Machine.execPwmLoadAll s
  | .sparePatch => Sys2Proof.Machine.execSparePatch s
  | .spareCalDone => Sys2Proof.Machine.execSpareCalDone s
  | .adcPatchRelease => Sys2Proof.Machine.execAdcPatchRelease s
  | .acqMfifoPop => Sys2Proof.Machine.execAcqMfifoPop s
  | .snapCmd => Sys2Proof.Machine.execSnapCmd s
  | .snapCopyDone => Sys2Proof.Machine.execSnapCopyDone s
  | .heartbeatSend => Sys2Proof.Machine.execHeartbeatSend s
  | .witnessDecision => Sys2Proof.Machine.execWitnessDecision s
  | .reachSend => Sys2Proof.Machine.execReachSend s
  | .recMiss => Sys2Proof.Machine.execRecMiss s
  | .measDiv => Sys2Proof.Machine.execMeasDiv s
  | .ackLate => Sys2Proof.Machine.execAckLate s
  | .revert => Sys2Proof.Machine.execRevert s
  | .loneStart => Sys2Proof.Machine.execLoneStart s
  | .proofResult => Sys2Proof.Machine.execProofResult s
  | .shQualify => Sys2Proof.Machine.execShQualify s
  | .chDisc => Sys2Proof.Machine.execChDisc s
  | .ssrTimeout => Sys2Proof.Machine.execSsrTimeout s
  | .pblReversal => Sys2Proof.Machine.execPblReversal s
  | .pblOpen => Sys2Proof.Machine.execPblOpen s
  | .pblStuck => Sys2Proof.Machine.execPblStuck s
  | .soutTestPulse => Sys2Proof.Machine.execSoutTestPulse s
  | .proofTimeout => Sys2Proof.Machine.execProofTimeout s
  | .remapDone => Sys2Proof.Machine.execRemapDone s
  | .mtSliceBorrow => Sys2Proof.Machine.execMtSliceBorrow s
  | .clkGo => Sys2Proof.Machine.execClkGo s
  | .dividerTransfer => Sys2Proof.Machine.execDividerTransfer s
  | .spllLoss => Sys2Proof.Machine.execSpllLoss s
  | .refLost => Sys2Proof.Machine.execRefLost s
  | .apllLoss => Sys2Proof.Machine.execApllLoss s
  | .apllRelockTimeout => Sys2Proof.Machine.execApllRelockTimeout s
  | .dpllLoss => Sys2Proof.Machine.execDpllLoss s
  | .bpllLoss => Sys2Proof.Machine.execBpllLoss s
  | .supplyReset => Sys2Proof.Machine.execSupplyReset s
  | .unitStart => Sys2Proof.Machine.execUnitStart s
  | .resetInPress => Sys2Proof.Machine.execResetInPress s
  | .resetInHandoverTimeout => Sys2Proof.Machine.execResetInHandoverTimeout s
  | .rstStuck => Sys2Proof.Machine.execRstStuck s
  | .rstStuckClear => Sys2Proof.Machine.execRstStuckClear s
  | .watchdogReset => Sys2Proof.Machine.execWatchdogReset s
  | .timeRecord => Sys2Proof.Machine.execTimeRecord s
  | .calTimeRead => Sys2Proof.Machine.execCalTimeRead s
  | .ppsInEdge => Sys2Proof.Machine.execPpsInEdge s
  | .calLocked => Sys2Proof.Machine.execCalLocked s
  | .calHoldover => Sys2Proof.Machine.execCalHoldover s
  | .calSet => Sys2Proof.Machine.execCalSet s
  | .ppsOutPulse => Sys2Proof.Machine.execPpsOutPulse s
  | .tamperOpen => Sys2Proof.Machine.execTamperOpen s
  | .tamperClr => Sys2Proof.Machine.execTamperClr s
  | .proofSilenceEnd => Sys2Proof.Machine.execProofSilenceEnd s
  | .apllRelock => Sys2Proof.Machine.execApllRelock s
  | .calHoldoverExpire => Sys2Proof.Machine.execCalHoldoverExpire s

end Sys2Proof.Machine
end

