-- ==== Sys2Proof/Safety.lean ====
section
/-! DEFINITION. What holds of a sound state, for the statements: the rate within its bounds, the register file in canonical
form, the event log without gaps; and what no command may change. -/
namespace Sys2Proof.Machine

/-- The rate code lies in 40 to 70 Hz (R40). -/
def rateOk (r : Word) : Bool := decide (rateMin ≤ r.toNat) && decide (r.toNat ≤ rateMax)

/-- The event log (R416, R417, R421): the staging ring holds at most 1,024 entries and the log at most 262,144; the log
holds the entries `oldest` to `next` - 1, each under its own index. -/
def Evlog.ok (ev : Evlog) : Bool :=
  decide (ev.staged.length ≤ 1024) && decide (ev.indexed.length ≤ 262144) &&
  decide (ev.oldest + ev.indexed.length = ev.next) &&
  decide (ev.indexed.map (·.index) = List.range' ev.oldest ev.indexed.length)

/-- How many of each part the unit and its far end have: ports, lanes, associations, counters, trip inputs, converter
cores, filter channels, trigger units, acquisition slots, snapshot buffers, concentrators, SRAM banks, locks, safety
inputs, pair paths and sweeps. -/
def State.shape (s : State) : List Nat :=
  [s.lnk.ports.length, s.lnk.lanes.length, s.lnk.assocs.length, s.pwm.ctrs.length, s.pwm.trips.length, s.adc.cores.length,
   s.flt.length, s.acq.units.length, s.acq.slots.length, s.snap.bufs.length, s.far.concs.length, s.mem.banks.length,
   s.clk.lock.length, s.saf.sins.length, s.pair.paths.length, s.ldg.sweeps.length]

/-- The numbers of parts the specification gives (chapters 7 to 13, 15, 16 and 19). -/
def unitShape : List Nat := [22, 20, 21, 24, 8, 5, 32, 8, 16, 4, 20, 68, 10, 8, 2, 20]

/-- The parts of `State.sound`, of what they are about alone. -/
def soundOf (r : Word) (m : List (Nat × Word)) (ev : Evlog) (l : List Nat) : Bool :=
  rateOk r && mwf regReset m && ev.ok && decide (l = unitShape)

/-- A sound state: the rate within its bounds, the register file in canonical form, the event log without gaps, and every
part of the unit present. -/
def State.sound (s : State) : Bool := soundOf s.ang.rate s.sys.regs s.sys.ev s.shape

/-- What every command keeps, of a sound state: that it is sound, the queue of waiting commands, and the unit's order code,
serial number and hardware revision. -/
def State.steady (s : State) : Bool × List Instr × Word × BitVec 64 × Word :=
  (s.sound, s.pending, s.sys.order, s.sys.serial, s.sys.hwrev)

/-- Every waiting command is well-formed. -/
def State.queueOk (s : State) : Bool := s.pending.all Instr.wf

/-- A safe run: at every state the machine is sound and every waiting command well-formed. -/
def State.safe (s : State) : Bool := s.sound && s.queueOk

/-- Of what stands outside the blocks (clock, module time, identity, store, outputs) only the register file and the event
log differ, and of the registers only those of the list. -/
def State.sysOnly (s t : State) (l : List Nat) : Prop :=
  t.sys = { s.sys with regs := t.sys.regs, ev := t.sys.ev } ∧ ∀ a, a ∉ l → t.reg a = s.reg a

/-- The transitions of R95 that a unit's own mode logic makes once INIT is left, with the ranks R96 gives them: row, ranks,
modes it leads from, modes it leads to. `home` is the mode that MODE_STAT.ORIGIN shows. -/
def modeTable (home : Mode) : List (Nat × List Nat × List Mode × List Mode) :=
  [(4, [7], [.commission], [.ready]), (5, [7], [.ready], [.commission]), (6, [7], [.ready], [.castOn]),
   (7, [7], [.ready], [.sync]), (8, [6], [.castOn], [.island, .connected]), (9, [3, 6, 7], [.castOn], [.ready]),
   (10, [5], [.sync], [.connected, .island]), (11, [3, 5, 6, 7], [.sync], [.ready]), (12, [5], [.connected], [.island]),
   (13, [5], [.island], [.connected]), (14, [4], [.connected, .island], [.rideThrough]), (15, [4], [.rideThrough], [home]),
   (16, [3], [.connected, .island, .rideThrough], [.coast]), (17, [4], [.coast], [home, .rideThrough]),
   (18, [3], [.coast], [.bindOff]), (19, [1], [.coast], [.safeStop]),
   (20, [5], [.connected, .island, .rideThrough], [.sync, .ready]), (21, [7], [.connected, .island], [.bindOff]),
   (22, [2], [.castOn, .sync, .connected, .island, .rideThrough, .coast], [.bindOff]), (23, [6], [.bindOff], [.ready]),
   (24, [1], [.bindOff], [.safeStop]),
   (25, [1], [.commission, .ready, .castOn, .sync, .connected, .island, .rideThrough, .coast, .bindOff, .maintain], [.safeStop]),
   (26, [7], [.safeStop], [.ready]), (27, [7], [.safeStop], [.commission]), (28, [7], [.ready], [.maintain]),
   (29, [7], [.maintain], [.ready])]

/-- The unit runs: powered, released from reset, clocked, and sound. -/
def State.up (s : State) : Prop := s.pwr.on = true ∧ s.sound = true

end Sys2Proof.Machine

namespace Sys2Proof

/-- The commands that act on a unit without power or outside it: a supply input, the cover, the start, a reset cause, and
what concentrators and submodules do by themselves. -/
def Instr.actsUnpowered : Instr → Bool
  | .unitStart | .inputLost _ _ | .inputRestored _ _ | .tamperOpen | .supplyReset | .railFault _ | .watchdogReset
  | .resetInPress | .concMarkRx _ _ _ _ | .concCycDnRx _ _ _ _ _ _ | .concOosRunRx _ _ _ _ _ _ | .concRestrictRx _ _ _ _ _ _ _ _
  | .concWitnessWindow _ _ _ | .concEchoReply _ _ _ _ | .concDeclare _ _ _ _ _ _ | .concAuditRx _ _ _ | .concLatRx _ _ _ _
  | .concLoopLost _ | .concLoopRestored _ | .smCmdRx _ _ | .smLocalAc0 _ _ | .smPblLost _ | .smRestrict _ _ _ _
  | .smOwnProtection _ _ | .smBulkRequestRx _ _ => true
  | .idleRx conc _ _ _ _ => conc
  | _ => false

/-! ### Host commands -/

/-- The host command, with its request, that a row of R409 brings. -/
def Instr.hostCmd : Instr → Option (Req × HostOp)
  | .ping q => some (q, .ping)
  | .ident q => some (q, .ident)
  | .ownClaim q c => some (q, .ownClaim c)
  | .ownRelease q c => some (q, .ownRelease c)
  | .evlogRead q f n => some (q, .evlogRead f n)
  | .mgmtSend q c i k b => some (q, .mgmtSend c i k b)
  | .reset q => some (q, .reset)
  | .modeSet q c => some (q, .modeSet c)
  | .brkReport q c t => some (q, .brkReport c t)
  | .setP q v => some (q, .setP v)
  | .setQ q v => some (q, .setQ v)
  | .setV q v => some (q, .setV v)
  | .setF q v => some (q, .setF v)
  | .setMulti q m a b v f => some (q, .setMulti m a b v f)
  | .regAccess q es => some (q, .regAccess es)
  | .regReadRange q f n => some (q, .regReadRange f n)
  | .ldgRead q a n => some (q, .ldgRead a n)
  | .ldgArchRead q f n => some (q, .ldgArchRead f n)
  | .ldgRetire q n => some (q, .ldgRetire n)
  | .ldgReplace q n => some (q, .ldgReplace n)
  | .ldgKeySet q k => some (q, .ldgKeySet k)
  | .acqHead q => some (q, .acqHead)
  | .acqRead q m o n => some (q, .acqRead m o n)
  | .acqFree q m => some (q, .acqFree m)
  | .acqStream q k f n => some (q, .acqStream k f n)
  | .mtrReadout q => some (q, .mtrReadout)
  | .mtrProfile q f n => some (q, .mtrProfile f n)
  | .mtrAuditRead q f n => some (q, .mtrAuditRead f n)
  | .mtrSeal q => some (q, .mtrSeal)
  | .mtrFwhash q => some (q, .mtrFwhash)
  | .pairHandover (some q) => some (q, .pairAction 0)
  | .pairProof (some q) => some (q, .pairAction 1)
  | .pairIsolate (some q) => some (q, .pairAction 2)
  | .pairRejoin (some q) => some (q, .pairAction 3)
  | .spsWrite q o l => some (q, .spsWrite o l)
  | .spsConfirm q c => some (q, .spsConfirm c)
  | .safReset q => some (q, .safReset)
  | .safSpb q => some (q, .safSpb)
  | .safProof q t => some (q, .safProof t)
  | .safProofOut q o n => some (q, .safProofOut o n)
  | .fwBegin q l v => some (q, .fwBegin l v)
  | .fwData q o d => some (q, .fwData o d)
  | .fwEnd q => some (q, .fwEnd)
  | .fwActivate q i => some (q, .fwActivate i)
  | .close q => some (q, .close)
  | .trustSet q a => some (q, .trustSet a)
  | .keyGen q k => some (q, .keyGen k)
  | .certSet q c => some (q, .certSet c)
  | .debugUnlock q k => some (q, .debugUnlock k)
  | _ => none

end Sys2Proof

namespace Sys2Proof.Machine

/-- The session of a request has taken its command: port, time and sequence number (R395, R398). -/
def State.took (s : State) (q : Req) : State :=
  (s.updSess q.session.val (fun y => { y with port := q.port, lastClk := s.sys.clk })).updSess q.session.val
    (fun y => { y with last := q.seq, held := y.held.filter (fun h => h.1 != q.seq) })

/-- A unit that takes the command of a request at once (R394, R397, R398, R435, R472): it runs and is awake, the port is open,
`x` is the open session the request names, the sequence number is its next one and not the last of all, no command and no
reply of it waits, and no qualified standby has to acknowledge first. -/
def State.admits (s : State) (q : Req) (op : HostOp) (x : Sess) : Prop :=
  s.up ∧ s.pwr.booted = true ∧ s.portOpen q.port = true ∧ s.asleep = false ∧ s.sess q.session.val = some x ∧ x.fin = true ∧
  s.served x q op = true ∧ x.held = [] ∧ q.seq.toNat = x.last.toNat + 1 ∧ q.seq ≠ 0xFFFF_FFFF ∧ s.cmd.waits = [] ∧
  s.mirrored = false

/-- A reply that nothing holds back leaves at once (R343, R399), in the ACTIVE unit of a pair after its journal entry has gone on
VC2; `run` is what the command does once its reply has left. -/
def State.answers (s : State) (q : Req) (run : Option HostOp) (r : Reply) : State :=
  (s.pushWait { q := q, reply := r, run := run, read := none, ack := false, tag := none, since := s.sys.clk }).noWaits.deliver1 r

/-- The session after it has taken the command. -/
def Sess.took (x : Sess) (q : Req) (clk : Nat) : Sess := { x with port := q.port, lastClk := clk, last := q.seq, held := [] }

end Sys2Proof.Machine
end

