-- ==== Sys2Proof/Certificates/Slice0/Obligations.lean ====
section
/-! DEFINITION. The statements for the provers. A block of the state that a statement does not name is unchanged: `t = { s with
x := t.x }` says that nothing but the block `x` differs, and `State.sysOnly` says the same of the registers and the event log. -/
open Sys2Proof Sys2Proof.Machine

/-- The queue: with a command at its front, a step is that command's effect on the state with the rest of the queue. -/
def Obligations.QueueStepRunsFront : Prop :=
  ∀ (c : Instr) (q : List Instr) (s : State), step { s with pending := c :: q } = exec c { s with pending := q }

/-- With nothing waiting, a step is one edge of the system clock (log entry 3, the model's choice): without power nothing
happens; before the angle base runs, one clock and one tick of module time pass; a boundary that is one clock away comes. What
is due on the clock reached comes about (log entry 59). -/
def Obligations.IdleStepIsClockEdge : Prop :=
  ∀ s : State, s.pending = [] →
    (s.pwr.on = false → step s = .next s) ∧
    (s.pwr.on = true → s.running = false → ∃ u : State,
      u = { s with sys := { s.sys with clk := s.sys.clk + 1, tai := s.sys.tai + s.tick } } ∧
      step s = .next (u.elapse (s.sys.clk + 1) elapseMax)) ∧
    (s.pwr.on = true → s.running = true → s.toBoundary ≤ 1 → step s = .next s.boundary) ∧
    (s.pwr.on = true → s.running = true → 1 < s.toBoundary → ∃ u : State,
      u = ((s.pass 1).pipelineTo ((s.pass 1).sys.clk - (s.pass 1).sys.bclk) (s.pass 1).ac).fireTo (s.pass 1).ac ∧
      step s = .next (u.elapse u.sys.clk elapseMax))

/-- The state after reset: INIT, the angle base stopped, nothing waiting, every register at its Reset value (R14, R37, R86).
The state after reset is safe. -/
def Obligations.ResetState : Prop :=
 (State.reset.mode = .init ∧ State.reset.ang.st = .stopped ∧ State.reset.pending = [] ∧
  (∀ a, State.reset.reg a = regReset a) ∧ State.reset.sys.ev.staged = [] ∧ State.reset.sys.ev.indexed = [] ∧
  State.reset.cmd.core.sess = []) ∧
 (State.reset.safe = true)

/-- The headline invariant. Every step of a safe state gives a safe state: the rate stays within 40 to 70 Hz, the register
file stays in canonical form, the event log stays without gaps and within its lengths, no part of the unit is lost, every
waiting command stays well-formed; a step takes at most the front command from the queue, and never changes the unit's order
code, serial number or hardware revision. -/
def Obligations.StepKeepsSafe : Prop :=
  ∀ s t : State, s.safe = true → step s = .next t →
    t.safe = true ∧ t.pending = s.pending.tail ∧ t.sys.order = s.sys.order ∧ t.sys.serial = s.sys.serial ∧
    t.sys.hwrev = s.sys.hwrev

/-- No command ever stops the machine, and none changes the queue of a sound state. -/
def Obligations.EveryCommandAnswers : Prop :=
  ∀ (c : Instr) (s : State), s.sound = true → ∃ t, exec c s = .next t ∧ t.sound = true ∧ t.pending = s.pending

/-- A unit held in reset or without a clock does nothing on any other command (R457). -/
def Obligations.NoEffectWithoutPower : Prop :=
  ∀ (c : Instr) (s : State), s.pwr.on = false → c.actsUnpowered = false → exec c s = .next s

/-- The register file: a write is read back, every other register keeps its value, and the canonical form is kept. The store
of submodules: a change of one is what is read back, the others stay, and the canonical form is kept. -/
def Obligations.Stores : Prop :=
 (∀ (s : State) (a b : Nat) (v : Word), s.sound = true →
    (s.setReg a v).reg a = v ∧ (b ≠ a → (s.setReg a v).reg b = s.reg b) ∧ mwf regReset (s.setReg a v).sys.regs = true) ∧
 (∀ (s : State) (n : Nat) (f : Sm → Sm), mwf (fun _ => Sm.fresh) s.arm.sms = true →
    (s.updSm n f).sm n = f (s.sm n) ∧ (∀ m, m ≠ n → (s.updSm n f).sm m = s.sm m) ∧
    mwf (fun _ => Sm.fresh) (s.updSm n f).arm.sms = true)

/-- A sticky flag (R419): it reads 1 once set; while it is already 1 nothing changes; going from 0 to 1 writes one entry with
the flag's code, address and qualifier while the staging ring has room. A full staging ring (R421): the entry is dropped and
counted, EVLOG_FLAGS.LOST is set, and nothing staged is lost. -/
def Obligations.EventLog : Prop :=
 (∀ (s : State) (a b q : Nat), s.sound = true → a ≠ Reg.EVLOG_FLAGS → b < 32 →
    (s.setFlag a b q).flag a b = true ∧
    (s.flag a b = true → s.setFlag a b q = s) ∧
    (s.flag a b = false → s.sys.ev.lostPend = none → s.sys.ev.staged.length < 1024 →
      ∃ e : EvEntry, (s.setFlag a b q).sys.ev.staged = s.sys.ev.staged ++ [e] ∧ e.code = b ∧ e.source = a / 0x10000 ∧
        e.data = a + (q % 2 ^ 32) * 2 ^ 32 ∧ e.cls = flagClass a b) ∧
    (∀ x, x ≠ a → x ≠ Reg.EVLOG_FLAGS → (s.setFlag a b q).reg x = s.reg x)) ∧
 (∀ (s : State) (cls source code data : Nat), s.sound = true → s.sys.ev.staged.length = 1024 →
    (s.logEv cls source code data).sys.ev.staged = s.sys.ev.staged ∧
    (s.logEv cls source code data).sys.ev.lost = satInc s.sys.ev.lost ∧
    (s.logEv cls source code data).flag Reg.EVLOG_FLAGS 0 = true)

/-! ### The control step (chapters 01 and 02) -/

/-- STEP_BOUNDARY (R26): what the step that ends still brings, then item 1; item 2, roles before commands and modes; then
items 3 to 5, the marks and the other stitches of ac 0, unless the unit has been reset meanwhile; IDLE and the echoes follow. -/
def Obligations.BoundaryOrder : Prop :=
  ∀ s : State, s.pwr.on = true → s.running = true →
    let m := ((s.endStep.item1.atItem 2).armStale.rolesBoundary.kzClock.commandsBoundary.stepBegin.stepMarks.atItem 0).besides
    exec .stepBoundary s = .next (if m.pwr.on then (((m.atItem 3).fireTo 0).atItem 0).idles.rowEchoes else m)

/-- Item 1 of a boundary (R12, R36, R45): θ stands less than one increment past the first position of the next step, ROW
counts when the step was the row's last, and the module time latched is that of the boundary. -/
def Obligations.BoundaryAdvances : Prop :=
  ∀ s : State, s.sound = true → s.running = true → s.ang.backup = false →
    s.ang.trim.natAbs ≤ 2 * s.ang.rate.toNat / 1000000 →
    s.angBoundary.step10 = (s.step10 + 1) % 1024 ∧ s.angBoundary.ang.acc.toNat % 2 ^ 54 < s.inc ∧
    s.angBoundary.ang.row = (if s.step10 = 1023 then s.ang.row + 1 else s.ang.row) ∧
    s.angBoundary.sys.bclk = s.angBoundary.sys.clk ∧ s.angBoundary.ang.boundTai = s.angBoundary.taiNs

/-- The rate of the next step (R40): within 40 and 70 Hz, and no further from the present rate than the ROCOF limit allows. -/
def Obligations.RateStaysInBounds : Prop :=
  ∀ rocof rate cmd : Nat, rateMin ≤ rate → rate ≤ rateMax →
    rateMin ≤ nextRate rocof rate cmd ∧ nextRate rocof rate cmd ≤ rateMax ∧
    nextRate rocof rate cmd ≤ rate + dmaxOf rocof rate ∧ rate ≤ nextRate rocof rate cmd + dmaxOf rocof rate ∧
    (rateMin ≤ cmd → cmd ≤ rateMax → cmd ≤ rate + dmaxOf rocof rate → rate ≤ cmd + dmaxOf rocof rate →
      nextRate rocof rate cmd = cmd)

/-- What the engine and the control path hand over within a step. CONTROL_SAMPLE_DELIVERY marks the 32 control inputs
delivered, once. GFE_COMPLETE with a fault leaves the step without references and without a rate command, so that the rate is
held, and sets the flag FAULT, while the holdover goes on (R132); without one it is the engine's step on the inputs (R66, R41,
R282). The engine's step in the modes with pulses blocked (R41, R66, R84): no references, the status shows no machine, and the
rate command is the nominal frequency, unless it comes after the dispatch deadline. -/
def Obligations.EngineCommands : Prop :=
 ((∀ s : State, s.up → s.running = true → s.gfe.delivered = false →
    ∃ t, exec .controlSampleDelivery s = .next t ∧ t = s.ctlDeliver.sampleSend ∧ t.gfe.delivered = true ∧
      t.gfe.inputs.length = 32) ∧
  (∀ s : State, s.up → s.running = true → s.gfe.delivered = true → s.gfe.done = false → s.cmd.waits = [] →
    s.pair.modeDue = false → ∃ t, exec (.gfeComplete true) s = .next t ∧ t.gfe.done = true ∧ t.gfe.refsValid = false ∧
      bit t.gfe.stat 9 = true ∧ t.ang.cmd = none ∧ t.flag Reg.GFE_FLAGS 9 = true ∧
      t = { s with sys := t.sys, gfe := t.gfe, ang := t.ang, rt := t.rt, mo := t.mo } ∧
      (s.shadowing = true → t.rt = s.rt ∧ t.mo = s.mo) ∧
      (s.shadowing = false → s.mode = .coast → t.rt.coastT = s.rt.coastT + dtFs s.ang.rate.toNat)) ∧
  (∀ s : State, s.up → s.running = true → s.gfe.delivered = true → s.gfe.done = false → s.pair.shadowStep = false →
    exec (.gfeComplete false) s = .next ((s.toClk 2880).modeSettle.shadowInputs.gfeStep.gfeObserve.takeReads.flush))) ∧
 (∀ s : State, s.released = false →
    s.gfeStep.gfe.done = true ∧ s.gfeStep.gfe.refsValid = false ∧ s.gfeStep.gfe.ref1 = [] ∧ s.gfeStep.gfe.ref2 = [] ∧
    bit s.gfeStep.gfe.stat 0 = false ∧ s.gfeStep.ang.cmd = s.inTime (word s.fnom) ∧
    (s.pipe.judged = false → s.acUp ≤ 800 → s.gfeStep.ang.cmd = some (word s.fnom)) ∧ s.gfeStep.gfe.sig.length = 64)

/-- The deadlines of a step. RESPONSE_DEADLINE takes the responses at ac 256, each submodule of the arms judged once, and
counts the words that were not complete. ARM_COMPLETE marks the arms done when the engine's result is there, and whether it
came in time. A slot released by its pace in time is queued once and sent at once, the run's header before the first of the
lane; the last of the lane moves PIPE_MARGIN. DISPATCH_DEADLINE of an ACTIVE with everything queued is not late.
PIPE_MARGIN_RST sets the margin to 800 (R25, R33, R35, R147, R504). A late dispatch (R33, R34): the step of an ACTIVE whose
words are not all queued at ac 800 counts in PIPE_LATE_CNT; the second in a row sets the flag LATE2 and, without a standby to
hand over to, demands the SPB with cause 10, the flag's entry being of class 5 then (R420). -/
def Obligations.DeadlineCommands : Prop :=
 ((∀ s : State, s.up → s.running = true → s.pipe.respTaken = false → ∀ u : State,
    u = { s.toAc 256 with pipe := { s.pipe with respTaken := true } } →
    (s.laneMode = false → exec .responseDeadline s = .next u) ∧
    (s.laneMode = true → ∀ v : State,
      v = (s.arms.flatMap s.armSms).foldl State.respDeadlineOne (u.bumpBy Reg.PIPE_RESP_LATE u.respLate) →
      exec .responseDeadline s = .next { v with arm := { v.arm with
        sms := v.arm.sms.map (fun p => (p.1, { p.2 with rx := false, got := none })) } })) ∧
  (∀ s : State, s.up → s.running = true → s.pipe.armDone = false → s.arm.built = true → s.laneMode = true →
    s.isActive = false → s.shadowing = false → s.pair.shadowStep = false →
    (∀ a, (s.assoc a).replayDue = false) → ∀ u : State, u = s.toClk 4080 →
    exec .armComplete s = .next { u with pipe := { s.pipe with
      armDone := true, armIn := decide (u.sys.clk - u.sys.bclk ≤ 4080) } }) ∧
  (∀ (s : State) (lane : Fin 20) (j : Fin 256), s.up → s.arm.built = true →
    ∀ u v : State, u = s.toClk (paceClk j (s.mapN (s.prim lane))) →
    s.slotsDue (paceClk j (s.mapN (s.prim lane)) - 1) = [] →
    u.cycLanes.contains lane.val = true → j.val < s.mapN (s.prim lane) → (s.lane lane).qmask.testBit j = false →
    s.pipe.judged = false → u.acUp ≤ 800 →
    v = u.updLane lane (fun l => { l with qmask := l.qmask ||| 2 ^ j.val }) →
    exec (.slotRelease lane j) s =
      .next (((v.when (maskFull (v.lane lane).qmask (s.mapN (s.prim lane))) (fun t => t.marginAt u.acUp)).when
        (decide ((s.lane lane).qmask = 0)) (fun t => t.tx lane "CYC_HDR"
          [0, b2n s.unitB, 0, s.mapN (s.prim lane), s.pair.epoch.toNat, u.step10])).tx lane
        "CYC_SLOT" [u.step10, j, u.slotWord (s.prim lane) j])) ∧
  (∀ s : State, s.up → s.running = true → s.pipe.judged = false → s.pair.silence = false → s.paired = false → s.isActive = true →
    s.laneMode = false → s.pipe.armDone = true →
    exec .dispatchDeadline s =
      .next { s.toAc 800 with pipe := { s.pipe with judged := true, lateLast := false } }) ∧
  (∀ s : State, s.up → exec .pipeMarginRst s = .next { s with pipe := { s.pipe with margin := 800 } })) ∧
 (∀ s : State, s.sound = true → s.isActive = true → s.pair.silence = false → s.laneMode = false → s.pipe.armDone = false →
    (s.pipe.lateLast = false → s.flag Reg.PIPE_CFG 1 = false →
      s.judgeDispatch = ({ s with pipe := { s.pipe with judged := true, lateLast := true } } : State).bump
        Reg.PIPE_LATE_CNT) ∧
    (s.pipe.lateLast = true → s.paired = false → s.flag Reg.PIPE_CFG 1 = false →
      s.judgeDispatch = ((({ s with pipe := { s.pipe with judged := true, lateLast := true } } : State).bump
        Reg.PIPE_LATE_CNT).setFlag Reg.PIPE_STAT 3 0 (some 5)).spbDemand 10))

/-- The angle commands. A read of ANG_THETA latches ROW and module time (R46). The discipline of a standby's angle locks after
1,024 boundaries within 5 ns, loses the lock beyond 5 ns at 4 boundaries or 20 ns at one, and holds after 2 steps without a
mark (R57, R59). A mark of the partner on the path in use, within 5 ns, counts towards the lock and shows its error; on the
other path it gives its rate alone (R42, R54, R57). STITCH_FIRE (R47 to R50): θ runs to the position of an enabled entry, and
every entry due up to there fires, none again in the step. Where the entry is the only one due, its action is performed: a
DOUT entry drives TRIG_OUT. -/
def Obligations.AngleCommands : Prop :=
 ((∀ s : State, s.up →
    exec .angThetaRead s = .next { s with ang := { s.ang with latchRow := s.ang.row, latchTai := s.taiNs } }) ∧
  (∀ s : State, s.up → s.disciplined = true → s.ang.st = .track → 1024 ≤ s.ang.lockCnt →
    exec .angleLocked s = .next { s with ang := { s.ang with st := .locked, outCnt := 0 } }) ∧
  (∀ s : State, s.up → s.disciplined = true → s.ang.st = .locked → (4 ≤ s.ang.outCnt ∨ 80000 < s.ang.err.natAbs) →
    exec .lockLost s = .next ((({ s with ang := { s.ang with st := .track, lockCnt := 0, outCnt := 0 } } : State).bump
      Reg.ANG_LOCK_LOST_CNT).setFlag Reg.ANG_FLAGS 2)) ∧
  (∀ s : State, s.up → s.disciplined = true → 2 ≤ s.ang.noMark → s.ang.st ≠ .hold →
    exec .angleHold s = .next { s with ang := { s.ang with st := .hold, lockCnt := 0 } }) ∧
  (∀ (s : State) (path : Bool) (m : Mark) (a : Nat), s.up → s.paired = true → s.shadowing = true →
    (s.port (20 + b2n path)).ts ≠ .confirm → s.pair.modeDue = false →
    (s.ang.st = .track ∨ s.ang.st = .locked) → path = s.ang.path → rateMin ≤ m.rate.toNat → m.rate.toNat ≤ rateMax →
    epochNewer m.epoch s.pair.epochMax = false →
    let d := s.pathDelay path
    let e := s.phaseErrOf m a d
    e.natAbs ≤ 20000 →
    exec (.pairMarkRx path m a) s = .next ((({ s with ang := { s.ang with
      markRate := some m.rate, markSeen := true, noMark := 0, err := e, eSeen := true,
      lastMark := some { row := m.row, step := m.step, bclk := s.sys.bclk, err := phaseErr4 a d m.txofs },
      lockCnt := min 1024 (s.ang.lockCnt + 1), outCnt := 0 } } : State).setReg
        Reg.ANG_PHASE_ERR (satWord (divRound e 4))).setReg Reg.ANG_PAIR_LAT (word d))) ∧
  (∀ (s : State) (path : Bool) (m : Mark) (a : Nat), s.up → s.paired = true → s.shadowing = true →
    (s.port (20 + b2n path)).ts ≠ .confirm → s.pair.modeDue = false →
    (s.ang.st = .track ∨ s.ang.st = .locked) → path ≠ s.ang.path → rateMin ≤ m.rate.toNat → m.rate.toNat ≤ rateMax →
    epochNewer m.epoch s.pair.epochMax = false → exec (.pairMarkRx path m a) s =
      .next { s with ang := { s.ang with markRate := some m.rate, markSeen := true, noMark := 0 } })) ∧
 (∀ (s : State) (n : Fin 2048) (p : Nat), s.up → s.running = true → s.entryAc n = some p → s.ang.fired ≤ s.stepNo * 1024 + p →
    (∃ t, exec (.stitchFire n) s = .next t ∧ t = s.fireTo p ∧ s.stepNo * 1024 + p < t.ang.fired) ∧
    (s.entriesDue p = [(p, n.val)] →
      exec (.stitchFire n) s = .next { s.stitchFire n p with
        ang := { (s.stitchFire n p).ang with fired := max (s.stitchFire n p).ang.fired (s.stepNo * 1024 + p + 1) } }) ∧
    (s.entriesDue p = [(p, n.val)] → 9 ≤ n.val → s.fld (Reg.STn_CTL n) 4 3 = 5 → s.fld (Reg.STn_CTL n) 1 2 = 1 →
      s.trigClaim = none → bits (s.reg (Reg.STn_TGT n)) 0 2 = 0 →
      ∃ t, exec (.stitchFire n) s = .next t ∧ t.ang.trigOut = true ∧
        (s.ang.trigOut = false → t.sys.out = s.sys.out ++ [.pin "TRIG_OUT" true])))

/-! ### Operating modes and ride-through (chapters 04 and 05) -/

/-- Every transition the mode logic chooses is one of the table of R95, with the rank of R96: of the automatic ones whose
conditions hold and the one commanded, whose conditions are checked again. -/
def Obligations.TransitionsOfTheTable : Prop :=
  ∀ (s : State) (conv0 tie0 : Bool) (want : Option Mode) (row rank : Nat) (dest : Mode),
    s.chooseRow conv0 tie0 (want.bind s.cmdCandidate) = some (row, rank, dest) →
    ∃ x ∈ modeTable (s.mo.origin.getD .island), x.1 = row ∧ rank ∈ x.2.1 ∧ s.mode ∈ x.2.2.1 ∧ dest ∈ x.2.2.2

/-- A latched SPB wins at every boundary (R95, R96): whatever else holds and whatever is commanded, a unit with its own mode
logic goes to SAFE_STOP from every mode but INIT and SAFE_STOP itself. A unit in STANDBY or SYNCING makes no transition of its
own (R90). -/
def Obligations.SafeStopWins : Prop :=
  ∀ (s : State) (conv0 tie0 : Bool) (cmd : Option (Nat × Mode)),
    (s.shadowing = true → s.chooseRow conv0 tie0 cmd = none) ∧
    (s.shadowing = false → s.saf.spb = true → s.mode ≠ .init → s.mode ≠ .safeStop → (∀ c, cmd = some c → 0 < c.1) →
      ∃ row, s.chooseRow conv0 tie0 cmd = some (row, 1, .safeStop))

/-- The commands of the mode logic, each where its condition holds: bus qualification by the timings of R92; the disagreement
of current and report (R93); the ends of cast-on (R100), of synchronising (R104, R105) and of bind-off (R112). Each sets the
cause that the next boundary acts on, and its flag. Entering a mode (R95, R98, R99): the mode and its origin, the causes of
earlier transitions gone; GFE_KV starts at 0 in CAST_ON. -/
def Obligations.ModeCommands : Prop :=
 ((∀ s : State, s.up → exec .busQualified s = .next { s with mo := { s.mo with
    dead := decide (msFs (s.regN Reg.MODE_BUS_T) ≤ s.mo.deadT), live := decide (msFs (s.regN Reg.MODE_BUS_T) ≤ s.mo.liveT) } }) ∧
  (∀ s : State, s.up → 8 ≤ s.mo.ocCnt → s.mo.conv = false → (s.mode = .sync ∨ s.mode = .ready) → exec .brkDisagree s =
    .next (({ s with mo := { s.mo with conv := true, ocCnt := 0 } } : State).setFlagEach Reg.MODE_FLAGS 1)) ∧
  (∀ s : State, s.up → s.mode = .castOn → 1024 ≤ s.mo.kv1 →
    exec .castonComplete s = .next { s with mo := { s.mo with causes := { s.mo.causes with castonDone := true } } }) ∧
  (∀ s : State, s.up → s.mode = .castOn → s.mo.kv1 < 1024 → msFs (1000 * s.regN Reg.MODE_CO_TPAUSE) < s.mo.tPause →
    exec .castonFail s =
      .next (({ s with mo := { s.mo with causes := { s.mo.causes with castonFail := true } } } : State).setFlag Reg.MODE_FLAGS 4)) ∧
  (∀ s : State, s.up → s.mode = .sync → msFs (s.regN Reg.MODE_SY_TOK) ≤ s.mo.syOkT → s.flag Reg.MODE_CFG 0 = true →
    s.ang.trigOut = false → exec .syncOk s = .next { s with
      mo := { s.mo with syncOk := true }, ang := { s.ang with trigOut := true },
      sys := { s.sys with out := s.sys.out ++ [.pin "TRIG_OUT" true] } }) ∧
  (∀ s : State, s.up → s.mode = .sync → msFs (1000 * s.regN Reg.MODE_SY_TMAX) ≤ s.mo.syncT →
    exec .syncTimeout s = .next { s with mo := { s.mo with causes := { s.mo.causes with syncTimeout := true } } }) ∧
  (∀ s : State, s.up → s.mode = .bindOff → 1024 ≤ s.mo.boCnt →
    exec .bindOffComplete s = .next { s with mo := { s.mo with causes := { s.mo.causes with boEnd := some .complete } } }) ∧
  (∀ s : State, s.up → s.mode = .bindOff → msFs (1000 * s.regN Reg.MODE_BO_TMAX) ≤ s.mo.boT → exec .boTimeout s =
    .next (({ s with mo := { s.mo with causes := { s.mo.causes with boEnd := some .timeout } } } : State).setFlag Reg.MODE_FLAGS 6))) ∧
 (∀ (s : State) (frm dest : Mode) (ssr : Bool),
    (s.enterFields frm dest ssr).mode = dest ∧ (s.enterFields frm dest ssr).mo.causes = Causes.none0 ∧
    ((dest = .rideThrough ∨ dest = .coast) → (frm = .connected ∨ frm = .island) → (s.enterFields frm dest ssr).mo.origin = some frm) ∧
    (dest ≠ .rideThrough → dest ≠ .coast → (s.enterFields frm dest ssr).mo.origin = none) ∧
    (s.sound = true → (s.enterTargets frm .castOn).reg Reg.GFE_KV = 0 ∧ (s.enterTargets frm .castOn).ang.castonRow = s.ang.row) ∧
    (s.enterFields frm dest ssr) = { s with mo := (s.enterFields frm dest ssr).mo })

/-- The commands of ride-through, each where its condition holds: entry after 2 steps, exit, the end of the holdover, the
rejoin after 256 valid samples (R121, R132, R133) set the cause of the next boundary, the end of the holdover its flag too; an
excursion whose exit level has held for the exit time ends (R126); a term of the impedance gain whose time is over ends
(R124). -/
def Obligations.RideThroughCommands : Prop :=
  (∀ s : State, s.up → 2 ≤ s.rt.entryCnt → (s.mode = .connected ∨ s.mode = .island) →
    exec .rideThroughEntry s = .next { s with mo := { s.mo with causes := { s.mo.causes with rtEntry := true } } }) ∧
  (∀ s : State, s.up → s.mode = .rideThrough → s.tExit (if s.mo.origin = some .island then 1 else 0) ≤ s.rt.exitT →
    exec .rideThroughExit s = .next { s with mo := { s.mo with causes := { s.mo.causes with rtExit := true } } }) ∧
  (∀ s : State, s.up → s.mode = .coast → msFs (s.regN Reg.RT_HOLD) ≤ s.rt.coastT →
    exec .holdExpired s = .next (({ s with mo := { s.mo with causes := { s.mo.causes with holdExp := true } } } : State).setFlag
      Reg.RT_FLAGS 6)) ∧
  (∀ s : State, s.up → s.mode = .coast → 256 ≤ s.rt.validCnt →
    exec .rejoin s = .next { s with mo := { s.mo with causes := { s.mo.causes with rejoin := true } } }) ∧
  (∀ (s : State) (n : Nat), s.up → s.rtSet = some n → s.rt.lv.run = true → s.tExit n ≤ s.rt.lv.exitT → s.rt.hv.run = false →
    s.rt.f.run = false → s.flag Reg.MODE_CFG 0 = false → s.flag Reg.RT_CFG 0 = false →
    exec .excursionEnd s =
      .next { s with rt := { s.rt with lv := { run := false, t := 0, exitT := 0, due := false, out := false, logged := false } } }) ∧
  (∀ s : State, s.up → s.rt.pjRun = true → msFs (s.regN Reg.RT_PJ_TDEC) ≤ s.rt.pjT → s.rt.recRun = true →
    msFs (s.regN Reg.RT_T_REC) ≤ s.rt.recT →
    exec .kzTermEnd s = .next { s with rt := { s.rt with pjRun := false, recRun := false } })

/-! ### Arm control (chapter 06) and the comparators (chapter 05) -/

/-- A response word (R141, R142): the first complete one of the step for a slot counts, up to ac 256; with its CRC right it is
the response of the step and shows its lane alive, with its CRC wrong the submodule has no response in this step. A run of
responses is its words one after another, blocks beyond it are orphans, and one that ends early stays open; a header with
COUNT 0 or beyond NSLOT is discarded and its blocks are orphans (R189, R194). The responses at ac 256 (R140, R142): a
submodule of the ACTIVE set whose response names a word sent to it and shows it able to insert is usable with its measured
voltage; one without a response counts a loss, keeps the predicted voltage, and is not usable once the losses exceed
ARM_RESP_LOSS. -/
def Obligations.Responses : Prop :=
 ((∀ (s : State) (lane : Fin 20) (slot : Fin 256) (w : BitVec 96) (p : Nat), s.up → (s.port lane).ts ≠ .confirm →
    s.primaryOf lane = some p → s.ac ≤ 256 →
    slot.val < s.mapN p → s.pipe.respTaken = false → ∀ h : s.step10 < 1024, ∀ n, n = s.mapBase p + slot →
    (s.sm n).rx = false →
    (rspCrcOk n w = true → (s.sm n).repl ≠ 2 → mwf (fun _ => Sm.fresh) s.arm.sms = true →
      exec (.responseWordRx lane slot ⟨s.step10, h⟩ w) s = .next ((s.updSm n (fun m => { m with
        rx := true, got := some (parseRsp w) })).updLane p (fun l => { l with alive := true }))) ∧
    (rspCrcOk n w = false →
      exec (.responseWordRx lane slot ⟨s.step10, h⟩ w) s = .next (s.updSm n (fun m => { m with rx := true })))) ∧
  (∀ (s : State) (lane : Fin 20) (first : Fin 256) (count : Fin 512) (step : Fin 1024) (ws : List (BitVec 96)) (p : Nat), s.up →
    (s.port lane).ts ≠ .confirm → s.primaryOf lane = some p → 0 < count.val → first.val + count.val ≤ s.mapN p → ∀ u : State,
    u = (s.updLane lane (fun l => { l with runLeft := (3 * count.val + 1) / 2 - (3 * ws.length + 1) / 2 })).bumpBy
      (Reg.LNK_ORPHAN lane) ((3 * ws.length + 1) / 2 - (3 * count.val + 1) / 2) →
    (s.ac ≤ 256 → exec (.cycUpRx lane first count step ws) s =
      .next (((ws.take count).mapIdx (fun j w => (j, w))).foldl (fun s jw => s.respWord lane (first + jw.1) step jw.2) u)) ∧
    (256 < s.ac → exec (.cycUpRx lane first count step ws) s = .next u)) ∧
  (∀ (s : State) (lane : Fin 20) (first : Fin 256) (count : Fin 512) (step : Fin 1024) (ws : List (BitVec 96)) (p : Nat), s.up →
    (s.port lane).ts ≠ .confirm → s.primaryOf lane = some p → (count.val = 0 ∨ s.mapN p < first.val + count.val) →
    exec (.cycUpRx lane first count step ws) s =
      .next ((s.bump (Reg.LNK_CTL_ERR lane)).bumpBy (Reg.LNK_ORPHAN lane) ((3 * ws.length + 1) / 2)))) ∧
 (∀ (s : State) (n : Nat), s.sound = true → mwf (fun _ => Sm.fresh) s.arm.sms = true →
    (∀ r, (s.sm n).got = some r → (s.sm n).words.any (fun w => w.stamp == r.echo) = true → (s.sm n).set = 1 →
      (s.sm n).inService = true → statusUsable r.status = true →
      ((s.respDeadlineOne n).sm n).usable = true ∧ ((s.respDeadlineOne n).sm n).v = volt16 r.vcap ∧
      ((s.respDeadlineOne n).sm n).resp = some r ∧ ((s.respDeadlineOne n).sm n).miss = 0 ∧
      ((s.respDeadlineOne n).sm n).fail = 0) ∧
    ((s.sm n).got = none →
      ((s.respDeadlineOne n).sm n).miss = (s.sm n).miss + 1 ∧ ((s.respDeadlineOne n).sm n).v = (s.sm n).vh ∧
      ((s.respDeadlineOne n).sm n).resp = (s.sm n).resp ∧
      (s.fld Reg.ARM_RESP_LOSS 0 4 < (s.sm n).miss + 1 → ((s.respDeadlineOne n).sm n).usable = false) ∧
      ((s.sm n).repl = 0 → (s.respDeadlineOne n).reg Reg.ARM_RESP_MISS = satInc (s.reg Reg.ARM_RESP_MISS))) ∧
    (∀ m, m ≠ n → (s.respDeadlineOne n).sm m = s.sm m) ∧
    s.sysOnly (s.respDeadlineOne n) [Reg.ARM_RESP_MISS, Reg.PIPE_RESP_LATE, Reg.ARM_FLAGS, Reg.EVLOG_FLAGS])

/-- Spares and retirement (R151): a submodule of the ACTIVE set asked to retire does so, is counted, and the best ready spare
of its arm joins at once; without any spare the event is flagged, and NOSPARE shows an arm whose sets are formed and hold none
(R161). A spare chosen before joins as soon as it is ready. The precharge is in order when its criterion has held for 8 steps
(R152). The hardware comparators (R117, R118). A trip counts in RT_HWC_CNT; with pulses released it restricts the arm, or
forces the main outputs in direct mode, until the comparator has released. -/
def Obligations.SparesAndComparators : Prop :=
 ((∀ (s : State) (n : Fin 4096) (a : Nat), s.up → s.armOf n = some a → (s.sm n).set = 1 → (s.sm n).retire ≠ 0 →
    (s.sm n).retire ≠ 3 → ∀ u : State,
    u = ((s.updSm n (fun m => { m with set := 3, retire := 0, wearReq := false, usable := false, fail := 0 })).bump
      Reg.ARM_RETIRE_CNT).setFlagEach Reg.ARM_FLAGS 2 n →
    (∀ k, u.bestSpare a = some k → exec (.smRetire n) s = .next (u.updSm k (fun m => { m with
      set := 1, iso := false, pci := false, joining := false, ready := false, fail := 0 })).noSpareShow) ∧
    (u.bestSpare a = none → u.fullestSpare a = none → exec (.smRetire n) s =
      .next (({ u with arm := { u.arm with noSpare := u.arm.noSpare.set a true } } : State).setFlagEach Reg.ARM_FLAGS 1 a))) ∧
  (∀ (s : State) (n : Fin 4096), s.up → (s.sm n).joining = true → (s.sm n).ready = true → (s.sm n).set = 2 →
    exec (.sparePromote n) s = .next (s.updSm n (fun m => { m with
      set := 1, iso := false, pci := false, joining := false, ready := false, fail := 0 })).noSpareShow) ∧
  (∀ (s : State) (a : Nat), a < 6 → (s.noSpareShow.arm.noSpare.getD a false = true ↔
    s.arm.setsFormed = true ∧ a ∈ s.arms ∧ ∀ n ∈ s.armSms a, (s.sm n).set ≠ 2)) ∧
  (∀ s : State, s.up →
    exec .prechOk s = .next { s with arm := { s.arm with prechOk := decide (8 ≤ s.arm.prechCnt) } })) ∧
 ((∀ (s : State) (n : Fin 6) (neg : Bool), s.up → s.released = false → n.val < 3 →
    exec (.hwcTrip true n neg) s = .next (s.bump Reg.RT_HWC_CNT)) ∧
  (∀ (s : State) (n : Fin 6) (neg : Bool), s.up → s.released = true → s.flag Reg.GFE_MAP 24 = true → s.laneMode = true →
    ∃ u : State, u = (s.bump Reg.RT_HWC_CNT).setFlag Reg.RT_FLAGS 4 n ∧ exec (.hwcTrip false n neg) s =
      .next (({ u with rt := { s.rt with armTrip := s.rt.armTrip.set n (some neg), restr := s.rt.restr.set n (some neg),
                                         lastNeg := neg } } : State).sendRestrict true neg n)) ∧
  (∀ (s : State) (n : Fin 6) (neg : Bool), s.up → s.released = true → n.val < 3 → s.laneMode = false →
    ∃ u : State, u = (s.bump Reg.RT_HWC_CNT).setFlag Reg.RT_FLAGS 5 n ∧ exec (.hwcTrip true n neg) s =
      .next ({ u with rt := { s.rt with lineTrip := s.rt.lineTrip.set n (some neg) } } : State).pwmRefresh) ∧
  (∀ (s : State) (n : Fin 6) (d : Bool), s.up → s.rt.restr.getD n none = some d → s.rt.lineTrip = List.replicate 3 none →
    exec (.hwcRelease false n) s =
      .next (({ s with rt := { s.rt with armTrip := s.rt.armTrip.set n none, restr := s.rt.restr.set n none } } : State).sendRestrict
        false d n)))

/-! ### Submodules and concentrators beyond the lanes (chapters 06, 08, 09) -/

/-- What a submodule takes in. A valid command word is kept for the next local boundary, of two the one of the higher epoch
(R157); a lost loop blocks it while the loop stays off, its own protection blocks it or closes its bypass, a restriction
starts and ends where it is said (R159). What a submodule answers on the bulk channels (R225, R228, R233, R304, R411), and the
way of the request and of its answer through its concentrator (R204, R210). An edge under a restriction (R159): a block is
always carried out; another edge is either carried out or leaves the state, and under a negative restriction the state's
contribution never rises, under a positive one it never falls. -/
def Obligations.SubmoduleInputs : Prop :=
 ((∀ (s : State) (n : Fin 4096) (w : BitVec 128), s.cmdValid n w = true → (s.farSm n).rx = none →
    exec (.smCmdRx n w) s = .next (s.updFar n (fun x => { x with rx := some (parseCmd w) }))) ∧
  (∀ (s : State) (n : Fin 4096) (w : BitVec 128) (o : SmWord), s.cmdValid n w = true → (s.farSm n).rx = some o →
    exec (.smCmdRx n w) s = .next (s.updFar n (fun x =>
      if epochNewer (parseCmd w).epoch o.epoch then { x with rx := some (parseCmd w) } else x))) ∧
  (∀ (s : State) (n : Fin 4096) (w : BitVec 128), s.cmdValid n w = false → exec (.smCmdRx n w) s = .next s) ∧
  (∀ (s : State) (n : Fin 4096), s.loopAt n = false →
    exec (.smPblLost n) s = .next (s.updFar n (fun x => { x with pblLost := true, pblOff := true, pblCnt := 0, st := 3 }))) ∧
  (∀ (s : State) (n : Fin 4096) (neg : Bool) (ac : Fin 1024),
    exec (.smRestrict n true neg ac) s = .next (s.updFar n (fun x => { x.run (s.fullBridge n) ac with restr := some neg }))) ∧
  (∀ (s : State) (n : Fin 4096) (neg : Bool) (ac : Fin 1024), (s.farSm n).pblLost = false → (s.farSm n).byp = false →
    (s.farSm n).localBlk = false → exec (.smRestrict n false neg ac) s =
      .next (s.updFar n (fun x => { x.run (s.fullBridge n) ac with restr := none, st := patAt x.pat ac }))) ∧
  (∀ (s : State) (n : Fin 4096),
    exec (.smOwnProtection n true) s = .next (s.updFar n (fun x => { x with byp := true, st := 3 })) ∧
    exec (.smOwnProtection n false) s = .next (s.updFar n (fun x => { x with localBlk := true, st := 3 })))) ∧
 ((∀ (s : State) (n : Fin 4096) (r : SmRequest),
    (s.slotOf n = none → exec (.smBulkRequestRx n r) s = .next (s.smAnswer n r)) ∧
    (∀ p j, s.slotOf n = some (p, j) → ∀ t : State, t = (s.concAccept p (reqVc r - 1)).smAnswer n r →
      (∀ body, reqAnswered r = some body → exec (.smBulkRequestRx n r) s = .next (t.concUp p j (reqVc r) body)) ∧
      (reqAnswered r = none → exec (.smBulkRequestRx n r) s = .next t))) ∧
  (∀ (s : State) (n : Fin 4096),
    s.smAnswer n .identReq = { s with sys := { s.sys with out := s.sys.out ++ [.far "IDENT" [n, (s.farSm n).id.toNat]] } } ∧
    (∀ first k tag, s.smAnswer n (.sweepRd first k tag) =
      { s with sys := { s.sys with out := s.sys.out ++ [.far "REPORT" ([n.val, first.toNat, k.val, tag.toNat] ++
        (List.range k.val).flatMap (fun i => LdgItem.fields (mget LdgItem.zero (s.farSm n).eps (first.toNat + i))))] } }) ∧
    s.smAnswer n (.reopen (s.farSm n).id) = s.updFar n (fun x => { x with reopen := true, byp0 := 0 }) ∧
    (∀ code tag body, s.smAnswer n (.mgmt code tag body) = { s with sys := { s.sys with
      out := s.sys.out ++ [.far "MGMT_ANSWER" ([n.val, tag.toNat, code.toNat] ++ body.map (·.toNat))] } }))) ∧
 (∀ (fb neg : Bool) (cur target : Nat), cur < 4 → target < 4 →
    edgeTo fb none cur target = target ∧ edgeTo fb (some neg) cur 3 = 3 ∧
    (edgeTo fb (some neg) cur target = target ∨ edgeTo fb (some neg) cur target = cur) ∧
    (target ≠ 3 → neg = true → stRank fb neg (edgeTo fb (some neg) cur target) ≤ stRank fb neg cur) ∧
    (target ≠ 3 → neg = false → stRank fb neg cur ≤ stRank fb neg (edgeTo fb (some neg) cur target)))

/-- A submodule's local ac 0 (R158, R160): with a valid word of the step it applies that word's first pattern, echoes its
stamp and answers with one response word, which its concentrator gathers (R193); without one in three consecutive steps it
blocks. -/
def Obligations.SubmoduleStep : Prop :=
  ∀ (s : State) (n : Fin 4096) (m : SmSample), mwf (fun _ => FarSm.fresh) s.far.sms = true →
    (∀ w : SmWord, (s.farSm n).rx = some w → (s.farSm n).pblLost = false → (s.farSm n).byp = false →
      (s.farSm n).localBlk = false → (s.farSm n).restr = none → (s.farSm n).reopen = false → w.byp = false → w.pci = false →
      ∃ t r l, exec (.smLocalAc0 n m) s = .next t ∧ (t.farSm n).pat = w.pat1 ∧ (t.farSm n).st = patS0 w.pat1 ∧
        (t.farSm n).src = 0 ∧ (t.farSm n).echo = w.stamp ∧ (t.farSm n).rx = none ∧ (t.farSm n).missed = 0 ∧
        (t.farSm n).stamp = ((s.farSm n).stamp + 1) % 65536 ∧ t.sys.out = s.sys.out ++ .far "RSP" [n, r] :: l ∧
        (s.slotOf n = none → l = []) ∧ t = { s with far := t.far, sys := { s.sys with out := t.sys.out } }) ∧
    ((s.farSm n).rx = none → 2 ≤ (s.farSm n).missed → (s.farSm n).last = none →
      ∃ t, exec (.smLocalAc0 n m) s = .next t ∧ (t.farSm n).st = 3 ∧ (t.farSm n).pat = 3 * 2 ^ 26 ∧ (t.farSm n).src = 3) ∧
    (∀ t k, exec (.smLocalAc0 n m) s = .next t → k ≠ n.val → t.farSm k = s.farSm k)

/-- The concentrators (R27, R197, R199, R200, R202, R204, R208, R210, R212 to R214, R373): what each command of theirs does,
with the block it sends. A mark or a run is accepted from the owner or from a newer epoch; a mark disciplines the local step
of the submodules served; the words of a run are relayed one by one; an AUDIT makes its lane the route and is answered there.
A concentrator notes, from an idle block with DISP set, that a unit dispatches (R191, R213). -/
def Obligations.ConcentratorCommands : Prop :=
 ((∀ (s : State) (c lane : Fin 20) (m : Mark) (t : Nat), (s.conc c).owner = none → ∀ u : State,
    u = s.updConc c (fun x => { ((x.present m.unit).own m.epoch m.unit (m.row.toNat * 1024 + m.step)) with
      row := m.row, step := m.step, rate := m.rate, tSm0 := t, markClk := s.sys.clk,
      tb := 4 * Int.ofNat t - 4 * Int.ofNat (mget 0 x.lats lane) - 160000 - 125 * Int.ofNat m.txofs }) →
    c.val < s.far.concs.length →
      exec (.concMarkRx c lane m t) s = .next ((u.smDiscipline c m).emit
        (.conc c "RELAY_MARK" [m.step, m.row.toNat % 2 ^ 22, m.epoch.toNat, m.rate.toNat])) ∧
      (mwf (fun _ => FarSm.fresh) s.far.sms = true → ∀ n ∈ s.concSms c,
        ((u.smDiscipline c m).farSm n).stamp = (m.row.toNat % 64) * 1024 + m.step)) ∧
  (∀ (s : State) (c : Fin 20) (u : Bool) (e : BitVec 16) (step : Fin 1024) (first : Fin 256) (ws : List (BitVec 128)),
    (s.conc c).owner = some (e, u) → ws ≠ [] → first.val + ws.length ≤ s.mapN c → c.val < s.far.concs.length →
    exec (.concCycDnRx c u e step first ws) s = .next ((s.updConc c (fun x => x.present u)).emits
      (ws.mapIdx (fun j w => Out.conc c "RELAY" [first + j, step, w.toNat]))) ∧
    exec (.concOosRunRx c u e step first ws) s = .next (((s.updConc c (fun x => x.present u)).emits
      (ws.mapIdx (fun j w => Out.conc c "RELAY" [first + j, step, w.toNat]))).emit (.conc c "OOS" [ws.length]))) ∧
  (∀ (s : State) (c : Fin 20) (u set neg : Bool) (arm : Fin 8) (first last rseq : Byte) (e : BitVec 16),
    (s.conc c).owner = some (e, u) → exec (.concRestrictRx c u set neg arm first last rseq) s =
      .next (s.emit (.conc c "RESTRICT" [b2n set, b2n neg, arm, first.toNat, last.toNat, rseq.toNat]))) ∧
  (∀ (s : State) (c : Fin 20) (leftA leftB u : Bool) (e : BitVec 16), (s.conc c).owner = some (e, u) →
    exec (.concWitnessWindow c leftA leftB) s =
      .next (((s.updConc c (fun x => { x with presA := false, presB := false, win := (x.win + 1) % 8 })).concEach c "WITNESS"
        [b2n ((s.conc c).presA && !leftA), b2n ((s.conc c).presB && !leftB), b2n u, 1, e.toNat,
         ((s.conc c).window s.sys.clk).1, ((s.conc c).window s.sys.clk).2]).concFlush c)) ∧
  (∀ (s : State) (c lane : Fin 20) (tag : BitVec 16) (turn : BitVec 24),
    exec (.concEchoReply c lane tag turn) s = .next (s.concSend c "ECHO_RSP" lane [tag.toNat, turn.toNat])) ∧
  (∀ (s : State) (c lane : Fin 20) (dDn dUp : BitVec 12) (cport : BitVec 4) (alt : Bool),
    exec (.concDeclare c lane dDn dUp cport alt) s = .next (s.concSend c "DECLARE" lane
      [dDn.toNat, dUp.toNat, (Config.concId c).toNat, cport.toNat, b2n alt])) ∧
  (∀ (s : State) (c lane : Fin 20), exec (.concAuditRx c true lane) s =
    .next ((s.updConc c (fun x => { x with
      rx := upd x.rx 1 (fun r => { r with done := true }), routeB := some lane.val })).concAudits c true lane) ∧
    exec (.concAuditRx c false lane) s =
    .next ((s.updConc c (fun x => { x with
      rx := upd x.rx 0 (fun r => { r with done := true }), routeA := some lane.val })).concAudits c false lane)) ∧
  (∀ (s : State) (c lane : Nat) (name : String) (f : List Nat), s.concSend c name lane f = { s with sys := { s.sys with
    out := s.sys.out ++ [.conc c name (lane :: f), .concLine c lane (concWire name (lane :: f))] } }) ∧
  (∀ (s : State) (c lane : Fin 20) (d : BitVec 18) (tag : BitVec 16),
    exec (.concLatRx c lane d tag) s = .next (s.updConc c (fun x => { x with lats := mset 0 x.lats lane d.toNat }))) ∧
  (∀ (s : State) (c : Fin 20), exec (.concLoopLost c) s =
    .next ((s.updConc c (fun x => { x with loop := false })).emit (.conc c "LOOP_LOST" []))) ∧
  (∀ (s : State) (c : Fin 20), (s.conc c).owner.isSome = true → exec (.concLoopRestored c) s =
    .next (((List.range (s.mapN c)).map (s.mapBase c + ·)).foldl (fun s n => s.updFar n (fun x => { x with pblOff := false }))
      ((s.updConc c (fun x => { x with loop := true })).emit (.conc c "LOOP_RESTORED" []))))) ∧
 (∀ (s : State) (c : Fin 22) (unitB : Bool) (e : BitVec 16),
    exec (.idleRx true c true unitB e) s = .next (s.updConc c (fun x => x.present unitB)) ∧
    exec (.idleRx true c false unitB e) s = .next s)

/-! ### Ports, lanes and bulk blocks (chapters 07 and 08) -/

/-- A module is plugged and pulled, light comes and goes (R163, R164, R177, R183 to R185): a refused module is noted and stays
out of DETECT, an accepted one has its cage powered and, where its port is enabled, starts from its preset in DETECT; an
optical module's TX_FAULT sets its flag. A loss takes the port back to DETECT or starts a new attempt, and the lane hub is
told of a port that leaves LINK_UP. -/
def Obligations.PortPlugged : Prop :=
  ∀ (s : State) (n : Fin 22), s.up →
    (∀ (id tech : Byte) (hp tf : Bool), (s.port n).present = false → ∀ u : State,
      u = ((((s.updPort n (fun _ => { Port.fresh0 with
        present := true, refused := moduleRefused id tech hp, sfpId := id, sfpTech := tech, hiPower := hp, los := true,
        lin := s.linChoice n tech, linMode := s.linChoice n tech, own := presetTaps (if s.linChoice n tech then 1 else 0),
        far := presetTaps (if s.linChoice n tech then 1 else 0),
        txFault := tf && !tech.getLsbD 2 && !tech.getLsbD 3 })).when (tf && !tech.getLsbD 2 && !tech.getLsbD 3)
          (fun t => t.setFlag (Reg.PHY_FLAGS n) 6 n)).setReg (Reg.PHY_SFP n)
          (word (id.toNat + tech.toNat * 256 + b2n hp * 65536))).ownInc n) →
      (moduleRefused id tech hp = true → exec (.sfpInsert n id tech ⟨hp, tf⟩) s = .next (u.setFlagEach (Reg.PHY_FLAGS n) 5 n)) ∧
      (moduleRefused id tech hp = false → exec (.sfpInsert n id tech ⟨hp, tf⟩) s =
        .next (if (u.cagePower n true).phyEn n then (u.cagePower n true).toDetect n else u.cagePower n true))) ∧
    (∀ u : State, u = (s.updPort n (fun p => { p with
        ts := .off, attempt := false, blockLock := false, cdr := false, hiBer := false, rxReady := false })).txDisable n true →
      exec (.sfpWithdraw n) s = .next (((((if s.linkUp n then u.laneDown n else u).cagePower n false)).updPort n
        (fun _ => Port.fresh0)).setReg (Reg.PHY_SFP n) 0)) ∧
    ((s.port n).present = true → (s.port n).los = false → ∀ u : State,
      u = ((s.updPort n (fun p => { p with los := true, blockLock := false, cdr := false })).bump
        (Reg.PHY_LOS_CNT n)).setFlag (Reg.PHY_FLAGS n) 0 n →
      ((s.port n).ts = .lock ∨ (s.port n).ts = .adapt ∨ (s.port n).ts = .confirm ∨ (s.port n).ts = .fallback →
        exec (.losAssert n) s = .next (u.toDetect n)) ∧
      ((s.port n).ts = .linkUp → exec (.losAssert n) s = .next ((u.toDetect n).laneDown n)) ∧
      ((s.port n).ts = .off ∨ (s.port n).ts = .detect ∨ (s.port n).ts = .failed → exec (.losAssert n) s = .next u)) ∧
    ((s.port n).present = true → (s.port n).los = true → ∀ u : State,
      u = s.updPort n (fun p => { p with los := false, cdr := true }) →
      exec (.losClear n) s = .next (if (s.port n).ts = .detect then u.startAttempt n else u)) ∧
    (∀ k : Word, (s.port n).present = true → ∀ u : State,
      u = (((s.bumpBy (Reg.PHY_SH_ERR n) k.toNat).updPort n (fun p => { p with cdr := false, blockLock := false })).bump
        (Reg.PHY_LOL_CNT n)).setFlag (Reg.PHY_FLAGS n) 1 n →
      exec (.lol ⟨n, k⟩) s = .next (if s.linkUp n then (u.startAttempt n).laneDown n else u))

/-- Training (R168, R172, R175 to R181): block lock with three valid blocks ends LOCK, a missing reply or the end of the
adaptation time leads to FALLBACK with its presets in turn, the end of an attempt to FAILED, a second later to DETECT; after
the last confirming frame, or on a link block, and on a retraining, the port is LINK_UP, or begins a new attempt. A block with
a wrong CRC counts and starts the runs of valid and of ready blocks again. -/
def Obligations.PortTraining : Prop :=
  ∀ (s : State) (n : Fin 22), s.up →
    (∀ k : Word, (s.port n).present = true → (s.port n).los = false → (s.port n).ts = .lock → 3 ≤ (s.port n).valid →
      exec (.blockLock ⟨n, k⟩) s = .next (((s.bumpBy (Reg.PHY_SH_ERR n) k.toNat).updPort n (fun p => { p with
        blockLock := true, cdr := true })).toAdapt n)) ∧
    (∀ k : Word, (s.port n).present = true → (s.port n).los = false → ((s.port n).ts ≠ .lock ∨ (s.port n).valid < 3) →
      exec (.blockLock ⟨n, k⟩) s = .next ((s.bumpBy (Reg.PHY_SH_ERR n) k.toNat).updPort n (fun p => { p with
        blockLock := true, cdr := true }))) ∧
    ((s.port n).attempt = true → (s.port n).blockLock = false →
      exec (.rxPolarityInvert n) s = .next (s.updPort n (fun p => { p with rxInv := !p.rxInv }))) ∧
    (∀ b, (s.port n).present = true → (s.port n).refused = false → parseTrn b = none → exec (.trainingBlockRx n b) s =
      .next ((s.updPort n (fun p => { p with valid := 0, readyCnt := 0 })).bump (Reg.PHY_TRN_CRC n))) ∧
    (∀ b t, (s.port n).present = true → (s.port n).refused = false → parseTrn b = some t → n.val < 20 →
      (s.port n).ts = .adapt → (s.port n).rxReady = true → (s.port n).readyCnt = 2 → t.ready = true →
      ∃ u, exec (.trainingBlockRx n b) s = .next u ∧ (u.port n).ts = .confirm ∧ (u.port n).adapted = true ∧
        ∀ k, k ≠ n.val → u.port k = s.port k) ∧
    ((s.port n).ts = .adapt → ((s.port n).reqs.any (· != 0) = true ∨ (s.port n).reqSet ≠ 0) →
      exec (.requestTimeout n) s = .next (s.toFallback n)) ∧
    ((s.port n).ts = .adapt ∨ ((s.port n).ts = .lock ∧ (s.port n).blockLock = false) →
      exec (.adaptTimeout n) s = .next (((s.updPort n (fun p => { p with
        ts := .fallback, preset := 0, rxReady := false, reqs := [0, 0, 0], reqSet := if p.linMode then 0 else 1,
        psel := 3 })).setFlag (Reg.PHY_FLAGS n) 4 n).trainOut n)) ∧
    ((s.port n).attempt = true → exec (.attemptTimeout n) s =
      .next ((((s.updPort n (fun p => { p with ts := .failed, attempt := false })).bump
        (Reg.PHY_TRN_FAIL_CNT n)).setFlagEach (Reg.PHY_FLAGS n) 3 n).trainOut n)) ∧
    ((s.port n).ts = .failed → exec (.failedExpire n) s = .next (s.toDetect n)) ∧
    ((s.port n).ts = .fallback → (s.port n).rxReady = false →
      ((s.port n).blockLock = true → (s.port n).preset < 3 → exec (.fallbackPresetWindow n true) s =
        .next ((s.updPort n (fun p => { p with rxReady := true, reqSet := 0 })).trainOut n)) ∧
      ((s.port n).linMode = false → (s.port n).preset = 0 → exec (.fallbackPresetWindow n false) s =
        .next ((s.updPort n (fun p => { p with preset := 1, reqSet := 1, psel := 2 })).trainOut n)) ∧
      ((s.port n).linMode = false → (s.port n).preset = 1 → exec (.fallbackPresetWindow n false) s =
        .next ((s.updPort n (fun p => { p with preset := 2, reqSet := 1, psel := 0 })).trainOut n)) ∧
      ((s.port n).preset = 2 → exec (.fallbackPresetWindow n false) s =
        .next ((s.updPort n (fun p => { p with preset := 3, reqSet := 0 })).trainOut n))) ∧
    ((s.port n).ts = .confirm →
      exec (.confirmDone n) s = .next (((List.range 16).foldl (fun s _ => s.frameOut n) s).enterUp n) ∧
      ∀ d b e, exec (.idleRx false n d b e) s =
        .next (((s.updPort n (fun p => { p with ts := .linkUp, attempt := false })).setReg (Reg.PHY_TRN_MS n)
          (word ((s.sys.clk - (s.port n).began) / 400000))).laneUp n)) ∧
    (s.linkUp n = true → exec (.phyRetrain n) s = .next ((s.startAttempt n).laneDown n))

/-- A bulk block that comes in (R204 to R207, R227, R305, R411). In order, with a KIND its channel has, it is delivered, its
VC's place used and the acknowledgement owed; one of another KIND is discarded and counted; with a wrong CRC one NAK is sent
for it; a repeated one is only acknowledged. On the pair link a STANDBY or SYNCING unit takes the command state that a journal
entry brings (R343, R360). What the far end says of bulk blocks (R204 to R206, R208): a credit sets a VC's limit, an
acknowledgement that covers `k` kept blocks drops them, and three AUDITs of one sequence number, taken once, set the limits
right and end the audit of the own direction; the own AUDITs are repeated until the partner's show DONE. -/
def Obligations.BulkRx : Prop :=
 (∀ (s0 s : State) (lane : Fin 22) (a : Nat) (b : BulkBlk), s0.up → s = s0.linkBlock lane → s.assocOf lane = some a → a < 21 →
    b.vc ≠ 0 →
    (b.payload.length ≠ 0 → b.payload.length ≤ 256 → b.payload.length % 8 = 0 → b.seq = (s.assoc a).expect →
      (s.assoc a).ackPend < 7 → ∀ u : State,
      u = s.updAssoc a (fun x => { x with
        used := x.used.set (b.vc.val - 1) (x.used.getD (b.vc.val - 1) 0 + 1), expect := x.expect + 1, nakSent := false,
        ackSince := if x.ackPend = 0 then s.sys.clk else x.ackSince, ackPend := x.ackPend + 1,
        limSince := x.limSince.set (b.vc.val - 1) (some ((x.limSince.getD (b.vc.val - 1) none).getD s.sys.clk)) }) →
      (u.rxLimit a (b.vc.val - 1) - (u.assoc a).limitTx.getD (b.vc.val - 1) 0).toNat < 4 →
      (∀ k, k = (b.payload.headD 0).toNat → ((a = 20 ∧ (s.shadowing = false ∨ b.mir = none)) ∨
          (a < 20 ∧ k ≠ 0 ∧ k ≤ if b.vc.val = 1 then 6 else 3)) →
        exec (.bulkBlockRx lane b true) s0 = .next (u.tx lane "DELIVERED" (b.vc.val :: b.payload.map (·.toNat)))) ∧
      (∀ c, a = 20 → s.shadowing = true → b.mir = some (.entry c) → ∀ t : State,
        t = u.tx lane "DELIVERED" (b.vc.val :: b.payload.map (·.toNat)) → exec (.bulkBlockRx lane b true) s0 =
          .next { t with cmd := { t.cmd with core := c }, pair := { t.pair with entryNew := true, coreSeen := true } }) ∧
      (∀ k, k = (b.payload.headD 0).toNat → a < 20 → (k = 0 ∨ (if b.vc.val = 1 then 6 else 3) < k) →
        exec (.bulkBlockRx lane b true) s0 = .next (if b.vc.val = 1 then u.bump Reg.LDG_SWEEP_MISS
          else if b.vc.val = 2 then (u.bump Reg.ACQ_REM_ERR).setFlag Reg.ACQ_FLAGS 3 else u.bump Reg.CMD_MALFORMED))) ∧
    (exec (.bulkBlockRx lane b false) s0 = .next (s.nakOut a)) ∧
    (b.payload.length ≠ 0 → b.payload.length ≤ 256 → b.payload.length % 8 = 0 → b.seq ≠ (s.assoc a).expect →
      ((s.assoc a).expect - b.seq).toNat ≤ 64 → exec (.bulkBlockRx lane b true) s0 = .next (s.ackOut a false)) ∧
    (b.payload.length ≠ 0 → b.payload.length ≤ 256 → b.payload.length % 8 = 0 → b.seq ≠ (s.assoc a).expect →
      64 < ((s.assoc a).expect - b.seq).toNat → exec (.bulkBlockRx lane b true) s0 = .next (s.nakOut a))) ∧
 ((∀ (s : State) (lane : Fin 22) (v : Fin 4) (l : BitVec 16) (a : Nat), s.up → (s.linkBlock lane).assocOf lane = some a → v ≠ 0 →
    exec (.creditRx lane v l) s = .next ((s.linkBlock lane).updAssoc a (fun x => { x with limit := x.limit.set (v.val - 1) l }))) ∧
  (∀ (s u : State) (lane : Fin 22) (seq : Byte) (a : Nat), s.up → u = s.linkBlock lane → u.assocOf lane = some a → a < 20 →
    0 < ackedBy (u.assoc a).kept seq → exec (.ackRx lane seq false) s = .next (u.updAssoc a (fun x => { x with
      kept := x.kept.drop (ackedBy (u.assoc a).kept seq), replays := 0, advClk := u.sys.clk }))) ∧
  (∀ (kept : List BulkBlk) (seq : Byte) (b : BulkBlk), kept.head? = some b →
    ackedBy kept seq = if (seq - b.seq).toNat < kept.length then (seq - b.seq).toNat + 1 else 0) ∧
  (∀ (s : State) (lane : Fin 22) (a : Nat) (x1 x2 x3 : Audit), s.up → (s.port lane).ts ≠ .confirm → s.assocOf lane = some a →
    s.bulkPort a = some lane.val → a < 21 → x1.vc = 1 → x2.vc = 2 → x3.vc = 3 → x2.nextSeq = x1.nextSeq →
    x3.nextSeq = x1.nextSeq → (s.assoc a).limit.length = 3 →
    ((s.assoc a).audit = true → (s.assoc a).replays < s.fld Reg.LNH_CFG 0 4 →
      ∃ t, exec (.auditRx lane [x1, x2, x3]) s = .next t ∧ (t.assoc a).limit = [x1.limit, x2.limit, x3.limit] ∧
        (t.assoc a).audit = false ∧ (t.assoc a).auditDone = true ∧
        (t.assoc a).auditRx = ((s.assoc a).auditRx && !(x1.done && x2.done && x3.done))) ∧
    ((s.assoc a).audit = false → x1.done = false → 20 ≤ lane.val →
      exec (.auditRx lane [x1, x2, x3]) s = .next (s.sendAudits a))) ∧
  (∀ (s u : State) (a : Fin 21), s.up → (s.assoc a).auditRx = true → u = s.toSysClk ((s.assoc a).auditClk + 8000) →
    (s.assoc a).auditClk + 8000 ≤ u.sys.clk → exec (.auditRepeat a) s = .next (u.sendAudits a)))

/-- A bulk block that goes out (R204 to R206, R208): the first of the queue whose VC has a credit and whose lane is open takes
the next sequence number, consumes the credit and is kept until it is acknowledged; without any credit nothing is sent. An
acknowledgement and a credit go out when their time has come, and the time-out replays every kept block, or retrains the port
once LNH_CFG.RETRY_MAX replays have brought no advance. -/
def Obligations.BulkOut : Prop :=
  ∀ (s : State) (a : Fin 21), s.up →
    (∀ n i b, (s.assoc a).replayDue = false → s.bulkPort a = some n →
      (s.assoc a).queue.findIdx? (fun b => (s.assoc a).canSend (b.vc.val - 1)) = some i → (s.assoc a).queue[i]? = some b →
      s.bulkOpen a n = true → exec (.bulkBlockSend a) s = .next ((s.updAssoc a (fun x => { x with
        queue := x.queue.eraseIdx i, next := x.next + 1, consumed := x.consumed.set (b.vc.val - 1) (x.consumed.getD (b.vc.val - 1) 0 + 1),
        kept := x.kept ++ [{ b with seq := (s.assoc a).next }], advClk := if x.kept = [] then s.sys.clk else x.advClk })).tx n
        "BULK" ([b.vc.val, ((s.assoc a).next).toNat, b2n b.conc, b.slot.toNat, (crc32 b.payload).toNat] ++
          b.payload.map (·.toNat)))) ∧
    ((s.assoc a).replayDue = false → (∀ b ∈ (s.assoc a).queue, (s.assoc a).canSend (b.vc.val - 1) = false) →
      exec (.bulkBlockSend a) s = .next s) ∧
    (∀ (n : Nat) (u : State), 0 < (s.assoc a).ackPend → u = s.toSysClk ((s.assoc a).ackSince + 200) →
      (s.assoc a).ackSince + 200 ≤ u.sys.clk → u.bulkPort a = some n → exec (.ackSend a) s =
        .next (((u.updAssoc a (fun x => { x with ackPend := 0 })).tx n "ACK" [((u.assoc a).expect - 1).toNat, 0]).concAcked a)) ∧
    (∀ (v : Fin 4) (n : Nat) (u : State), v ≠ 0 → u = s.toSysClk (s.creditDue a (v.val - 1)) →
      s.creditDue a (v.val - 1) ≤ u.sys.clk → u.bulkPort a = some n → u.mem.retv = false → exec (.creditSend a v) s =
      .next ((u.updAssoc a (fun x => { x with
        limitTx := x.limitTx.set (v.val - 1) (u.rxLimit a (v.val - 1)), creditClk := x.creditClk.set (v.val - 1) u.sys.clk,
        limSince := x.limSince.set (v.val - 1) none })).tx n "CREDIT" [v.val - 1 + 1, (u.rxLimit a (v.val - 1)).toNat])) ∧
    ((s.assoc a).kept ≠ [] → (s.assoc a).audit = false → ∀ (n : Nat) (u : State),
      u = s.toSysClk ((s.assoc a).advClk + 40 * s.fld Reg.LNH_CFG 8 8) →
      (s.assoc a).advClk + 40 * s.fld Reg.LNH_CFG 8 8 ≤ u.sys.clk → u.bulkPort a = some n → (u.assoc a) = s.assoc a →
      (u.fld Reg.LNH_CFG 0 4 ≤ (s.assoc a).replays → n < 20 → exec (.retryTimeout a) s =
        .next (((u.updAssoc a (fun x => { x with replays := 0, replayDue := false })).setFlag (Reg.LNK_FLAGS n) 5 n).retrain n)) ∧
      ((s.assoc a).replays < u.fld Reg.LNH_CFG 0 4 → u.bulkOpen a n = false → exec (.retryTimeout a) s =
        .next (u.updAssoc a (fun x => { x with replayDue := true }))) ∧
      ((s.assoc a).replays < u.fld Reg.LNH_CFG 0 4 → u.bulkOpen a n = true → exec (.retryTimeout a) s =
        .next ((s.assoc a).kept.foldl (fun t b => t.tx n "BULK_REPLAY" ([b.vc.val, b.seq.toNat, b2n b.conc, b.slot.toNat,
            (crc32 b.payload).toNat] ++ b.payload.map (·.toNat)))
          ((u.updAssoc a (fun x => { x with replays := x.replays + 1, replayDue := false, advClk := u.sys.clk })).bumpLane n
            (Reg.LNK_RETRY_CNT n) (s.assoc a).kept.length))))

/-- What a lane measures and learns (R189, R197 to R201, R210, R211, R213). An echo gives half the time beyond the far end's
own; the measured delay goes to LNK_DLY, the lane is assessed again; a reply later than 10 µs is a lost one, and none within
10 µs is counted. A declaration is noted, and one that differs from the one before, also across a loss of LINK_UP, is flagged.
A write of the route is a write of LNK_CTRL; where it takes effect the route moves to a usable lane. Discarded and orphaned
blocks count; a data block of an open run is no orphan. -/
def Obligations.LaneCommands : Prop :=
  ∀ (s : State) (n : Fin 20), s.up →
    (∀ (tag : BitVec 16) (turn : BitVec 24) (rtt k : Nat), (s.lane n).echo = some (tag.toNat, k) → s.linkUp n = true →
      (s.sys.clk ≤ k + 4000 → (rtt - turn.toNat) / 2 ≤ 250000 → ∀ u : State,
        u = (((s.updLane n (fun l => { l with d := some ((rtt - turn.toNat) / 2), echo := none })).setReg
          (Reg.LNK_DLY n) (word ((rtt - turn.toNat) / 2))).setReg (Reg.LNK_RTT n) (word rtt)) →
        exec (.echoRspRx ⟨n, by omega⟩ tag turn rtt) s = .next ((((u.updLane n (fun l => { l with latSent := true })).tx n "LAT"
          [(rtt - turn.toNat) / 2, tag.toNat]).assess n).qualCheck n)) ∧
      (k + 4000 < s.sys.clk → exec (.echoRspRx ⟨n, by omega⟩ tag turn rtt) s =
        .next ((s.updLane n (fun l => { l with echo := none })).bump (Reg.LNK_ECHO_LOST n)))) ∧
    (∀ (x : Nat × Nat) (u : State), (s.lane n).echo = some x → u = s.toSysClk (x.2 + 4000) → x.2 + 4000 ≤ u.sys.clk →
      exec (.echoTimeout ⟨n, by omega⟩) s =
        .next ((u.updLane n (fun l => { l with echo := none })).bump (Reg.LNK_ECHO_LOST n))) ∧
    (s.linkUp n = true → exec (.echoNow n) s = .next ((s.updLane n (fun l => { l with
      tag := ((s.lane n).tag + 1) % 65536, echo := some (((s.lane n).tag + 1) % 65536, s.sys.clk) })).tx n "ECHO_REQ"
        [((s.lane n).tag + 1) % 65536])) ∧
    (∀ (dDn dUp : BitVec 12) (conc : BitVec 16) (cport : BitVec 4) (alt : Bool), s.linkUp n = true → (s.lane n).decl = none →
      ∀ (x : Decl) (u : State), x = ⟨dDn.toNat, dUp.toNat, conc.toNat, cport.toNat, alt⟩ →
      u = ((s.updLane n (fun l => { l with decl := some x, lastDecl := some x })).setReg
        (Reg.LNK_DECL n) (word (dDn.toNat + dUp.toNat * 2 ^ 16))).setReg (Reg.LNK_CONC n)
          (word (conc.toNat + cport.toNat * 2 ^ 16 + b2n alt * 2 ^ 20)) →
      ((s.lane n).lastDecl = none ∨ (s.lane n).lastDecl = some x →
        exec (.declareRx n dDn dUp conc cport alt) s = .next ((u.assess n).qualCheck n)) ∧
      (∀ y, (s.lane n).lastDecl = some y → y ≠ x → exec (.declareRx n dDn dUp conc cport alt) s =
        .next (((u.setFlag (Reg.LNK_FLAGS n) 3 n).assess n).qualCheck n))) ∧
    exec (.routeWrite n) s = exec (.registerWrite [routeEntry n]) s ∧
    (∀ p, s.primaryOf n = some p → (s.assoc p).route ≠ some n.val → s.qualApart n = true → s.routeTo n = (true, s.moveTo p n)) ∧
    (∀ p, s.primaryOf n = some p → (s.assoc p).route = some n.val → s.routeTo n = (true, s)) ∧
    (∀ p, s.primaryOf n = some p → (s.assoc p).route ≠ some n.val → s.qualApart n = false → s.routeTo n = (false, s)) ∧
    ((s.lane n).runLeft = 0 → exec (.orphanBlock n) s = .next (s.bump (Reg.LNK_ORPHAN n))) ∧
    (0 < (s.lane n).runLeft → exec (.orphanBlock n) s = .next (s.updLane n (fun l => { l with runLeft := l.runLeft - 1 }))) ∧
    exec (.ctlBlockDiscard ⟨n, by omega⟩) s = .next (s.bump (Reg.LNK_CTL_ERR n)) ∧
    exec (.ctlBlockDiscard 20) s = .next (s.bump Reg.PAIR_CTL_ERR)

/-! ### The endpoint ledger (chapter 09) -/

/-- The merge of R225: an item reported by the endpoint the ledger knows leaves each counter at the larger of the two values,
and the record neither STALE nor MISSED; an endpoint that is new to the ledger is taken as it reports itself. The counters of
an endpoint never go back (R225): after a RECONCILE each is the larger of its own and the record's, and STATE and LIMSET are
the record's. -/
def Obligations.CountersNeverFall : Prop :=
 (∀ (s : State) (a : Nat) (i : LdgItem), s.mirrored = false → s.ldg.mirror = [] → mwf (fun _ => Rec.empty) s.ldg.recs = true →
    ((s.recAt a).state ≠ 0 → (s.recAt a).id = i.id → ∃ r, (s.mergeOne a i).recAt a = r ∧
      r.nsw = max (s.recAt a).nsw i.nsw.toNat ∧ r.nth = max (s.recAt a).nth i.nth.toNat ∧
      r.qah = max (s.recAt a).qah i.qah.toNat ∧ r.hrs = max (s.recAt a).hrs i.hrs.toNat ∧
      r.stale = false ∧ r.missed = false ∧ r.id = i.id) ∧
    ((s.recAt a).state = 0 → (s.mergeOne a i).recAt a = s.recOf i) ∧
    (∀ b, b ≠ a → (s.recAt a).state ≠ 0 ∧ (s.recAt a).id = i.id ∨ (s.recAt a).state = 0 →
      (s.mergeOne a i).recAt b = s.recAt b)) ∧
 (∀ o r : LdgItem,
    (LdgItem.reconcile o r).nsw.toNat = max o.nsw.toNat r.nsw.toNat ∧ (LdgItem.reconcile o r).nth.toNat = max o.nth.toNat r.nth.toNat ∧
    (LdgItem.reconcile o r).qah.toNat = max o.qah.toNat r.qah.toNat ∧ (LdgItem.reconcile o r).hrs.toNat = max o.hrs.toNat r.hrs.toNat ∧
    (LdgItem.reconcile o r).state = r.state ∧ (LdgItem.reconcile o r).limset = r.limset ∧ (LdgItem.reconcile o r).id = o.id)

/-- The sweep (R224 to R227, R230, R236): a group with STALE records that the pass has not visited comes first, then the next
group of the lane; a report that fits no visit or names no endpoint only counts, a report of a submodule that is not refused
or under quarantine is merged item by item and answered by a RECONCILE, one under quarantine is kept apart, one of a refused
submodule changes nothing; a visit without a report marks its live records MISSED and comes again at the end of the pass. The
ledger's store (R235, R236, R343): a change the standby has not acknowledged in 20 µs is applied all the same, and its
acknowledgement counts as lost; an image is a copy of the records under the next number, put with the CRCs of its pages into
the slot that does not hold the latest one, and a failed one leaves the other slot as it is. -/
def Obligations.LedgerCommands : Prop :=
 ((∀ (s : State) (lane : Fin 20) (w : Sweep) (n f : Nat), s.up → w = s.ldg.sweeps.getD lane Sweep.fresh →
    s.flag Reg.LDG_CFG 2 = true → s.isActive = true → s.laneMode = true → w.visit = none → w.done = false →
    (s.staleGroup lane = some (n, f) → exec (.sweepVisit lane) s =
      .next (({ s with ldg := { s.ldg with sweeps := upd s.ldg.sweeps lane (fun w => { w with seen := w.seen ++ [(n, f)] }) } } :
        State).sendVisit lane n f false)) ∧
    (s.staleGroup lane = none → s.nextGroup lane w.smn w.ep = some (n, f) → exec (.sweepVisit lane) s =
      .next (({ s with ldg := { s.ldg with sweeps := upd s.ldg.sweeps lane (fun w => { w with smn := n, ep := f + 5 }) } } :
        State).sendVisit lane n f false))) ∧
  (∀ (s : State) (lane : Nat) (n f : Nat), s.staleGroup lane = some (n, f) →
    (n, f) ∉ (s.ldg.sweeps.getD lane Sweep.fresh).seen ∧
    ((s.ldg.sweeps.getD lane Sweep.fresh).smn < n ∨
      ((s.ldg.sweeps.getD lane Sweep.fresh).smn = n ∧ (s.ldg.sweeps.getD lane Sweep.fresh).ep ≤ f))) ∧
  (∀ (s : State) (smn : Fin 4096) (first : BitVec 13) (tag : Word) (items : List LdgItem), s.up → s.laneMode = true →
    (items = [] ∨ 5 < items.length → exec (.reportRx smn first tag items) s = .next (s.bump Reg.LDG_SWEEP_MISS)) ∧
    (items ≠ [] → items.length ≤ 5 → items.any (fun i => i.typ == 255) = false → ∀ lane slot, s.slotOf smn = some (lane, slot) →
      ∀ u : State, u = { s with ldg := { s.ldg with sweeps := upd s.ldg.sweeps lane (fun w => match w.visit with
        | some v => if v.smn = smn.val ∧ v.first = first.toNat then { w with visit := none } else w
        | none => w) } } →
      ((s.sm smn).acc ≠ 2 → (s.sm smn).acc ≠ 3 → (s.sm smn).repl ≠ 1 → exec (.reportRx smn first tag items) s =
        .next (((items.mapIdx (fun k i => (epAddr smn (first.toNat + k), i))).foldl (fun s p => s.mergeOne p.1 p.2)
          u).sendReconcile smn first.toNat tag.toNat items.length)) ∧
      ((s.sm smn).acc = 2 → exec (.reportRx smn first tag items) s =
        .next ((items.mapIdx (fun k i => (epAddr smn (first.toNat + k), i))).foldl (fun s p => s.mergeQuar p.1 p.2) u)) ∧
      ((s.sm smn).acc = 3 → exec (.reportRx smn first tag items) s = .next u))) ∧
  (∀ (s : State) (a : Nat) (i : LdgItem), (s.mergeQuar a i).ldg.recs = s.ldg.recs) ∧
  (∀ (s : State) (smn : Fin 4096) (first : BitVec 13) (lane slot : Nat) (v : Visit), s.up → s.slotOf smn = some (lane, slot) →
    (s.ldg.sweeps.getD lane Sweep.fresh).visit = some v → v.smn = smn.val → v.first = first.toNat → v.again = false →
    lane < 20 → ∃ t, exec (.reportTimeout smn first) s = .next t ∧
      (t.ldg.sweeps.getD lane Sweep.fresh).visit = none ∧
      (t.ldg.sweeps.getD lane Sweep.fresh).miss =
        (s.ldg.sweeps.getD lane Sweep.fresh).miss ++ [(smn.val, first.toNat, v.n)] ∧
      t.reg Reg.LDG_SWEEP_MISS = satInc (s.reg Reg.LDG_SWEEP_MISS) ∧
      (s.mirrored = false → s.ldg.mirror = [] → mwf (fun _ => Rec.empty) s.ldg.recs = true →
        ∀ k, k < v.n → (s.recAt (epAddr smn (first.toNat + k))).state ≠ 0 →
          (t.recAt (epAddr smn (first.toNat + k))).missed = true))) ∧
 ((∀ (s u : State) (m : LdgMirror), s.up → s.ldg.mirror = [m] → u = s.toSysClk (m.since + 8000) →
    (m.since + 8000 ≤ u.sys.clk → exec .ldgMirrorTimeout s =
      .next ((({ u with ldg := { u.ldg with mirror := [] } } : State).ackLost).putRec m.addr m.r)) ∧
    (u.sys.clk < m.since + 8000 → exec .ldgMirrorTimeout s = .next s)) ∧
  (∀ s : State, s.up → s.ldg.imgBusy = none → exec .ldgImageStart s = .next { s with ldg := { s.ldg with
    imgBusy := some { seq := s.regN Reg.LDG_IMG_SEQ + 1, recs := s.ldg.recs, crcs := [] } } }) ∧
  (∀ (s : State) (i a b : LdgImage), s.up → s.ldg.imgBusy = some i → s.ldg.imgA = some a → s.ldg.imgB = some b →
    a.valid = true → b.valid = true → a.seq < b.seq →
    exec (.ldgImageDone true) s = .next (((({ s with ldg := { s.ldg with imgBusy := none, imgA := some i.sealed } } : State).setReg
      Reg.LDG_IMG_SEQ (word i.seq)).setReg Reg.LDG_IMG_TAI_LO (word s.taiNs)).setReg Reg.LDG_IMG_TAI_HI (word (s.taiNs / 2 ^ 32))) ∧
    exec (.ldgImageDone false) s = .next (({ s with ldg := { s.ldg with
      imgBusy := none, imgA := none } } : State).setFlag Reg.LDG_FLAGS 3)) ∧
  (∀ i : LdgImage, i.sealed.valid = true ∧ i.sealed.recs = i.recs ∧ i.sealed.seq = i.seq))

/-- Identity (R223, R229, R230, R232, R233). A signed identity that the ledger knows, or of a number without records, is
accepted, but for a submodule refused or under quarantine, which only opening its number releases; an unsigned, a foreign or
an absent one counts, is flagged and goes by LDG_CFG.POLICY. Every decision takes effect four steps later, one decided again
at the boundary of the earlier; a held wear request is released when a spare and the gap allow it. -/
def Obligations.IdentityCommands : Prop :=
  (∀ (s : State) (n : Fin 4096) (b : IdentBody) (k : List Byte), s.up → s.laneMode = true → s.ldg.key = some k →
    b.nep.toNat ≠ 0 → b.nep.toNat ≤ 8192 → (s.sm n).repl = 0 →
    (Config.ecdsaVerify k (identSigned b) b.sig = true → (s.recLatest (epAddr n 0)).state ≠ 0 →
      (s.recLatest (epAddr n 0)).id = b.id → ∀ u : State, u = s.updSm n (fun m => { m with
        identAt := none, signed := true, nep := b.nep.toNat % 2 ^ 14, foreign := false }) →
      (s.accLatest n < 2 → exec (.identRx n b) s = .next (u.decide4 (.accept n 1))) ∧
      (2 ≤ s.accLatest n → exec (.identRx n b) s = .next u)) ∧
    (Config.ecdsaVerify k (identSigned b) b.sig = true → s.liveLatest n = [] → (s.recLatest (epAddr n 0)).state = 0 →
      s.accLatest n < 2 → exec (.identRx n b) s = .next (((s.updSm n (fun m => { m with
        identAt := none, signed := true, nep := b.nep.toNat % 2 ^ 14, foreign := false })).acceptNew n b.id).decide4
          (.accept n 1))) ∧
    (Config.ecdsaVerify k (identSigned b) b.sig = true → s.liveLatest n ≠ [] → (s.recLatest (epAddr n 0)).id ≠ b.id →
      exec (.identRx n b) s = .next ((((s.updSm n (fun m => { m with
        identAt := none, signed := true, nep := b.nep.toNat % 2 ^ 14, foreign := true })).bump
          Reg.LDG_ID_FAIL).setFlagEach Reg.LDG_FLAGS 0 n).acceptBy n b.id)) ∧
    (Config.ecdsaVerify k (identSigned b) b.sig = false → exec (.identRx n b) s = .next ((((s.updSm n (fun m => { m with identAt := none, signed := false, nep := b.nep.toNat % 2 ^ 14, foreign := false })).bump
        Reg.LDG_ID_FAIL).setFlagEach Reg.LDG_FLAGS 0 n).acceptBy n b.id))) ∧
  (∀ (s : State) (n : Fin 4096) (t : Nat) (u : State), s.up → (s.sm n).identAt = some t → u = s.toSysClk (t + 40000000) →
    (t + 40000000 ≤ u.sys.clk → exec (.identTimeout n) s =
      .next ((((u.updSm n (fun m => { m with identAt := none, signed := false, foreign := false })).bump
        Reg.LDG_ID_FAIL).setFlagEach Reg.LDG_FLAGS 0 n).acceptBy n 0)) ∧
    (u.sys.clk < t + 40000000 → exec (.identTimeout n) s = .next s)) ∧
  (∀ (s : State) (n : Nat) (id : BitVec 64),
    (2 ≤ s.accLatest n → (s.sm n).repl ≠ 1 → s.acceptBy n id = s) ∧
    (s.accLatest n < 2 ∨ (s.sm n).repl = 1 →
      (s.fld Reg.LDG_CFG 0 2 = 0 → s.acceptBy n id = s.decide4 (.accept n 3)) ∧
      (s.fld Reg.LDG_CFG 0 2 = 1 → s.acceptBy n id = s.decide4 (.accept n 2)) ∧
      (s.fld Reg.LDG_CFG 0 2 = 2 → s.acceptBy n id = (s.acceptNew n id).decide4 (.accept n 1)))) ∧
  (∀ (s : State) (n : Fin 4096) (a : Nat), s.up → s.armOf n = some a → s.firstWear a = some n.val → s.readySpare a = true →
    s.gapPassed a = true → s.wearOut a = false → exec (.wearRelease n) s =
      .next ((s.updSm n (fun m => { m with wearReq := false })).decide4 (.retire n 3))) ∧
  (∀ (s : State) (d : LdgDec) (k : Nat), s.up → s.ldg.decs = [(k, d)] →
    (k ≤ s.stepNo → exec .ldgDecisionApply s =
      .next (({ s with ldg := { s.ldg with decs := [] } } : State).applyDec d).setsBoundary) ∧
    (s.stepNo < k → exec .ldgDecisionApply s = .next s.setsBoundary)) ∧
  (∀ (s : State) (d : LdgDec),
    ((∀ x ∈ s.ldg.decs, x.2.same d = false) → (s.decide4 d).ldg.decs = s.ldg.decs ++ [(s.stepNo + 4, d)]) ∧
    (∀ k e, s.ldg.decs = [(k, e)] → e.same d = true → (s.decide4 d).ldg.decs = [(k, d)]))

/-! ### The direct PWM array, the converters and the filters (chapters 10 to 12) -/

/-- The counters of the direct PWM array (R241 to R243, R252): at PER the period starts and PER leaves the count; at CMP the
raw signal falls; a delayed rising edge comes when its dead time is over; an extra compare matches once a period and starts
the scans it is routed to. A level asked for never makes A and B both active. Loading, enabling and trips of the array (R246,
R249, R250, R257, R258). LOAD_ALL makes the shadows of every counter pending; those of a disabled one are due to pass on the
clock itself, and passing takes all five; a main counter's enable is its converter's alone; an active trip input that is
enabled and not blanked latches and forces its counters, and a latch clears only with its input inactive. -/
def Obligations.PwmCommands : Prop :=
 ((∀ (s u : State) (n : Fin 24), s.up → s.ctrEn n = true → s.toCount n (s.ctr n).per = some u →
    exec (.periodStart n) s = .next ((u.updCtr n (fun c => { c with base := c.base + c.per })).periodBegin n)) ∧
  (∀ (s u : State) (n : Fin 24), s.up → s.ctrEn n = true → (s.ctr n).ost = 0 → (s.ctr n).raw = true →
    (s.ctr n).cmp < (s.ctr n).per → s.toCount n (s.ctr n).cmp = some u → exec (.cmpMatch n) s =
      .next (State.pwmEdges u (u.updCtr n (fun c =>
        { c with raw := false }.want false true u.sys.clk (u.fld (Reg.PWMn_DT n) 0 12))) n)) ∧
  (∀ (s : State) (n : Fin 24) (t k : Nat), s.up → s.running = true → k = t + s.fld (Reg.PWMn_DT n) 0 12 - s.sys.clk →
    k < s.toBoundary →
    ((s.ctr n).riseA = some t → exec (.deadTimeExpire n false) s = .next (State.pwmEdges (s.pass k)
      ((s.pass k).updCtr n (fun c => { c with sigA := true, riseA := none })) n)) ∧
    ((s.ctr n).riseB = some t → exec (.deadTimeExpire n true) s = .next (State.pwmEdges (s.pass k)
      ((s.pass k).updCtr n (fun c => { c with sigB := true, riseB := none })) n))) ∧
  (∀ (s u : State) (n : Fin 24) (r : Word), s.up → s.ctrEn n = true → r = s.reg (Reg.PWMn_XROUTE n) → s.lowPower = false →
    ((s.ctr n).xc0 < (s.ctr n).per → (s.ctr n).xm0 = false → s.toCount n (s.ctr n).xc0 = some u → bit r 16 = true →
      exec (.xcMatch n 0) s = .next ((u.updCtr n (fun c => { c with xm0 := true })).scanTrig (bits r 0 5) none)) ∧
    ((s.ctr n).xc1 < (s.ctr n).per → (s.ctr n).xm1 = false → s.toCount n (s.ctr n).xc1 = some u → bit r 17 = false →
      exec (.xcMatch n 1) s = .next (u.updCtr n (fun c => { c with xm1 := true })))) ∧
  (∀ (c : Counter) (raw : Bool) (t dt : Nat),
    (c.want raw (!raw) t dt).sigA = true → (c.want raw (!raw) t dt).sigB = true → False)) ∧
 ((∀ s : State, s.up → ∃ t, exec .pwmLoadAll s = .next t ∧ ∀ n, n < 24 → t.ctr n = { s.ctr n with pend := true }) ∧
  (∀ (s : State) (n : Nat), s.up → n < 24 → s.ctrEn n = false → (s.ctr n).pend = true →
    (s.sys.clk, Timed.load n) ∈ s.timedAll ∧ (s.timed (.load n)).ctr n = { s.ctr n with
      per := s.fld (Reg.PWMn_PER_SH n) 0 25, cmp := s.fld (Reg.PWMn_CMP_SH n) 0 25, xc0 := s.fld (Reg.PWMn_XC0_SH n) 0 25,
      xc1 := s.fld (Reg.PWMn_XC1_SH n) 0 25, ost := s.fld (Reg.PWMn_OST_SH n) 0 2, pend := false }) ∧
  (∀ (s : State) (n : Fin 24) (en : Bool), s.up →
    (s.isMain n = true → exec (.pwmEnable n en) s = .next s) ∧
    (s.isMain n = false → s.ctrEn n = true → ∀ u : State,
      u = s.setReg (Reg.PWMn_CFG n) (putBit (s.reg (Reg.PWMn_CFG n)) 0 false) →
      exec (.pwmEnable n false) s = .next (State.pwmEdges s (u.updCtr n (fun c => { c with
        fDis := true, raw := false, sigA := false, sigB := false, riseA := none, riseB := none })) n)) ∧
    (s.isMain n = false → s.ctrEn n = false → ∀ u : State,
      u = s.setReg (Reg.PWMn_CFG n) (putBit (s.reg (Reg.PWMn_CFG n)) 0 true) →
      exec (.pwmEnable n true) s = .next ((u.updCtr n (fun c => { c with base := u.tbNow n })).periodBegin n))) ∧
  (∀ (s : State) (i : Fin 8), s.up →
    (s.flag (Reg.TRIPi_CFG i) 0 = true → s.blanked i = false → (s.trip i).latch = false → exec (.tripInput i true) s =
      .next (((((s.updTrip i (fun t => { t with active := true })).updTrip i (fun t => { t with latch := true })).bump
        Reg.PWM_TRIP_CNT).setFlagEach Reg.PWM_FLAGS 1 i).pwmRefresh)) ∧
    (s.blanked i = true → exec (.tripInput i true) s = .next (s.updTrip i (fun t => { t with active := true }))) ∧
    exec (.tripInput i false) s = .next (s.updTrip i (fun t => { t with active := false })) ∧
    (∀ e, (s.trip i).blankEnd = some e → e ≤ s.sys.clk → (s.trip i).active = false → exec (.blankClose i) s =
      .next ((s.pass 0).updTrip i (fun t => { t with blankEnd := none })))) ∧
  (∀ (s : State) (mask : BitVec 8), s.up → exec (.tripClr mask) s = .next { s with pwm := { s.pwm with
    trips := s.pwm.trips.mapIdx (fun i t => if mask.toNat.testBit i && !t.active then { t with latch := false } else t) } }))

/-- Scans and urgent conversions (R264 to R268). A trigger starts a scan on the core that serves each group of its mask, an
idle core at once; a trigger that meets a scan under way is one too many. An urgent request is converted at once by an idle
core; of a privileged entry it interrupts the conversion, at most twice in a scan; else it is dropped and counted. -/
def Obligations.ScanCommands : Prop :=
  (∀ (s : State) (m : BitVec 5), s.up → exec (.adcSwtrig m) s = .next (s.scanTrig m.toNat none 4) ∧
    (s.lowPower = false → exec (.scanTrigger m) s = .next (s.scanTrig m.toNat none)) ∧
    (s.lowPower = true → exec (.scanTrigger m) s = .next s)) ∧
  (∀ (s : State) (level : Bool), s.up → ∀ u : State, u = { s with adc := { s.adc with trigPin := level } } →
    (level = s.adc.trigPin → exec (.trigInEdge level) s = .next u) ∧
    (level = !s.adc.trigPin → s.flag Reg.ADC_TRIGIN 8 = true → s.flag Reg.ADC_TRIGIN 9 = !level →
      exec (.trigInEdge level) s = .next (u.scanTrig (s.fld Reg.ADC_TRIGIN 0 5) none))) ∧
  (∀ (s : State) (g : Fin 4), (s.acore g).conv = .idle → s.spareServes g = false → s.groupDown g = false →
    s.fld (Reg.GRPg_SCAN g) 0 8 ≠ 0 → s.scanTrig (2 ^ g.val) none = s.scanBegin g none false) ∧
  (∀ (s : State) (c : Nat) (a : Option Nat) (p : Nat), (s.acore c).conv = .entry p → (s.acore c).trigClk ≠ s.sys.clk →
    s.trigCore c a = (s.bump Reg.ADC_TRIG_OVR).setFlag Reg.ADC_FLAGS 4 c) ∧
  (∀ (s : State) (g : Fin 4) (pos : Fin 8), s.up → s.groupDown g = false →
    ((s.acore (s.server g)).conv = .idle → exec (.urgentRequest g pos) s = .next (s.updCore (s.server g) (fun x => { x with
      conv := .urgent pos (s.flag (Reg.GRPg_SCAN g) (8 + pos)) true, sampled := s.sys.clk, queued := none }))) ∧
    (∀ p, (s.acore (s.server g)).conv = .entry p → s.flag (Reg.GRPg_SCAN g) (8 + pos) = true →
      (s.acore (s.server g)).preempts < 2 → exec (.urgentRequest g pos) s = .next (s.updCore (s.server g) (fun x => { x with
        conv := .urgent pos true false, resume := some p, preempts := x.preempts + 1, sampled := s.sys.clk }))) ∧
    (∀ p, (s.acore (s.server g)).conv = .entry p → s.flag (Reg.GRPg_SCAN g) (8 + pos) = false →
      exec (.urgentRequest g pos) s = .next ((s.bump Reg.ADC_URG_DROP).setFlag Reg.ADC_FLAGS 5)))

/-- Conversions end (R263, R264, R269, R272): a result reaches its register and the chain with its tags, 150 ns after its
sampling instant; one that does not complete is a failed check, the third in a row a faulted core; a check within 64 codes of
its reference clears the failures. Clamps and references (R270, R271): an input whose clamp begins to conduct counts and is
flagged; a group that takes another reference, by a write of its GRPg_REF that takes effect at a boundary, is unsettled for
that reference's time; a reference that fails hands its group to the supply reference. -/
def Obligations.ConverterCommands : Prop :=
 ((∀ (s : State) (c : Fin 5) (code : Int) (p g : Nat), s.up → s.clk.apllAt = none → (s.acore c).conv = .entry p →
    ∀ u w : State, u = s.toSysClk ((s.acore c).sampled + s.convClk + 20) → u.groupOf c = some g → (s.acore c).angle = none →
    ∀ r, r = u.resultWord c g p code false (s.acore c).resumed → w = (u.resultOut c g p r).nextConv c →
    exec (.conversionDone c code) s = .next (w.fltResult (8 * g + p) r none
      (w.stepNo * 2 ^ 22 + (w.ang.acc.toNat / 2 ^ 32) % 2 ^ 22) (w.taiOf (w.stepNo * 2 ^ 22 + (w.ang.acc.toNat / 2 ^ 32) % 2 ^ 22)))) ∧
  (∀ (s : State) (c : Fin 5) (code : Int), s.up → s.clk.apllAt = none → (s.acore c).conv = .check 1 → (s.acore c).chkBad = false →
    (s.acore c).chkVoid = false → (s.acore c).nbrNext = false → (s.acore c).clampEnd ≤ (s.acore c).sampled →
    (code + 16384).natAbs ≤ 64 → ∃ t, exec (.conversionDone c code) s = .next t ∧ (t.acore c).fails = 0 ∧
      (t.acore c).conv = .idle) ∧
  (∀ (s : State) (c : Fin 5) (pos : Nat) (pr b : Bool), s.up → s.clk.apllAt = none → (s.acore c).conv = .urgent pos pr b →
    (s.acore c).fails = 2 → ∃ t, exec (.conversionTimeout c) s = .next t ∧ (t.acore c).faulted = true ∧
      (t.acore c).conv = .idle) ∧
  (∀ (s : State) (g : Fin 4), s.up → s.patchBusy = false → s.mode = .maintain →
    exec (.adcPatchGo g) s = .next { s with adc := { s.adc with spare := .wanted g } }) ∧
  (∀ (s : State) (g : Fin 4), s.up → s.adc.spare = .wanted g → ∃ t, exec .sparePatch s = .next t ∧ t.adc.spare = .cal g (s.sys.clk + 9440000) ∧
    t.flag Reg.ADC_STAT 4 = false ∧ t.flag Reg.ADC_STAT 5 = true) ∧
  (∀ (s u : State) (g : Fin 4) (e : Nat), s.up → s.adc.spare = .cal g e → u = s.toSysClk e → e ≤ u.sys.clk →
    exec .spareCalDone s = .next { u with adc := { u.adc with spare := .calDone g } }) ∧
  (∀ (s : State) (g : Fin 4), s.up → s.adc.spare = .serving g → s.flag Reg.ADC_STAT g = false → s.mode = .maintain →
    exec .adcPatchRelease s = .next { s with adc := { s.adc with spare := .release g } })) ∧
 ((∀ (s : State) (i : Fin 32), s.up → s.flag Reg.ADC_CLAMP_STAT i = false → exec (.clampOverdrive i true) s =
    .next (((s.setReg Reg.ADC_CLAMP_STAT (putBit (s.reg Reg.ADC_CLAMP_STAT) i true)).bump Reg.ADC_CLAMP_CNT).setFlag Reg.ADC_FLAGS 3 i)) ∧
  (∀ (s : State) (i : Fin 32), s.up → exec (.clampOverdrive i false) s =
    .next (s.setReg Reg.ADC_CLAMP_STAT (putBit (s.reg Reg.ADC_CLAMP_STAT) i false))) ∧
  (∀ (s : State) (g : Fin 4) (src : Fin 3), s.up →
    exec (.refSelect g src) s = .next (s.registerWrite [writeEntry (Reg.GRPg_REF g) (word src)])) ∧
  (∀ (s0 s : State) (g : Fin 4) (v : Word), s.up → ∃ t, State.writeHook s0 s (Reg.GRPg_REF g) v = t ∧
    t.adc.src = s.adc.src.set g (s.fld (Reg.GRPg_REF g) 0 2) ∧ t.adc.settleEnd = s.adc.settleEnd.set g
      (some (s.sys.clk + nth 8000 [80000, 20000] (s.fld (Reg.GRPg_REF g) 0 2))) ∧
    t.flag Reg.ADC_STAT (16 + g) = false ∧ t.flag Reg.ADC_STAT (20 + g) = false) ∧
  (∀ (s : State) (g : Fin 4) (k : Nat), s.up → s.adc.settleEnd.getD g none = some k → k ≤ s.sys.clk →
    ∃ t, exec (.refSettled g) s = .next t ∧ t.adc.settleEnd.getD g none = none ∧ t.flag Reg.ADC_STAT (16 + g) = true) ∧
  (∀ (s : State) (g : Fin 4), s.up → s.adc.src.getD g 0 ≠ 2 →
    (s.flag Reg.ADC_CFG 1 = true → exec (.refFault g) s = .next ((s.setFlagEach Reg.ADC_FLAGS 2 g).refTo g 2 true)) ∧
    (s.flag Reg.ADC_CFG 1 = false → exec (.refFault g) s = .next (s.setFlagEach Reg.ADC_FLAGS 2 g))) ∧
  (∀ (s : State) (g : Fin 4), s.up → s.adc.src.getD g 0 = 2 → exec (.refFault g) s = .next s))

/-- The filter chain (R278, R280, R285, R287, R288): a complete output leaves the channel and stands in its register with its
position; a position that passes without its sample is entered as missing and counted; the two synchronisations are writes of
their registers; a soft one has no effect for angle-locked channels, a hard one takes any. -/
def Obligations.FilterCommands : Prop :=
  (∀ (s : State) (n : Fin 32), s.up → s.fedLocked n = true → s.running = true → (s.chan n).next < (s.stepNo + 1) * 8 →
    exec (.missingSample n) s = .next ((s.toAc (((s.chan n).next - s.stepNo * 8) * 128)).missOne n)) ∧
  (∀ (s : State) (n : Fin 32) (o : FltOut) (rest : List FltOut), s.up → (s.chan n).outs = o :: rest → o.due ≤ s.sys.clk →
    s.running = false → exec (.filterOutput n) s = .next (s.fltDeliver n)) ∧
  (∀ (s : State) (mask : Word), s.up → exec (.fltSyncSoft mask) s = .next (s.registerWrite [writeEntry Reg.FLT_SYNC_SOFT mask]) ∧
    exec (.fltSyncHard mask) s = .next (s.registerWrite [writeEntry Reg.FLT_SYNC_HARD mask])) ∧
  (∀ (s : State) (mask : Word), s.up →
    ((upto 32).any (fun n => mask.toNat.testBit n && s.alock n) = true → s.woAct Reg.FLT_SYNC_SOFT mask = (true, s)) ∧
    ((upto 32).any (fun n => mask.toNat.testBit n && s.alock n) = false → ∃ t, s.woAct Reg.FLT_SYNC_SOFT mask = (true, t) ∧
      ∀ n, n < 32 → t.chan n = if mask.toNat.testBit n then { s.chan n with soft := true } else s.chan n) ∧
    ∃ t, s.woAct Reg.FLT_SYNC_HARD mask = (true, t) ∧
      ∀ n, n < 32 → t.chan n = if mask.toNat.testBit n then { s.chan n with hard := true } else s.chan n)

/-! ### Metering, acquisition and snapshots (chapters 13 and 14) -/

/-- Metering registers lose nothing (R316, R317): one addition of `n`/`d` changes register and carried error together by
exactly `n`/`d`, the error stays within half a unit, and the sets of the other quantities and tariffs do not change. The
profile (R320): closing an interval puts one record with the increments since its opening before the others, keeps 40,960 of
them and counts one that is lost. -/
def Obligations.MeterRegisters : Prop :=
 ((∀ (x : MtrReg) (n : Int) (d : Nat), 0 ≤ n → 0 < d → 0 < x.errD → 2 * x.errN.natAbs ≤ x.errD → x.res < 2 ^ 32 →
    0 < x.count * 2 ^ 32 + x.res → (x.add n d).count < 2 ^ 64 - 1 →
    (Int.ofNat ((x.add n d).count * 2 ^ 32 + (x.add n d).res) * Int.ofNat (x.add n d).errD + (x.add n d).errN) *
        Int.ofNat (x.errD * d) =
      (Int.ofNat (x.count * 2 ^ 32 + x.res) * Int.ofNat (x.errD * d) + x.errN * Int.ofNat d + n * Int.ofNat x.errD) *
        Int.ofNat (x.add n d).errD ∧
    2 * (x.add n d).errN.natAbs ≤ (x.add n d).errD ∧ 0 < (x.add n d).errD ∧ (x.add n d).res < 2 ^ 32) ∧
  (∀ (c : MtrCore) (t : Nat) (e : Energy) (k : Nat), c.regs.length = 54 → 1 ≤ t → t ≤ 8 →
    (∀ q ∈ e.quantities, k ≠ q.1 ∧ k ≠ 6 * t + q.1) → (c.accumulate t e).regs[k]? = c.regs[k]?)) ∧
 (∀ (c : MtrCore) (o : MtrOpen), c.opn = some o →
    c.close.opn = none ∧ c.close.nrec = c.nrec + 1 ∧ c.close.regs = c.regs ∧ c.close.prof.length ≤ 40960 ∧
    c.close.prof.head? = some {
      start := o.start, no := o.no, tariff := o.tariff, status := o.status,
      nsub := min 65535 o.nsub, inc := (upto 6).map (fun q => (c.reg 0 q).count - o.base.getD q 0) } ∧
    (c.prof.length < 40960 → c.close.prof.tail = c.prof ∧ c.close.plost = c.plost))

/-- Record slots (R299, R301, R304, R305): a slot with room is armed again once its record is closed; blocks of a capture fill
their frames and its end completes the record, while one no open request holds only counts; the trigger list of missed
triggers is read from its head and arming takes the enabled units of the mask, both by a write that takes effect at a
boundary. Trigger units (R292, R293): armed, of a rising unit, one fires exactly when it was primed below level minus
hysteresis and the sample reaches the level; a sample marked unusable fires nothing and clears both primings. SNAP (R306 to
R308): a raising latches every register set at one moment into the next of four buffers, under the next number; one that comes
during the copy is noted as late and counted; the copy's end makes the buffer the newest. -/
def Obligations.AcquisitionCommands : Prop :=
 ((∀ (s : State) (k : Fin 16), s.up → (s.slotK k).st = 4 → s.slotRoom k = true → s.flag (Reg.SLOTk_CFG k) 3 = false →
    exec (.recordClose k) s = .next (s.updSlot k (fun x => { x with st := 1, mem := [], held := 0, part := [] }))) ∧
  (∀ (s : State) (k : Fin 16), s.up → (s.slotK k).st ≠ 4 → exec (.recordClose k) s = .next s) ∧
  (∀ (s : State) (mask : BitVec 8), s.up →
    exec (.acqTrgArm mask) s = .next (s.registerWrite [writeEntry Reg.ACQ_TRG_ARM (word mask.toNat)]) ∧
    exec .acqMfifoPop s = .next (s.registerWrite [writeEntry Reg.ACQ_MFIFO_POP 1])) ∧
  (∀ (s : State) (v : Word), s.up → ∃ t, s.woAct Reg.ACQ_TRG_ARM v = (true, t) ∧ ∀ u, u < 8 → t.unitOf u =
    if v.toNat.testBit u && s.flag (Reg.TRGu_CFG u) 0 then { s.unitOf u with armed := true, primR := false, primF := false, since := 0 }
    else s.unitOf u) ∧
  (∀ s : State, s.woAct Reg.ACQ_MFIFO_POP 1 = (true, { s with acq := { s.acq with mfifo := s.acq.mfifo.drop 1 } })) ∧
  (∀ (s : State) (smn : Fin 4096) (tag : BitVec 16) (n : Byte) (first cnt : Word) (data : List Word) (st : Byte), s.up →
    (s.remOpen smn tag.toNat = none →
      exec (.capDataRx smn tag n first data) s = .next ((s.bump Reg.ACQ_REM_ERR).setFlag Reg.ACQ_FLAGS 3) ∧
      exec (.capEndRx smn tag st cnt) s = .next ((s.bump Reg.ACQ_REM_ERR).setFlag Reg.ACQ_FLAGS 3)) ∧
    (∀ k, s.remOpen smn tag.toNat = some k →
      exec (.capDataRx smn tag n first data) s = .next (s.updSlot k (fun x =>
        { x with cur := x.cur.map (fun r => r.place (capFrames n.toNat first.toNat r.nmem data)) })) ∧
      (st.toNat ≠ 2 → exec (.capEndRx smn tag st cnt) s = .next (s.remEnd k)))) ∧
  (∀ (s : State) (k : Fin 16) (r : AcqRec) (t : Nat), s.up → (s.slotK k).cur = some r → r.lastClk = some t →
    ∀ v : State, v = s.toSysClk (t + 40000000) →
    (t + 40000000 ≤ v.sys.clk → exec (.remoteTimeout k) s = .next (v.remEnd k)) ∧
    (v.sys.clk < t + 40000000 → exec (.remoteTimeout k) s = .next s)) ∧
  (∀ (s : State) (k : Nat) (r : AcqRec), k < 16 → s.acq.slots.length = 16 → (s.slotK k).cur = some r → r.kind = 2 →
    (∀ i, i < r.total → r.got.any (fun g => g.1 == i) = true) →
    ∃ t, s.remEnd k = t ∧ (t.slotK k).st = 4 ∧ (t.slotK k).cur = none ∧
      t.acq.done.length = s.acq.done.length + 1 ∧ t.reg Reg.ACQ_GAP_CNT = s.reg Reg.ACQ_GAP_CNT)) ∧
 (∀ (s : State) (u : Nat) (y : TSample) (c : Word) (lvl : Int), u < 8 → s.acq.units.length = 8 → (s.unitOf u).wait = none →
    (s.unitOf u).armed = true → c = s.reg (Reg.TRGu_CFG u) → bits c 8 2 = 0 → bit c 10 = false → bit c 12 = false →
    bit c 13 = false → (s.unitOf u).since ≤ y.pos → lvl = sx (s.reg (Reg.TRGu_LVL u)) →
    ((s.unitOf u).primR = false → (s.unitOf u).primF = false → ∃ t, s.trgEval u (some y) = t ∧
      (t.unitOf u).primR = decide (y.x < lvl - Int.ofNat (s.regN (Reg.TRGu_HYST u))) ∧
      t.reg (Reg.TRGu_STAT u) = s.reg (Reg.TRGu_STAT u)) ∧
    ((s.unitOf u).primR = true → (s.unitOf u).primF = false → lvl ≤ y.x → s.sound = true →
      bits (s.reg (Reg.TRGu_STAT u)) 16 16 < 0xFFFF →
      bits ((s.trgEval u (some y)).reg (Reg.TRGu_STAT u)) 16 16 = bits (s.reg (Reg.TRGu_STAT u)) 16 16 + 1) ∧
    ((s.unitOf u).primR = true → (s.unitOf u).primF = false → y.x < lvl →
      (s.trgEval u (some y)).reg (Reg.TRGu_STAT u) = s.reg (Reg.TRGu_STAT u)) ∧
    (∃ t, s.trgEval u none = t ∧ (t.unitOf u).primR = false ∧ (t.unitOf u).primF = false ∧
      t.reg (Reg.TRGu_STAT u) = s.reg (Reg.TRGu_STAT u))) ∧
 ((∀ s : State, s.up → s.snap.busy = none → s.flag Reg.SNAP_CFG 4 = false → ∀ b : Nat,
    b = (if s.snap.seq = 0 then 0 else (s.snap.newest + 1) % 4) → exec .snapCmd s = .next { s with snap := { s.snap with
      bufs := upd s.snap.bufs b (fun _ => some
          { seq := s.snap.seq + 1, src := 1, late := 0, tai := s.taiNs, sets := s.capture }),
      busy := some b, latchClk := s.sys.clk, seq := s.snap.seq + 1 } }) ∧
  (∀ (s : State) (b : Nat), s.up → s.snap.busy = some b → s.snap.latchClk ≠ s.sys.clk → exec .snapCmd s =
    .next (({ s with snap := { s.snap with bufs := upd s.snap.bufs b (fun o => o.map (fun x =>
      { x with late := x.late ||| 1 })) } } : State).bump Reg.SNAP_BUSY_CNT)) ∧
  (∀ (s : State) (b : Nat), s.up → s.snap.busy = some b →
    exec .snapCopyDone s = .next { s with snap := { s.snap with busy := none, newest := b } }) ∧
  (∀ (s : State) (level : Bool), s.up → ∀ u : State, u = { s with snap := { s.snap with pinIn := level } } →
    (level = !s.snap.pinIn → s.flag Reg.SNAP_CFG 0 = true → s.flag Reg.SNAP_CFG 1 = !level →
      exec (.snapInEdge level) s = .next (u.snapRaise 4)) ∧
    (level = s.snap.pinIn → exec (.snapInEdge level) s = .next u)))

/-! ### The pair (chapter 15) -/

/-- What the units of a pair send and take in (R197, R339 to R341, R344, R347): the heartbeat on both paths with the unit's
own state and a running number; a heartbeat clears the path's silence and a detection; reach sent at ac 128 and taken in with
its age; a sample of the own step kept when it is complete in time, and left when it comes late; an echo request answered. -/
def Obligations.PairBlocks : Prop :=
  (∀ s : State, s.up → s.paired = true → s.pair.silence = false → s.pathUp false = true → s.pathUp true = true →
    exec .heartbeatSend s = .next (let t := (s.txPair false "HEARTBEAT" s.hbFields).txPair true "HEARTBEAT" s.hbFields
      { t with pair := { s.pair with hseq := (s.pair.hseq + 1) % 64 } })) ∧
  (∀ (s : State) (path : Bool) (h : Heartbeat), s.up → s.paired = true → s.role = .syncing → s.pair.ho = none →
    (s.port (20 + b2n path)).ts ≠ .confirm → epochNewer h.epoch s.pair.epochMax = false → s.pair.oldVer ≤ h.ver.toNat → s.pair.version = false →
    exec (.heartbeatRx path h) s = .next { s with pair := { s.pair with
      paths := upd s.pair.paths (b2n path) (fun p => { p with last := some s.sys.clk, silent := false }),
      hb := some h, lastHb := s.sys.clk, detect := none, decided := false, qualHb := s.pair.qual, startT := s.sys.clk,
      okT := if h.hoOk then (if s.pair.okT = 0 then s.sys.clk + 1 else s.pair.okT) else 0 } }) ∧
  (∀ s : State, s.up → s.paired = true → exec .reachSend s = .next ((s.toAc 128).pairBoth "REACH"
    [(s.toAc 128).reachBits, b2n s.unitB, b2n (bit s.sys.order 1), (s.toAc 128).linkedBits])) ∧
  (∀ (s : State) (u m : Bool) (r l : BitVec 20), s.up → s.paired = true → m = bit s.sys.order 1 →
    exec (.reachRx u m r l) s = .next (({ s with pair := { s.pair with
      preach := r.toNat, plinked := l.toNat, reachAge := some 0, meterClash := false } } : State).singleHomed)) ∧
  (∀ (s : State) (u : Bool) (row : BitVec 22) (step : Fin 1024) (l : List Word), s.up →
    s.shadowing = true → step.val = s.step10 → row.toNat = s.ang.row.toNat % 2 ^ 22 → l.length = s.mapInputs.length →
    s.gfe.done = false →
    (s.sys.clk ≤ s.sys.bclk + 640 → exec (.sampleRx u row step l) s = .next { s with pair := { s.pair with
      sample := some (s.stepNo, l.map (fun w => (val24 w, bit w 7 || bit w 5))) } }) ∧
    (s.sys.bclk + 640 < s.sys.clk → exec (.sampleRx u row step l) s = .next s)) ∧
  (∀ (s : State) (path : Bool) (tag : BitVec 16) (turn : BitVec 24), s.up → s.paired = true → s.pathUp path = true →
    exec (.pairEchoReqRx path tag turn) s = .next (s.txPair path "ECHO_RSP" [tag.toNat, turn.toNat]))

/-- The partner falls silent (R213, R348 to R351). A path silent for 6.00 µs is counted and flagged; with both silent a
standby begins a detection and an active runs isolated. A standby whose partner the witnesses of more than half the
associations miss, and that was qualified, takes over: ACTIVE, with the next epoch. Without that majority it isolates itself. -/
def Obligations.PartnerLost : Prop :=
  (∀ (s : State) (path : Bool) (t : Nat) (e : Option (Nat × Nat)), s.up →
    s.pair.paths.getD (b2n path) ⟨none, true, none⟩ = ⟨some t, false, e⟩ → t + 2400 ≤ (s.toSysClk (t + 2400)).sys.clk →
    (s.pair.paths.getD (b2n (!path)) ⟨none, true, none⟩).silent = false → ∀ u : State,
    u = s.silentPath path → u.mirrored = true → exec (.pathSilent path) s = .next u ∧
      u.reg Reg.PAIR_PATH_CNT = satInc (s.reg Reg.PAIR_PATH_CNT) ∧ u.flag Reg.PAIR_FLAGS 4 = true ∧
      (u.pair.paths.getD (b2n path) ⟨none, true, none⟩).silent = true ∧ u.mo = s.mo) ∧
  (∀ (s : State) (n : Fin 20) (w : Wit), s.up → s.isActive = false →
    (s.port n).ts ≠ .confirm → w.clk = s.sys.clk → (w.valid = true → epochNewer w.epoch s.pair.epochMax = false) →
    ∀ (hw : w.win < 8) (hs : w.step < 1024), exec (.witnessRx n w.presA w.presB w.owner w.valid w.epoch ⟨w.win, hw⟩ ⟨w.step, hs⟩) s =
      .next (if w.presA || (w.valid && !w.owner) then
        ({ s.updLane n (fun l => { l with wit := some w }) with pair := { s.pair with startT := s.sys.clk } } : State)
      else s.updLane n (fun l => { l with wit := some w }))) ∧
  (∀ (s : State) (t : Nat) (l : List (Option Bool)), s.up → s.role = .standby → s.pair.detect = some t → s.pair.decided = false →
    s.pair.hoCommit = none → l = s.primaries.map s.witnessOf →
    (l.any (·.isNone) = true → (s.toSysClk (t + 1600)).sys.clk < t + 1600 → exec .witnessDecision s = .next s) ∧
    (l.any (·.isNone) = false → s.pair.qualHb = true → l.length < 2 * (l.filter (fun o => o == some false)).length →
      ∃ u, exec .witnessDecision s = .next u ∧ u.mo.role = .active ∧ u.pair.epoch = s.pair.epoch + 1 ∧
        u.pair.detect = none ∧ u.mo.mode = s.mo.mode) ∧
    (l.any (·.isNone) = false → 2 * (l.filter (fun o => o == some false)).length ≤ l.length →
      ∃ u, exec .witnessDecision s = .next u ∧ u.mo = s.mo ∧ u.pair.isolated = true ∧ u.pair.qual = false ∧
        u.pair.epoch = s.pair.epoch ∧ u.flag Reg.PAIR_FLAGS 1 = true))

/-- Records and the transfer (R342, R343, R345, R346, R360): the record of the own step counts towards qualification when both
units came to the same result, and starts the count again, with flag and count, when they did not; a record not there at ac
1000, and eight deviating steps, are noted; an acknowledgement that does not come disqualifies the partner for 1,024 steps. -/
def Obligations.PairRecords : Prop :=
  (∀ (s : State) (r : StepRec) (d : Word), s.up → s.shadowing = true → r.step = s.step10 → r.row = s.ang.row → s.ac ≤ 1000 →
    s.pair.record = none → s.pair.adopted < s.stepNo → s.role = .standby → s.pair.usedSample = true → s.gfe.done = true →
    (s.gfe.ref1 = r.gfe.ref1 → s.gfe.ref2 = r.gfe.ref2 → s.ang.cmd = r.cmd → s.ownDigest = d →
      exec (.stepRecordRx r d) s = .next { s with pair := { s.pair with
        record := some r, entryNew := false, recGot := true, qsteps := min 1024 (s.pair.qsteps + 1) } }) ∧
    (s.ownDigest ≠ d → ∃ t, exec (.stepRecordRx r d) s = .next t ∧ t.pair.qsteps = 0 ∧
      t.reg Reg.PAIR_DIV_CNT = satInc (s.reg Reg.PAIR_DIV_CNT) ∧ t.flag Reg.PAIR_FLAGS 2 = true ∧ t.pair.record = some r)) ∧
  (∀ s : State, s.up → s.shadowing = true → s.paired = true → s.pair.recGot = false →
    exec .recMiss s = .next ((({ (s.toAc 1000) with pair := { s.pair with recOk := 0, recGot := true } } : State).bump
      Reg.PAIR_REC_MISS).setFlag Reg.PAIR_FLAGS 11)) ∧
  (∀ s : State, s.up → s.role = .standby →
    (8 ≤ s.pair.measCnt → exec .measDiv s = .next (({ s with pair := { s.pair with measCnt := 0, measOk := 0 } } :
      State).setFlagEach Reg.PAIR_FLAGS 3)) ∧ (s.pair.measCnt < 8 → exec .measDiv s = .next s)) ∧
  (∀ (s : State) (x : Transfer), s.up → s.role = .syncing → s.hbCurrent false = true → ∃ t,
    exec (.stateTransferDone x) s = .next t ∧ (s.pair.coreSeen = false → t.cmd.core = x.cmds) ∧
    (s.pair.coreSeen = true → t.cmd = s.cmd) ∧ (s.pair.xferRecs = [] → t.ldg.recs = x.ledger) ∧
    (∀ a r, s.pair.xferRecs = [(a, r)] → t.ldg.recs = mset Rec.empty x.ledger a r) ∧ t.pair.xferAdopt = true ∧
    (∀ r, s.pair.record = some r → t.pair.record = some r) ∧ (s.pair.record = none → t.pair.record = some x.srec) ∧
    t.reg Reg.PAIR_XFER = word 356 ∧ t.mo = s.mo) ∧
  (∀ (s u : State) (w : Wait), s.up → s.cmd.waits.find? (·.ack) = some w → u = s.toSysClk (w.since + 8000) →
    (w.since + 8000 ≤ u.sys.clk → exec .ackLate s = .next
      ((({ u.setFlag Reg.PAIR_FLAGS 10 with pair := { u.pair with ackBlock := 1024 } } : State).release
        (fun x => decide (x.since + 8000 ≤ u.sys.clk))).flush)) ∧
    (u.sys.clk < w.since + 8000 → exec .ackLate s = .next s)) ∧
  (∀ s : State, s.up → s.cmd.waits = [] → exec .ackLate s = .next s)

/-- How a unit of a pair changes its role (R351, R353, R355, R358, R359, R363): a standby that can commits to the boundary a
HANDOVER names; unit B hands back once A has been ready for the set time; unit B alone becomes ACTIVE with an epoch beyond
every one seen; the end of the proof's silence leads through SYNCING; a proof passes when every concentrator and submodule has
followed. The rows that stand for an action of PAIR_CTRL or a write of the firmware (R354, R361, R363, R407): a refused write
set has no effect, another waits for its boundary, or acts at once where it names only registers with their own clock or while
θ stands still (log entry 77); isolating is refused to an active unit, rejoining to one that is not isolated. -/
def Obligations.PairRoles : Prop :=
 ((∀ (s : State) (u : Bool) (reason : BitVec 3) (row : BitVec 22) (step : Fin 1024), s.up → s.role = .standby →
    s.pair.hoCommit = none → (if reason.toNat ≤ 2 then s.hoOk else s.pair.qual) = true →
    row.toNat = s.ang.row.toNat % 2 ^ 22 → exec (.handoverRx u reason row step) s = .next { s with pair := { s.pair with
      hoCommit := some { target := s.ang.row.toNat * 1024 + step, reason := reason.toNat, acked := true } } }) ∧
  (∀ s u : State, s.up → s.flag Reg.PAIR_CFG 2 = true → s.unitB = true → s.isActive = true → s.pair.okT ≠ 0 →
    u = s.toSysClk (s.pair.okT - 1 + s.regN Reg.PAIR_REVERT_T * 400000000) → s.paired = true → u.partnerBit 1 = true →
    s.pair.ho = none → s.pair.okT - 1 + s.regN Reg.PAIR_REVERT_T * 400000000 ≤ u.sys.clk → ∃ t x, exec .revert s = .next t ∧
      t.pair.ho = some x ∧ x.reason = 1 ∧ x.acked = false ∧ (x.target = u.stepNo + 1 ∨ x.target = u.stepNo + 2)) ∧
  (∀ s : State, s.up → s.pair.waitLone = true → s.unitB = true → s.role = .isolated → s.heldOut = false →
    ∀ e, e = s.pair.startT + s.regN Reg.PAIR_START_T * 400000000 →
    (e ≤ (s.toSysClk e).sys.clk → ∃ t, exec .loneStart s = .next t ∧ t.mo.role = .active ∧ t.pair.epoch = s.pair.epochMax + 1 ∧
      t.mo.mode = s.mo.mode) ∧ ((s.toSysClk e).sys.clk < e → exec .loneStart s = .next s)) ∧
  (∀ s : State, s.up → s.pair.silence = true → s.mo.role = .active → ∀ e, e = s.pair.silenceAt + 40000 →
    (e ≤ (s.toSysClk e).sys.clk → ∃ t, exec .proofSilenceEnd s = .next t ∧
      t.mo.role = .syncing ∧ t.pair.silence = false ∧ t.pair.qual = false) ∧
    ((s.toSysClk e).sys.clk < e → exec .proofSilenceEnd s = .next s)) ∧
  (∀ (s : State) (k : Nat), s.up → s.pair.proofSteps = some k →
    (k < 8 → exec .proofResult s = .next s) ∧
    (8 ≤ k → ∃ t owned bad, ∃ pass : Bool, exec .proofResult s = .next t ∧ owned ≤ s.primaries.length ∧
      pass = (decide (owned = s.primaries.length) && decide (bad = 0)) ∧ t.pair.proofSteps = none ∧
      t.reg Reg.PAIR_PROOF = word (1 + 2 * b2n pass + 4 * b2n (!s.pair.proofDir) + owned * 2 ^ 8 + min 4095 bad * 2 ^ 16) ∧
      (pass = false → t.flag Reg.PAIR_FLAGS 12 = true) ∧ (pass = true → t.flag Reg.PAIR_FLAGS 12 = s.flag Reg.PAIR_FLAGS 12)))) ∧
 ((∀ (s : State) (es : List RegEntry), s.up → ∀ ok, ok = (0 < es.length ∧ es.length < 65 ∧ s.accessVerdict es s.cmdTarget 0 false = none) →
    (¬ ok → exec (.registerWrite es) s = .next s) ∧
    (ok → s.running = true → es.all (fun e => s.fwAtOnce (entryAt e)) = false →
      exec (.registerWrite es) s = .next (s.stageFw es s.cmdTarget)) ∧
    (ok → s.running = false ∨ es.all (fun e => s.fwAtOnce (entryAt e)) = true → writesStore es = false →
      exec (.registerWrite es) s = .next (s.applyAccess es (List.replicate 8 0)).2) ∧
    (ok → s.running = false ∨ es.all (fun e => s.fwAtOnce (entryAt e)) = true → writesStore es = true →
      exec (.registerWrite es) s = .next (s.applyAccess es (List.replicate 8 0)).2.cfgWrite)) ∧
  (∀ s : State, s.up → s.pwr.booted = true → s.isActive = true →
    (s.paired = true → s.partnerBit 0 = true → s.pair.ho = none → ∃ t x, exec (.pairHandover none) s = .next t ∧
      t.pair.ho = some x ∧ x.reason = 0 ∧ x.acked = false) ∧
    (s.mode = .maintain → exec (.pairProof none) s = .next ({ s with
      pair := { s.pair with silence := true, silenceAt := s.sys.clk }, lnk := { s.lnk with disp := false } } : State).idles) ∧
    (s.mode ≠ .maintain → exec (.pairProof none) s = .next s)) ∧
  (∀ s : State, s.up → s.pwr.booted = true → s.role = .isolated →
    exec (.pairIsolate none) s = .next { s with pair := { s.pair with out := true } } ∧
    (∀ u : State, u = { s with pair := { s.pair with out := false } } → u.heldOut = false →
      exec (.pairRejoin none) s = .next u.toSyncing)) ∧
  (∀ s : State, s.up → s.pwr.booted = true → s.role ≠ .isolated → exec (.pairRejoin none) s = .next s))

/-! ### The safety channels (chapter 16) -/

/-- A demand for a safe pulse block (R376, R377, R387): SPB is in force at once and the loop off, the demand is counted and
stands in SAF_LAST_DEM; while SPB is in force a further demand only counts. -/
def Obligations.SafePulseBlock : Prop :=
  ∀ (s : State) (cause input : Nat) (sh : Bool), s.sound = true → s.saf.spb = false →
    ∃ t, s.spbDemand cause input sh = t ∧ t.saf.spb = true ∧ t.saf.swA = false ∧ t.saf.swH = false ∧ t.loopOn = false ∧
      t.saf.resetOk = false ∧ t.mo = s.mo ∧ (∀ c input' sh', (t.spbDemand c input' sh').saf = t.saf)

/-- The safety channels' start and cross-comparison (R367, R368, R370, R371, R391): a passed start test leads to XCHK with the
hardware channel under test, a failed one to FAULT with SPB in force; 1,024 agreeing steps qualify SH; a lost SH falls back to
XCHK, with a flag and, in an active unit with pulses released, a safe stop; so does a lasting disagreement. -/
def Obligations.SafetyArchitecture : Prop :=
  (∀ (s : State) (sw : BitVec 16), s.up → s.saf.arch = .start → s.laneMode = true → s.saf.fbHigh = false →
    (∃ t, exec (.safStartTest true sw) s = .next t ∧ t.saf.arch = .xchk ∧ t.saf.shTest = true ∧ t.saf.sw1 = sw ∧
      t.saf.spb = s.saf.spb) ∧
    (∃ t, exec (.safStartTest false sw) s = .next t ∧ t.saf.arch = .fault ∧ t.saf.spb = true ∧ t.mo.causes.selfFail = true)) ∧
  (∀ s : State, s.up → s.saf.arch = .xchk → s.saf.shTest = true →
    (1024 ≤ s.saf.agree → exec .shQualify s = .next { s with saf := { s.saf with shQual := true } }) ∧
    (s.saf.agree < 1024 → exec .shQualify s = .next s)) ∧
  (∀ (s : State) (why : ShMeasure), s.up → s.safActs = true → s.saf.arch = .diverse → s.isActive = false →
    exec (.shLost why) s = .next ((({ s with saf := { s.saf with
      arch := .xchk, shQual := false, agree := 0, shTest := s.saf.shTest && decide (why ≠ .selfTest) } } : State).setFlag Reg.SAF_FLAGS 0).soutUpdate)) ∧
  (∀ s : State, s.up → s.saf.arch = .diverse → exec .chDisc s = .next ((s.setFlag Reg.SAF_FLAGS 1).ssrDemand)) ∧
  (∀ s : State, s.up → s.saf.arch = .xchk → exec .chDisc s = .next s)

/-- Safety inputs (R384 to R386): an enabled input of function SPB or SS-R that leaves rest demands its function; the clock at
which its channels begin to disagree is kept, and channels that disagree too long latch the input's fault and demand the same;
a change of the coding switch in service of a direct-mode unit is a demand for a safe stop (R391). Monitored functions, the
loop and the outputs (R372, R374, R378 to R381, R387, R392): a function violated for its time acts as it is set to, SPB with
its cause or a safe stop; the loop found open is a demand of cause 8, found stuck 100 µs after it was opened a flag that keeps
it off; the limit of a safe stop expired during the bind-off is a pulse block of cause 5; a proof test that does not end has
failed. -/
def Obligations.SafetyInputs : Prop :=
 ((∀ (s : State) (k : Fin 8) (chB level : Bool), s.up → s.atRest k = true → s.sinEn k = true → s.safActs = true → ∀ u w : State,
    u = s.updSin k (fun i => if chB then { i with b := level } else { i with a := level }) → u.atRest k = false →
    w = u.updSin k (fun i => { i with leftAt := some s.sys.clk, bothLeft := false }) →
    (s.sinFunc k = 0 → exec (.sinChange k chB level) s = .next (((w.sinApart k).spbDemand 1 k).soutUpdate)) ∧
    (s.sinFunc k = 1 → exec (.sinChange k chB level) s = .next (((w.sinApart k).ssrDemand k).soutUpdate))) ∧
  (∀ (s : State) (k : Fin 8), k.val < s.saf.sins.length → s.sinEn k = true →
    (s.restA k = s.restB k → ((s.sinApart k).sin k).apart = none) ∧
    (s.restA k ≠ s.restB k → ((s.sinApart k).sin k).apart = some ((s.sin k).apart.getD s.sys.clk))) ∧
  (∀ (s u v : State) (k : Fin 8) (t : Nat), s.up → s.sinEn k = true → s.safActs = true → (s.sin k).fault = false →
    s.restA k = true → s.restB k = false → s.saf.proof = none → s.sinFunc k = 0 → (s.sin k).apart = some t →
    v = s.toSysClk (t + (s.sinDisc k - 1) * 400000 + 1) →
    u = (((v.updSin k (fun i => { i with apart := none })).updSin k (fun i => { i with seenB := true })).updSin k
      (fun i => { i with fault := true })).setFlag Reg.SAF_FLAGS 4 k →
    (t + (s.sinDisc k - 1) * 400000 + 1 ≤ v.sys.clk →
      exec (.sinFault k) s = .next (((u.snapSafety.spbDemand 1 k).soutUpdate).flush)) ∧
    (v.sys.clk < t + (s.sinDisc k - 1) * 400000 + 1 → exec (.sinFault k) s = .next s)) ∧
  (∀ (s : State) (k : Fin 8), s.up → (s.sin k).apart = none → exec (.sinFault k) s = .next s) ∧
  (∀ (s : State) (sw : BitVec 16), s.up → exec (.sw1Read s.saf.sw1) s = .next s ∧
    (sw ≠ s.saf.sw1 → s.safActs = true → s.laneMode = false → exec (.sw1Read sw) s =
      .next ((({ s with saf := { s.saf with sw1 := sw } } : State).setFlag Reg.SAF_FLAGS 8).ssrDemand)) ∧
    (sw ≠ s.saf.sw1 → s.laneMode = true → exec (.sw1Read sw) s = .next { s with saf := { s.saf with sw1 := sw } }))) ∧
 ((∀ s : State, s.up → s.slfActs = true → msFs (s.regN Reg.SPS_SLF_T) ≤ s.saf.slfT →
    (s.flag Reg.SPS_CFG 1 = false → exec (.slfViolation false) s = .next (s.spbDemand 2 0 false)) ∧
    (s.flag Reg.SPS_CFG 1 = true → exec (.slfViolation false) s = .next (s.ssrDemand 0 false))) ∧
  (∀ s : State, s.up → s.slaActs = true → s.saf.arch = .diverse →
    (s.flag Reg.SPS_CFG 3 = false → exec (.slaViolation true) s = .next (s.spbDemand 3 0 true)) ∧
    (s.flag Reg.SPS_CFG 3 = true → exec (.slaViolation true) s = .next (s.ssrDemand 0 true))) ∧
  (∀ s : State, s.up → s.sdpActs = true → msFs (s.regN Reg.SPS_SDP_T) ≤ s.saf.sdpT → s.flag Reg.SPS_CFG 5 = false →
    exec (.sdpViolation false) s = .next (s.spbDemand 4 0 false)) ∧
  (∀ s : State, s.up → s.loopOn = true →
    exec .pblReversal s = .next { s with saf := { s.saf with polarity := !s.saf.polarity, fbRev := true } } ∧
    exec .pblOpen s = .next ((({ s with saf := { s.saf with fbHigh := false, fbRev := false } } : State).setFlag
      Reg.SAF_FLAGS 2).spbDemand 8)) ∧
  (∀ (s u : State) (t : Nat), s.up → s.saf.offAt = some t → u = s.toSysClk (t + 40000) → t + 40000 ≤ u.sys.clk →
    exec .pblStuck s = .next ((({ u with saf := { u.saf with fbHigh := true, stuck := true, offAt := none } } : State).setFlag
      Reg.SAF_FLAGS 3).safSettle)) ∧
  (∀ s : State, s.up → s.saf.offAt = none → exec .pblStuck s = .next s) ∧
  (∀ (s u : State) (t e : Nat), s.up → s.saf.ssrT = some t → s.mode = .bindOff →
    e = s.sys.bclk + (msFs (s.regN Reg.SPS_SSR_T) - t + 2499999) / 2500000 → u = s.toSysClk e →
    (e ≤ u.sys.clk → exec .ssrTimeout s = .next (({ u with saf := { u.saf with ssrT := none } } : State).spbDemand 5)) ∧
    (u.sys.clk < e → exec .ssrTimeout s = .next s)) ∧
  (∀ s : State, s.up → s.saf.sout = List.replicate 8 false → exec .soutTestPulse s = .next s) ∧
  (∀ s : State, s.up → s.saf.sout = [true, false, false, false, false, false, false, false] → exec .soutTestPulse s =
    .next ((s.emit (.pin "SOUT0A" false)).emit (.pin "SOUT0A" true))) ∧
  (∀ (s u : State) (p : Proof), s.up → s.saf.proof = some p → p.test = 3 ∨ p.test = 5 → u = s.toSysClk (p.start + 240000000000) →
    p.start + 240000000000 ≤ u.sys.clk → exec .proofTimeout s = .next (u.proofEnd false).flush) ∧
  (∀ (s u : State) (p : Proof) (pass : Bool), s.up → s.saf.proof = some p →
    (p.test = 1 ∨ p.test = 2 ∨ p.test = 4 → exec (.proofTestDecided pass) s = .next (s.proofEnd pass).flush) ∧
    (p.test = 5 → p.await = false → p.chB = false → u = s.toSysClk (p.held + 40000000) → p.held + 40000000 ≤ u.sys.clk →
      exec (.proofTestDecided pass) s = .next ((({ u with saf := { u.saf with
        proof := some { p with chB := true, held := u.sys.clk } } } : State).soutUpdate).flush))))

/-! ### Memory, clocks, power, time and keys (chapters 18 to 20) -/

/-- Memory errors (R429, R431 to R433, R436, R438, R440). A corrected error counts against its bank and, at the limit, makes
it due for remapping; the copy's end puts the spare in its place and retires the bank; the scrubber reads word after word; a
borrowed slice stands in the shadow line, from which it comes back with its failed cells counted; a patrol error counts by
kind. -/
def Obligations.MemoryCommands : Prop :=
  (∀ (s : State) (w : BitVec 20) (u : SramUser) (p : Nat), s.up → p = s.physBank w.toNat → p < 68 →
    (s.bank p).ce + 1 < s.fld Reg.MEM_REMAP_CE 0 8 → exec (.sramEccError w true u) s =
      .next (((s.bump Reg.MEM_SRAM_CE).setFlag Reg.MEM_FLAGS 0).updBank p (fun b => { b with ce := b.ce + 1 }))) ∧
  (∀ (s : State) (w : BitVec 20), s.up → ∀ u : State, u = (((s.bump Reg.MEM_SRAM_UE).setReg Reg.MEM_UE_ADDR
      (word w.toNat)).setFlag Reg.MEM_FLAGS 1).bankDue (s.physBank w.toNat) →
    exec (.sramEccError w false .maintenance) s = .next u ∧
    (∀ a, exec (.sramEccError w false (.bulkRx a)) s = .next (u.nakOut a)) ∧
    exec (.sramEccError w false .control) s = .next (u.firmwareReset Reg.MEM_FLAGS 1)) ∧
  (∀ s : State, s.up → s.mem.scrubPos ≠ 0 → exec (.scrubStep none) s =
    .next { s with mem := { s.mem with scrubPos := (s.mem.scrubPos + 1) % 2 ^ 20 } }) ∧
  (∀ (s : State) (b q p : Nat), s.up → s.mem.copy = some (b, q) → p = s.mem.remap.getD b b → b < 64 → s.mem.remap.length = 64 →
    q < 68 → p < 68 → q ≠ p → s.dueBanks.filter (fun k => decide (k ≠ b)) = [] →
    (∀ k, k < 64 → k ≠ b → s.mem.remap.getD k k ≠ p ∧ s.mem.remap.getD k k ≠ q) → (s.bank q).due = false →
    ∃ t, exec .remapDone s = .next t ∧ t.physBank b = q ∧ (t.bank q).inService = true ∧ (t.bank p).retired = true ∧
      (t.bank p).inService = false ∧ t.mem.remaps = s.mem.remaps + 1 ∧ t.mem.copy = none) ∧
  (∀ s : State, s.up → s.flag Reg.MEM_CFG 1 = true → s.mem.slice = none → s.mem.retv = false → s.mem.skipped = [] →
    s.mem.copy = none → s.mem.wakeEnd ≤ s.sys.clk → exec .mtSliceBorrow s = .next { s with mem := { s.mem with
      slice := some s.mem.mtPos, line := (upto 32).map (fun k => s.sramRead (32 * s.mem.mtPos + k)),
      mtPos := (s.mem.mtPos + 1) % 32768,
      mtPass := if s.mem.mtPos + 1 = 32768 then s.mem.mtPass + 1 else s.mem.mtPass } }) ∧
  (∀ (s : State) (n : Nat), s.up → s.mem.slice = some n → s.mem.retv = false → exec (.mtSliceReturn []) s =
    .next (({ s with mem := { s.mem with slice := none } } : State).lineBack n).remapStart) ∧
  (∀ (s : State) (a : Word), s.up →
    exec (.dramPatrol a none) s = .next s ∧
    exec (.dramPatrol a (some true)) s = .next ((s.bump Reg.MEM_DRAM_CE).setFlag Reg.MEM_FLAGS 5) ∧
    (a.toNat < 0x4000_0000 → exec (.dramPatrol a (some false)) s = .next ((((s.bump Reg.MEM_DRAM_UE).setReg
      Reg.MEM_DRAM_UE_ADDR (word (a.toNat - a.toNat % 64))).setFlagEach Reg.MEM_FLAGS 6).ledgerBurst a.toNat))) ∧
  (∀ (s : State) (a b : BitVec 4), s.up → ∃ t, exec (.emmcLifeCheck a b 1) s = .next t ∧
    t.mem.emmcLife = a.toNat + 2 ^ 4 * b.toNat + 2 ^ 8 ∧ t.sys = s.sys)

/-- Clocks (R442, R443, R445 to R447). A loss that is declared counts and is flagged; without REF the unit runs on the backup
oscillator and asks for a safe pulse block, with no backup left it stops; a lost quad takes its ports out of service; the
dividers change together, and only once they are told to. -/
def Obligations.ClockCommands : Prop :=
  (∀ (s : State) (ppm : Word), s.up → s.clk.refOk = true → s.clk.bkOk = true → s.pll 1 = true → s.clk.sysOnBk = false →
    exec (.bkMeasure ppm) s = .next (({ s with clk := { s.clk with measured := some s.sys.clk } } : State).setReg
      Reg.CLK_BK_PPM ppm)) ∧
  (∀ (s : State) (n : Fin 10), s.up → s.flag (Reg.CLK_BANDOVRn n) 7 = true →
    exec (.bandRej n) s = .next (s.setFlagEach Reg.CLK_FLAGS 11 n)) ∧
  (∀ s : State, s.up → (s.mode = .commission → exec .clkGo s = .next { s with clk := { s.clk with go := true } }) ∧
    (s.mode ≠ .commission → exec .clkGo s = .next s) ∧
    (s.clk.go = true → exec .dividerTransfer s = .next (({ s with clk := { s.clk with go := false } } : State).setReg
      Reg.CLK_DIV (s.reg Reg.CLK_DIV_SH))) ∧ (s.clk.go = false → exec .dividerTransfer s = .next s)) ∧
  (∀ (s : State) (q : Fin 6), s.up → s.pll (4 + q) = true → (∀ n, n < 22 → n / 4 = q.val → s.linkUp n = false) →
    exec (.qpllLoss q) s = .next (((s.pllSet (4 + q) false).bump Reg.CLK_LOL_CNT).setFlagEach Reg.CLK_FLAGS (5 + q) 0 (some 4)) ∧
    exec (.qpllRelock q true) s = .next (s.pllSet (4 + q) true)) ∧
  (∀ s : State, s.up → s.pll 0 = true → s.isActive = false →
    (s.clk.bkOk = true → s.pll 1 = true → ∃ t, exec .spllLoss s = .next t ∧ t.clk.sysOnBk = true ∧ t.ang.backup = true ∧
      t.pwr.on = true ∧ t.flag Reg.CLK_FLAGS 2 = true ∧ t.flag Reg.CLK_FLAGS 12 = true) ∧
    (s.clk.bkOk = false → ∃ t, exec .spllLoss s = .next t ∧ t.pwr.on = false ∧ t.flag Reg.CLK_FLAGS 2 = true)) ∧
  (∀ s : State, s.up → s.clk.refOk = true → s.clk.bkOk = true → s.pll 1 = true → s.isActive = false →
    ∃ t, exec .refLost s = .next t ∧ t.clk.refOk = false ∧ t.clk.refOnBk = true ∧ t.clk.sysOnBk = true ∧
      t.flag Reg.CLK_FLAGS 0 = true) ∧
  (∀ s : State, s.up → s.pll 3 = true → exec .apllLoss s = .next { ((s.pllSet 3 false).bump Reg.CLK_LOL_CNT).setFlagEach
    Reg.CLK_FLAGS 4 0 (some 4) with clk := { (s.pllSet 3 false).clk with apllAt := some s.sys.clk, apllLate := false } }) ∧
  (∀ (s : State) (k : Nat), s.up → s.clk.apllAt = some k →
    exec .apllRelock s = .next (({ s with clk := { s.clk with apllAt := none } } : State).pllSet 3 true) ∧
    (s.clk.apllLate = false → ∀ u v : State, u = s.toSysClk (k + 400000) → v = { u with clk := { u.clk with apllLate := true } } →
      (u.sys.clk < k + 400000 → exec .apllRelockTimeout s = .next s) ∧
      (k + 400000 ≤ u.sys.clk → s.isActive = false → exec .apllRelockTimeout s = .next (v.setFlag Reg.CLK_FLAGS 12)) ∧
      (k + 400000 ≤ u.sys.clk → s.isActive = true → s.paired = false → exec .apllRelockTimeout s =
        .next ((v.setFlag Reg.CLK_FLAGS 12 0 (some 5)).spbDemand 10)))) ∧
  (∀ s : State, s.up → s.pll 2 = true → s.isActive = false → ∃ t, exec .dpllLoss s = .next t ∧ t.pwr.on = false ∧
    t.pwr.cause = 6 ∧ t.reg Reg.PWR_RST_CNT = satInc (s.reg Reg.PWR_RST_CNT)) ∧
  (∀ s : State, s.up → s.pll 1 = true → s.clk.sysOnBk = false → ∃ t, exec .bpllLoss s = .next t ∧ t.pll 1 = false ∧
    t.clk.bkOk = false ∧ t.pwr = s.pwr ∧ t.flag Reg.CLK_FLAGS 1 = true)

/-- Supply and reset (R95, R450 to R461). A lost input is flagged while the other holds; a warning starts the lifeline save
and counts, its end is a survived brown-out. A reset takes every register but the kept ones to its reset value, the mode to
INIT and the power off until the unit starts; the cause and the count remain. -/
def Obligations.PowerAndReset : Prop :=
  (∀ (s : State) (b : Bool) (mv : Word), s.up → mv.toNat < 33000 → (if b then s.pwr.okA else s.pwr.okB) = true →
    exec (.inputLost b mv) s = .next ((s.vinSet b mv.toNat).setFlagEach Reg.PWR_FLAGS 2 (b2n b)) ∧
    (s.vinSet b mv.toNat).pwr.okA = (b && s.pwr.okA) ∧ (s.vinSet b mv.toNat).pwr.okB = (!b && s.pwr.okB)) ∧
  (∀ (s : State) (b : Bool) (mv : Word), 33000 ≤ mv.toNat → exec (.inputRestored b mv) s = .next (s.vinSet b mv.toNat)) ∧
  (∀ (s : State) (a b : Word), s.up → s.pwr.warn = false → a.toNat < 33000 → b.toNat < 33000 → ∃ t,
    exec (.powerWarn a b) s = .next t ∧ t.pwr.warn = true ∧ t.pwr.saving = true ∧ t.pwr.saved = false ∧
    t.reg Reg.PWR_WARN_CNT = satInc (s.reg Reg.PWR_WARN_CNT) ∧ t.flag Reg.PWR_FLAGS 0 = true) ∧
  (∀ (s : State) (a b : Word), s.up → s.pwr.warn = true → 34000 < a.toNat → ∃ t, exec (.powerWarnClear a b) s = .next t ∧
    t.pwr.warn = false ∧ t.reg Reg.PWR_BOS_CNT = satInc (s.reg Reg.PWR_BOS_CNT) ∧ t.flag Reg.PWR_FLAGS 1 = true) ∧
  (∀ (s : State) (l : Lifeline), s.up → s.pwr.saving = true → s.pwr.llCap = some l → s.pwr.llA = none → s.pwr.llB = none →
    (∃ t, exec (.lifelineDone true) s = .next t ∧ t.pwr.llA = some (s.lifelineSeal l) ∧ (s.lifelineSeal l).valid = true ∧
      t.pwr.saving = false ∧ t.pwr.saved = true) ∧
    (∃ t, exec (.lifelineDone false) s = .next t ∧ t.pwr.llA = none ∧ t.pwr.saved = false ∧ t.flag Reg.PWR_FLAGS 4 = true)) ∧
  (∀ s : State, s.up → s.pwr.stuck = false → exec .rstStuck s = .next
    (({ s with pwr := { s.pwr with stuck := true, resetIn := true } } : State).setFlagEach Reg.PWR_FLAGS 3) ∧
    exec .rstStuckClear s = .next { s with pwr := { s.pwr with stuck := false, resetIn := false } }) ∧
  (∀ (s : State) (c r : Nat), s.sound = true → s.pwr.on = true → ∃ t, t = s.resetNow c r ∧ t.pwr.on = false ∧ t.pwr.cause = c ∧
    t.mode = .init ∧ t.role = .isolated ∧ t.reg Reg.PWR_RST_CNT = satInc (s.reg Reg.PWR_RST_CNT) ∧
    (∀ a, a ∉ keptRegs → t.reg a = regReset a) ∧ (∀ a, a ∈ keptRegs → a ≠ Reg.PWR_RST_CNT → t.reg a = s.reg a) ∧
    t.ldg.archive = s.ldg.archive ∧ t.cmd.core.sess = [] ∧ t.pending = s.pending) ∧
  (∀ s : State, s.pwr.on = true →
    exec .supplyReset s = .next (s.resetNow 1) ∧ (∀ r : Fin 6, exec (.railFault r) s = .next (s.resetNow 7 r)) ∧
    exec .watchdogReset s = .next (s.resetNow 4) ∧
    (s.pwr.stuck = false → s.isActive = false → exec .resetInPress s =
      .next (({ s with pwr := { s.pwr with resetIn := true } } : State).resetNow 2)) ∧
    (∀ k c, s.pwr.handoverLeft = some (k, c) → exec .resetInHandoverTimeout s = .next (s.resetNow c))) ∧
  (∀ s : State, s.pwr.booted = false → ∃ t, exec .unitStart s = .next t ∧ t.pwr.on = true ∧ t.pwr.booted = true ∧
    t.clk.refOk = true ∧ t.clk.lock = List.replicate 10 true ∧ t.pending = s.pending) ∧
  (∀ s : State, s.up → s.mode = .init → s.pwr.booted = true → s.sec.loaderOnly = false → ∀ u : State,
    u = s.angStart.minverRaise.unmappedCheck →
    exec (.initComplete false) s = .next (((u.enterMode 3 1 .safeStop).startRole).relayUpdate) ∧
    (s.saf.arch = .xchk → u.saf.arch ≠ .fault → u.row1.all id = true →
      exec (.initComplete true) s = .next (((u.enterMode 1 6 .ready).startRole).relayUpdate)) ∧
    (s.saf.arch = .xchk → u.saf.arch ≠ .fault → u.row1.all id = false →
      exec (.initComplete true) s = .next (((u.enterMode 2 6 .commission).startRole).relayUpdate)))

/-- Calendar time and the cover (R462 to R468, R476, R477, R333). An offset of the selected source moves the state by its
limits; a setting of the time is a step that the meter marks; lock, holdover and its end follow one another; an opened cover
erases the keys and closes every session, and its latch clears only with the cover closed. -/
def Obligations.CalendarAndCover : Prop :=
  (∀ (s : State) (m : PtpMsg), s.up → s.calSrc = 3 → m.domain.toNat = s.fld Reg.CAL_CFG 8 8 → m.utc = none → m.leap = none →
    exec (.ptpMessageRx m) s = .next (({ s with cal := { s.cal with port := m.port, leap := none } } : State).calOffset m.offset)) ∧
  (∀ s : State, s.up → s.calSrc ≠ 4 → exec .ppsInEdge s = .next s) ∧
  (∀ s : State, s.up → s.calSrc = 4 → s.taiNs % 1000000000 < 500000000 →
    exec .ppsInEdge s = .next (s.calOffset (Int.ofNat (s.taiNs % 1000000000)))) ∧
  (∀ (s : State) (o : Int), s.sound = true → s.regN Reg.CAL_STEP_LIM * 1000 < o.natAbs → ∃ t, t = s.calOffset o ∧
    t.cal.step = some o ∧ t.reg Reg.CAL_OFFSET = satWord o ∧ t.sys.tai = s.sys.tai) ∧
  (∀ (s : State) (k : Nat), s.up →
    (s.cal.st = .acquire → s.cal.since = some k → ∀ u : State, u = s.toSysClk (k + 4000000000) →
      (u.sys.clk < k + 4000000000 → exec .calLocked s = .next s) ∧ (k + 4000000000 ≤ u.sys.clk → exec .calLocked s =
      .next ({ u with cal := { u.cal with st := .locked } } : State).calShow)) ∧
    (s.cal.st = .locked → s.regN Reg.CAL_HOLDOVER = 0 → s.cal.last = some k → ∀ u : State, u = s.toSysClk (k + 1200000000) →
      k + 1200000000 ≤ u.sys.clk → exec .calHoldover s = .next ((({ u with cal := { u.cal with
      st := .holdover, holdSince := none, since := none } } : State).calShow).setFlag Reg.CAL_FLAGS 2)) ∧
    (s.cal.st = .holdover → s.cal.holdSince = some k → ∀ (e : Nat) (u : State), e = k + s.regN Reg.CAL_HOLDOVER * 400000000 →
      u = s.toSysClk e → e ≤ u.sys.clk → exec .calHoldoverExpire s =
      .next ({ u with cal := { u.cal with holdSince := none } } : State).calShow)) ∧
  (∀ s : State, s.up → s.calSrc = 0 → ∃ t, exec .calSet s = .next t ∧
    t.sys.tai = (s.regN Reg.CAL_SET_LO + s.regN Reg.CAL_SET_HI * 2 ^ 32) * 10 ^ 10 ∧ t.mtr.timeStep = true ∧
    t.reg Reg.CAL_STEP_CNT = satInc (s.reg Reg.CAL_STEP_CNT) ∧ t.flag Reg.CAL_FLAGS 0 = true) ∧
  (∀ s : State, s.up → s.flag Reg.CAL_CFG 5 = true → s.cal.st ≠ .invalid →
    exec .ppsOutPulse s = .next (s.emits [.pin "PPS_OUT" true, .pin "PPS_OUT" false])) ∧
  (∀ (s : State) (mv : Word), s.up → s.cal.batAbsent = false → 2700 ≤ mv.toNat → exec (.batMeasure (some mv)) s =
    .next (({ s.setReg Reg.CAL_BAT_MV mv with cal := { s.cal with batAbsent := false, batLow := false } } : State).calShow)) ∧
  (∀ s : State, s.up → exec .calTimeRead s = .next { s with cal := { s.cal with latchHi := hi32 s.taiNs } }) ∧
  (∀ s : State, s.up → s.cal.scap = true → ∃ t, exec .timeRecord s = .next t ∧ t.cal.mramSec = s.taiNs / 1000000000 ∧
    t.sys.tai = s.sys.tai ∧ t.mo = s.mo) ∧
  (∀ s : State, s.up → s.sec.latch = false → ∃ t, exec .tamperOpen s = .next t ∧ t.sec.latch = true ∧ t.sec.coverOpen = true ∧
    t.sec.devKey = none ∧ t.sec.mtrKey = none ∧ t.cmd.core.sess = [] ∧ t.mtr.sealed = false ∧
    t.reg Reg.SEC_TAMPER_CNT = satInc (s.reg Reg.SEC_TAMPER_CNT) ∧ t.flag Reg.SEC_FLAGS 0 = true) ∧
  (∀ s : State, s.up → exec .tamperClr s = .next { s with sec := { s.sec with coverOpen := false, latch := false } }) ∧
  (∀ s : State, s.sec.coverOpen = true → s.tamperClear = s)

/-! ### Sessions and host commands (chapter 17) -/

/-- Sessions and packets (R395 to R398, R411, R474). A HELLO is answered in clear where no session can be allotted and counted
where it is not well-formed; a FINISH with the right signature opens its session, with a wrong one frees it; a datagram that
is no command packet, or whose session is not allotted, counts; a gap left open for 20 ms drops what is held; a session silent
for CMD_SESS_TMO closes; a management answer completes its request, one absent for 100 ms with NO_RESPONSE. -/
def Obligations.SessionCommands : Prop :=
  (∀ (s : State) (port : HostPort) (p : List Byte), s.up → s.pwr.booted = true → s.portOpen port = true → s.asleep = false →
    (s.devReady = true ∨ port = .s0) → (s.sec.loaderOnly = false ∨ port = .s0) →
    (s.shadowing = true → exec (.hello port p) s = .next (s.clearReply port 0 0x103 [])) ∧
    (s.shadowing = false → s.freeSess = none → exec (.hello port p) s = .next (s.clearReply port 0 0x10B [])) ∧
    (∀ n, s.shadowing = false → s.freeSess = some n → helloOk p = false →
      exec (.hello port p) s = .next (s.bump Reg.CMD_AUTH_FAIL)) ∧
    (∀ n c, s.shadowing = false → s.freeSess = some n → helloOk p = true → s.helloCert p = some c → ∃ t,
      exec (.hello port p) s = .next t ∧ (t.sess n).isSome = true ∧ t.cmd.core.sess.length = s.cmd.core.sess.length + 1)) ∧
  (∀ (s : State) (port : HostPort) (n : Fin 9) (sig : List Byte) (x : Sess), s.up → s.pwr.booted = true →
    s.portOpen port = true → s.asleep = false → s.sess n.val = some x → x.fin = false → sig.length = 96 →
    (Config.ecdsaVerify x.certKey (Config.sha384 x.transcript) sig = true → exec (.finish port n sig) s =
      .next ((s.updSess n.val (fun y => { y with fin := true, last := 1, port := port, lastClk := s.sys.clk })).deliver1
        (s.mkReply ⟨n, 1, port⟩ 0x0B02 0 []))) ∧
    (Config.ecdsaVerify x.certKey (Config.sha384 x.transcript) sig = false → exec (.finish port n sig) s =
      .next ((s.closeSess n.val).bump Reg.CMD_AUTH_FAIL))) ∧
  (∀ (s : State) (port : HostPort) (d : List Byte), s.up → s.pwr.booted = true → s.portOpen port = true → s.asleep = false →
    (d.length < 48 → exec (.packetRx port d) s = .next (s.bump Reg.CMD_MALFORMED)) ∧
    (48 ≤ d.length → par d 10 2 ≤ 1400 → d.length = 48 + par d 10 2 → par d 0 1 = 1 → 0 < par d 2 1 → par d 2 1 < 9 →
      (s.sess (par d 2 1) = none → exec (.packetRx port d) s = .next (s.bump Reg.CMD_MALFORMED)) ∧
      (∀ x, s.sess (par d 2 1) = some x →
        (Config.gcmTag x.keyIn (cmdNonce x (par d 4 4)) (d.take 32) (slice d 32 (par d 10 2)) ≠ slice d (32 + par d 10 2) 16 →
          exec (.packetRx port d) s = .next (s.bump Reg.CMD_AUTH_FAIL)) ∧
        (Config.gcmTag x.keyIn (cmdNonce x (par d 4 4)) (d.take 32) (slice d 32 (par d 10 2)) = slice d (32 + par d 10 2) 16 →
          x.fin = true → exec (.packetRx port d) s = .next (s.hostIn ⟨Fin.ofNat 9 (par d 2 1), word (par d 4 4), port⟩
            (parseOp (par d 8 2) (fixLen (par d 10 2) (Config.gcmDecrypt x.keyIn (cmdNonce x (par d 4 4))
              (slice d 32 (par d 10 2)))))))))) ∧
  (∀ (s : State) (n : Fin 9) (x : Sess), s.up → s.sess n.val = some x →
    (∀ c, x.held ≠ [] → x.heldClk = some c → ∀ u : State, u = s.toSysClk (c + 8000000) →
      (c + 8000000 ≤ u.sys.clk → exec (.reorderTimeout n) s = .next ((u.updSess n.val (fun y => { y with
        held := [], heldClk := none })).bumpBy Reg.CMD_GAP_DROP x.held.length)) ∧
      (u.sys.clk < c + 8000000 → exec (.reorderTimeout n) s = .next s)) ∧
    (∀ (u : State) (e : Nat), n.val ≠ 0 → e = x.lastClk + s.fld Reg.CMD_SESS_TMO 0 10 * 400000000 → u = s.toSysClk e →
      (e ≤ u.sys.clk → ∃ t, exec (.sessionTimeout n) s = .next t ∧ t.sess n.val = none ∧ t.cmd.core.modeOwn ≠ n.val ∧
        t.cmd.core.setOwn ≠ n.val) ∧
      (u.sys.clk < e → exec (.sessionTimeout n) s = .next s))) ∧
  (∀ (s : State) (tag : Word) (code : BitVec 16) (body : List Byte) (w : Wait), s.up → s.cmd.waits = [w] →
    (w.tag = some tag.toNat →
      exec (.mgmtAnswerRx tag code body) s = .next (({ s with cmd := { s.cmd with waits := [{ w with
        tag := none, reply := { w.reply with status := 0, data := leBytes 2 code.toNat ++ body } }] } } : State).flush) ∧
      ∀ u : State, u = s.toSysClk (w.since + 40000000) →
        (w.since + 40000000 ≤ u.sys.clk → exec (.mgmtTimeout tag) s = .next (({ u with cmd := { u.cmd with waits := [{ w with
          tag := none, reply := { w.reply with status := 0x201, data := [] } }] } } : State).flush)) ∧
        (u.sys.clk < w.since + 40000000 → exec (.mgmtTimeout tag) s = .next s)) ∧
    (w.tag ≠ some tag.toNat → exec (.mgmtAnswerRx tag code body) s = .next (s.bump Reg.CMD_MALFORMED) ∧
      exec (.mgmtTimeout tag) s = .next s)) ∧
  (∀ (s : State) (smn code : BitVec 16) (body : List Byte), s.up → exec (.mgmtEventRx smn code body) s =
    .next (s.logEv 1 0x80 code.toNat (smn.toNat + ofLe (body.take 16) * 2 ^ 32)))

/-- A command that validation refuses (R396, R399, R400): it is answered at once with the status and data of the first check
it fails, journalled, and has no other effect but what the rule gives the refusal. -/
def Obligations.HostRefused : Prop :=
  ∀ (s : State) (i : Instr) (q : Req) (op : HostOp) (x : Sess) (st : Nat) (data : List Byte), i.hostCmd = some (q, op) →
    s.admits q op x → ∀ u : State, u = s.took q → u.verdict (x.took q s.sys.clk) q op = some (st, data) →
    exec i s = .next (((u.refused op st).journal (x.took q s.sys.clk) q op false).answers q none
      { u.mkReply q (opCode op) 0 [] with status := st, data := data })

/-- A boundary command that validation passes (R29, R400, R402, R424): it joins the accepted ones for the boundary R29 gives,
those it overtakes marked, and is answered ACCEPTED with that boundary's row and step. It changes nothing else. These are
MODE_SET, BRK_REPORT, the setpoints, REG_ACCESS that reads nothing, LDG_RETIRE, LDG_REPLACE, LDG_KEY_SET, MTR_SEAL,
MTR_FWHASH, the four pair commands, SPS_WRITE, SPS_CONFIRM, SAF_RESET, SAF_PROOF, TRUST_SET, KEY_GEN and CERT_SET. -/
def Obligations.HostAccepted : Prop :=
  ∀ (s : State) (i : Instr) (q : Req) (op : HostOp) (x : Sess), i.hostCmd = some (q, op) → s.admits q op x →
    opBoundary op = true → opReads op = false → ∀ u : State, u = s.took q → u.verdict (x.took q s.sys.clk) q op = none →
    exec i s = .next (((u.accept q op x.serial u.cmdTarget).journal (x.took q s.sys.clk) q op true).answers q none
      { u.mkReply q (opCode op) 0 [] with status := 1, trow := word (u.cmdTarget / 1024), tstep := u.cmdTarget % 1024 })

/-- An immediate command that validation passes and that acts before its reply (R399, R400, R402, R409): its journal entry is
made, it executes, and its reply leaves with status and data. These are PING, IDENT, the reads, OWN_CLAIM, OWN_RELEASE,
ACQ_FREE, ACQ_STREAM, SAF_SPB, SAF_PROOF_OUT and the firmware commands; REG_READ_RANGE answers the registers as they stand. -/
def Obligations.HostExecuted : Prop :=
  ∀ (s : State) (i : Instr) (q : Req) (op : HostOp) (x : Sess), i.hostCmd = some (q, op) → s.admits q op x →
    opBoundary op = false → ∀ u v : State, u = s.took q → u.verdict (x.took q s.sys.clk) q op = none →
    v = u.journal (x.took q s.sys.clk) q op false →
    (opReads op = true → s.gfe.done = true → ∀ w : State, w = (u.readRegs op).2.journal (x.took q s.sys.clk) q op false →
      w.cmd.waits = [] → w.cmd.core.sess = u.cmd.core.sess → w.mirrored = false →
      exec i s = .next (w.answers q none { u.mkReply q (opCode op) 0 [] with data := (u.readRegs op).1 })) ∧
    (opReads op = false → lateOp op = false → (∀ c k b d, op ≠ .mgmtSend c k b d) → (u.immOp q op).1 = 0 →
      (v.immOp q op).2.2.cmd.waits = [] → (v.immOp q op).2.2.cmd.core.sess = u.cmd.core.sess →
      (v.immOp q op).2.2.mirrored = false →
      exec i s = .next ((v.immOp q op).2.2.answers q none
        { u.mkReply q (opCode op) 0 [] with status := (v.immOp q op).1, data := (v.immOp q op).2.1 }))

/-- Commands that act after their reply has left, or whose reply waits (R395, R409, R411, R478). CLOSE answers, then closes
the session; RESET and DEBUG_UNLOCK answer, then reset the unit; MGMT_SEND goes out under the next TAG and waits for its
answer. -/
def Obligations.HostLate : Prop :=
  ∀ (s : State) (q : Req) (op : HostOp) (x : Sess), s.admits q op x → ∀ u v : State, u = s.took q →
    u.verdict (x.took q s.sys.clk) q op = none → v = u.journal (x.took q s.sys.clk) q op false →
    (op = .close → exec (.close q) s = .next ((v.answers q (some .close) (u.mkReply q 0x0B03 0 [])).closeSess q.session.val)) ∧
    (op = .reset → s.isActive = false → ∃ t, exec (.reset q) s = .next t ∧ t.pwr.on = false ∧ t.pwr.cause = 3 ∧
      t.cmd.core.sess = [] ∧ t.mode = .init) ∧
    (∀ k, op = .debugUnlock k → ∃ t, exec (.debugUnlock q k) s = .next t ∧ t.pwr.on = false ∧ t.pwr.cause = 8 ∧
      t.sec.debugNext = true ∧ t.sec.devKey = none ∧ t.sec.mtrKey = none) ∧
    (∀ c id code body, op = .mgmtSend c id code body → ∃ t w, exec (.mgmtSend q c id code body) s = .next t ∧
      t.cmd.waits = [w] ∧ w.tag = some ((s.cmd.tag + 1) % 2 ^ 32) ∧ w.q = q ∧ t.cmd.tag = (s.cmd.tag + 1) % 2 ^ 32)

/-- What immediate commands do (R303, R377, R403, R409, R473). What boundary commands do at their boundary (R81, R87, R228,
R330, R354, R388 to R390, R402, R471, R474). -/
def Obligations.HostEffects : Prop :=
 (∀ (s : State) (q : Req),
    (∀ c : Byte, s.classOwner c.toNat = 0 → s.immOp q (.ownClaim c) = (0, [], s.setOwner c.toNat q.session)) ∧
    (∀ c : Byte, s.classOwner c.toNat ≠ 0 → s.classOwner c.toNat ≠ q.session.val → s.immOp q (.ownClaim c) = (0x101, [], s)) ∧
    (∀ c : Byte, s.classOwner c.toNat = q.session.val →
      s.immOp q (.ownRelease c) = (0, [], s.setOwner c.toNat 0)) ∧
    ((s.setOwner 2 q.session).classOwner 2 = q.session.val ∧ (s.setOwner 2 q.session).classOwner 3 = s.classOwner 3) ∧
    (∀ r num, s.acqHeadRec = some r → r.num = num → s.immOp q (.acqFree num) = (0, [], { s with acq := { s.acq with
      done := s.acq.done.filter (fun x => decide (x.num ≠ num)) } })) ∧
    s.immOp q .safSpb = (0, [], s.spbDemand 9) ∧
    (∀ len ver, s.sec.up = none → ∃ t, s.immOp q (.fwBegin len ver) = (0, [], t) ∧ t.image (!s.sec.running) = none ∧
      t.image s.sec.running = s.image s.sec.running ∧
      t.sec.up = some { img := !s.sec.running, len := len.toNat, ver := ver, data := [], ended := none }) ∧
    (∀ b : Byte, s.activateBad (decide (b.toNat = 1)) = false → s.immOp q (.fwActivate b) =
      (0, [], { s with sec := { s.sec with chosen := decide (b.toNat = 1) } })) ∧
    (∀ u, s.sec.up = some u → u.data.length ≠ u.len → ∃ t, s.immOp q .fwEnd = (0, leBytes 1 2 ++ List.replicate 48 0, t) ∧
      t.image u.img = s.image u.img) ∧
    (∀ (p : Proof) (out seen : Byte), s.saf.proof = some p → (p.test ≠ 5 ∨ p.await = false) →
      s.immOp q (.safProofOut out seen) = (0x101, [], s))) ∧
 (∀ (s : State) (a : Accepted),
    (∀ v, a.op = .setP v → s.bndOp a = (0, leBytes 1 (b2n (!hostForce s.mode)), s.setReg Reg.MODE_HOST_P v)) ∧
    (∀ v, a.op = .setQ v → s.bndOp a = (0, leBytes 1 (b2n (!hostForce s.mode)), s.setReg Reg.MODE_HOST_Q v)) ∧
    (∀ v, a.op = .setV v → s.bndOp a = (0, leBytes 1 (b2n (!hostForce s.mode)), s.setReg Reg.MODE_HOST_V v)) ∧
    (∀ v, a.op = .setF v → s.bndOp a = (0, leBytes 1 (b2n (!hostForce s.mode)), s.setReg Reg.MODE_HOST_F v)) ∧
    (∀ k, a.op = .ldgKeySet k → s.bndOp a = (0, [], { s with ldg := { s.ldg with key := some k } })) ∧
    (∀ l, a.op = .trustSet l → s.bndOp a = (0, [], { s with sec := { s.sec with anchor := some l } })) ∧
    (∀ o l, a.op = .spsWrite o l → ∃ t, s.bndOp a = (0, [], t) ∧ t.saf.confirmed = false) ∧
    (∀ c, a.op = .spsConfirm c → c = s.safChk → ∃ t, s.bndOp a = (0, [], t) ∧ t.saf.confirmed = true ∧ t.saf.chkConf = c) ∧
    (a.op = .keyGen 0 → s.bndOp a = (0, Config.certRequest 0 (s.sec.gen + 1),
      { s with sec := { s.sec with gen := s.sec.gen + 1, devKey := some (s.sec.gen + 1), devCert := none } })) ∧
    (a.op = .safReset → s.resetAccepts = true → ∃ t, s.bndOp a = (0, [], t) ∧ t.saf.spb = false) ∧
    (a.op = .safReset → s.resetAccepts = false → s.bndOp a = (0x301, [], s)) ∧
    (a.op = .mtrSeal → ∃ d t, s.bndOp a = (0, d, t) ∧ t.mtr.sealed = true ∧ t.mtr.digest = d ∧ t.mtr.broken = false ∧
      t.mtr.audit = satInc s.mtr.audit))

/-! ### Rules stated whole -/

/-- R44. A step, slew or discipline correction of module time, by PTP, by PPS_IN, by a setting or at the boundary that makes a
pending step, leaves the angle base as it is: θ, ROW and the rate. A new rate, the correction of a disciplined standby and the
acquisition load of θ leave module time as it is; the step of item 1 moves it by the clocks that pass and by nothing else. -/
def Obligations.TimeAndAngleApart : Prop :=
  (∀ s : State, s.up →
    (∀ m, ∃ t, exec (.ptpMessageRx m) s = .next t ∧ t.ang = s.ang) ∧ (∃ t, exec .ppsInEdge s = .next t ∧ t.ang = s.ang) ∧
    (∃ t, exec .calSet s = .next t ∧ t.ang = s.ang) ∧ s.calBoundary.ang = s.ang) ∧
  (∀ s : State, s.rateUpdate.sys.tai = s.sys.tai ∧ (∀ b e, (s.angDiscBoundary b e).sys.tai = s.sys.tai) ∧
    s.angLoad.sys.tai = s.sys.tai ∧ s.angBoundary.sys.tai = s.sys.tai + (s.clocksTo ((s.step10 + 1) * 2 ^ 54)) * s.tick)

/-- R185. A HI_BER held for 1.0 ms in LINK_UP retrains the port, whose lane goes down; a shorter one sets the status and the
flag, counts its invalid headers (R168), and does nothing else. -/
def Obligations.HighErrorRate : Prop :=
  ∀ (s : State) (n : Fin 22) (k : Word), s.up → (s.port n).present = true → ∀ u : State,
    u = ((s.bumpBy (Reg.PHY_SH_ERR n) k.toNat).updPort n (fun p => { p with hiBer := true, hiBerClk := s.sys.clk })).setFlag
      (Reg.PHY_FLAGS n) 2 n →
    (exec (.hiBer ⟨n, k⟩ false) s = .next u ∧ (u.port n) = { s.port n with hiBer := true, hiBerClk := s.sys.clk } ∧
      bit (u.readReg (Reg.PHY_STAT n)) 7 = true ∧ u.flag (Reg.PHY_FLAGS n) 2 = true ∧
      ∀ j, j ≠ n.val → u.port j = s.port j) ∧
    (s.linkUp n = true → ∃ t, exec (.hiBer ⟨n, k⟩ true) s = .next t ∧ t = (u.startAttempt n).laneDown n ∧
      ((u.startAttempt n).port n).ts = .lock ∧ t.flag (Reg.PHY_FLAGS n) 2 = true)

/-- R361. ISOLATE takes a unit in STANDBY or SYNCING out of the pair, into ISOLATED; on the active it is refused with
CONFLICT. REJOIN returns a unit in ISOLATED through SYNCING, unless another rule than ISOLATE holds it out of the pair. -/
def Obligations.IsolateAndRejoin : Prop :=
  ∀ s : State, s.up → s.pwr.booted = true →
    (s.role = .standby ∨ s.role = .syncing → ∃ t, exec (.pairIsolate none) s = .next t ∧ t.role = .isolated ∧
      t.pair.out = true ∧ t.pair.qual = false) ∧
    (s.isActive = true → exec (.pairIsolate none) s = .next s ∧
      (∀ q, s.conflicts q (.pairAction 2) = true) ∧
      ∀ a : Accepted, a.op = .pairAction 2 → s.bndOp a = (0x101, [], s)) ∧
    (s.role = .isolated → ({ s with pair := { s.pair with out := false } } : State).heldOut = false →
      ∃ t, exec (.pairRejoin none) s = .next t ∧ t.role = .syncing ∧ t.pair.out = false)

/-- R390. A confirm command with another value than SAF_CHK is answered SAFETY_BLOCKED at once, where nothing is wrong with it
that validation finds earlier, and sets CONF_REFUSED; one that was right when it was accepted and is not at its boundary is
answered and flagged there. -/
def Obligations.ConfirmRefused : Prop :=
  (∀ (s : State) (q : Req) (c : Word) (x : Sess), s.admits q (.spsConfirm c) x → ∀ u : State, u = s.took q → c ≠ u.safChk →
    x.roles.testBit (opRole (.spsConfirm c)) = true → u.modeForbids (.spsConfirm c) = false →
    exec (.spsConfirm q c) s = .next (((u.setFlag Reg.SAF_FLAGS 6).journal (x.took q s.sys.clk) q (.spsConfirm c) false).answers q none
      (u.mkReply q 0x0902 0x301 []))) ∧
  (∀ (s : State) (a : Accepted) (c : Word), a.op = .spsConfirm c → c ≠ s.safChk →
    s.bndOp a = (0x301, [], s.setFlag Reg.SAF_FLAGS 6)) ∧
  (∀ s : State, s.sound = true → (s.setFlag Reg.SAF_FLAGS 6).flag Reg.SAF_FLAGS 6 = true)

/-- R456. A rail that has been outside its window for more than 10 µs causes a rail reset, whose cause and rail PWR_RST_CAUSE
shows. -/
def Obligations.RailReset : Prop :=
  ∀ (s : State) (r : Fin 6), s.up → ∃ t, exec (.railFault r) s = .next t ∧ t.pwr.on = false ∧ t.mode = .init ∧
    t.readReg Reg.PWR_RST_CAUSE = word (7 + 16 * r)

/-! ### Every command completes -/

/-- Every command completes: at every state that meets the row's own condition, and with every operand, exec answers the next
state of the command's own effect (R26, R157, R212, R457). Commands of the unit need its power, sessions' commands go through
validation (HostAccepted, HostExecuted and HostLate say what follows there); those of a submodule, of a concentrator, of a
supply input, of the start and of the cover take effect whatever the unit's power; a reset cause, in a unit that has power or
has started. Where a row names an event that has its condition, the condition stands before it. -/
def Obligations.CommandsComplete : Prop :=
  ∀ s : State, (s.pwr.on = true →
    -- The step
    ((∀ (n : Fin 2048), exec (.stitchFire n) s = .next (s.stitchReach n.val)) ∧
     (∀ (pass : Bool), s.running = false → (s.initComplete pass).running = true → exec (.initComplete pass) s = .next
       (s.initComplete pass).stepBegin.items345) ∧
     (∀ (pass : Bool), s.running = true ∨ (s.initComplete pass).running = false → exec (.initComplete pass) s = .next
       (s.initComplete pass)) ∧
     exec .stepBoundary s = .next s.boundary) ∧
    -- Firmware writes
    ((∀ (es : List RegEntry), exec (.registerWrite es) s = .next (s.registerWrite es)) ∧
     (∀ (lane : Fin 20), exec (.routeWrite lane) s = .next (s.registerWrite [routeEntry lane])) ∧
     (∀ (g : Fin 4) (src : Fin 3), exec (.refSelect g src) s = .next (s.registerWrite [writeEntry (Reg.GRPg_REF g) (word src)])) ∧
     (∀ (mask : Word), exec (.fltSyncSoft mask) s = .next (s.registerWrite [writeEntry Reg.FLT_SYNC_SOFT mask])) ∧
     (∀ (mask : Word), exec (.fltSyncHard mask) s = .next (s.registerWrite [writeEntry Reg.FLT_SYNC_HARD mask])) ∧
     (∀ (mask : BitVec 8), exec (.acqTrgArm mask) s = .next (s.registerWrite [writeEntry Reg.ACQ_TRG_ARM (word mask.toNat)])) ∧
     exec .acqMfifoPop s = .next (s.registerWrite [writeEntry Reg.ACQ_MFIFO_POP 1])) ∧
    -- Sessions, and what releases a waiting reply
    ((∀ (fault : Bool), exec (.gfeComplete fault) s = .next (s.gfeComplete fault)) ∧
     (∀ (lane : Fin 22) (b : BulkBlk) (crcOk : Bool), ∀ a, (s.linkBlock lane).assocOf lane = some a →
       ¬ (a = 20 ∧ (s.linkBlock lane).delivers a b crcOk) → exec (.bulkBlockRx lane b crcOk) s = .next
       ((s.linkBlock lane).bulkRx lane a b crcOk)) ∧
     (∀ (lane : Fin 22) (b : BulkBlk) (crcOk : Bool), (s.linkBlock lane).assocOf lane = some 20 →
       (s.linkBlock lane).delivers 20 b crcOk = true → exec (.bulkBlockRx lane b crcOk) s = .next
       (((s.linkBlock lane).bulkRx lane 20 b crcOk).mirrorIn b)) ∧
     (∀ (lane : Fin 22) (seq : Byte) (nak : Bool), exec (.ackRx lane seq nak) s = .next
       ((s.linkBlock lane).ackSeen lane.val seq nak)) ∧
     (∀ (path : Bool), (s.silentPath path).mirrored = true → exec (.pathSilent path) s = .next (s.silentPath path)) ∧
     (∀ (path : Bool), (s.silentPath path).mirrored = false → exec (.pathSilent path) s = .next
       (((s.silentPath path).release (fun _ => true)).flush)) ∧
     (∀ (k : Fin 8) (chB level : Bool), exec (.sinChange k chB level) s = .next (s.sinChangeAct k chB level)) ∧
     (∀ (k : Fin 8), exec (.sinFault k) s = .next (s.sinFaultSeen k)) ∧
     (∀ (port : HostPort) (d : List Byte), exec (.packetRx port d) s = .next (s.packetRx port d)) ∧
     (∀ (session : Fin 9), ∀ t, (s.sess session.val).bind Sess.gapEnd = some t → t ≤ (s.toSysClk t).sys.clk →
       exec (.reorderTimeout session) s = .next ((s.toSysClk t).reorderOut session.val)) ∧
     (∀ (session : Fin 9), ∀ x, s.sess session.val = some x → s.idleEnd x ≤ (s.toSysClk (s.idleEnd x)).sys.clk →
       exec (.sessionTimeout session) s = .next ((s.toSysClk (s.idleEnd x)).closeSess session.val)) ∧
     (∀ (tag : Word) (code : BitVec 16) (body : List Byte), exec (.mgmtAnswerRx tag code body) s = .next
       (s.mgmtAnswer tag.toNat 0 (leBytes 2 code.toNat ++ body))) ∧
     (∀ (tag : Word), ∀ w, s.cmd.waits.find? (fun w => decide (w.tag = some tag.toNat)) = some w →
       w.since + 40000000 ≤ (s.toSysClk (w.since + 40000000)).sys.clk → exec (.mgmtTimeout tag) s = .next
       ((s.toSysClk (w.since + 40000000)).mgmtAnswer tag.toNat 0x201 [])) ∧
     (∀ (smn code : BitVec 16) (body : List Byte), exec (.mgmtEventRx smn code body) s = .next
       (s.logEv 1 0x80 code.toNat (smn.toNat + ofLe (body.take 16) * 2 ^ 32))) ∧
     (∀ (port : HostPort) (p : List Byte), s.asleep = false → exec (.hello port p) s = .next (s.helloIn port 0 p)) ∧
     (∀ (port : HostPort) (p : List Byte), s.asleep = true → exec (.hello port p) s = .next (s.park (.hello port p))) ∧
     (∀ (port : HostPort) (session : Fin 9) (sig : List Byte), s.asleep = false → exec (.finish port session sig) s = .next
       (s.finishIn port session sig)) ∧
     (∀ (port : HostPort) (session : Fin 9) (sig : List Byte), s.asleep = true → exec (.finish port session sig) s = .next
       (s.park (.finish port session sig))) ∧
     (∀ (pass : Bool), exec (.proofTestDecided pass) s = .next (s.proofDecided pass).flush) ∧
     exec .ackLate s = .next s.ackLateAct ∧
     (∀ t, s.proofLimit = some t → t ≤ (s.toSysClk t).sys.clk → exec .proofTimeout s = .next
       (((s.toSysClk t).proofEnd false).flush))) ∧
    -- Arms
    ((∀ (lane : Fin 20) (j : Fin 256), exec (.slotRelease lane j) s = .next (s.slotReleaseAct lane j)) ∧
     (∀ (line : Bool) (n : Fin 6) (neg : Bool), exec (.hwcTrip line n neg) s = .next (s.hwcTripAct line n neg)) ∧
     (∀ (line : Bool) (n : Fin 6), exec (.hwcRelease line n) s = .next (s.hwcReleaseAct line n)) ∧
     (∀ (lane : Fin 20) (slot : Fin 256) (step : Fin 1024) (w : BitVec 96), (s.linkBlock lane).ac ≤ 256 →
       exec (.responseWordRx lane slot step w) s = .next ((s.linkBlock lane).respWord lane slot step w)) ∧
     (∀ (n : Fin 4096), exec (.smRetire n) s = .next (s.retireAct n)) ∧
     (∀ (n : Fin 4096), exec (.sparePromote n) s = .next (s.sparePromoteAct n)) ∧
     (∀ (lane : Fin 20) (first : Fin 256) (count : Fin 512) (step : Fin 1024) (words : List (BitVec 96)),
       exec (.cycUpRx lane first count step words) s = .next ((s.linkBlock lane).cycUp lane first count step words)) ∧
     exec .responseDeadline s = .next s.respDeadline ∧
     exec .armComplete s = .next s.armComplete ∧
     exec .pipeMarginRst s = .next s.marginReset ∧
     exec .prechOk s = .next s.prechOkAct) ∧
    -- The pair
    ((∀ (path : Bool) (m : Mark) (arrivalPs : Nat), exec (.pairMarkRx path m arrivalPs) s = .next
       ((s.linkBlock (20 + b2n path)).pairMark path m arrivalPs)) ∧
     (∀ (lane : Fin 20) (presA presB owner ownValid : Bool) (epoch : BitVec 16) (win : Fin 8) (step : Fin 1024),
       exec (.witnessRx lane presA presB owner ownValid epoch win step) s = .next
       ((s.linkBlock lane).witnessSeen lane ⟨presA, presB, owner, ownValid, epoch, win, step, s.sys.clk⟩)) ∧
     (∀ (path : Bool) (h : Heartbeat), exec (.heartbeatRx path h) s = .next ((s.linkBlock (20 + b2n path)).hbRx path h)) ∧
     (∀ (unitB : Bool) (row : BitVec 22) (step : Fin 1024) (inputs : List Word),
       exec (.sampleRx unitB row step inputs) s = .next (s.sampleSeen row.toNat step inputs)) ∧
     (∀ (unitB meterM : Bool) (reach linked : BitVec 20), exec (.reachRx unitB meterM reach linked) s = .next
       (s.reachSeen meterM reach.toNat linked.toNat)) ∧
     (∀ (r : StepRec) (digest : Word), exec (.stepRecordRx r digest) s = .next (s.recordSeen r digest)) ∧
     (∀ (unitB : Bool) (reason : BitVec 3) (row : BitVec 22) (step : Fin 1024),
       exec (.handoverRx unitB reason row step) s = .next (s.handoverSeen reason.toNat row.toNat step)) ∧
     (∀ (x : Transfer), exec (.stateTransferDone x) s = .next (s.transferDone x)) ∧
     (∀ (path : Bool) (tag : BitVec 16) (turn : BitVec 24), (s.linkBlock (20 + b2n path)).paired = true →
       (s.linkBlock (20 + b2n path)).pathUp path = true → exec (.pairEchoReqRx path tag turn) s = .next
       ((s.linkBlock (20 + b2n path)).txPair path "ECHO_RSP" [tag.toNat, turn.toNat])) ∧
     exec .heartbeatSend s = .next s.hbSend ∧
     exec .witnessDecision s = .next s.witnessDecide ∧
     exec .reachSend s = .next s.reachOut ∧
     exec .recMiss s = .next s.recMissAct ∧
     exec .measDiv s = .next s.measDivAct ∧
     exec .revert s = .next s.revertAct ∧
     exec .loneStart s = .next s.loneStartAct ∧
     exec .proofResult s = .next s.proofResultAct ∧
     exec .proofSilenceEnd s = .next s.proofSilenceEndAct) ∧
    -- Ports
    ((∀ (port : Fin 22) (id tech : Byte) (hiPower txFault : Bool), exec (.sfpInsert port id tech ⟨hiPower, txFault⟩) s = .next
       (s.sfpInsertAct port id tech hiPower txFault)) ∧
     (∀ (port : Fin 22), exec (.sfpWithdraw port) s = .next (s.sfpWithdrawAct port)) ∧
     (∀ (port : Fin 22), exec (.losAssert port) s = .next (s.losAct port)) ∧
     (∀ (port : Fin 22), (s.port port).present = true → (s.port port).los = true → exec (.losClear port) s = .next
       (s.losClearAct port)) ∧
     (∀ (port : Fin 22) (headers : Word), exec (.lol ⟨port, headers⟩) s = .next ((s.shErr port headers).lolAct port)) ∧
     (∀ (port : Fin 22) (headers : Word), (s.port port).present = true → (s.port port).los = false →
       exec (.blockLock ⟨port, headers⟩) s = .next (((s.shErr port headers).updPort port (fun p =>
       { p with blockLock := true, cdr := true })).lockCheck port)) ∧
     (∀ (port : Fin 22), (s.port port).attempt = true → (s.port port).blockLock = false →
       exec (.rxPolarityInvert port) s = .next (s.updPort port (fun p => { p with rxInv := !p.rxInv }))) ∧
     (∀ (port : Fin 22) (headers : Word) (held : Bool), (s.port port).present = true → held = false →
       exec (.hiBer ⟨port, headers⟩ held) s = .next (((s.shErr port headers).updPort port (fun p =>
       { p with hiBer := true, hiBerClk := s.sys.clk })).setFlag (Reg.PHY_FLAGS port) 2 port)) ∧
     (∀ (port : Fin 22) (headers : Word) (held : Bool), (s.port port).present = true → held = true →
       exec (.hiBer ⟨port, headers⟩ held) s = .next ((((s.shErr port headers).updPort port (fun p =>
       { p with hiBer := true, hiBerClk := s.sys.clk })).setFlag (Reg.PHY_FLAGS port) 2 port).retrain port)) ∧
     (∀ (port : Fin 22) (b : BitVec 64), (s.port port).present = true → (s.port port).refused = false →
       exec (.trainingBlockRx port b) s = .next (s.trainAct port b)) ∧
     (∀ (port : Fin 22), (s.port port).ts = .adapt →
       ((s.port port).reqs.any (· != 0) || decide ((s.port port).reqSet ≠ 0)) = true → exec (.requestTimeout port) s = .next
       (s.toFallback port)) ∧
     (∀ (port : Fin 22), (s.port port).ts = .adapt → exec (.adaptTimeout port) s = .next (s.toFallback port)) ∧
     (∀ (port : Fin 22), (s.port port).attempt = true → exec (.attemptTimeout port) s = .next ((((s.updPort port (fun p =>
       { p with ts := .failed, attempt := false })).bump (Reg.PHY_TRN_FAIL_CNT port)).setFlagEach (Reg.PHY_FLAGS port) 3 port).trainOut port)) ∧
     (∀ (port : Fin 22), (s.port port).ts = .failed → exec (.failedExpire port) s = .next (s.toDetect port)) ∧
     (∀ (port : Fin 22) (pass : Bool), exec (.fallbackPresetWindow port pass) s = .next (s.presetWindow port pass)) ∧
     (∀ (port : Fin 22), exec (.confirmDone port) s = .next (s.confirmDoneAct port)) ∧
     (∀ (port : Fin 22), exec (.phyRetrain port) s = .next (s.retrain port))) ∧
    -- Lanes
    ((∀ (port : Fin 22), port.val < 20 → exec (.ctlBlockDiscard port) s = .next (s.bump (Reg.LNK_CTL_ERR port))) ∧
     (∀ (port : Fin 22), 20 ≤ port.val → exec (.ctlBlockDiscard port) s = .next (s.bump Reg.PAIR_CTL_ERR)) ∧
     (∀ (lane : Fin 20), exec (.orphanBlock lane) s = .next (s.dataBlockRx lane)) ∧
     (∀ (conc : Bool) (n : Fin 22) (disp unitB : Bool) (epoch : BitVec 16), conc = false →
       exec (.idleRx conc n disp unitB epoch) s = .next (s.linkBlock n)) ∧
     (∀ (assoc : Fin 21), exec (.bulkBlockSend assoc) s = .next (s.bulkSend assoc)) ∧
     (∀ (assoc : Fin 21), exec (.ackSend assoc) s = .next (s.ackSendAct assoc)) ∧
     (∀ (lane : Fin 22) (vc : Fin 4) (limit : BitVec 16), 1 ≤ vc.val → ∀ a, (s.linkBlock lane).assocOf lane = some a →
       exec (.creditRx lane vc limit) s = .next ((s.linkBlock lane).updAssoc a (fun x =>
       { x with limit := x.limit.set (vc.val - 1) limit }))) ∧
     (∀ (assoc : Fin 21) (vc : Fin 4), 1 ≤ vc.val → exec (.creditSend assoc vc) s = .next
       (s.atDue (s.creditDue assoc (vc.val - 1)) (fun s => s.creditOut assoc (vc.val - 1)))) ∧
     (∀ (assoc : Fin 21), exec (.retryTimeout assoc) s = .next (s.retryAct assoc)) ∧
     (∀ (lane : Fin 22) (audits : List Audit), ∀ a, (s.linkBlock lane).assocOf lane = some a →
       (s.linkBlock lane).bulkPort a = some lane.val → exec (.auditRx lane audits) s = .next
       ((s.linkBlock lane).auditAct lane a audits)) ∧
     (∀ (assoc : Fin 21), exec (.auditRepeat assoc) s = .next (s.auditRepeatAct assoc)) ∧
     (∀ (lane : Fin 22) (tag : BitVec 16) (turn : BitVec 24) (rttPs : Nat), lane.val < 20 →
       exec (.echoRspRx lane tag turn rttPs) s = .next ((s.linkBlock lane).echoLane lane tag.toNat turn.toNat rttPs)) ∧
     (∀ (lane : Fin 22) (tag : BitVec 16) (turn : BitVec 24) (rttPs : Nat), 20 ≤ lane.val →
       exec (.echoRspRx lane tag turn rttPs) s = .next
       ((s.linkBlock lane).echoPair (decide (lane.val = 21)) tag.toNat turn.toNat rttPs)) ∧
     (∀ (lane : Fin 22), exec (.echoTimeout lane) s = .next (s.echoTimeoutAct lane)) ∧
     (∀ (lane : Fin 20), s.linkUp lane = true → exec (.echoNow lane) s = .next (s.echoSend lane)) ∧
     (∀ (lane : Fin 20) (dDn dUp : BitVec 12) (conc : BitVec 16) (cport : BitVec 4) (alt : Bool),
       exec (.declareRx lane dDn dUp conc cport alt) s = .next
       ((s.linkBlock lane).declareAct lane { dDn := dDn.toNat, dUp := dUp.toNat, conc := conc.toNat, cport := cport.toNat, alt := alt }))) ∧
    -- The ledger
    ((∀ (lane : Fin 20), exec (.sweepVisit lane) s = .next (s.sweepVisitAct lane)) ∧
     (∀ (smn : Fin 4096) (first : BitVec 13) (tag : Word) (items : List LdgItem), exec (.reportRx smn first tag items) s = .next
       (s.reportAct smn first.toNat tag.toNat items)) ∧
     (∀ (smn : Fin 4096) (first : BitVec 13), exec (.reportTimeout smn first) s = .next (s.reportTimeoutAct smn first.toNat)) ∧
     (∀ (smn : Fin 4096) (b : IdentBody), exec (.identRx smn b) s = .next (s.identAct smn b)) ∧
     (∀ (smn : Fin 4096), exec (.identTimeout smn) s = .next (s.identTimeout smn)) ∧
     (∀ (smn : Fin 4096), exec (.wearRelease smn) s = .next (s.wearReleaseAct smn)) ∧
     (∀ (ok : Bool), exec (.ldgImageDone ok) s = .next (s.imageDone ok)) ∧
     exec .ldgDecisionApply s = .next s.decisionsApply.setsBoundary ∧
     exec .ldgMirrorTimeout s = .next s.mirrorTimeout ∧
     exec .ldgImageStart s = .next s.imageStart) ∧
    -- Direct PWM
    ((∀ (n : Fin 24), s.ctrEn n = true → ∀ t, s.toCount n (s.ctr n).per = some t → exec (.periodStart n) s = .next
       (t.periodRoll n)) ∧
     (∀ (n : Fin 24), exec (.cmpMatch n) s = .next (s.cmpMatchAct n)) ∧
     (∀ (n : Fin 24) (outB : Bool), exec (.deadTimeExpire n outB) s = .next (s.deadTimeAct n outB)) ∧
     (∀ (n : Fin 24) (en : Bool), s.isMain n = false → exec (.pwmEnable n en) s = .next (s.pwmSetEn n en)) ∧
     (∀ (i : Fin 8) (active : Bool), (active && s.flag (Reg.TRIPi_CFG i) 0 && !s.blanked i && !(s.trip i).latch) = true →
       exec (.tripInput i active) s = .next ((s.updTrip i (fun t => { t with active := active })).tripLatch i)) ∧
     (∀ (i : Fin 8) (active : Bool), (active && s.flag (Reg.TRIPi_CFG i) 0 && !s.blanked i && !(s.trip i).latch) = false →
       exec (.tripInput i active) s = .next (s.updTrip i (fun t => { t with active := active }))) ∧
     (∀ (i : Fin 8), exec (.blankClose i) s = .next (s.blankCloseAct i)) ∧
     (∀ (mask : BitVec 8), exec (.tripClr mask) s = .next (s.tripClrAct mask.toNat)) ∧
     exec .pwmLoadAll s = .next s.pwmLoadAllAct) ∧
    -- Converters
    ((∀ (n : Fin 24) (k : Fin 2), exec (.xcMatch n k) s = .next (s.xcMatchAct n k)) ∧
     (∀ (groups : BitVec 5), exec (.scanTrigger groups) s = .next (s.scanTrigAngle groups.toNat none)) ∧
     (∀ (level : Bool), exec (.trigInEdge level) s = .next (s.trigInAct level)) ∧
     (∀ (mask : BitVec 5), exec (.adcSwtrig mask) s = .next (s.scanTrig mask.toNat none 4)) ∧
     (∀ (core : Fin 5) (code : Int), exec (.conversionDone core code) s = .next (s.convDone core code)) ∧
     (∀ (core : Fin 5), exec (.conversionTimeout core) s = .next (s.convTimeout core)) ∧
     (∀ (g : Fin 4) (pos : Fin 8), exec (.urgentRequest g pos) s = .next (s.urgent g pos)) ∧
     (∀ (g : Fin 4), exec (.adcPatchGo g) s = .next (s.patchGo g)) ∧
     (∀ (input : Fin 32) (active : Bool), exec (.clampOverdrive input active) s = .next (s.clampAct input active)) ∧
     (∀ (g : Fin 4), ∀ t, s.adc.settleEnd.getD g none = some t → exec (.refSettled g) s = .next ((s.toSysClk t).refSettle g)) ∧
     (∀ (g : Fin 4), exec (.refFault g) s = .next (s.refFaultAct g)) ∧
     exec .sparePatch s = .next s.sparePatchAct ∧
     (∀ t, s.calEnd = some t → t ≤ (s.toSysClk t).sys.clk → exec .spareCalDone s = .next (s.toSysClk t).spareCalAct) ∧
     exec .adcPatchRelease s = .next s.patchRelease) ∧
    -- Filters
    ((∀ (n : Fin 32), exec (.missingSample n) s = .next (s.missingAct n)) ∧
     (∀ (n : Fin 32), exec (.filterOutput n) s = .next (s.filterOutputAct n))) ∧
    -- Acquisition and snapshots
    ((∀ (k : Fin 16), exec (.recordClose k) s = .next (s.recordCloseAct k)) ∧
     (∀ (smn : Fin 4096) (tag : BitVec 16) (n : Byte) (first : Word) (data : List Word),
       exec (.capDataRx smn tag n first data) s = .next (s.capData smn tag.toNat n.toNat first.toNat data)) ∧
     (∀ (smn : Fin 4096) (tag : BitVec 16) (status : Byte) (sent : Word), exec (.capEndRx smn tag status sent) s = .next
       (s.capEnd smn tag.toNat status.toNat)) ∧
     (∀ (k : Fin 16), exec (.remoteTimeout k) s = .next (s.remTimeout k)) ∧
     (∀ (level : Bool), (level != s.snap.pinIn && s.flag Reg.SNAP_CFG 0 && (level != s.flag Reg.SNAP_CFG 1)) = true →
       exec (.snapInEdge level) s = .next (({ s with snap := { s.snap with pinIn := level } } : State).snapRaise 4)) ∧
     exec .snapCmd s = .next (s.snapRaise 1) ∧
     exec .snapCopyDone s = .next s.snapDone) ∧
    -- Sessions' commands
    ((∀ (q : Option Req), exec (.pairHandover q) s = .next (s.pairRow q 0)) ∧
     (∀ (q : Option Req), exec (.pairProof q) s = .next (s.pairRow q 1)) ∧
     (∀ (q : Option Req), exec (.pairIsolate q) s = .next (s.pairRow q 2)) ∧
     (∀ (q : Option Req), exec (.pairRejoin q) s = .next (s.pairRow q 3)) ∧
     (∀ (q : Req), exec (.ping q) s = .next (s.hostIn q .ping)) ∧
     (∀ (q : Req), exec (.ident q) s = .next (s.hostIn q .ident)) ∧
     (∀ (q : Req) (cls : Byte), exec (.ownClaim q cls) s = .next (s.hostIn q (.ownClaim cls))) ∧
     (∀ (q : Req) (cls : Byte), exec (.ownRelease q cls) s = .next (s.hostIn q (.ownRelease cls))) ∧
     (∀ (q : Req) (first : BitVec 64) (n : Byte), exec (.evlogRead q first n) s = .next (s.hostIn q (.evlogRead first n))) ∧
     (∀ (q : Req) (conc : Bool) (id code : BitVec 16) (body : List Byte), exec (.mgmtSend q conc id code body) s = .next
       (s.hostIn q (.mgmtSend conc id code body))) ∧
     (∀ (q : Req), exec (.reset q) s = .next (s.hostIn q .reset)) ∧
     (∀ (q : Req) (code : Byte), exec (.modeSet q code) s = .next (s.hostIn q (.modeSet code))) ∧
     (∀ (q : Req) (conv tie : Byte), exec (.brkReport q conv tie) s = .next (s.hostIn q (.brkReport conv tie))) ∧
     (∀ (q : Req) (v : Word), exec (.setP q v) s = .next (s.hostIn q (.setP v))) ∧
     (∀ (q : Req) (v : Word), exec (.setQ q v) s = .next (s.hostIn q (.setQ v))) ∧
     (∀ (q : Req) (v : Word), exec (.setV q v) s = .next (s.hostIn q (.setV v))) ∧
     (∀ (q : Req) (v : Word), exec (.setF q v) s = .next (s.hostIn q (.setF v))) ∧
     (∀ (q : Req) (mask : Byte) (p qq v f : Word), exec (.setMulti q mask p qq v f) s = .next
       (s.hostIn q (.setMulti mask p qq v f))) ∧
     (∀ (q : Req) (es : List RegEntry), exec (.regAccess q es) s = .next (s.hostIn q (.regAccess es))) ∧
     (∀ (q : Req) (first : Word) (n : Byte), exec (.regReadRange q first n) s = .next (s.hostIn q (.regReadRange first n))) ∧
     (∀ (q : Req) (addr : Word) (n : BitVec 16), exec (.ldgRead q addr n) s = .next (s.hostIn q (.ldgRead addr n))) ∧
     (∀ (q : Req) (first : Word) (n : Byte), exec (.ldgArchRead q first n) s = .next (s.hostIn q (.ldgArchRead first n))) ∧
     (∀ (q : Req) (smn : BitVec 16), exec (.ldgRetire q smn) s = .next (s.hostIn q (.ldgRetire smn))) ∧
     (∀ (q : Req) (smn : BitVec 16), exec (.ldgReplace q smn) s = .next (s.hostIn q (.ldgReplace smn))) ∧
     (∀ (q : Req) (key : List Byte), exec (.ldgKeySet q key) s = .next (s.hostIn q (.ldgKeySet key))) ∧
     (∀ (q : Req), exec (.acqHead q) s = .next (s.hostIn q .acqHead)) ∧
     (∀ (q : Req) (num off : Word) (n : BitVec 16), exec (.acqRead q num off n) s = .next (s.hostIn q (.acqRead num off n))) ∧
     (∀ (q : Req) (num : Word), exec (.acqFree q num) s = .next (s.hostIn q (.acqFree num))) ∧
     (∀ (q : Req) (slot : Byte) (first : BitVec 64) (n : BitVec 16), exec (.acqStream q slot first n) s = .next
       (s.hostIn q (.acqStream slot first n))) ∧
     (∀ (q : Req), exec (.mtrReadout q) s = .next (s.hostIn q .mtrReadout)) ∧
     (∀ (q : Req) (first : Word) (n : Byte), exec (.mtrProfile q first n) s = .next (s.hostIn q (.mtrProfile first n))) ∧
     (∀ (q : Req) (first : Word) (n : Byte), exec (.mtrAuditRead q first n) s = .next (s.hostIn q (.mtrAuditRead first n))) ∧
     (∀ (q : Req), exec (.mtrSeal q) s = .next (s.hostIn q .mtrSeal)) ∧
     (∀ (q : Req), exec (.mtrFwhash q) s = .next (s.hostIn q .mtrFwhash)) ∧
     (∀ (q : Req) (off : BitVec 16) (vals : List Word), exec (.spsWrite q off vals) s = .next (s.hostIn q (.spsWrite off vals))) ∧
     (∀ (q : Req) (chk : Word), exec (.spsConfirm q chk) s = .next (s.hostIn q (.spsConfirm chk))) ∧
     (∀ (q : Req), exec (.safReset q) s = .next (s.hostIn q .safReset)) ∧
     (∀ (q : Req), exec (.safSpb q) s = .next (s.hostIn q .safSpb)) ∧
     (∀ (q : Req) (test : Byte), exec (.safProof q test) s = .next (s.hostIn q (.safProof test))) ∧
     (∀ (q : Req) (out seen : Byte), exec (.safProofOut q out seen) s = .next (s.hostIn q (.safProofOut out seen))) ∧
     (∀ (q : Req) (len ver : Word), exec (.fwBegin q len ver) s = .next (s.hostIn q (.fwBegin len ver))) ∧
     (∀ (q : Req) (off : Word) (data : List Byte), exec (.fwData q off data) s = .next (s.hostIn q (.fwData off data))) ∧
     (∀ (q : Req), exec (.fwEnd q) s = .next (s.hostIn q .fwEnd)) ∧
     (∀ (q : Req) (img : Byte), exec (.fwActivate q img) s = .next (s.hostIn q (.fwActivate img))) ∧
     (∀ (q : Req), exec (.close q) s = .next (s.hostIn q .close)) ∧
     (∀ (q : Req) (anchor : List Byte), exec (.trustSet q anchor) s = .next (s.hostIn q (.trustSet anchor))) ∧
     (∀ (q : Req) (kind : Byte), exec (.keyGen q kind) s = .next (s.hostIn q (.keyGen kind))) ∧
     (∀ (q : Req) (cert : List Byte), exec (.certSet q cert) s = .next (s.hostIn q (.certSet cert))) ∧
     (∀ (q : Req) (token : List Byte), exec (.debugUnlock q token) s = .next (s.hostIn q (.debugUnlock token)))) ∧
    -- The safety channels
    ((∀ (pass : Bool) (sw1 : BitVec 16), exec (.safStartTest pass sw1) s = .next (s.startTest pass sw1)) ∧
     (∀ (why : ShMeasure), exec (.shLost why) s = .next (s.shLostAct why)) ∧
     (∀ (sh : Bool), exec (.slfViolation sh) s = .next (s.slfAct sh)) ∧
     (∀ (sh : Bool), exec (.slaViolation sh) s = .next (s.slaAct sh)) ∧
     (∀ (sh : Bool), exec (.sdpViolation sh) s = .next (s.sdpAct sh)) ∧
     (∀ (sw1 : BitVec 16), sw1 ≠ s.saf.sw1 →
       (({ s with saf := { s.saf with sw1 := sw1 } } : State).safActs && !({ s with saf := { s.saf with sw1 := sw1 } } : State).laneMode) = true →
       exec (.sw1Read sw1) s = .next
       ((({ s with saf := { s.saf with sw1 := sw1 } } : State).setFlag Reg.SAF_FLAGS 8).ssrDemand)) ∧
     exec .shQualify s = .next s.shQualAct ∧
     (s.saf.arch = .diverse → exec .chDisc s = .next (s.setFlag Reg.SAF_FLAGS 1).ssrDemand) ∧
     (∀ t, s.ssrLimit = some t → t ≤ (s.toSysClk t).sys.clk → exec .ssrTimeout s = .next ((s.toSysClk t).ssrExpired)) ∧
     (s.loopOn = true → exec .pblReversal s = .next { s with saf := { s.saf with polarity := !s.saf.polarity, fbRev := true } }) ∧
     (s.loopOn = true → exec .pblOpen s = .next
       ((({ s with saf := { s.saf with fbHigh := false, fbRev := false } } : State).setFlag Reg.SAF_FLAGS 2).spbDemand 8)) ∧
     (∀ (t : Nat) (u : State), s.saf.offAt = some t → u = s.toSysClk (t + 40000) → t + 40000 ≤ u.sys.clk →
       exec .pblStuck s = .next
       (({ u with saf := { u.saf with fbHigh := true, stuck := true, offAt := none } } : State).setFlag Reg.SAF_FLAGS 3).safSettle) ∧
     exec .soutTestPulse s = .next (s.emits (((upto 8).filter (fun i =>
       s.saf.sout.getD i false)).flatMap (fun i =>
      let n := "SOUT" ++ toString (i / 2) ++ (if i % 2 = 0 then "A" else "B")
      [.pin n false, .pin n true])))) ∧
    -- Supply, clocks and memory
    ((∀ (addr : BitVec 20) (corrected : Bool) (user : SramUser), exec (.sramEccError addr corrected user) s = .next
       (s.sramError addr.toNat corrected user)) ∧
     (∀ (addr : Word) (err : Option Bool), exec (.dramPatrol addr err) s = .next (s.dramPatrolAct addr.toNat err)) ∧
     (∀ (q : Fin 6), exec (.qpllLoss q) s = .next (s.qpllLoss q)) ∧
     (∀ (q : Fin 6) (ok : Bool), ok = true → exec (.qpllRelock q ok) s = .next (s.pllSet (4 + q) true)) ∧
     (∀ (mvA mvB : Word), exec (.powerWarn mvA mvB) s = .next (s.powerWarn mvA.toNat mvB.toNat)) ∧
     (∀ (mvA mvB : Word), exec (.powerWarnClear mvA mvB) s = .next (s.powerClear mvA.toNat mvB.toNat)) ∧
     (∀ (ok : Bool), exec (.lifelineDone ok) s = .next (s.lifelineDone ok)) ∧
     exec .spllLoss s = .next s.spllLoss ∧
     exec .refLost s = .next s.refLoss ∧
     exec .apllLoss s = .next s.apllLoss ∧
     (∀ t, s.apllEnd = some t → t ≤ (s.toSysClk t).sys.clk → exec .apllRelockTimeout s = .next (s.toSysClk t).apllLateAct) ∧
     exec .dpllLoss s = .next s.dpllLoss ∧
     exec .bpllLoss s = .next s.bpllLoss ∧
     (∀ k c, s.pwr.handoverLeft = some (k, c) → exec .resetInHandoverTimeout s = .next (s.resetNow c)) ∧
     (s.pwr.stuck = false → exec .rstStuck s = .next
       (({ s with pwr := { s.pwr with stuck := true, resetIn := true } } : State).setFlagEach Reg.PWR_FLAGS 3)) ∧
     exec .rstStuckClear s = .next { s with pwr := { s.pwr with stuck := false, resetIn := false } } ∧
     (s.clk.apllAt.isSome = true → exec .apllRelock s = .next
       (({ s with clk := { s.clk with apllAt := none } } : State).pllSet 3 true))) ∧
    -- Memory and clocks
    ((∀ (err : Option Bool), exec (.scrubStep err) s = .next (s.scrub err)) ∧
     (∀ (fails : List (Fin 32)), exec (.mtSliceReturn fails) s = .next (s.sliceReturn (fails.map (·.val)))) ∧
     (∀ (a b : BitVec 4) (eol : BitVec 2), exec (.emmcLifeCheck a b eol) s = .next (s.emmcCheck a.toNat b.toNat eol.toNat)) ∧
     (∀ (ppm : Word), exec (.bkMeasure ppm) s = .next (s.bkMeasureAct ppm)) ∧
     (∀ (n : Fin 10), s.flag (Reg.CLK_BANDOVRn n) 7 = true → exec (.bandRej n) s = .next (s.setFlagEach Reg.CLK_FLAGS 11 n)) ∧
     exec .remapDone s = .next s.remapDone ∧
     exec .mtSliceBorrow s = .next s.sliceBorrow ∧
     exec .clkGo s = .next s.clkGoAct ∧
     exec .dividerTransfer s = .next s.divTransfer) ∧
    -- Calendar
    ((∀ (mv : Option Word), exec (.batMeasure mv) s = .next (s.batMeasureAct mv)) ∧
     (∀ (m : PtpMsg), exec (.ptpMessageRx m) s = .next (s.ptpRx m)) ∧
     exec .timeRecord s = .next s.timeRecordAct ∧
     exec .calTimeRead s = .next s.calLatch ∧
     exec .ppsInEdge s = .next s.ppsIn ∧
     (∀ t, s.lockEnd = some t → t ≤ (s.toSysClk t).sys.clk → exec .calLocked s = .next (s.toSysClk t).calLock) ∧
     (∀ t, s.sourceEnd = some t → t ≤ (s.toSysClk t).sys.clk → exec .calHoldover s = .next (s.toSysClk t).calHold) ∧
     exec .calSet s = .next s.calSetAct ∧
     (s.flag Reg.CAL_CFG 5 = true → s.cal.st ≠ .invalid → exec .ppsOutPulse s = .next
       (s.emits [.pin "PPS_OUT" true, .pin "PPS_OUT" false])) ∧
     (∀ t, s.holdEndClk = some t → t ≤ (s.toSysClk t).sys.clk → exec .calHoldoverExpire s = .next (s.toSysClk t).holdExpired)) ∧
    -- The pipeline
    (exec .controlSampleDelivery s = .next s.deliver ∧
     exec .dispatchDeadline s = .next s.deadline) ∧
    -- The angle base
    (exec .angThetaRead s = .next s.thetaLatch ∧
     (s.disciplined = true → exec .angleLocked s = .next s.lockGain) ∧
     (s.disciplined = true → s.lockBad = true → exec .lockLost s = .next s.lockLostAct) ∧
     exec .angleHold s = .next s.holdAct) ∧
    -- Modes
    (exec .busQualified s = .next s.busQualAct ∧
     exec .brkDisagree s = .next s.brkDisagreeAct ∧
     exec .castonComplete s = .next s.castonDoneAct ∧
     exec .castonFail s = .next s.castonFailAct ∧
     exec .syncOk s = .next s.syncOkAct ∧
     exec .syncTimeout s = .next s.syncTimeoutAct ∧
     exec .bindOffComplete s = .next s.bindOffAct ∧
     exec .boTimeout s = .next s.boTimeoutAct ∧
     exec .rideThroughEntry s = .next s.rtEntryAct ∧
     exec .rideThroughExit s = .next s.rtExitAct ∧
     exec .holdExpired s = .next s.holdExpAct ∧
     exec .rejoin s = .next s.rejoinSeen) ∧
    -- Ride-through
    (exec .excursionEnd s = .next s.excEnd.trigUpdate ∧
     exec .kzTermEnd s = .next s.kzEnd) ∧
    -- The cover
    (exec .tamperClr s = .next ({ s with sec := { s.sec with coverOpen := false } } : State).tamperClear)) ∧
  -- Submodules and concentrators, without the unit's power
  ((∀ (n : Fin 4096) (w : BitVec 128), exec (.smCmdRx n w) s = .next (s.smCmd n w)) ∧
   (∀ (n : Fin 4096) (x : SmSample), exec (.smLocalAc0 n x) s = .next (s.smAc0 n x)) ∧
   (∀ (n : Fin 4096), s.loopAt n = false → exec (.smPblLost n) s = .next (s.updFar n (fun x =>
     { x with pblLost := true, pblOff := true, pblCnt := 0, st := 3 }))) ∧
   (∀ (n : Fin 4096) (set neg : Bool) (ac : Fin 1024), exec (.smRestrict n set neg ac) s = .next (s.smRestrictAct n set neg ac)) ∧
   (∀ (n : Fin 4096) (bypass : Bool), exec (.smOwnProtection n bypass) s = .next (s.updFar n (fun x =>
     if bypass then { x with byp := true, st := 3 } else { x with localBlk := true, st := 3 }))) ∧
   (∀ (c : Fin 20) (lane : Fin 20) (m : Mark) (tPs : Nat), exec (.concMarkRx c lane m tPs) s = .next (s.concMark c lane m tPs)) ∧
   (∀ (c : Fin 20) (unitB : Bool) (epoch : BitVec 16) (step : Fin 1024) (first : Fin 256) (words : List (BitVec 128)),
     exec (.concCycDnRx c unitB epoch step first words) s = .next (s.concRun c false unitB epoch step first words)) ∧
   (∀ (c : Fin 20) (unitB : Bool) (epoch : BitVec 16) (step : Fin 1024) (first : Fin 256) (words : List (BitVec 128)),
     exec (.concOosRunRx c unitB epoch step first words) s = .next (s.concRun c true unitB epoch step first words)) ∧
   (∀ (c : Fin 20) (unitB set neg : Bool) (arm : Fin 8) (first last rseq : Byte), ∀ k, (s.conc c).owner = some (k, unitB) →
     exec (.concRestrictRx c unitB set neg arm first last rseq) s = .next
     (s.concOut c "RESTRICT" [b2n set, b2n neg, arm, first.toNat, last.toNat, rseq.toNat])) ∧
   (∀ (c : Fin 20) (leftA leftB : Bool), exec (.concWitnessWindow c leftA leftB) s = .next (s.concWitness c leftA leftB)) ∧
   (∀ (c : Fin 20) (lane : Fin 20) (tag : BitVec 16) (turn : BitVec 24), exec (.concEchoReply c lane tag turn) s = .next
     (s.concSend c "ECHO_RSP" lane [tag.toNat, turn.toNat])) ∧
   (∀ (c : Fin 20) (lane : Fin 20) (dDn dUp : BitVec 12) (cport : BitVec 4) (alt : Bool),
     exec (.concDeclare c lane dDn dUp cport alt) s = .next
     (s.concSend c "DECLARE" lane [dDn.toNat, dUp.toNat, (Config.concId c).toNat, cport.toNat, b2n alt])) ∧
   (∀ (c : Fin 20) (unitB : Bool) (lane : Fin 20), exec (.concAuditRx c unitB lane) s = .next ((s.updConc c (fun x =>
     { x with rx := upd x.rx (b2n unitB) (fun r =>
     { r with done := true }), routeA := if unitB then x.routeA else some lane.val, routeB := if unitB then some lane.val else x.routeB })).concAudits c unitB lane)) ∧
   (∀ (c : Fin 20), exec (.concLoopLost c) s = .next ((s.updConc c (fun x =>
     { x with loop := false })).concOut c "LOOP_LOST" [])) ∧
   (∀ (n : Fin 4096) (r : SmRequest), exec (.smBulkRequestRx n r) s = .next (s.smRequest n r)) ∧
   (∀ (c : Fin 20) (lane : Fin 20) (d : BitVec 18) (tag : BitVec 16), exec (.concLatRx c lane d tag) s = .next
     (s.updConc c (fun x => { x with lats := mset 0 x.lats lane d.toNat }))) ∧
   (∀ (c : Fin 20), (s.conc c).owner.isSome = true → exec (.concLoopRestored c) s = .next
     ((s.concSms c).foldl (fun s n => s.updFar n (fun x => { x with pblOff := false }))
      ((s.updConc c (fun x =>
     { x with loop := true })).concOut c "LOOP_RESTORED" [])))) ∧
  -- Supply, clocks and memory, without the unit's power
  ((∀ (b : Bool) (mv : Word), exec (.inputLost b mv) s = .next (s.inputLost b mv.toNat)) ∧
   (∀ (b : Bool) (mv : Word), 33000 ≤ mv.toNat → exec (.inputRestored b mv) s = .next (s.vinSet b mv.toNat)) ∧
   exec .unitStart s = .next s.unitStart ∧
   exec .tamperOpen s = .next s.tamperOpenAct) ∧
  -- Reset causes
  ((s.pwr.on || s.pwr.booted) = true →
    (∀ (rail : Fin 6), exec (.railFault rail) s = .next (s.resetNow 7 rail)) ∧
   exec .supplyReset s = .next (s.resetNow 1) ∧
   exec .resetInPress s = .next s.resetPress ∧
   exec .watchdogReset s = .next (s.resetNow 4))
end

