-- ==== Sys2Proof/Laws/Map.lean ====
section
/-! SUPPORT. The laws of the sparse maps: a read after a write, and the canonical form that every write keeps. -/
namespace Sys2Proof.Machine

/-- The canonical form, taken apart at its first entry. -/
theorem mwf_cons_iff {α : Type} [DecidableEq α] (d : Nat → α) (a : Nat) (v : α) (t : List (Nat × α)) :
    mwf d ((a, v) :: t) = true ↔ v ≠ d a ∧ (∀ p ∈ t, a < p.1) ∧ mwf d t = true := by
  induction t generalizing a v with
  | nil => simp [mwf]
  | cons p t ih =>
    obtain ⟨b, w⟩ := p
    have hb := ih b w
    simp only [mwf, Bool.and_eq_true, decide_eq_true_eq, List.mem_cons, forall_eq_or_imp]
    constructor
    · rintro ⟨⟨hv, hab⟩, hw⟩
      exact ⟨hv, ⟨hab, fun p hp => Nat.lt_trans hab ((hb.mp hw).2.1 p hp)⟩, hw⟩
    · rintro ⟨hv, ⟨hab, _⟩, hw⟩
      exact ⟨⟨hv, hab⟩, hw⟩

/-- What stands in a map after an insertion: the new entry or an old one. -/
theorem mem_mins {α : Type} (m : List (Nat × α)) (k : Nat) (v : α) (p : Nat × α) (h : p ∈ mins m k v) :
    p = (k, v) ∨ p ∈ m := by
  induction m with
  | nil => simpa [mins] using h
  | cons q t ih =>
    obtain ⟨a, w⟩ := q
    simp only [mins] at h
    split at h
    · simpa using h
    · split at h
      · simp only [List.mem_cons] at h ⊢; tauto
      · simp only [List.mem_cons] at h ⊢
        rcases h with h | h
        · exact .inr (.inl h)
        · rcases ih h with h | h
          · exact .inl h
          · exact .inr (.inr h)

/-- What stands in a map after a removal stood in it before. -/
theorem mem_mdel {α : Type} (m : List (Nat × α)) (k : Nat) (p : Nat × α) (h : p ∈ mdel m k) : p ∈ m := by
  induction m with
  | nil => simp [mdel] at h
  | cons q t ih =>
    obtain ⟨a, w⟩ := q
    simp only [mdel] at h
    split at h
    · exact List.mem_cons_of_mem _ h
    · split at h
      · exact h
      · rcases List.mem_cons.mp h with h | h
        · exact h ▸ List.mem_cons_self
        · exact List.mem_cons_of_mem _ (ih h)

theorem mins_mwf {α : Type} [DecidableEq α] (d : Nat → α) (m : List (Nat × α)) (k : Nat) (v : α) (hv : v ≠ d k)
    (h : mwf d m = true) : mwf d (mins m k v) = true := by
  induction m with
  | nil => simpa [mins, mwf] using hv
  | cons q t ih =>
    obtain ⟨a, w⟩ := q
    obtain ⟨hw, hlt, ht⟩ := (mwf_cons_iff d a w t).mp h
    simp only [mins]
    split
    · rename_i hka
      refine (mwf_cons_iff d k v _).mpr ⟨hv, ?_, h⟩
      intro p hp
      rcases List.mem_cons.mp hp with rfl | hp
      · exact hka
      · exact Nat.lt_trans hka (hlt p hp)
    · split
      · rename_i hka
        exact (mwf_cons_iff d k v t).mpr ⟨hv, hka ▸ hlt, ht⟩
      · rename_i h1 h2
        refine (mwf_cons_iff d a w _).mpr ⟨hw, ?_, ih ht⟩
        intro p hp
        rcases mem_mins t k v p hp with rfl | hp
        · simp only; omega
        · exact hlt p hp

theorem mdel_mwf {α : Type} [DecidableEq α] (d : Nat → α) (m : List (Nat × α)) (k : Nat) (h : mwf d m = true) :
    mwf d (mdel m k) = true := by
  induction m with
  | nil => rfl
  | cons q t ih =>
    obtain ⟨a, w⟩ := q
    obtain ⟨hw, hlt, ht⟩ := (mwf_cons_iff d a w t).mp h
    simp only [mdel]
    split
    · exact ht
    · split
      · exact h
      · exact (mwf_cons_iff d a w _).mpr ⟨hw, fun p hp => hlt p (mem_mdel t k p hp), ih ht⟩

/-- A write keeps the canonical form. -/
theorem mset_mwf {α : Type} [DecidableEq α] (d : Nat → α) (m : List (Nat × α)) (k : Nat) (v : α) (h : mwf d m = true) :
    mwf d (mset (d k) m k v) = true := by
  unfold mset
  split
  · exact mdel_mwf d m k h
  · rename_i hv; exact mins_mwf d m k v hv h

theorem mget_mins_self {α : Type} (d : α) (m : List (Nat × α)) (k : Nat) (v : α) : mget d (mins m k v) k = v := by
  induction m with
  | nil => simp [mins, mget]
  | cons q t ih =>
    obtain ⟨a, w⟩ := q
    simp only [mins]
    split
    · simp [mget]
    · split
      · simp [mget]
      · rename_i h1 h2; simp [mget, h2, ih]

theorem mget_mins_ne {α : Type} (d : α) (m : List (Nat × α)) (k j : Nat) (v : α) (hj : j ≠ k) :
    mget d (mins m k v) j = mget d m j := by
  induction m with
  | nil => simp [mins, mget, hj]
  | cons q t ih =>
    obtain ⟨a, w⟩ := q
    simp only [mins]
    split
    · simp [mget, hj]
    · split
      · rename_i h1 h2; subst h2; simp [mget, hj]
      · simp only [mget, ih]

theorem mget_absent {α : Type} (d : α) (m : List (Nat × α)) (k : Nat) (h : ∀ p ∈ m, p.1 ≠ k) : mget d m k = d := by
  induction m with
  | nil => rfl
  | cons q t ih =>
    obtain ⟨a, w⟩ := q
    have ha : k ≠ a := fun e => h (a, w) List.mem_cons_self e.symm
    simp only [mget, ha, if_false]
    exact ih (fun p hp => h p (List.mem_cons_of_mem _ hp))

theorem mget_mdel_self {α : Type} [DecidableEq α] (d : Nat → α) (m : List (Nat × α)) (k : Nat) (h : mwf d m = true) :
    mget (d k) (mdel m k) k = d k := by
  induction m with
  | nil => rfl
  | cons q t ih =>
    obtain ⟨a, w⟩ := q
    obtain ⟨_, hlt, ht⟩ := (mwf_cons_iff d a w t).mp h
    simp only [mdel]
    split
    · rename_i hk; subst hk
      exact mget_absent _ t _ (fun p hp => Nat.ne_of_gt (hlt p hp))
    · split
      · rename_i h1 h2
        refine mget_absent _ _ _ (fun p hp => ?_)
        rcases List.mem_cons.mp hp with rfl | hp
        · exact fun e => h1 e.symm
        · exact Nat.ne_of_gt (Nat.lt_trans h2 (hlt p hp))
      · rename_i h1 h2
        simp only [mget, h1, if_false]
        exact ih ht

theorem mget_mdel_ne {α : Type} (d : α) (m : List (Nat × α)) (k j : Nat) (hj : j ≠ k) :
    mget d (mdel m k) j = mget d m j := by
  induction m with
  | nil => rfl
  | cons q t ih =>
    obtain ⟨a, w⟩ := q
    simp only [mdel]
    split
    · rename_i hk; subst hk; simp [mget, hj]
    · split
      · rfl
      · simp only [mget, ih]

/-- A read of the key written gives the value written, of a map in canonical form. -/
theorem mget_mset_self {α : Type} [DecidableEq α] (d : Nat → α) (m : List (Nat × α)) (k : Nat) (v : α)
    (h : mwf d m = true) : mget (d k) (mset (d k) m k v) k = v := by
  unfold mset
  split
  · rename_i hv; rw [hv]; exact mget_mdel_self d m k h
  · exact mget_mins_self _ m k v

/-- A read of any other key gives what it gave before. -/
theorem mget_mset_ne {α : Type} [DecidableEq α] (d e : α) (m : List (Nat × α)) (k j : Nat) (v : α) (hj : j ≠ k) :
    mget e (mset d m k v) j = mget e m j := by
  unfold mset
  split
  · exact mget_mdel_ne e m k j hj
  · exact mget_mins_ne e m k j v hj

end Sys2Proof.Machine
end

