-- ==== Sys2Proof/Laws/Sound.lean ====
section
/-! SUPPORT. What the shared operations keep of a sound state (Safety.lean): one lemma per operation, cited by the lemmas
about every block. -/
namespace Sys2Proof.Machine

theorem soundOf_iff (r : Word) (m : List (Nat × Word)) (ev : Evlog) (l : List Nat) :
    soundOf r m ev l = true ↔ rateOk r = true ∧ mwf regReset m = true ∧ ev.ok = true ∧ l = unitShape := by
  simp [soundOf, and_assoc]

/-- The steady part of a state written out field by field. -/
theorem State.steady_mk (sys ang pipe gfe mo rt arm lnk ldg pair saf pwr pwm adc flt acq mtr snap far cmd mem clk cal sec pending) :
    (State.mk sys ang pipe gfe mo rt arm lnk ldg pair saf pwr pwm adc flt acq mtr snap far cmd mem clk cal sec pending).steady =
      (soundOf ang.rate sys.regs sys.ev
        [lnk.ports.length, lnk.lanes.length, lnk.assocs.length, pwm.ctrs.length, pwm.trips.length, adc.cores.length,
        flt.length, acq.units.length, acq.slots.length, snap.bufs.length, far.concs.length, mem.banks.length,
        clk.lock.length, saf.sins.length, pair.paths.length, ldg.sweeps.length],
        pending, sys.order, sys.serial, sys.hwrev) := by
  simp only [State.steady, State.sound, State.shape]

theorem State.steady_fold (s : State) :
    (soundOf s.ang.rate s.sys.regs s.sys.ev
        [s.lnk.ports.length, s.lnk.lanes.length, s.lnk.assocs.length, s.pwm.ctrs.length, s.pwm.trips.length, s.adc.cores.length,
        s.flt.length, s.acq.units.length, s.acq.slots.length, s.snap.bufs.length, s.far.concs.length, s.mem.banks.length,
        s.clk.lock.length, s.saf.sins.length, s.pair.paths.length, s.ldg.sweeps.length],
        s.pending, s.sys.order, s.sys.serial, s.sys.hwrev) = s.steady := by
  simp only [State.steady, State.sound, State.shape]

@[simp] theorem upd_length {α : Type} (l : List α) (i : Nat) (f : α → α) : (upd l i f).length = l.length := by
  simp [upd]

theorem State.steady_ite (c : Prop) [Decidable c] (a b : State) :
    (if c then a else b).steady = if c then a.steady else b.steady := by split <;> rfl

theorem State.sound_of_steady {s : State} (h : s.steady.1 = true) :
    rateOk s.ang.rate = true ∧ mwf regReset s.sys.regs = true ∧ s.sys.ev.ok = true :=
  let h := (soundOf_iff _ _ _ _).mp h
  ⟨h.1, h.2.1, h.2.2.1⟩

theorem State.shape_of_steady {s : State} (h : s.steady.1 = true) : s.shape = unitShape := ((soundOf_iff _ _ _ _).mp h).2.2.2

/-- A next state keeps what is steady where it is sound and the identity and the queue stand. -/
theorem State.steady_ext {s t : State} (h : s.steady.1 = true) (hr : rateOk t.ang.rate = true)
    (hm : mwf regReset t.sys.regs = true) (he : t.sys.ev.ok = true) (hl : t.shape = s.shape) (hp : t.pending = s.pending)
    (ho : t.sys.order = s.sys.order) (hs : t.sys.serial = s.sys.serial) (hw : t.sys.hwrev = s.sys.hwrev) :
    t.steady = s.steady := by
  have h1 : s.sound = true := h
  have h2 : t.sound = true := (soundOf_iff _ _ _ _).mpr ⟨hr, hm, he, hl.trans (State.shape_of_steady h)⟩
  simp only [State.steady, h1, h2, hp, ho, hs, hw]

theorem regsSet_mwf (m : List (Nat × Word)) (a : Nat) (v : Word) (h : mwf regReset m = true) :
    mwf regReset (regsSet m a v) = true := mset_mwf regReset m a v h

theorem State.setReg_steady (s : State) (a : Nat) (v : Word) (h : s.steady.1 = true) :
    (s.setReg a v).steady = s.steady := by
  obtain ⟨hr, hm, he⟩ := State.sound_of_steady h
  exact State.steady_ext h hr (regsSet_mwf _ a v hm) he rfl rfl rfl rfl rfl

theorem Evlog.ok_iff (ev : Evlog) : ev.ok = true ↔ ev.staged.length ≤ 1024 ∧ ev.indexed.length ≤ 262144 ∧
    ev.oldest + ev.indexed.length = ev.next ∧ ev.indexed.map (·.index) = List.range' ev.oldest ev.indexed.length := by
  simp [Evlog.ok, and_assoc]

/-- Staging keeps the log: the ring never holds more than 1,024 entries. -/
theorem Evlog.stage_ok (ev : Evlog) (e : EvEntry) (h : ev.ok = true) : (ev.stage e).1.ok = true := by
  obtain ⟨h1, h2, h3, h4⟩ := (Evlog.ok_iff ev).mp h
  rw [Evlog.ok_iff]
  unfold Evlog.stage
  split
  · split
    · refine ⟨?_, h2, h3, h4⟩; simp only [List.length_append, List.length_singleton]; omega
    · exact ⟨h1, h2, h3, h4⟩
  · split
    · refine ⟨?_, h2, h3, h4⟩; simp only [List.length_append, List.length_cons, List.length_nil]; omega
    · exact ⟨h1, h2, h3, h4⟩

theorem State.logEv_steady (s : State) (cls source code data : Nat) (fw : Bool) (h : s.steady.1 = true) :
    (s.logEv cls source code data fw).steady = s.steady := by
  obtain ⟨hr, hm, he⟩ := State.sound_of_steady h
  refine State.steady_ext h hr ?_ ?_ rfl rfl rfl rfl rfl
  · simp only [State.logEv]
    split
    · exact regsSet_mwf _ _ _ hm
    · exact hm
  · have := Evlog.stage_ok s.sys.ev (s.mkEntry cls source code data fw) he
    rw [Evlog.ok_iff] at this ⊢
    exact this

theorem State.logFlag_steady (s : State) (a b q : Nat) (cls : Option Nat) (h : s.steady.1 = true) :
    (s.logFlag a b q cls).steady = s.steady := s.logEv_steady _ _ _ _ _ h

theorem State.setFlag_steady (s : State) (a b q : Nat) (cls : Option Nat) (h : s.steady.1 = true) :
    (s.setFlag a b q cls).steady = s.steady := by
  unfold State.setFlag
  split
  · rfl
  · have h1 := s.setReg_steady a (putBit (s.reg a) b true) h
    rw [State.logFlag_steady _ _ _ _ _ (by rw [h1]; exact h), h1]

/-- One action after another: both keep what is steady. -/
theorem State.steady_trans {s t u : State} (h1 : t.steady.1 = true → u.steady = t.steady) (h2 : t.steady = s.steady)
    (hk : s.steady.1 = true) : u.steady = s.steady :=
  (h1 (by rw [h2]; exact hk)).trans h2

theorem State.ite_steady {c : Prop} [Decidable c] {s a b : State} (ha : c → a.steady = s.steady)
    (hb : ¬c → b.steady = s.steady) : (if c then a else b).steady = s.steady := by
  split
  · exact ha ‹_›
  · exact hb ‹_›

theorem State.ite_snd_steady {β : Type} {c : Prop} [Decidable c] {s : State} {a b : β × State} (ha : c → a.2.steady = s.steady)
    (hb : ¬c → b.2.steady = s.steady) : (if c then a else b).2.steady = s.steady := by
  split
  · exact ha ‹_›
  · exact hb ‹_›

theorem State.ite_thd_steady {β γ : Type} {c : Prop} [Decidable c] {s : State} {a b : β × γ × State}
    (ha : c → a.2.2.steady = s.steady) (hb : ¬c → b.2.2.steady = s.steady) : (if c then a else b).2.2.steady = s.steady := by
  split
  · exact ha ‹_›
  · exact hb ‹_›

theorem State.live_steady {s t u : State} (h : s.live t = .next u) (ht : t.steady = s.steady) : u.steady = s.steady := by
  obtain rfl := Host.Outcome.next.inj h
  exact State.ite_steady (fun _ => ht) (fun _ => rfl)

theorem State.next_steady {s t u : State} (h : (.next t : Host.Outcome State Fault Refusal) = .next u)
    (ht : t.steady = s.steady) : u.steady = s.steady := by
  obtain rfl := Host.Outcome.next.inj h
  exact ht

/-- A run of actions over a list keeps what each of them keeps. -/
theorem State.foldl_steady {α : Type} (g : State → α → State) (l : List α) (s : State) (h : s.steady.1 = true)
    (hg : ∀ s x, s.steady.1 = true → (g s x).steady = s.steady) : (l.foldl g s).steady = s.steady := by
  induction l generalizing s with
  | nil => rfl
  | cons x l ih =>
    have h1 := hg s x h
    rw [List.foldl_cons, ih _ (by rw [h1]; exact h), h1]

/-- A run of actions that each give a value beside the state. -/
theorem State.foldl_snd_steady {α β : Type} (g : β × State → α → β × State) (l : List α) (r : β × State)
    (h : r.2.steady.1 = true) (hg : ∀ r x, r.2.steady.1 = true → (g r x).2.steady = r.2.steady) :
    (l.foldl g r).2.steady = r.2.steady := by
  induction l generalizing r with
  | nil => rfl
  | cons x l ih =>
    have h1 := hg r x h
    rw [List.foldl_cons, ih _ (by rw [h1]; exact h), h1]

theorem State.when_steady (s : State) (c : Bool) (f : State → State) (h : s.steady.1 = true)
    (hf : s.steady.1 = true → (f s).steady = s.steady) : (s.when c f).steady = s.steady := by
  unfold State.when
  split
  · exact hf h
  · rfl

theorem State.setFlags_steady (s : State) (l : List (Nat × Nat)) (h : s.steady.1 = true) :
    (s.setFlags l).steady = s.steady :=
  State.foldl_steady _ l s h (fun s p h => s.setFlag_steady p.1 p.2 _ _ h)

end Sys2Proof.Machine
end

