-- ==== Sys2Proof/Laws/State.lean ====
section
/-! SUPPORT. What each shared operation leaves of the state, one lemma per field and operation, and what a register or a
flag reads after a write. -/
namespace Sys2Proof.Machine

/-! ### setReg -/

@[simp] theorem State.setReg_ang (s : State) (a : Nat) (v : Word) : (s.setReg a v).ang = s.ang := rfl
@[simp] theorem State.setReg_pipe (s : State) (a : Nat) (v : Word) : (s.setReg a v).pipe = s.pipe := rfl
@[simp] theorem State.setReg_gfe (s : State) (a : Nat) (v : Word) : (s.setReg a v).gfe = s.gfe := rfl
@[simp] theorem State.setReg_mo (s : State) (a : Nat) (v : Word) : (s.setReg a v).mo = s.mo := rfl
@[simp] theorem State.setReg_rt (s : State) (a : Nat) (v : Word) : (s.setReg a v).rt = s.rt := rfl
@[simp] theorem State.setReg_arm (s : State) (a : Nat) (v : Word) : (s.setReg a v).arm = s.arm := rfl
@[simp] theorem State.setReg_lnk (s : State) (a : Nat) (v : Word) : (s.setReg a v).lnk = s.lnk := rfl
@[simp] theorem State.setReg_ldg (s : State) (a : Nat) (v : Word) : (s.setReg a v).ldg = s.ldg := rfl
@[simp] theorem State.setReg_pair (s : State) (a : Nat) (v : Word) : (s.setReg a v).pair = s.pair := rfl
@[simp] theorem State.setReg_saf (s : State) (a : Nat) (v : Word) : (s.setReg a v).saf = s.saf := rfl
@[simp] theorem State.setReg_pwr (s : State) (a : Nat) (v : Word) : (s.setReg a v).pwr = s.pwr := rfl
@[simp] theorem State.setReg_pwm (s : State) (a : Nat) (v : Word) : (s.setReg a v).pwm = s.pwm := rfl
@[simp] theorem State.setReg_adc (s : State) (a : Nat) (v : Word) : (s.setReg a v).adc = s.adc := rfl
@[simp] theorem State.setReg_flt (s : State) (a : Nat) (v : Word) : (s.setReg a v).flt = s.flt := rfl
@[simp] theorem State.setReg_acq (s : State) (a : Nat) (v : Word) : (s.setReg a v).acq = s.acq := rfl
@[simp] theorem State.setReg_mtr (s : State) (a : Nat) (v : Word) : (s.setReg a v).mtr = s.mtr := rfl
@[simp] theorem State.setReg_snap (s : State) (a : Nat) (v : Word) : (s.setReg a v).snap = s.snap := rfl
@[simp] theorem State.setReg_far (s : State) (a : Nat) (v : Word) : (s.setReg a v).far = s.far := rfl
@[simp] theorem State.setReg_cmd (s : State) (a : Nat) (v : Word) : (s.setReg a v).cmd = s.cmd := rfl
@[simp] theorem State.setReg_mem (s : State) (a : Nat) (v : Word) : (s.setReg a v).mem = s.mem := rfl
@[simp] theorem State.setReg_clk (s : State) (a : Nat) (v : Word) : (s.setReg a v).clk = s.clk := rfl
@[simp] theorem State.setReg_cal (s : State) (a : Nat) (v : Word) : (s.setReg a v).cal = s.cal := rfl
@[simp] theorem State.setReg_sec (s : State) (a : Nat) (v : Word) : (s.setReg a v).sec = s.sec := rfl
@[simp] theorem State.setReg_pending (s : State) (a : Nat) (v : Word) : (s.setReg a v).pending = s.pending := rfl
@[simp] theorem State.setReg_sys_clk (s : State) (a : Nat) (v : Word) : (s.setReg a v).sys.clk = s.sys.clk := rfl
@[simp] theorem State.setReg_sys_bclk (s : State) (a : Nat) (v : Word) : (s.setReg a v).sys.bclk = s.sys.bclk := rfl
@[simp] theorem State.setReg_sys_tai (s : State) (a : Nat) (v : Word) : (s.setReg a v).sys.tai = s.sys.tai := rfl
@[simp] theorem State.setReg_sys_order (s : State) (a : Nat) (v : Word) : (s.setReg a v).sys.order = s.sys.order := rfl
@[simp] theorem State.setReg_sys_serial (s : State) (a : Nat) (v : Word) : (s.setReg a v).sys.serial = s.sys.serial := rfl
@[simp] theorem State.setReg_sys_fwver (s : State) (a : Nat) (v : Word) : (s.setReg a v).sys.fwver = s.sys.fwver := rfl
@[simp] theorem State.setReg_sys_hwrev (s : State) (a : Nat) (v : Word) : (s.setReg a v).sys.hwrev = s.sys.hwrev := rfl
@[simp] theorem State.setReg_sys_marks (s : State) (a : Nat) (v : Word) : (s.setReg a v).sys.marks = s.sys.marks := rfl
@[simp] theorem State.setReg_sys_cfgA (s : State) (a : Nat) (v : Word) : (s.setReg a v).sys.cfgA = s.sys.cfgA := rfl
@[simp] theorem State.setReg_sys_cfgB (s : State) (a : Nat) (v : Word) : (s.setReg a v).sys.cfgB = s.sys.cfgB := rfl
@[simp] theorem State.setReg_sys_ev (s : State) (a : Nat) (v : Word) : (s.setReg a v).sys.ev = s.sys.ev := rfl
@[simp] theorem State.setReg_sys_out (s : State) (a : Nat) (v : Word) : (s.setReg a v).sys.out = s.sys.out := rfl
@[simp] theorem State.setReg_sys_free (s : State) (a : Nat) (v : Word) : (s.setReg a v).sys.free = s.sys.free := rfl

/-! ### bump -/

@[simp] theorem State.bump_ang (s : State) (a : Nat) : (s.bump a).ang = s.ang := rfl
@[simp] theorem State.bump_pipe (s : State) (a : Nat) : (s.bump a).pipe = s.pipe := rfl
@[simp] theorem State.bump_gfe (s : State) (a : Nat) : (s.bump a).gfe = s.gfe := rfl
@[simp] theorem State.bump_mo (s : State) (a : Nat) : (s.bump a).mo = s.mo := rfl
@[simp] theorem State.bump_rt (s : State) (a : Nat) : (s.bump a).rt = s.rt := rfl
@[simp] theorem State.bump_arm (s : State) (a : Nat) : (s.bump a).arm = s.arm := rfl
@[simp] theorem State.bump_lnk (s : State) (a : Nat) : (s.bump a).lnk = s.lnk := rfl
@[simp] theorem State.bump_ldg (s : State) (a : Nat) : (s.bump a).ldg = s.ldg := rfl
@[simp] theorem State.bump_pair (s : State) (a : Nat) : (s.bump a).pair = s.pair := rfl
@[simp] theorem State.bump_saf (s : State) (a : Nat) : (s.bump a).saf = s.saf := rfl
@[simp] theorem State.bump_pwr (s : State) (a : Nat) : (s.bump a).pwr = s.pwr := rfl
@[simp] theorem State.bump_pwm (s : State) (a : Nat) : (s.bump a).pwm = s.pwm := rfl
@[simp] theorem State.bump_adc (s : State) (a : Nat) : (s.bump a).adc = s.adc := rfl
@[simp] theorem State.bump_flt (s : State) (a : Nat) : (s.bump a).flt = s.flt := rfl
@[simp] theorem State.bump_acq (s : State) (a : Nat) : (s.bump a).acq = s.acq := rfl
@[simp] theorem State.bump_mtr (s : State) (a : Nat) : (s.bump a).mtr = s.mtr := rfl
@[simp] theorem State.bump_snap (s : State) (a : Nat) : (s.bump a).snap = s.snap := rfl
@[simp] theorem State.bump_far (s : State) (a : Nat) : (s.bump a).far = s.far := rfl
@[simp] theorem State.bump_cmd (s : State) (a : Nat) : (s.bump a).cmd = s.cmd := rfl
@[simp] theorem State.bump_mem (s : State) (a : Nat) : (s.bump a).mem = s.mem := rfl
@[simp] theorem State.bump_clk (s : State) (a : Nat) : (s.bump a).clk = s.clk := rfl
@[simp] theorem State.bump_cal (s : State) (a : Nat) : (s.bump a).cal = s.cal := rfl
@[simp] theorem State.bump_sec (s : State) (a : Nat) : (s.bump a).sec = s.sec := rfl
@[simp] theorem State.bump_pending (s : State) (a : Nat) : (s.bump a).pending = s.pending := rfl
@[simp] theorem State.bump_sys_clk (s : State) (a : Nat) : (s.bump a).sys.clk = s.sys.clk := rfl
@[simp] theorem State.bump_sys_bclk (s : State) (a : Nat) : (s.bump a).sys.bclk = s.sys.bclk := rfl
@[simp] theorem State.bump_sys_tai (s : State) (a : Nat) : (s.bump a).sys.tai = s.sys.tai := rfl
@[simp] theorem State.bump_sys_order (s : State) (a : Nat) : (s.bump a).sys.order = s.sys.order := rfl
@[simp] theorem State.bump_sys_serial (s : State) (a : Nat) : (s.bump a).sys.serial = s.sys.serial := rfl
@[simp] theorem State.bump_sys_fwver (s : State) (a : Nat) : (s.bump a).sys.fwver = s.sys.fwver := rfl
@[simp] theorem State.bump_sys_hwrev (s : State) (a : Nat) : (s.bump a).sys.hwrev = s.sys.hwrev := rfl
@[simp] theorem State.bump_sys_marks (s : State) (a : Nat) : (s.bump a).sys.marks = s.sys.marks := rfl
@[simp] theorem State.bump_sys_cfgA (s : State) (a : Nat) : (s.bump a).sys.cfgA = s.sys.cfgA := rfl
@[simp] theorem State.bump_sys_cfgB (s : State) (a : Nat) : (s.bump a).sys.cfgB = s.sys.cfgB := rfl
@[simp] theorem State.bump_sys_ev (s : State) (a : Nat) : (s.bump a).sys.ev = s.sys.ev := rfl
@[simp] theorem State.bump_sys_out (s : State) (a : Nat) : (s.bump a).sys.out = s.sys.out := rfl
@[simp] theorem State.bump_sys_free (s : State) (a : Nat) : (s.bump a).sys.free = s.sys.free := rfl

/-! ### bumpBy -/

@[simp] theorem State.bumpBy_ang (s : State) (a n : Nat) : (s.bumpBy a n).ang = s.ang := rfl
@[simp] theorem State.bumpBy_pipe (s : State) (a n : Nat) : (s.bumpBy a n).pipe = s.pipe := rfl
@[simp] theorem State.bumpBy_gfe (s : State) (a n : Nat) : (s.bumpBy a n).gfe = s.gfe := rfl
@[simp] theorem State.bumpBy_mo (s : State) (a n : Nat) : (s.bumpBy a n).mo = s.mo := rfl
@[simp] theorem State.bumpBy_rt (s : State) (a n : Nat) : (s.bumpBy a n).rt = s.rt := rfl
@[simp] theorem State.bumpBy_arm (s : State) (a n : Nat) : (s.bumpBy a n).arm = s.arm := rfl
@[simp] theorem State.bumpBy_lnk (s : State) (a n : Nat) : (s.bumpBy a n).lnk = s.lnk := rfl
@[simp] theorem State.bumpBy_ldg (s : State) (a n : Nat) : (s.bumpBy a n).ldg = s.ldg := rfl
@[simp] theorem State.bumpBy_pair (s : State) (a n : Nat) : (s.bumpBy a n).pair = s.pair := rfl
@[simp] theorem State.bumpBy_saf (s : State) (a n : Nat) : (s.bumpBy a n).saf = s.saf := rfl
@[simp] theorem State.bumpBy_pwr (s : State) (a n : Nat) : (s.bumpBy a n).pwr = s.pwr := rfl
@[simp] theorem State.bumpBy_pwm (s : State) (a n : Nat) : (s.bumpBy a n).pwm = s.pwm := rfl
@[simp] theorem State.bumpBy_adc (s : State) (a n : Nat) : (s.bumpBy a n).adc = s.adc := rfl
@[simp] theorem State.bumpBy_flt (s : State) (a n : Nat) : (s.bumpBy a n).flt = s.flt := rfl
@[simp] theorem State.bumpBy_acq (s : State) (a n : Nat) : (s.bumpBy a n).acq = s.acq := rfl
@[simp] theorem State.bumpBy_mtr (s : State) (a n : Nat) : (s.bumpBy a n).mtr = s.mtr := rfl
@[simp] theorem State.bumpBy_snap (s : State) (a n : Nat) : (s.bumpBy a n).snap = s.snap := rfl
@[simp] theorem State.bumpBy_far (s : State) (a n : Nat) : (s.bumpBy a n).far = s.far := rfl
@[simp] theorem State.bumpBy_cmd (s : State) (a n : Nat) : (s.bumpBy a n).cmd = s.cmd := rfl
@[simp] theorem State.bumpBy_mem (s : State) (a n : Nat) : (s.bumpBy a n).mem = s.mem := rfl
@[simp] theorem State.bumpBy_clk (s : State) (a n : Nat) : (s.bumpBy a n).clk = s.clk := rfl
@[simp] theorem State.bumpBy_cal (s : State) (a n : Nat) : (s.bumpBy a n).cal = s.cal := rfl
@[simp] theorem State.bumpBy_sec (s : State) (a n : Nat) : (s.bumpBy a n).sec = s.sec := rfl
@[simp] theorem State.bumpBy_pending (s : State) (a n : Nat) : (s.bumpBy a n).pending = s.pending := rfl
@[simp] theorem State.bumpBy_sys_clk (s : State) (a n : Nat) : (s.bumpBy a n).sys.clk = s.sys.clk := rfl
@[simp] theorem State.bumpBy_sys_bclk (s : State) (a n : Nat) : (s.bumpBy a n).sys.bclk = s.sys.bclk := rfl
@[simp] theorem State.bumpBy_sys_tai (s : State) (a n : Nat) : (s.bumpBy a n).sys.tai = s.sys.tai := rfl
@[simp] theorem State.bumpBy_sys_order (s : State) (a n : Nat) : (s.bumpBy a n).sys.order = s.sys.order := rfl
@[simp] theorem State.bumpBy_sys_serial (s : State) (a n : Nat) : (s.bumpBy a n).sys.serial = s.sys.serial := rfl
@[simp] theorem State.bumpBy_sys_fwver (s : State) (a n : Nat) : (s.bumpBy a n).sys.fwver = s.sys.fwver := rfl
@[simp] theorem State.bumpBy_sys_hwrev (s : State) (a n : Nat) : (s.bumpBy a n).sys.hwrev = s.sys.hwrev := rfl
@[simp] theorem State.bumpBy_sys_marks (s : State) (a n : Nat) : (s.bumpBy a n).sys.marks = s.sys.marks := rfl
@[simp] theorem State.bumpBy_sys_cfgA (s : State) (a n : Nat) : (s.bumpBy a n).sys.cfgA = s.sys.cfgA := rfl
@[simp] theorem State.bumpBy_sys_cfgB (s : State) (a n : Nat) : (s.bumpBy a n).sys.cfgB = s.sys.cfgB := rfl
@[simp] theorem State.bumpBy_sys_ev (s : State) (a n : Nat) : (s.bumpBy a n).sys.ev = s.sys.ev := rfl
@[simp] theorem State.bumpBy_sys_out (s : State) (a n : Nat) : (s.bumpBy a n).sys.out = s.sys.out := rfl
@[simp] theorem State.bumpBy_sys_free (s : State) (a n : Nat) : (s.bumpBy a n).sys.free = s.sys.free := rfl

/-! ### emit -/

@[simp] theorem State.emit_ang (s : State) (o : Out) : (s.emit o).ang = s.ang := rfl
@[simp] theorem State.emit_pipe (s : State) (o : Out) : (s.emit o).pipe = s.pipe := rfl
@[simp] theorem State.emit_gfe (s : State) (o : Out) : (s.emit o).gfe = s.gfe := rfl
@[simp] theorem State.emit_mo (s : State) (o : Out) : (s.emit o).mo = s.mo := rfl
@[simp] theorem State.emit_rt (s : State) (o : Out) : (s.emit o).rt = s.rt := rfl
@[simp] theorem State.emit_arm (s : State) (o : Out) : (s.emit o).arm = s.arm := rfl
@[simp] theorem State.emit_lnk (s : State) (o : Out) : (s.emit o).lnk = s.lnk := rfl
@[simp] theorem State.emit_ldg (s : State) (o : Out) : (s.emit o).ldg = s.ldg := rfl
@[simp] theorem State.emit_pair (s : State) (o : Out) : (s.emit o).pair = s.pair := rfl
@[simp] theorem State.emit_saf (s : State) (o : Out) : (s.emit o).saf = s.saf := rfl
@[simp] theorem State.emit_pwr (s : State) (o : Out) : (s.emit o).pwr = s.pwr := rfl
@[simp] theorem State.emit_pwm (s : State) (o : Out) : (s.emit o).pwm = s.pwm := rfl
@[simp] theorem State.emit_adc (s : State) (o : Out) : (s.emit o).adc = s.adc := rfl
@[simp] theorem State.emit_flt (s : State) (o : Out) : (s.emit o).flt = s.flt := rfl
@[simp] theorem State.emit_acq (s : State) (o : Out) : (s.emit o).acq = s.acq := rfl
@[simp] theorem State.emit_mtr (s : State) (o : Out) : (s.emit o).mtr = s.mtr := rfl
@[simp] theorem State.emit_snap (s : State) (o : Out) : (s.emit o).snap = s.snap := rfl
@[simp] theorem State.emit_far (s : State) (o : Out) : (s.emit o).far = s.far := rfl
@[simp] theorem State.emit_cmd (s : State) (o : Out) : (s.emit o).cmd = s.cmd := rfl
@[simp] theorem State.emit_mem (s : State) (o : Out) : (s.emit o).mem = s.mem := rfl
@[simp] theorem State.emit_clk (s : State) (o : Out) : (s.emit o).clk = s.clk := rfl
@[simp] theorem State.emit_cal (s : State) (o : Out) : (s.emit o).cal = s.cal := rfl
@[simp] theorem State.emit_sec (s : State) (o : Out) : (s.emit o).sec = s.sec := rfl
@[simp] theorem State.emit_pending (s : State) (o : Out) : (s.emit o).pending = s.pending := rfl
@[simp] theorem State.emit_sys_clk (s : State) (o : Out) : (s.emit o).sys.clk = s.sys.clk := rfl
@[simp] theorem State.emit_sys_bclk (s : State) (o : Out) : (s.emit o).sys.bclk = s.sys.bclk := rfl
@[simp] theorem State.emit_sys_tai (s : State) (o : Out) : (s.emit o).sys.tai = s.sys.tai := rfl
@[simp] theorem State.emit_sys_order (s : State) (o : Out) : (s.emit o).sys.order = s.sys.order := rfl
@[simp] theorem State.emit_sys_serial (s : State) (o : Out) : (s.emit o).sys.serial = s.sys.serial := rfl
@[simp] theorem State.emit_sys_fwver (s : State) (o : Out) : (s.emit o).sys.fwver = s.sys.fwver := rfl
@[simp] theorem State.emit_sys_hwrev (s : State) (o : Out) : (s.emit o).sys.hwrev = s.sys.hwrev := rfl
@[simp] theorem State.emit_sys_marks (s : State) (o : Out) : (s.emit o).sys.marks = s.sys.marks := rfl
@[simp] theorem State.emit_sys_cfgA (s : State) (o : Out) : (s.emit o).sys.cfgA = s.sys.cfgA := rfl
@[simp] theorem State.emit_sys_cfgB (s : State) (o : Out) : (s.emit o).sys.cfgB = s.sys.cfgB := rfl
@[simp] theorem State.emit_sys_ev (s : State) (o : Out) : (s.emit o).sys.ev = s.sys.ev := rfl
@[simp] theorem State.emit_sys_free (s : State) (o : Out) : (s.emit o).sys.free = s.sys.free := rfl
@[simp] theorem State.emit_sys_regs (s : State) (o : Out) : (s.emit o).sys.regs = s.sys.regs := rfl

/-! ### emits -/

@[simp] theorem State.emits_ang (s : State) (l : List Out) : (s.emits l).ang = s.ang := rfl
@[simp] theorem State.emits_pipe (s : State) (l : List Out) : (s.emits l).pipe = s.pipe := rfl
@[simp] theorem State.emits_gfe (s : State) (l : List Out) : (s.emits l).gfe = s.gfe := rfl
@[simp] theorem State.emits_mo (s : State) (l : List Out) : (s.emits l).mo = s.mo := rfl
@[simp] theorem State.emits_rt (s : State) (l : List Out) : (s.emits l).rt = s.rt := rfl
@[simp] theorem State.emits_arm (s : State) (l : List Out) : (s.emits l).arm = s.arm := rfl
@[simp] theorem State.emits_lnk (s : State) (l : List Out) : (s.emits l).lnk = s.lnk := rfl
@[simp] theorem State.emits_ldg (s : State) (l : List Out) : (s.emits l).ldg = s.ldg := rfl
@[simp] theorem State.emits_pair (s : State) (l : List Out) : (s.emits l).pair = s.pair := rfl
@[simp] theorem State.emits_saf (s : State) (l : List Out) : (s.emits l).saf = s.saf := rfl
@[simp] theorem State.emits_pwr (s : State) (l : List Out) : (s.emits l).pwr = s.pwr := rfl
@[simp] theorem State.emits_pwm (s : State) (l : List Out) : (s.emits l).pwm = s.pwm := rfl
@[simp] theorem State.emits_adc (s : State) (l : List Out) : (s.emits l).adc = s.adc := rfl
@[simp] theorem State.emits_flt (s : State) (l : List Out) : (s.emits l).flt = s.flt := rfl
@[simp] theorem State.emits_acq (s : State) (l : List Out) : (s.emits l).acq = s.acq := rfl
@[simp] theorem State.emits_mtr (s : State) (l : List Out) : (s.emits l).mtr = s.mtr := rfl
@[simp] theorem State.emits_snap (s : State) (l : List Out) : (s.emits l).snap = s.snap := rfl
@[simp] theorem State.emits_far (s : State) (l : List Out) : (s.emits l).far = s.far := rfl
@[simp] theorem State.emits_cmd (s : State) (l : List Out) : (s.emits l).cmd = s.cmd := rfl
@[simp] theorem State.emits_mem (s : State) (l : List Out) : (s.emits l).mem = s.mem := rfl
@[simp] theorem State.emits_clk (s : State) (l : List Out) : (s.emits l).clk = s.clk := rfl
@[simp] theorem State.emits_cal (s : State) (l : List Out) : (s.emits l).cal = s.cal := rfl
@[simp] theorem State.emits_sec (s : State) (l : List Out) : (s.emits l).sec = s.sec := rfl
@[simp] theorem State.emits_pending (s : State) (l : List Out) : (s.emits l).pending = s.pending := rfl
@[simp] theorem State.emits_sys_clk (s : State) (l : List Out) : (s.emits l).sys.clk = s.sys.clk := rfl
@[simp] theorem State.emits_sys_bclk (s : State) (l : List Out) : (s.emits l).sys.bclk = s.sys.bclk := rfl
@[simp] theorem State.emits_sys_tai (s : State) (l : List Out) : (s.emits l).sys.tai = s.sys.tai := rfl
@[simp] theorem State.emits_sys_order (s : State) (l : List Out) : (s.emits l).sys.order = s.sys.order := rfl
@[simp] theorem State.emits_sys_serial (s : State) (l : List Out) : (s.emits l).sys.serial = s.sys.serial := rfl
@[simp] theorem State.emits_sys_fwver (s : State) (l : List Out) : (s.emits l).sys.fwver = s.sys.fwver := rfl
@[simp] theorem State.emits_sys_hwrev (s : State) (l : List Out) : (s.emits l).sys.hwrev = s.sys.hwrev := rfl
@[simp] theorem State.emits_sys_marks (s : State) (l : List Out) : (s.emits l).sys.marks = s.sys.marks := rfl
@[simp] theorem State.emits_sys_cfgA (s : State) (l : List Out) : (s.emits l).sys.cfgA = s.sys.cfgA := rfl
@[simp] theorem State.emits_sys_cfgB (s : State) (l : List Out) : (s.emits l).sys.cfgB = s.sys.cfgB := rfl
@[simp] theorem State.emits_sys_ev (s : State) (l : List Out) : (s.emits l).sys.ev = s.sys.ev := rfl
@[simp] theorem State.emits_sys_free (s : State) (l : List Out) : (s.emits l).sys.free = s.sys.free := rfl
@[simp] theorem State.emits_sys_regs (s : State) (l : List Out) : (s.emits l).sys.regs = s.sys.regs := rfl

/-! ### draw -/

@[simp] theorem State.draw_ang (s : State) : (s.draw.2).ang = s.ang := rfl
@[simp] theorem State.draw_pipe (s : State) : (s.draw.2).pipe = s.pipe := rfl
@[simp] theorem State.draw_gfe (s : State) : (s.draw.2).gfe = s.gfe := rfl
@[simp] theorem State.draw_mo (s : State) : (s.draw.2).mo = s.mo := rfl
@[simp] theorem State.draw_rt (s : State) : (s.draw.2).rt = s.rt := rfl
@[simp] theorem State.draw_arm (s : State) : (s.draw.2).arm = s.arm := rfl
@[simp] theorem State.draw_lnk (s : State) : (s.draw.2).lnk = s.lnk := rfl
@[simp] theorem State.draw_ldg (s : State) : (s.draw.2).ldg = s.ldg := rfl
@[simp] theorem State.draw_pair (s : State) : (s.draw.2).pair = s.pair := rfl
@[simp] theorem State.draw_saf (s : State) : (s.draw.2).saf = s.saf := rfl
@[simp] theorem State.draw_pwr (s : State) : (s.draw.2).pwr = s.pwr := rfl
@[simp] theorem State.draw_pwm (s : State) : (s.draw.2).pwm = s.pwm := rfl
@[simp] theorem State.draw_adc (s : State) : (s.draw.2).adc = s.adc := rfl
@[simp] theorem State.draw_flt (s : State) : (s.draw.2).flt = s.flt := rfl
@[simp] theorem State.draw_acq (s : State) : (s.draw.2).acq = s.acq := rfl
@[simp] theorem State.draw_mtr (s : State) : (s.draw.2).mtr = s.mtr := rfl
@[simp] theorem State.draw_snap (s : State) : (s.draw.2).snap = s.snap := rfl
@[simp] theorem State.draw_far (s : State) : (s.draw.2).far = s.far := rfl
@[simp] theorem State.draw_cmd (s : State) : (s.draw.2).cmd = s.cmd := rfl
@[simp] theorem State.draw_mem (s : State) : (s.draw.2).mem = s.mem := rfl
@[simp] theorem State.draw_clk (s : State) : (s.draw.2).clk = s.clk := rfl
@[simp] theorem State.draw_cal (s : State) : (s.draw.2).cal = s.cal := rfl
@[simp] theorem State.draw_sec (s : State) : (s.draw.2).sec = s.sec := rfl
@[simp] theorem State.draw_pending (s : State) : (s.draw.2).pending = s.pending := rfl
@[simp] theorem State.draw_sys_clk (s : State) : (s.draw.2).sys.clk = s.sys.clk := rfl
@[simp] theorem State.draw_sys_bclk (s : State) : (s.draw.2).sys.bclk = s.sys.bclk := rfl
@[simp] theorem State.draw_sys_tai (s : State) : (s.draw.2).sys.tai = s.sys.tai := rfl
@[simp] theorem State.draw_sys_order (s : State) : (s.draw.2).sys.order = s.sys.order := rfl
@[simp] theorem State.draw_sys_serial (s : State) : (s.draw.2).sys.serial = s.sys.serial := rfl
@[simp] theorem State.draw_sys_fwver (s : State) : (s.draw.2).sys.fwver = s.sys.fwver := rfl
@[simp] theorem State.draw_sys_hwrev (s : State) : (s.draw.2).sys.hwrev = s.sys.hwrev := rfl
@[simp] theorem State.draw_sys_marks (s : State) : (s.draw.2).sys.marks = s.sys.marks := rfl
@[simp] theorem State.draw_sys_cfgA (s : State) : (s.draw.2).sys.cfgA = s.sys.cfgA := rfl
@[simp] theorem State.draw_sys_cfgB (s : State) : (s.draw.2).sys.cfgB = s.sys.cfgB := rfl
@[simp] theorem State.draw_sys_ev (s : State) : (s.draw.2).sys.ev = s.sys.ev := rfl
@[simp] theorem State.draw_sys_out (s : State) : (s.draw.2).sys.out = s.sys.out := rfl
@[simp] theorem State.draw_sys_regs (s : State) : (s.draw.2).sys.regs = s.sys.regs := rfl

/-! ### logEv -/

@[simp] theorem State.logEv_ang (s : State) (c o e d : Nat) (w : Bool) : (s.logEv c o e d w).ang = s.ang := rfl
@[simp] theorem State.logEv_pipe (s : State) (c o e d : Nat) (w : Bool) : (s.logEv c o e d w).pipe = s.pipe := rfl
@[simp] theorem State.logEv_gfe (s : State) (c o e d : Nat) (w : Bool) : (s.logEv c o e d w).gfe = s.gfe := rfl
@[simp] theorem State.logEv_mo (s : State) (c o e d : Nat) (w : Bool) : (s.logEv c o e d w).mo = s.mo := rfl
@[simp] theorem State.logEv_rt (s : State) (c o e d : Nat) (w : Bool) : (s.logEv c o e d w).rt = s.rt := rfl
@[simp] theorem State.logEv_arm (s : State) (c o e d : Nat) (w : Bool) : (s.logEv c o e d w).arm = s.arm := rfl
@[simp] theorem State.logEv_lnk (s : State) (c o e d : Nat) (w : Bool) : (s.logEv c o e d w).lnk = s.lnk := rfl
@[simp] theorem State.logEv_ldg (s : State) (c o e d : Nat) (w : Bool) : (s.logEv c o e d w).ldg = s.ldg := rfl
@[simp] theorem State.logEv_pair (s : State) (c o e d : Nat) (w : Bool) : (s.logEv c o e d w).pair = s.pair := rfl
@[simp] theorem State.logEv_saf (s : State) (c o e d : Nat) (w : Bool) : (s.logEv c o e d w).saf = s.saf := rfl
@[simp] theorem State.logEv_pwr (s : State) (c o e d : Nat) (w : Bool) : (s.logEv c o e d w).pwr = s.pwr := rfl
@[simp] theorem State.logEv_pwm (s : State) (c o e d : Nat) (w : Bool) : (s.logEv c o e d w).pwm = s.pwm := rfl
@[simp] theorem State.logEv_adc (s : State) (c o e d : Nat) (w : Bool) : (s.logEv c o e d w).adc = s.adc := rfl
@[simp] theorem State.logEv_flt (s : State) (c o e d : Nat) (w : Bool) : (s.logEv c o e d w).flt = s.flt := rfl
@[simp] theorem State.logEv_acq (s : State) (c o e d : Nat) (w : Bool) : (s.logEv c o e d w).acq = s.acq := rfl
@[simp] theorem State.logEv_mtr (s : State) (c o e d : Nat) (w : Bool) : (s.logEv c o e d w).mtr = s.mtr := rfl
@[simp] theorem State.logEv_snap (s : State) (c o e d : Nat) (w : Bool) : (s.logEv c o e d w).snap = s.snap := rfl
@[simp] theorem State.logEv_far (s : State) (c o e d : Nat) (w : Bool) : (s.logEv c o e d w).far = s.far := rfl
@[simp] theorem State.logEv_cmd (s : State) (c o e d : Nat) (w : Bool) : (s.logEv c o e d w).cmd = s.cmd := rfl
@[simp] theorem State.logEv_mem (s : State) (c o e d : Nat) (w : Bool) : (s.logEv c o e d w).mem = s.mem := rfl
@[simp] theorem State.logEv_clk (s : State) (c o e d : Nat) (w : Bool) : (s.logEv c o e d w).clk = s.clk := rfl
@[simp] theorem State.logEv_cal (s : State) (c o e d : Nat) (w : Bool) : (s.logEv c o e d w).cal = s.cal := rfl
@[simp] theorem State.logEv_sec (s : State) (c o e d : Nat) (w : Bool) : (s.logEv c o e d w).sec = s.sec := rfl
@[simp] theorem State.logEv_pending (s : State) (c o e d : Nat) (w : Bool) : (s.logEv c o e d w).pending = s.pending := rfl
@[simp] theorem State.logEv_sys_clk (s : State) (c o e d : Nat) (w : Bool) : (s.logEv c o e d w).sys.clk = s.sys.clk := rfl
@[simp] theorem State.logEv_sys_bclk (s : State) (c o e d : Nat) (w : Bool) : (s.logEv c o e d w).sys.bclk = s.sys.bclk := rfl
@[simp] theorem State.logEv_sys_tai (s : State) (c o e d : Nat) (w : Bool) : (s.logEv c o e d w).sys.tai = s.sys.tai := rfl
@[simp] theorem State.logEv_sys_order (s : State) (c o e d : Nat) (w : Bool) : (s.logEv c o e d w).sys.order = s.sys.order := rfl
@[simp] theorem State.logEv_sys_serial (s : State) (c o e d : Nat) (w : Bool) : (s.logEv c o e d w).sys.serial = s.sys.serial := rfl
@[simp] theorem State.logEv_sys_fwver (s : State) (c o e d : Nat) (w : Bool) : (s.logEv c o e d w).sys.fwver = s.sys.fwver := rfl
@[simp] theorem State.logEv_sys_hwrev (s : State) (c o e d : Nat) (w : Bool) : (s.logEv c o e d w).sys.hwrev = s.sys.hwrev := rfl
@[simp] theorem State.logEv_sys_marks (s : State) (c o e d : Nat) (w : Bool) : (s.logEv c o e d w).sys.marks = s.sys.marks := rfl
@[simp] theorem State.logEv_sys_cfgA (s : State) (c o e d : Nat) (w : Bool) : (s.logEv c o e d w).sys.cfgA = s.sys.cfgA := rfl
@[simp] theorem State.logEv_sys_cfgB (s : State) (c o e d : Nat) (w : Bool) : (s.logEv c o e d w).sys.cfgB = s.sys.cfgB := rfl
@[simp] theorem State.logEv_sys_out (s : State) (c o e d : Nat) (w : Bool) : (s.logEv c o e d w).sys.out = s.sys.out := rfl
@[simp] theorem State.logEv_sys_free (s : State) (c o e d : Nat) (w : Bool) : (s.logEv c o e d w).sys.free = s.sys.free := rfl

/-! ### logFlag -/

@[simp] theorem State.logFlag_ang (s : State) (a b q : Nat) (c : Option Nat) : (s.logFlag a b q c).ang = s.ang := rfl
@[simp] theorem State.logFlag_pipe (s : State) (a b q : Nat) (c : Option Nat) : (s.logFlag a b q c).pipe = s.pipe := rfl
@[simp] theorem State.logFlag_gfe (s : State) (a b q : Nat) (c : Option Nat) : (s.logFlag a b q c).gfe = s.gfe := rfl
@[simp] theorem State.logFlag_mo (s : State) (a b q : Nat) (c : Option Nat) : (s.logFlag a b q c).mo = s.mo := rfl
@[simp] theorem State.logFlag_rt (s : State) (a b q : Nat) (c : Option Nat) : (s.logFlag a b q c).rt = s.rt := rfl
@[simp] theorem State.logFlag_arm (s : State) (a b q : Nat) (c : Option Nat) : (s.logFlag a b q c).arm = s.arm := rfl
@[simp] theorem State.logFlag_lnk (s : State) (a b q : Nat) (c : Option Nat) : (s.logFlag a b q c).lnk = s.lnk := rfl
@[simp] theorem State.logFlag_ldg (s : State) (a b q : Nat) (c : Option Nat) : (s.logFlag a b q c).ldg = s.ldg := rfl
@[simp] theorem State.logFlag_pair (s : State) (a b q : Nat) (c : Option Nat) : (s.logFlag a b q c).pair = s.pair := rfl
@[simp] theorem State.logFlag_saf (s : State) (a b q : Nat) (c : Option Nat) : (s.logFlag a b q c).saf = s.saf := rfl
@[simp] theorem State.logFlag_pwr (s : State) (a b q : Nat) (c : Option Nat) : (s.logFlag a b q c).pwr = s.pwr := rfl
@[simp] theorem State.logFlag_pwm (s : State) (a b q : Nat) (c : Option Nat) : (s.logFlag a b q c).pwm = s.pwm := rfl
@[simp] theorem State.logFlag_adc (s : State) (a b q : Nat) (c : Option Nat) : (s.logFlag a b q c).adc = s.adc := rfl
@[simp] theorem State.logFlag_flt (s : State) (a b q : Nat) (c : Option Nat) : (s.logFlag a b q c).flt = s.flt := rfl
@[simp] theorem State.logFlag_acq (s : State) (a b q : Nat) (c : Option Nat) : (s.logFlag a b q c).acq = s.acq := rfl
@[simp] theorem State.logFlag_mtr (s : State) (a b q : Nat) (c : Option Nat) : (s.logFlag a b q c).mtr = s.mtr := rfl
@[simp] theorem State.logFlag_snap (s : State) (a b q : Nat) (c : Option Nat) : (s.logFlag a b q c).snap = s.snap := rfl
@[simp] theorem State.logFlag_far (s : State) (a b q : Nat) (c : Option Nat) : (s.logFlag a b q c).far = s.far := rfl
@[simp] theorem State.logFlag_cmd (s : State) (a b q : Nat) (c : Option Nat) : (s.logFlag a b q c).cmd = s.cmd := rfl
@[simp] theorem State.logFlag_mem (s : State) (a b q : Nat) (c : Option Nat) : (s.logFlag a b q c).mem = s.mem := rfl
@[simp] theorem State.logFlag_clk (s : State) (a b q : Nat) (c : Option Nat) : (s.logFlag a b q c).clk = s.clk := rfl
@[simp] theorem State.logFlag_cal (s : State) (a b q : Nat) (c : Option Nat) : (s.logFlag a b q c).cal = s.cal := rfl
@[simp] theorem State.logFlag_sec (s : State) (a b q : Nat) (c : Option Nat) : (s.logFlag a b q c).sec = s.sec := rfl
@[simp] theorem State.logFlag_pending (s : State) (a b q : Nat) (c : Option Nat) : (s.logFlag a b q c).pending = s.pending := rfl
@[simp] theorem State.logFlag_sys_clk (s : State) (a b q : Nat) (c : Option Nat) : (s.logFlag a b q c).sys.clk = s.sys.clk := rfl
@[simp] theorem State.logFlag_sys_bclk (s : State) (a b q : Nat) (c : Option Nat) : (s.logFlag a b q c).sys.bclk = s.sys.bclk := rfl
@[simp] theorem State.logFlag_sys_tai (s : State) (a b q : Nat) (c : Option Nat) : (s.logFlag a b q c).sys.tai = s.sys.tai := rfl
@[simp] theorem State.logFlag_sys_order (s : State) (a b q : Nat) (c : Option Nat) : (s.logFlag a b q c).sys.order = s.sys.order := rfl
@[simp] theorem State.logFlag_sys_serial (s : State) (a b q : Nat) (c : Option Nat) : (s.logFlag a b q c).sys.serial = s.sys.serial := rfl
@[simp] theorem State.logFlag_sys_fwver (s : State) (a b q : Nat) (c : Option Nat) : (s.logFlag a b q c).sys.fwver = s.sys.fwver := rfl
@[simp] theorem State.logFlag_sys_hwrev (s : State) (a b q : Nat) (c : Option Nat) : (s.logFlag a b q c).sys.hwrev = s.sys.hwrev := rfl
@[simp] theorem State.logFlag_sys_marks (s : State) (a b q : Nat) (c : Option Nat) : (s.logFlag a b q c).sys.marks = s.sys.marks := rfl
@[simp] theorem State.logFlag_sys_cfgA (s : State) (a b q : Nat) (c : Option Nat) : (s.logFlag a b q c).sys.cfgA = s.sys.cfgA := rfl
@[simp] theorem State.logFlag_sys_cfgB (s : State) (a b q : Nat) (c : Option Nat) : (s.logFlag a b q c).sys.cfgB = s.sys.cfgB := rfl
@[simp] theorem State.logFlag_sys_out (s : State) (a b q : Nat) (c : Option Nat) : (s.logFlag a b q c).sys.out = s.sys.out := rfl
@[simp] theorem State.logFlag_sys_free (s : State) (a b q : Nat) (c : Option Nat) : (s.logFlag a b q c).sys.free = s.sys.free := rfl

/-! ### setFlag -/

@[simp] theorem State.setFlag_ang (s : State) (a b q : Nat) (c : Option Nat) : (s.setFlag a b q c).ang = s.ang := by unfold State.setFlag; split <;> rfl
@[simp] theorem State.setFlag_pipe (s : State) (a b q : Nat) (c : Option Nat) : (s.setFlag a b q c).pipe = s.pipe := by unfold State.setFlag; split <;> rfl
@[simp] theorem State.setFlag_gfe (s : State) (a b q : Nat) (c : Option Nat) : (s.setFlag a b q c).gfe = s.gfe := by unfold State.setFlag; split <;> rfl
@[simp] theorem State.setFlag_mo (s : State) (a b q : Nat) (c : Option Nat) : (s.setFlag a b q c).mo = s.mo := by unfold State.setFlag; split <;> rfl
@[simp] theorem State.setFlag_rt (s : State) (a b q : Nat) (c : Option Nat) : (s.setFlag a b q c).rt = s.rt := by unfold State.setFlag; split <;> rfl
@[simp] theorem State.setFlag_arm (s : State) (a b q : Nat) (c : Option Nat) : (s.setFlag a b q c).arm = s.arm := by unfold State.setFlag; split <;> rfl
@[simp] theorem State.setFlag_lnk (s : State) (a b q : Nat) (c : Option Nat) : (s.setFlag a b q c).lnk = s.lnk := by unfold State.setFlag; split <;> rfl
@[simp] theorem State.setFlag_ldg (s : State) (a b q : Nat) (c : Option Nat) : (s.setFlag a b q c).ldg = s.ldg := by unfold State.setFlag; split <;> rfl
@[simp] theorem State.setFlag_pair (s : State) (a b q : Nat) (c : Option Nat) : (s.setFlag a b q c).pair = s.pair := by unfold State.setFlag; split <;> rfl
@[simp] theorem State.setFlag_saf (s : State) (a b q : Nat) (c : Option Nat) : (s.setFlag a b q c).saf = s.saf := by unfold State.setFlag; split <;> rfl
@[simp] theorem State.setFlag_pwr (s : State) (a b q : Nat) (c : Option Nat) : (s.setFlag a b q c).pwr = s.pwr := by unfold State.setFlag; split <;> rfl
@[simp] theorem State.setFlag_pwm (s : State) (a b q : Nat) (c : Option Nat) : (s.setFlag a b q c).pwm = s.pwm := by unfold State.setFlag; split <;> rfl
@[simp] theorem State.setFlag_adc (s : State) (a b q : Nat) (c : Option Nat) : (s.setFlag a b q c).adc = s.adc := by unfold State.setFlag; split <;> rfl
@[simp] theorem State.setFlag_flt (s : State) (a b q : Nat) (c : Option Nat) : (s.setFlag a b q c).flt = s.flt := by unfold State.setFlag; split <;> rfl
@[simp] theorem State.setFlag_acq (s : State) (a b q : Nat) (c : Option Nat) : (s.setFlag a b q c).acq = s.acq := by unfold State.setFlag; split <;> rfl
@[simp] theorem State.setFlag_mtr (s : State) (a b q : Nat) (c : Option Nat) : (s.setFlag a b q c).mtr = s.mtr := by unfold State.setFlag; split <;> rfl
@[simp] theorem State.setFlag_snap (s : State) (a b q : Nat) (c : Option Nat) : (s.setFlag a b q c).snap = s.snap := by unfold State.setFlag; split <;> rfl
@[simp] theorem State.setFlag_far (s : State) (a b q : Nat) (c : Option Nat) : (s.setFlag a b q c).far = s.far := by unfold State.setFlag; split <;> rfl
@[simp] theorem State.setFlag_cmd (s : State) (a b q : Nat) (c : Option Nat) : (s.setFlag a b q c).cmd = s.cmd := by unfold State.setFlag; split <;> rfl
@[simp] theorem State.setFlag_mem (s : State) (a b q : Nat) (c : Option Nat) : (s.setFlag a b q c).mem = s.mem := by unfold State.setFlag; split <;> rfl
@[simp] theorem State.setFlag_clk (s : State) (a b q : Nat) (c : Option Nat) : (s.setFlag a b q c).clk = s.clk := by unfold State.setFlag; split <;> rfl
@[simp] theorem State.setFlag_cal (s : State) (a b q : Nat) (c : Option Nat) : (s.setFlag a b q c).cal = s.cal := by unfold State.setFlag; split <;> rfl
@[simp] theorem State.setFlag_sec (s : State) (a b q : Nat) (c : Option Nat) : (s.setFlag a b q c).sec = s.sec := by unfold State.setFlag; split <;> rfl
@[simp] theorem State.setFlag_pending (s : State) (a b q : Nat) (c : Option Nat) : (s.setFlag a b q c).pending = s.pending := by unfold State.setFlag; split <;> rfl
@[simp] theorem State.setFlag_sys_clk (s : State) (a b q : Nat) (c : Option Nat) : (s.setFlag a b q c).sys.clk = s.sys.clk := by unfold State.setFlag; split <;> rfl
@[simp] theorem State.setFlag_sys_bclk (s : State) (a b q : Nat) (c : Option Nat) : (s.setFlag a b q c).sys.bclk = s.sys.bclk := by unfold State.setFlag; split <;> rfl
@[simp] theorem State.setFlag_sys_tai (s : State) (a b q : Nat) (c : Option Nat) : (s.setFlag a b q c).sys.tai = s.sys.tai := by unfold State.setFlag; split <;> rfl
@[simp] theorem State.setFlag_sys_order (s : State) (a b q : Nat) (c : Option Nat) : (s.setFlag a b q c).sys.order = s.sys.order := by unfold State.setFlag; split <;> rfl
@[simp] theorem State.setFlag_sys_serial (s : State) (a b q : Nat) (c : Option Nat) : (s.setFlag a b q c).sys.serial = s.sys.serial := by unfold State.setFlag; split <;> rfl
@[simp] theorem State.setFlag_sys_fwver (s : State) (a b q : Nat) (c : Option Nat) : (s.setFlag a b q c).sys.fwver = s.sys.fwver := by unfold State.setFlag; split <;> rfl
@[simp] theorem State.setFlag_sys_hwrev (s : State) (a b q : Nat) (c : Option Nat) : (s.setFlag a b q c).sys.hwrev = s.sys.hwrev := by unfold State.setFlag; split <;> rfl
@[simp] theorem State.setFlag_sys_marks (s : State) (a b q : Nat) (c : Option Nat) : (s.setFlag a b q c).sys.marks = s.sys.marks := by unfold State.setFlag; split <;> rfl
@[simp] theorem State.setFlag_sys_cfgA (s : State) (a b q : Nat) (c : Option Nat) : (s.setFlag a b q c).sys.cfgA = s.sys.cfgA := by unfold State.setFlag; split <;> rfl
@[simp] theorem State.setFlag_sys_cfgB (s : State) (a b q : Nat) (c : Option Nat) : (s.setFlag a b q c).sys.cfgB = s.sys.cfgB := by unfold State.setFlag; split <;> rfl
@[simp] theorem State.setFlag_sys_out (s : State) (a b q : Nat) (c : Option Nat) : (s.setFlag a b q c).sys.out = s.sys.out := by unfold State.setFlag; split <;> rfl
@[simp] theorem State.setFlag_sys_free (s : State) (a b q : Nat) (c : Option Nat) : (s.setFlag a b q c).sys.free = s.sys.free := by unfold State.setFlag; split <;> rfl

/-! ### setFlagEach -/

@[simp] theorem State.setFlagEach_ang (s : State) (a b q : Nat) (c : Option Nat) : (s.setFlagEach a b q c).ang = s.ang := rfl
@[simp] theorem State.setFlagEach_pipe (s : State) (a b q : Nat) (c : Option Nat) : (s.setFlagEach a b q c).pipe = s.pipe := rfl
@[simp] theorem State.setFlagEach_gfe (s : State) (a b q : Nat) (c : Option Nat) : (s.setFlagEach a b q c).gfe = s.gfe := rfl
@[simp] theorem State.setFlagEach_mo (s : State) (a b q : Nat) (c : Option Nat) : (s.setFlagEach a b q c).mo = s.mo := rfl
@[simp] theorem State.setFlagEach_rt (s : State) (a b q : Nat) (c : Option Nat) : (s.setFlagEach a b q c).rt = s.rt := rfl
@[simp] theorem State.setFlagEach_arm (s : State) (a b q : Nat) (c : Option Nat) : (s.setFlagEach a b q c).arm = s.arm := rfl
@[simp] theorem State.setFlagEach_lnk (s : State) (a b q : Nat) (c : Option Nat) : (s.setFlagEach a b q c).lnk = s.lnk := rfl
@[simp] theorem State.setFlagEach_ldg (s : State) (a b q : Nat) (c : Option Nat) : (s.setFlagEach a b q c).ldg = s.ldg := rfl
@[simp] theorem State.setFlagEach_pair (s : State) (a b q : Nat) (c : Option Nat) : (s.setFlagEach a b q c).pair = s.pair := rfl
@[simp] theorem State.setFlagEach_saf (s : State) (a b q : Nat) (c : Option Nat) : (s.setFlagEach a b q c).saf = s.saf := rfl
@[simp] theorem State.setFlagEach_pwr (s : State) (a b q : Nat) (c : Option Nat) : (s.setFlagEach a b q c).pwr = s.pwr := rfl
@[simp] theorem State.setFlagEach_pwm (s : State) (a b q : Nat) (c : Option Nat) : (s.setFlagEach a b q c).pwm = s.pwm := rfl
@[simp] theorem State.setFlagEach_adc (s : State) (a b q : Nat) (c : Option Nat) : (s.setFlagEach a b q c).adc = s.adc := rfl
@[simp] theorem State.setFlagEach_flt (s : State) (a b q : Nat) (c : Option Nat) : (s.setFlagEach a b q c).flt = s.flt := rfl
@[simp] theorem State.setFlagEach_acq (s : State) (a b q : Nat) (c : Option Nat) : (s.setFlagEach a b q c).acq = s.acq := rfl
@[simp] theorem State.setFlagEach_mtr (s : State) (a b q : Nat) (c : Option Nat) : (s.setFlagEach a b q c).mtr = s.mtr := rfl
@[simp] theorem State.setFlagEach_snap (s : State) (a b q : Nat) (c : Option Nat) : (s.setFlagEach a b q c).snap = s.snap := rfl
@[simp] theorem State.setFlagEach_far (s : State) (a b q : Nat) (c : Option Nat) : (s.setFlagEach a b q c).far = s.far := rfl
@[simp] theorem State.setFlagEach_cmd (s : State) (a b q : Nat) (c : Option Nat) : (s.setFlagEach a b q c).cmd = s.cmd := rfl
@[simp] theorem State.setFlagEach_mem (s : State) (a b q : Nat) (c : Option Nat) : (s.setFlagEach a b q c).mem = s.mem := rfl
@[simp] theorem State.setFlagEach_clk (s : State) (a b q : Nat) (c : Option Nat) : (s.setFlagEach a b q c).clk = s.clk := rfl
@[simp] theorem State.setFlagEach_cal (s : State) (a b q : Nat) (c : Option Nat) : (s.setFlagEach a b q c).cal = s.cal := rfl
@[simp] theorem State.setFlagEach_sec (s : State) (a b q : Nat) (c : Option Nat) : (s.setFlagEach a b q c).sec = s.sec := rfl
@[simp] theorem State.setFlagEach_pending (s : State) (a b q : Nat) (c : Option Nat) : (s.setFlagEach a b q c).pending = s.pending := rfl
@[simp] theorem State.setFlagEach_sys_clk (s : State) (a b q : Nat) (c : Option Nat) : (s.setFlagEach a b q c).sys.clk = s.sys.clk := rfl
@[simp] theorem State.setFlagEach_sys_bclk (s : State) (a b q : Nat) (c : Option Nat) : (s.setFlagEach a b q c).sys.bclk = s.sys.bclk := rfl
@[simp] theorem State.setFlagEach_sys_tai (s : State) (a b q : Nat) (c : Option Nat) : (s.setFlagEach a b q c).sys.tai = s.sys.tai := rfl
@[simp] theorem State.setFlagEach_sys_order (s : State) (a b q : Nat) (c : Option Nat) : (s.setFlagEach a b q c).sys.order = s.sys.order := rfl
@[simp] theorem State.setFlagEach_sys_serial (s : State) (a b q : Nat) (c : Option Nat) : (s.setFlagEach a b q c).sys.serial = s.sys.serial := rfl
@[simp] theorem State.setFlagEach_sys_fwver (s : State) (a b q : Nat) (c : Option Nat) : (s.setFlagEach a b q c).sys.fwver = s.sys.fwver := rfl
@[simp] theorem State.setFlagEach_sys_hwrev (s : State) (a b q : Nat) (c : Option Nat) : (s.setFlagEach a b q c).sys.hwrev = s.sys.hwrev := rfl
@[simp] theorem State.setFlagEach_sys_marks (s : State) (a b q : Nat) (c : Option Nat) : (s.setFlagEach a b q c).sys.marks = s.sys.marks := rfl
@[simp] theorem State.setFlagEach_sys_cfgA (s : State) (a b q : Nat) (c : Option Nat) : (s.setFlagEach a b q c).sys.cfgA = s.sys.cfgA := rfl
@[simp] theorem State.setFlagEach_sys_cfgB (s : State) (a b q : Nat) (c : Option Nat) : (s.setFlagEach a b q c).sys.cfgB = s.sys.cfgB := rfl
@[simp] theorem State.setFlagEach_sys_out (s : State) (a b q : Nat) (c : Option Nat) : (s.setFlagEach a b q c).sys.out = s.sys.out := rfl
@[simp] theorem State.setFlagEach_sys_free (s : State) (a b q : Nat) (c : Option Nat) : (s.setFlagEach a b q c).sys.free = s.sys.free := rfl

/-! ### Registers and flags -/

theorem State.sound_regs {s : State} (h : s.sound = true) : mwf regReset s.sys.regs = true := (State.sound_of_steady h).2.1

/-- A register reads what has been written to it. -/
theorem State.reg_setReg_self (s : State) (a : Nat) (v : Word) (h : s.sound = true) : (s.setReg a v).reg a = v :=
  mget_mset_self regReset s.sys.regs a v (State.sound_regs h)

/-- A write leaves every other register. -/
theorem State.reg_setReg_ne (s : State) (a b : Nat) (v : Word) (h : b ≠ a) : (s.setReg a v).reg b = s.reg b :=
  mget_mset_ne _ _ s.sys.regs a b v h

theorem State.reg_of_regs {s t : State} (h : t.sys.regs = s.sys.regs) (a : Nat) : t.reg a = s.reg a := by
  unfold State.reg; rw [h]

@[simp] theorem State.reg_emit (s : State) (o : Out) (a : Nat) : (s.emit o).reg a = s.reg a := rfl
@[simp] theorem State.reg_emits (s : State) (l : List Out) (a : Nat) : (s.emits l).reg a = s.reg a := rfl
@[simp] theorem State.reg_draw (s : State) (a : Nat) : s.draw.2.reg a = s.reg a := rfl

/-- An event leaves every register but EVLOG_FLAGS. -/
theorem State.reg_logEv (s : State) (c o e d : Nat) (w : Bool) (b : Nat) (h : b ≠ Reg.EVLOG_FLAGS) :
    (s.logEv c o e d w).reg b = s.reg b := by
  unfold State.logEv State.reg
  dsimp only
  split
  · exact mget_mset_ne _ _ _ _ _ _ h
  · rfl

theorem State.reg_logFlag (s : State) (a b q : Nat) (c : Option Nat) (x : Nat) (h : x ≠ Reg.EVLOG_FLAGS) :
    (s.logFlag a b q c).reg x = s.reg x := s.reg_logEv _ _ _ _ _ x h

theorem bit_shift (x i j : Nat) : (word (x <<< i)).getLsbD j = (decide (j < 32) && (decide (i ≤ j) && x.testBit (j - i))) := by
  unfold word
  rw [BitVec.getLsbD_ofNat, Nat.testBit_shiftLeft]

theorem bit_putBit_self (w : Word) (i : Nat) (b : Bool) (h : i < 32) : bit (putBit w i b) i = b := by
  unfold bit putBit setBits
  dsimp only
  rw [BitVec.getLsbD_or, BitVec.getLsbD_and, BitVec.getLsbD_and, BitVec.getLsbD_not, bit_shift, bit_shift]
  cases b <;> simp [h, b2n]

theorem bit_putBit_ne (w : Word) (i j : Nat) (b : Bool) (h : j ≠ i) : bit (putBit w i b) j = bit w j := by
  unfold bit putBit setBits
  dsimp only
  rw [BitVec.getLsbD_or, BitVec.getLsbD_and, BitVec.getLsbD_and, BitVec.getLsbD_not, bit_shift, bit_shift]
  by_cases hj : j < 32
  · by_cases hi : i ≤ j
    · have h1 : (1 : Nat).testBit (j - i) = false := by
        have : j - i ≠ 0 := by omega
        obtain ⟨k, hk⟩ := Nat.exists_eq_succ_of_ne_zero this
        rw [hk, Nat.testBit_succ]; simp
      simp [hj, hi, h1]
    · simp [hj, hi]
  · have : 32 ≤ j := by omega
    simp [hj, BitVec.getLsbD_of_ge w j this]

/-- The register of a flag after it has been set. -/
theorem State.reg_setFlagEach_self (s : State) (a b q : Nat) (c : Option Nat) (h : s.sound = true) (ha : a ≠ Reg.EVLOG_FLAGS) :
    (s.setFlagEach a b q c).reg a = putBit (s.reg a) b true := by
  unfold State.setFlagEach
  rw [State.reg_logFlag _ _ _ _ _ _ ha, State.reg_setReg_self _ _ _ h]

theorem State.reg_setFlagEach_ne (s : State) (a b q : Nat) (c : Option Nat) (x : Nat) (hx : x ≠ a) (he : x ≠ Reg.EVLOG_FLAGS) :
    (s.setFlagEach a b q c).reg x = s.reg x := by
  unfold State.setFlagEach
  rw [State.reg_logFlag _ _ _ _ _ _ he, State.reg_setReg_ne _ _ _ _ hx]

theorem State.reg_setFlag_ne (s : State) (a b q : Nat) (c : Option Nat) (x : Nat) (hx : x ≠ a) (he : x ≠ Reg.EVLOG_FLAGS) :
    (s.setFlag a b q c).reg x = s.reg x := by
  unfold State.setFlag
  split
  · rfl
  · rw [State.reg_logFlag _ _ _ _ _ _ he, State.reg_setReg_ne _ _ _ _ hx]

/-- A flag reads 1 after it has been set. -/
theorem State.flag_setFlagEach (s : State) (a b q : Nat) (c : Option Nat) (h : s.sound = true) (ha : a ≠ Reg.EVLOG_FLAGS)
    (hb : b < 32) : (s.setFlagEach a b q c).flag a b = true := by
  unfold State.flag
  rw [State.reg_setFlagEach_self _ _ _ _ _ h ha, bit_putBit_self _ _ _ hb]

theorem State.flag_setFlag (s : State) (a b q : Nat) (c : Option Nat) (h : s.sound = true) (ha : a ≠ Reg.EVLOG_FLAGS)
    (hb : b < 32) : (s.setFlag a b q c).flag a b = true := by
  unfold State.setFlag
  split
  · assumption
  · exact s.flag_setFlagEach a b q c h ha hb

/-- Soundness goes on through an operation that keeps what is steady. -/
theorem State.sound_of_eq {s t : State} (h : t.steady = s.steady) (hs : s.sound = true) : t.sound = true :=
  (congrArg Prod.fst h).trans hs

/-! ### Parts -/

theorem upd_getD {α : Type} (l : List α) (i : Nat) (f : α → α) (d : α) (h : i < l.length) :
    (upd l i f).getD i d = f (l.getD i d) := by
  simp [upd, List.getD_eq_getElem?_getD, h]

theorem upd_getD_ne {α : Type} (l : List α) (i j : Nat) (f : α → α) (d : α) (h : j ≠ i) :
    (upd l i f).getD j d = l.getD j d := by
  simp [upd, List.getD_eq_getElem?_getD, List.getElem?_modify, Ne.symm h]

/-- The numbers of parts of a sound state. -/
theorem State.sound_shape {s : State} (h : s.sound = true) : s.shape = unitShape := State.shape_of_steady h

end Sys2Proof.Machine
end

