-- ==== Sys2Proof/Laws/Frame.lean ====
section
/-! SUPPORT. Frames of the shared operations in the terms of `State.sysOnly`: what is outside the register file and the event
log stays, and of the registers only the listed ones change. -/
namespace Sys2Proof.Machine

variable {s t u : State} {l : List Nat} {a b v : Nat}

/-- What a running unit answers. -/
theorem live_on (h : s.pwr.on = true) : s.live t = .next t := congrArg Host.Outcome.next (if_pos h)

theorem State.up.on (h : s.up) : s.pwr.on = true := h.1

theorem State.sysOnly_refl : s.sysOnly s l := ⟨rfl, fun _ _ => rfl⟩

/-- `sysOnly` looks at `sys` alone. -/
theorem State.sysOnly_of_sys (h : s.sysOnly t l) (e : u.sys = t.sys) : s.sysOnly u l := by
  refine ⟨by rw [e]; exact h.1, fun x hx => ?_⟩
  have := h.2 x hx
  unfold State.reg at this ⊢
  rw [e]; exact this

theorem State.sysOnly_setReg (w : Word) (h : s.sysOnly t l) (ha : a ∈ l) : s.sysOnly (t.setReg a w) l := by
  refine ⟨?_, fun x hx => ?_⟩
  · exact congrArg (fun y : Sys => { y with regs := (t.setReg a w).sys.regs }) h.1
  · rw [State.reg_setReg_ne t a x w (fun e => hx (e ▸ ha))]
    exact h.2 x hx

theorem State.sysOnly_bump (h : s.sysOnly t l) (ha : a ∈ l) : s.sysOnly (t.bump a) l := State.sysOnly_setReg _ h ha

theorem State.sysOnly_bumpBy (n : Nat) (h : s.sysOnly t l) (ha : a ∈ l) : s.sysOnly (t.bumpBy a n) l :=
  State.sysOnly_setReg _ h ha

theorem State.sysOnly_logEv (c o k d : Nat) (fw : Bool) (h : s.sysOnly t l) (he : Reg.EVLOG_FLAGS ∈ l) :
    s.sysOnly (t.logEv c o k d fw) l := by
  refine ⟨?_, fun x hx => ?_⟩
  · exact congrArg (fun y : Sys => { y with regs := (t.logEv c o k d fw).sys.regs, ev := (t.logEv c o k d fw).sys.ev }) h.1
  · rw [State.reg_logEv t c o k d fw x (fun e => hx (e ▸ he))]
    exact h.2 x hx

theorem State.sysOnly_logFlag (q : Nat) (c : Option Nat) (h : s.sysOnly t l) (he : Reg.EVLOG_FLAGS ∈ l) :
    s.sysOnly (t.logFlag a b q c) l := State.sysOnly_logEv _ _ _ _ _ h he

theorem State.sysOnly_setFlagEach (q : Nat) (c : Option Nat) (h : s.sysOnly t l) (ha : a ∈ l) (he : Reg.EVLOG_FLAGS ∈ l) :
    s.sysOnly (t.setFlagEach a b q c) l := State.sysOnly_logFlag _ _ (State.sysOnly_setReg _ h ha) he

theorem State.sysOnly_setFlag (q : Nat) (c : Option Nat) (h : s.sysOnly t l) (ha : a ∈ l) (he : Reg.EVLOG_FLAGS ∈ l) :
    s.sysOnly (t.setFlag a b q c) l := by
  unfold State.setFlag
  split
  · exact h
  · exact State.sysOnly_logFlag _ _ (State.sysOnly_setReg _ h ha) he

theorem State.sysOnly_ite (c : Prop) [Decidable c] (h : s.sysOnly t l) (k : s.sysOnly u l) : s.sysOnly (if c then t else u) l := by
  split <;> assumption

/-- Time that passes within the step changes the accumulator, the clock and module time, and nothing else. -/
theorem State.toClk_form (s : State) (k : Nat) : ∃ (acc : BitVec 64) (clk tai : Nat), s.toClk k =
    { s with ang := { s.ang with acc := acc }, sys := { s.sys with clk := clk, tai := tai } } := by
  unfold State.toClk
  split
  · exact ⟨_, _, _, rfl⟩
  · exact ⟨s.ang.acc, s.sys.clk, s.sys.tai, rfl⟩

theorem State.toAc_form (s : State) (k : Nat) : ∃ (acc : BitVec 64) (clk tai : Nat), s.toAc k =
    { s with ang := { s.ang with acc := acc }, sys := { s.sys with clk := clk, tai := tai } } := by
  unfold State.toAc
  split
  · exact ⟨_, _, _, rfl⟩
  · exact ⟨s.ang.acc, s.sys.clk, s.sys.tai, rfl⟩

/-- Setting a flag changes the register file and the event log, and nothing else. -/
theorem State.setFlag_form (s : State) (a b q : Nat) (c : Option Nat) : ∃ (r : List (Nat × Word)) (ev : Evlog),
    s.setFlag a b q c = { s with sys := { s.sys with regs := r, ev := ev } } := by
  unfold State.setFlag
  split
  · exact ⟨s.sys.regs, s.sys.ev, rfl⟩
  · exact ⟨_, _, rfl⟩

theorem State.setFlags_form (s : State) (l : List (Nat × Nat)) : ∃ (r : List (Nat × Word)) (ev : Evlog),
    s.setFlags l = { s with sys := { s.sys with regs := r, ev := ev } } := by
  unfold State.setFlags
  induction l generalizing s with
  | nil => exact ⟨s.sys.regs, s.sys.ev, rfl⟩
  | cons p t ih =>
    obtain ⟨r, ev, e⟩ := State.setFlag_form s p.1 p.2 0 none
    obtain ⟨r', ev', e'⟩ := ih (s.setFlag p.1 p.2)
    exact ⟨r', ev', by rw [List.foldl_cons, e', e]⟩

/-! ### What a part reads as after its update -/

/-- The ports, lanes and associations of a sound unit. -/
theorem State.sound_lens (h : s.sound = true) :
    s.lnk.ports.length = 22 ∧ s.lnk.lanes.length = 20 ∧ s.lnk.assocs.length = 21 := by
  have e := State.sound_shape h
  unfold State.shape unitShape at e
  simp only [List.cons.injEq] at e
  exact ⟨e.1, e.2.1, e.2.2.1⟩

theorem State.port_updPort (s : State) (n : Nat) (f : Port → Port) (h : n < s.lnk.ports.length) :
    (s.updPort n f).port n = f (s.port n) := upd_getD _ _ _ _ h

theorem State.port_updPort_ne (s : State) (n k : Nat) (f : Port → Port) (h : k ≠ n) :
    (s.updPort n f).port k = s.port k := upd_getD_ne _ _ _ _ _ h

theorem State.lane_updLane (s : State) (n : Nat) (f : Lane → Lane) (h : n < s.lnk.lanes.length) :
    (s.updLane n f).lane n = f (s.lane n) := upd_getD _ _ _ _ h

theorem State.lane_updLane_ne (s : State) (n k : Nat) (f : Lane → Lane) (h : k ≠ n) :
    (s.updLane n f).lane k = s.lane k := upd_getD_ne _ _ _ _ _ h

theorem State.assoc_updAssoc (s : State) (n : Nat) (f : Assoc → Assoc) (h : n < s.lnk.assocs.length) :
    (s.updAssoc n f).assoc n = f (s.assoc n) := upd_getD _ _ _ _ h

theorem State.assoc_updAssoc_ne (s : State) (n k : Nat) (f : Assoc → Assoc) (h : k ≠ n) :
    (s.updAssoc n f).assoc k = s.assoc k := upd_getD_ne _ _ _ _ _ h

end Sys2Proof.Machine
end

