-- ==== Sys2Proof/Laws/SteadyCore.lean ====
section
/-! SUPPORT. What every operation keeps of a sound state (Safety.lean), block by block: the shared operations, the engine, ride-through, the counters, snapshots, the safety functions, the angle base, the wire and the lanes. -/
namespace Sys2Proof.Machine

/-! ### Ops -/

theorem State.bump_steady (s : State) (a : Nat) (hk : s.steady.1 = true) : (State.bump s a).steady = s.steady := by
  simp (maxDischargeDepth := 40) +contextual only [State.bump, ↓State.setReg_steady, hk]

theorem State.bumpBy_steady (s : State) (a n : Nat) (hk : s.steady.1 = true) : (State.bumpBy s a n).steady = s.steady := by
  simp (maxDischargeDepth := 40) +contextual only [State.bumpBy, ↓State.setReg_steady, hk]

theorem State.pass_steady (s : State) (k : Nat) (hk : s.steady.1 = true) : (State.pass s k).steady = s.steady := by
  simp (maxDischargeDepth := 40) +contextual only [State.pass, 
    ↓State.steady_mk, ↓State.steady_fold]

theorem State.toAc_steady (s : State) (n : Nat) (hk : s.steady.1 = true) : (State.toAc s n).steady = s.steady := by
  simp (maxDischargeDepth := 40) +contextual only [State.toAc, ↓State.pass_steady, hk, 
    ↓State.steady_ite, 
    ite_self]

theorem State.toClk_steady (s : State) (k : Nat) (hk : s.steady.1 = true) : (State.toClk s k).steady = s.steady := by
  simp (maxDischargeDepth := 40) +contextual only [State.toClk, ↓State.pass_steady, hk, 
    ↓State.steady_ite, 
    ite_self]

theorem State.toSysClk_steady (s : State) (t : Nat) (hk : s.steady.1 = true) : (State.toSysClk s t).steady = s.steady := by
  simp (maxDischargeDepth := 40) +contextual only [State.toSysClk, ↓State.pass_steady, hk, 
    ↓State.steady_ite, ↓State.steady_mk, ↓State.steady_fold,
    ite_self]

theorem State.atDue_steady (s : State) (t : Nat) (f : State → State) (hk : s.steady.1 = true)
    (hf : ∀ u : State, u.steady.1 = true → (f u).steady = u.steady) : (s.atDue t f).steady = s.steady := by
  unfold State.atDue
  exact State.ite_steady (fun _ => State.steady_trans (fun h => hf _ h) (s.toSysClk_steady t hk) hk) (fun _ => rfl)

theorem State.backTo_steady (s : State) (t : Nat) (hk : s.steady.1 = true) : (State.backTo s t).steady = s.steady := by
  simp (maxDischargeDepth := 40) +contextual only [State.backTo, 
    ↓State.steady_mk, ↓State.steady_fold]

theorem State.actAt_steady (s : State) (t : Nat) (f : State → State) (hk : s.steady.1 = true)
    (hf : ∀ u : State, u.steady.1 = true → (f u).steady = u.steady) : (s.actAt t f).steady = s.steady := by
  unfold State.actAt
  refine State.ite_steady (fun _ => ?_) (fun _ => hf s hk)
  have h1 := State.steady_trans (fun h => hf _ h) (s.backTo_steady t hk) hk
  exact State.steady_trans (fun h => State.pass_steady _ _ h) h1 hk

theorem State.emit_steady (s : State) (o : Out) (hk : s.steady.1 = true) : (State.emit s o).steady = s.steady := by
  simp (maxDischargeDepth := 40) +contextual only [State.emit, 
    ↓State.steady_mk, ↓State.steady_fold]

theorem State.emits_steady (s : State) (l : List Out) (hk : s.steady.1 = true) : (State.emits s l).steady = s.steady := by
  simp (maxDischargeDepth := 40) +contextual only [State.emits, 
    ↓State.steady_mk, ↓State.steady_fold]

theorem State.draw_steady (s : State) (hk : s.steady.1 = true) : (State.draw s).2.steady = s.steady := by
  simp (maxDischargeDepth := 40) +contextual only [State.draw, 
    ↓State.steady_mk, ↓State.steady_fold]

theorem State.setFlagEach_steady (s : State) (a b : Nat) (q : Nat) (cls : Option Nat) (hk : s.steady.1 = true) :
  (State.setFlagEach s a b q cls).steady = s.steady := by
  simp (maxDischargeDepth := 40) +contextual only [State.setFlagEach, ↓State.logFlag_steady, ↓State.setReg_steady, hk]

/-! ### Gfe -/

theorem State.gfeStep_steady (s : State) (hk : s.steady.1 = true) : (State.gfeStep s).steady = s.steady := by
  simp (maxDischargeDepth := 40) +contextual only [State.gfeStep, ↓State.bump_steady, ↓State.setFlags_steady,
    ↓State.when_steady, hk, 
    ↓State.steady_ite, ↓State.steady_mk, ↓State.steady_fold, ↓State.when_steady, ite_self,
    implies_true]

theorem State.gfeFault_steady (s : State) (hk : s.steady.1 = true) : (State.gfeFault s).steady = s.steady := by
  simp (maxDischargeDepth := 40) +contextual only [State.gfeFault, ↓State.setFlag_steady, hk, 
    ↓State.steady_mk, ↓State.steady_fold]

/-! ### Rt -/

theorem State.kzEnd_steady (s : State) (hk : s.steady.1 = true) : (State.kzEnd s).steady = s.steady := by
  simp (maxDischargeDepth := 40) +contextual only [State.kzEnd, 
    ↓State.steady_mk, ↓State.steady_fold]

theorem State.kzClock_steady (s : State) (hk : s.steady.1 = true) : (State.kzClock s).steady = s.steady := by
  simp (maxDischargeDepth := 40) +contextual only [State.kzClock, 
    ↓State.steady_ite, ↓State.steady_mk, ↓State.steady_fold, 
    ite_self]

theorem State.ftInputs_steady (s : State) (hk : s.steady.1 = true) : (State.ftInputs s).steady = s.steady := by
  simp (maxDischargeDepth := 40) +contextual only [State.ftInputs, ↓State.setReg_steady, hk, 
    ↓State.steady_ite, ↓State.steady_mk, ↓State.steady_fold,
    ite_self]

theorem State.kzWrite_steady (s : State) (hk : s.steady.1 = true) : (State.kzWrite s).steady = s.steady := by
  simp (maxDischargeDepth := 40) +contextual only [State.kzWrite, ↓State.setReg_steady, hk, 
    ↓State.steady_ite, 
    ite_self]

theorem State.excursions_steady (s : State) (hk : s.steady.1 = true) : (State.excursions s).steady = s.steady := by
  unfold State.excursions; (repeat' split) <;> simp (maxDischargeDepth := 40) +contextual only [
    ↓State.steady_mk,
    ↓State.steady_fold]

theorem State.stepMissed_steady (s : State) (hk : s.steady.1 = true) : (State.stepMissed s).steady = s.steady := by
  simp (maxDischargeDepth := 40) +contextual only [State.stepMissed, 
    ↓State.steady_mk, ↓State.steady_fold]

theorem State.excEnd_steady (s : State) (hk : s.steady.1 = true) : (State.excEnd s).steady = s.steady := by
  unfold State.excEnd; (repeat' split) <;> simp (maxDischargeDepth := 40) +contextual only [
    ↓State.steady_mk, ↓State.steady_fold]

theorem State.envLog_steady (s : State) (hk : s.steady.1 = true) : (State.envLog s).steady = s.steady := by
  simp (maxDischargeDepth := 40) +contextual only [State.envLog, ↓State.setFlagEach_steady, hk, 
    ↓State.steady_ite, ↓State.steady_mk, ↓State.steady_fold,
    ite_self]

theorem State.setTrig_steady (s : State) (b : Bool) (hk : s.steady.1 = true) : (State.setTrig s b).steady = s.steady := by
  simp (maxDischargeDepth := 40) +contextual only [State.setTrig, ↓State.emit_steady, hk, 
    ↓State.steady_ite, ↓State.steady_mk, ↓State.steady_fold,
    ite_self]

theorem State.trigUpdate_steady (s : State) (hk : s.steady.1 = true) : (State.trigUpdate s).steady = s.steady := by
  unfold State.trigUpdate; (repeat' split) <;> simp (maxDischargeDepth := 40) +contextual only [↓State.setTrig_steady, hk]

theorem State.envShow_steady (s : State) (hk : s.steady.1 = true) : (State.envShow s).steady = s.steady := by
  simp (maxDischargeDepth := 40) +contextual only [State.envShow, 
    ↓State.steady_mk, ↓State.steady_fold]

theorem State.rtBoundary_steady (s : State) (hk : s.steady.1 = true) : (State.rtBoundary s).steady = s.steady := by
  simp (maxDischargeDepth := 40) +contextual only [State.rtBoundary, ↓State.envLog_steady, ↓State.envShow_steady,
    ↓State.excEnd_steady, ↓State.trigUpdate_steady, hk, 
    ↓State.steady_ite, 
    ite_self]

theorem State.rtObserve_steady (s : State) (hk : s.steady.1 = true) : (State.rtObserve s).steady = s.steady := by
  unfold State.rtObserve; (repeat' split) <;> simp (maxDischargeDepth := 40) +contextual only [
    ↓State.steady_mk,
    ↓State.steady_fold]

theorem State.rejoinTerm_steady (s : State) (hk : s.steady.1 = true) : (State.rejoinTerm s).steady = s.steady := by
  simp (maxDischargeDepth := 40) +contextual only [State.rejoinTerm, 
    ↓State.steady_ite, ↓State.steady_mk, ↓State.steady_fold, 
    ite_self]

theorem State.rejoinAct_steady (s : State) (hk : s.steady.1 = true) : (State.rejoinAct s).steady = s.steady := by
  simp (maxDischargeDepth := 40) +contextual only [State.rejoinAct, ↓State.rejoinTerm_steady, ↓State.setFlag_steady,
    ↓State.setFlagEach_steady, ↓State.when_steady, hk, 
    ↓State.when_steady,
    implies_true]

theorem execExcursionEnd_steady (s t : State) (h : execExcursionEnd s = .next t) (hk : s.steady.1 = true) :
    t.steady = s.steady := by
  refine State.live_steady h ?_
  simp (maxDischargeDepth := 40) +contextual only [↓State.excEnd_steady, ↓State.trigUpdate_steady, hk]

theorem execKzTermEnd_steady (s t : State) (h : execKzTermEnd s = .next t) (hk : s.steady.1 = true) :
    t.steady = s.steady := by
  exact State.live_steady h (State.kzEnd_steady _ hk)

/-! ### Pwm -/

theorem State.updCtr_steady (s : State) (n : Nat) (f : Counter → Counter) (hk : s.steady.1 = true) : (State.updCtr s n
  f).steady = s.steady := by
  simp (maxDischargeDepth := 40) +contextual only [State.updCtr, upd_length, 
    ↓State.steady_mk, ↓State.steady_fold]

theorem State.updTrip_steady (s : State) (i : Nat) (f : Trip → Trip) (hk : s.steady.1 = true) : (State.updTrip s i f).steady
  = s.steady := by
  simp (maxDischargeDepth := 40) +contextual only [State.updTrip, upd_length, 
    ↓State.steady_mk, ↓State.steady_fold]

theorem State.toCount_steady (s t : State) (n v : Nat) (h : s.toCount n v = some t) (hk : s.steady.1 = true) :
    t.steady = s.steady := by
  unfold State.toCount at h
  dsimp only at h
  split at h
  · obtain rfl := Option.some.inj h
    rfl
  · split at h
    · obtain rfl := Option.some.inj h
      exact State.pass_steady s _ hk
    · exact absurd h (by simp)

theorem State.ownUpd_steady (s : State) (k : Nat) (f : Rec → Rec) (hk : s.steady.1 = true) : (State.ownUpd s k f).steady =
  s.steady := by
  simp (maxDischargeDepth := 40) +contextual only [State.ownUpd, 
    ↓State.steady_mk, ↓State.steady_fold]

theorem State.ownInc_steady (s : State) (k : Nat) (hk : s.steady.1 = true) : (State.ownInc s k).steady = s.steady := by
  simp (maxDischargeDepth := 40) +contextual only [State.ownInc, ↓State.ownUpd_steady, hk]

theorem State.edgeUnits_steady (s : State) (n : Nat) (hk : s.steady.1 = true) : (State.edgeUnits s n).steady = s.steady := by
  simp (maxDischargeDepth := 40) +contextual only [State.edgeUnits, ↓State.ownInc_steady, ↓State.updCtr_steady, hk,
    ↓State.steady_ite,
    ite_self]

theorem State.pwmEdges_steady (s0 s : State) (n : Nat) (hk : s.steady.1 = true) : (State.pwmEdges s0 s n).steady = s.steady
  := by
  simp (maxDischargeDepth := 40) +contextual only [State.pwmEdges, ↓State.edgeUnits_steady, ↓State.updCtr_steady, hk,
    List.length_mapIdx, ↓State.steady_ite,
    ↓State.steady_mk, ↓State.steady_fold, ite_self]

theorem State.transfer_steady (s : State) (n : Nat) (hk : s.steady.1 = true) : (State.transfer s n).steady = s.steady := by
  simp (maxDischargeDepth := 40) +contextual only [State.transfer, ↓State.updCtr_steady, hk]

theorem State.pwmRefresh_steady (s : State) (hk : s.steady.1 = true) : (State.pwmRefresh s).steady = s.steady := by
  simp (maxDischargeDepth := 40) +contextual only [State.pwmRefresh, List.length_mapIdx,
    ↓State.steady_mk, ↓State.steady_fold]

theorem State.periodBegin_steady (s0 : State) (n : Nat) (hk : s0.steady.1 = true) : (State.periodBegin s0 n).steady =
  s0.steady := by
  simp (maxDischargeDepth := 40) +contextual only [State.periodBegin, ↓State.pwmEdges_steady, ↓State.setFlag_steady,
    ↓State.setReg_steady, ↓State.transfer_steady, ↓State.updCtr_steady, hk, 
    ↓State.steady_ite, 
    ite_self]

theorem State.periodRoll_steady (s : State) (n : Nat) (hk : s.steady.1 = true) : (State.periodRoll s n).steady = s.steady := by
  simp (maxDischargeDepth := 40) +contextual only [State.periodRoll, ↓State.periodBegin_steady, ↓State.updCtr_steady, hk]

theorem State.periodDue_steady (s : State) (n : Nat) (hk : s.steady.1 = true) : (State.periodDue s n).steady = s.steady := by
  simp (maxDischargeDepth := 40) +contextual only [State.periodDue, ↓State.periodBegin_steady, ↓State.periodRoll_steady,
    ↓State.updCtr_steady, hk, 
    ↓State.steady_ite, ite_self]

theorem State.mainPeriods_steady (s : State) (hk : s.steady.1 = true) : (State.mainPeriods s).steady = s.steady := by
  simp (maxDischargeDepth := 40) +contextual only [State.mainPeriods, ↓State.periodBegin_steady, ↓State.updCtr_steady, hk,
    ↓State.steady_ite,
    ↓State.foldl_steady, ite_self, implies_true]

theorem State.pwmSetEn_steady (s : State) (n : Nat) (en : Bool) (hk : s.steady.1 = true) : (State.pwmSetEn s n en).steady =
  s.steady := by
  simp (maxDischargeDepth := 40) +contextual only [State.pwmSetEn, ↓State.periodBegin_steady, ↓State.pwmEdges_steady,
    ↓State.setReg_steady, ↓State.updCtr_steady, hk, 
    ↓State.steady_ite, 
    ite_self]

theorem State.pwmSync_steady (s : State) (mask : Nat) (hk : s.steady.1 = true) : (State.pwmSync s mask).steady = s.steady := by
  simp (maxDischargeDepth := 40) +contextual only [State.pwmSync, ↓State.periodBegin_steady, ↓State.setFlag_steady,
    ↓State.updCtr_steady, hk, 
    ↓State.steady_ite, ↓State.foldl_steady, ite_self,
    implies_true]

theorem State.pwmLoadAllAct_steady (s : State) (hk : s.steady.1 = true) : (State.pwmLoadAllAct s).steady = s.steady := by
  simp (maxDischargeDepth := 40) +contextual only [State.pwmLoadAllAct, List.length_map, 
    ↓State.steady_mk, ↓State.steady_fold]

theorem State.tripLatch_steady (s : State) (i : Nat) (hk : s.steady.1 = true) : (State.tripLatch s i).steady = s.steady := by
  simp (maxDischargeDepth := 40) +contextual only [State.tripLatch, ↓State.bump_steady, ↓State.pwmRefresh_steady,
    ↓State.setFlagEach_steady, ↓State.updTrip_steady, hk]

theorem State.tripClrAct_steady (s : State) (mask : Nat) (hk : s.steady.1 = true) : (State.tripClrAct s mask).steady =
  s.steady := by
  simp (maxDischargeDepth := 40) +contextual only [State.tripClrAct, List.length_mapIdx,
    ↓State.steady_mk, ↓State.steady_fold]

theorem State.cmpMatchAct_steady (s : State) (n : Nat) (hk : s.steady.1 = true) :
    (s.cmpMatchAct n).steady = s.steady := by
  unfold State.cmpMatchAct
  dsimp only
  split
  · split
    · rename_i s1 h1
      have h2 := s.toCount_steady s1 n _ h1 hk
      have h3 : s1.steady.1 = true := by rw [h2]; exact hk
      rw [State.pwmEdges_steady _ _ _ (by rw [State.updCtr_steady _ _ _ h3]; exact h3), State.updCtr_steady _ _ _ h3, h2]
    · rfl
  · rfl

theorem State.deadTimeAct_steady (s : State) (n : Nat) (outB : Bool) (hk : s.steady.1 = true) : (State.deadTimeAct s n
  outB).steady = s.steady := by
  unfold State.deadTimeAct; (repeat' split) <;> simp (maxDischargeDepth := 40) +contextual only [↓State.pass_steady,
    ↓State.pwmEdges_steady, ↓State.updCtr_steady, hk, 
    ↓State.steady_ite, 
    ite_self]

theorem State.blankCloseAct_steady (s : State) (i : Nat) (hk : s.steady.1 = true) : (State.blankCloseAct s i).steady =
  s.steady := by
  unfold State.blankCloseAct; (repeat' split) <;> simp (maxDischargeDepth := 40) +contextual only [↓State.pass_steady,
    ↓State.tripLatch_steady, ↓State.updTrip_steady, hk, 
    ↓State.steady_ite, 
    ite_self]

theorem execPeriodStart_steady (n : Fin 24) (s t : State) (h : execPeriodStart n s = .next t) (hk : s.steady.1 = true) :
    t.steady = s.steady := by
  refine State.live_steady h (State.ite_steady (fun _ => ?_) (fun _ => rfl))
  cases h1 : s.toCount n (s.ctr n).per with
  | none => rfl
  | some s1 => exact State.steady_trans (fun h => s1.periodRoll_steady _ h) (s.toCount_steady s1 n _ h1 hk) hk

theorem execCmpMatch_steady (n : Fin 24) (s t : State) (h : execCmpMatch n s = .next t) (hk : s.steady.1 = true) :
    t.steady = s.steady := by
  exact State.live_steady h (State.cmpMatchAct_steady _ _ hk)

theorem execDeadTimeExpire_steady (n : Fin 24) (outB : Bool) (s t : State) (h : execDeadTimeExpire n outB s = .next t) (hk :
  s.steady.1 = true) :
    t.steady = s.steady := by
  exact State.live_steady h (State.deadTimeAct_steady _ _ _ hk)

theorem execPwmLoadAll_steady (s t : State) (h : execPwmLoadAll s = .next t) (hk : s.steady.1 = true) :
    t.steady = s.steady := by
  exact State.live_steady h (State.pwmLoadAllAct_steady _ hk)

theorem execPwmEnable_steady (n : Fin 24) (en : Bool) (s t : State) (h : execPwmEnable n en s = .next t) (hk : s.steady.1 =
  true) :
    t.steady = s.steady := by
  refine State.live_steady h ?_
  simp (maxDischargeDepth := 40) +contextual only [↓State.pwmSetEn_steady, hk, 
    ↓State.steady_ite, 
    ite_self]

theorem execTripInput_steady (i : Fin 8) (active : Bool) (s t : State) (h : execTripInput i active s = .next t) (hk :
  s.steady.1 = true) :
    t.steady = s.steady := by
  refine State.live_steady h ?_
  simp (maxDischargeDepth := 40) +contextual only [↓State.tripLatch_steady, ↓State.updTrip_steady, hk, 
    ↓State.steady_ite, 
    ite_self]

theorem execBlankClose_steady (i : Fin 8) (s t : State) (h : execBlankClose i s = .next t) (hk : s.steady.1 = true) :
    t.steady = s.steady := by
  exact State.live_steady h (State.blankCloseAct_steady _ _ hk)

theorem execTripClr_steady (mask : BitVec 8) (s t : State) (h : execTripClr mask s = .next t) (hk : s.steady.1 = true) :
    t.steady = s.steady := by
  exact State.live_steady h (State.tripClrAct_steady _ _ hk)

/-! ### Snap -/

theorem State.snapRaise_steady (s : State) (src : Nat) (hk : s.steady.1 = true) : (State.snapRaise s src).steady = s.steady
  := by
  unfold State.snapRaise; (repeat' split) <;> simp (maxDischargeDepth := 40) +contextual only [↓State.bump_steady,
    ↓State.emit_steady, hk, upd_length, 
    ↓State.steady_ite, ↓State.steady_mk, ↓State.steady_fold, ite_self]

theorem State.snapLow_steady (s : State) (hk : s.steady.1 = true) : (State.snapLow s).steady = s.steady := by
  simp (maxDischargeDepth := 40) +contextual only [State.snapLow, ↓State.emit_steady, hk, 
    ↓State.steady_mk, ↓State.steady_fold]

theorem State.snapSafety_steady (s : State) (hk : s.steady.1 = true) : (State.snapSafety s).steady = s.steady := by
  simp (maxDischargeDepth := 40) +contextual only [State.snapSafety, ↓State.snapRaise_steady, hk, 
    ↓State.steady_ite, 
    ite_self]

theorem State.snapTakeover_steady (s : State) (hk : s.steady.1 = true) : (State.snapTakeover s).steady = s.steady := by
  simp (maxDischargeDepth := 40) +contextual only [State.snapTakeover, ↓State.snapRaise_steady, hk, 
    ↓State.steady_ite, 
    ite_self]

theorem State.snapDone_steady (s : State) (hk : s.steady.1 = true) : (State.snapDone s).steady = s.steady := by
  unfold State.snapDone; (repeat' split) <;> simp (maxDischargeDepth := 40) +contextual only [
    ↓State.steady_mk,
    ↓State.steady_fold]

/-! ### Saf -/

theorem State.updSin_steady (s : State) (k : Nat) (f : SafIn → SafIn) (hk : s.steady.1 = true) : (State.updSin s k f).steady
  = s.steady := by
  simp (maxDischargeDepth := 40) +contextual only [State.updSin, upd_length, 
    ↓State.steady_mk, ↓State.steady_fold]

theorem State.loopUpdate_steady (s : State) (hk : s.steady.1 = true) : (State.loopUpdate s).steady = s.steady := by
  simp (maxDischargeDepth := 40) +contextual only [State.loopUpdate, ↓State.emit_steady, hk, 
    ↓State.steady_ite, ↓State.steady_mk, ↓State.steady_fold,
    ite_self]

theorem State.soutUpdate_steady (s : State) (hk : s.steady.1 = true) : (State.soutUpdate s).steady = s.steady := by
  simp (maxDischargeDepth := 40) +contextual only [State.soutUpdate, ↓State.emits_steady, hk, 
    ↓State.steady_ite, ↓State.steady_mk, ↓State.steady_fold,
    ite_self]

theorem State.safSettle_steady (s : State) (hk : s.steady.1 = true) : (State.safSettle s).steady = s.steady := by
  simp (maxDischargeDepth := 40) +contextual only [State.safSettle, ↓State.loopUpdate_steady, ↓State.pwmRefresh_steady,
    ↓State.soutUpdate_steady, hk]

theorem State.demRecord_steady (s : State) (cause input : Nat) (sh : Bool) (hk : s.steady.1 = true) : (State.demRecord s
  cause input sh).steady = s.steady := by
  simp (maxDischargeDepth := 40) +contextual only [State.demRecord, ↓State.bump_steady, ↓State.setFlagEach_steady,
    ↓State.setReg_steady, hk, 
    ↓State.steady_ite, ite_self]

theorem State.spbDemand_steady (s : State) (cause : Nat) (input : Nat) (sh : Bool) (hk : s.steady.1 = true) :
  (State.spbDemand s cause input sh).steady = s.steady := by
  simp (maxDischargeDepth := 40) +contextual only [State.spbDemand, ↓State.bump_steady, ↓State.demRecord_steady,
    ↓State.safSettle_steady, ↓State.setReg_steady, ↓State.snapSafety_steady, hk, 
    ↓State.steady_ite, ↓State.steady_mk, ↓State.steady_fold,
    ite_self]

theorem State.ssrDemand_steady (s : State) (input : Nat) (sh : Bool) (hk : s.steady.1 = true) : (State.ssrDemand s input
  sh).steady = s.steady := by
  simp (maxDischargeDepth := 40) +contextual only [State.ssrDemand, ↓State.bump_steady, ↓State.demRecord_steady,
    ↓State.setReg_steady, ↓State.snapSafety_steady, ↓State.soutUpdate_steady, ↓State.spbDemand_steady, hk, 
    ↓State.steady_ite, ↓State.steady_mk,
    ↓State.steady_fold, ite_self]

theorem State.react_steady (s : State) (ssr : Bool) (cause : Nat) (sh : Bool) (hk : s.steady.1 = true) : (State.react s ssr
  cause sh).steady = s.steady := by
  simp (maxDischargeDepth := 40) +contextual only [State.react, ↓State.spbDemand_steady, ↓State.ssrDemand_steady, hk,
    ↓State.steady_ite,
    ite_self]

theorem State.sinFaultAct_steady (s : State) (k : Nat) (hk : s.steady.1 = true) : (State.sinFaultAct s k).steady = s.steady
  := by
  unfold State.sinFaultAct; dsimp only; (repeat' split) <;> simp (maxDischargeDepth := 40) +contextual only
    [↓State.setFlag_steady, ↓State.snapSafety_steady, ↓State.soutUpdate_steady, ↓State.spbDemand_steady,
    ↓State.ssrDemand_steady, ↓State.updSin_steady, hk]

theorem State.resetClear_steady (s : State) (hk : s.steady.1 = true) : (State.resetClear s).steady = s.steady := by
  simp (maxDischargeDepth := 40) +contextual only [State.resetClear, ↓State.safSettle_steady, ↓State.setReg_steady, hk,
    List.length_map, ↓State.steady_ite,
    ↓State.steady_mk, ↓State.steady_fold, ite_self]

theorem State.resetInput_steady (s : State) (hk : s.steady.1 = true) : (State.resetInput s).steady = s.steady := by
  simp (maxDischargeDepth := 40) +contextual only [State.resetInput, ↓State.resetClear_steady, ↓State.setFlag_steady, hk,
    ↓State.steady_ite,
    ↓State.steady_mk, ↓State.steady_fold, ite_self]

theorem State.sinApart_steady (s : State) (k : Nat) (hk : s.steady.1 = true) : (State.sinApart s k).steady = s.steady := by
  simp (maxDischargeDepth := 40) +contextual only [State.sinApart, ↓State.updSin_steady, hk]

theorem State.sinChangeAct_steady (s : State) (k : Nat) (chB level : Bool) (hk : s.steady.1 = true) : (State.sinChangeAct s
  k chB level).steady = s.steady := by
  unfold State.sinChangeAct; dsimp only; (repeat' split) <;> simp (maxDischargeDepth := 40) +contextual only
    [↓State.resetInput_steady, ↓State.sinApart_steady, ↓State.soutUpdate_steady, ↓State.spbDemand_steady,
    ↓State.ssrDemand_steady, ↓State.updSin_steady, hk]

theorem State.loadPreset_steady (s : State) (hk : s.steady.1 = true) : (State.loadPreset s).steady = s.steady := by
  simp (maxDischargeDepth := 40) +contextual only [State.loadPreset, ↓State.setReg_steady, hk, 
    ↓State.foldl_steady, implies_true]

theorem State.startTest_steady (s : State) (pass : Bool) (sw1 : BitVec 16) (hk : s.steady.1 = true) : (State.startTest s
  pass sw1).steady = s.steady := by
  simp (maxDischargeDepth := 40) +contextual only [State.startTest, ↓State.loadPreset_steady, 
    ↓State.safSettle_steady, ↓State.setFlag_steady, ↓State.sinApart_steady, hk, 
    ↓State.steady_ite, ↓State.steady_mk, ↓State.steady_fold,
    ↓State.foldl_steady, ite_self, implies_true]

theorem State.shQualAct_steady (s : State) (hk : s.steady.1 = true) : (State.shQualAct s).steady = s.steady := by
  simp (maxDischargeDepth := 40) +contextual only [State.shQualAct, 
    ↓State.steady_ite, ↓State.steady_mk, ↓State.steady_fold, 
    ite_self]

theorem State.shLostAct_steady (s : State) (why : ShMeasure) (hk : s.steady.1 = true) : (State.shLostAct s why).steady =
  s.steady := by
  simp (maxDischargeDepth := 40) +contextual only [State.shLostAct, ↓State.setFlag_steady, ↓State.soutUpdate_steady,
    ↓State.ssrDemand_steady, hk, 
    ↓State.steady_ite, ↓State.steady_mk, ↓State.steady_fold, ite_self]

theorem State.ssrExpired_steady (s : State) (hk : s.steady.1 = true) : (State.ssrExpired s).steady = s.steady := by
  simp (maxDischargeDepth := 40) +contextual only [State.ssrExpired, ↓State.spbDemand_steady, hk, 
    ↓State.steady_mk,
    ↓State.steady_fold]

theorem State.slfAct_steady (s : State) (sh : Bool) (hk : s.steady.1 = true) : (State.slfAct s sh).steady = s.steady := by
  simp (maxDischargeDepth := 40) +contextual only [State.slfAct, ↓State.react_steady, hk, 
    ↓State.steady_ite, 
    ite_self]

theorem State.slaAct_steady (s : State) (sh : Bool) (hk : s.steady.1 = true) : (State.slaAct s sh).steady = s.steady := by
  simp (maxDischargeDepth := 40) +contextual only [State.slaAct, ↓State.react_steady, hk, 
    ↓State.steady_ite, 
    ite_self]

theorem State.sdpAct_steady (s : State) (sh : Bool) (hk : s.steady.1 = true) : (State.sdpAct s sh).steady = s.steady := by
  simp (maxDischargeDepth := 40) +contextual only [State.sdpAct, ↓State.react_steady, hk, 
    ↓State.steady_ite, 
    ite_self]

theorem State.stuckAct_steady (s : State) (hk : s.steady.1 = true) : (State.stuckAct s).steady = s.steady := by
  unfold State.stuckAct; (repeat' split) <;> simp (maxDischargeDepth := 40) +contextual only [↓State.atDue_steady,
    ↓State.safSettle_steady, ↓State.setFlag_steady, hk, 
    ↓State.steady_mk, ↓State.steady_fold, 
    implies_true]

theorem State.safMeasure_steady (s : State) (hk : s.steady.1 = true) : (State.safMeasure s).steady = s.steady := by
  simp (maxDischargeDepth := 40) +contextual only [State.safMeasure, 
    ↓State.steady_mk, ↓State.steady_fold]

theorem State.safStep_steady (s0 : State) (hk : s0.steady.1 = true) : (State.safStep s0).steady = s0.steady := by
  unfold State.safStep
  try dsimp only
  repeat' first
    | with_reducible rfl
    | with_reducible exact hk
    | with_reducible refine State.steady_trans (fun h => State.safMeasure_steady _ h) ?_ hk
    | with_reducible refine State.steady_trans (fun h => State.sdpAct_steady _ _ h) ?_ hk
    | with_reducible refine State.steady_trans (fun h => State.slaAct_steady _ _ h) ?_ hk
    | with_reducible refine State.steady_trans (fun h => State.slfAct_steady _ _ h) ?_ hk
    | with_reducible refine State.steady_trans (fun h => State.ssrExpired_steady _ h) ?_ hk
    | simp only [↓State.steady_mk, ↓State.steady_fold, upd_length, List.length_map, List.length_mapIdx, List.length_set]
    | with_reducible refine State.ite_steady (fun _ => ?_) (fun _ => ?_)

theorem State.safBoundary_steady (s : State) (hk : s.steady.1 = true) : (State.safBoundary s).steady = s.steady := by
  unfold State.safBoundary
  try dsimp only
  repeat' first
    | with_reducible rfl
    | with_reducible exact hk
    | with_reducible refine State.steady_trans (fun h => State.safSettle_steady _ h) ?_ hk
    | with_reducible refine State.steady_trans (fun h => State.safStep_steady _ h) ?_ hk
    | with_reducible refine State.steady_trans (fun h => State.shQualAct_steady _ h) ?_ hk
    | with_reducible refine State.steady_trans (fun h => State.soutUpdate_steady _ h) ?_ hk
    | with_reducible refine State.steady_trans (fun h => State.spbDemand_steady _ _ _ _ h) ?_ hk
    | simp only [↓State.steady_mk, ↓State.steady_fold]
    | with_reducible refine State.ite_steady (fun _ => ?_) (fun _ => ?_)

theorem execSafStartTest_steady (pass : Bool) (sw1 : BitVec 16) (s t : State) (h : execSafStartTest pass sw1 s = .next t)
  (hk : s.steady.1 = true) :
    t.steady = s.steady := by
  exact State.live_steady h (State.startTest_steady _ _ _ hk)

theorem execShQualify_steady (s t : State) (h : execShQualify s = .next t) (hk : s.steady.1 = true) :
    t.steady = s.steady := by
  exact State.live_steady h (State.shQualAct_steady _ hk)

theorem execShLost_steady (why : ShMeasure) (s t : State) (h : execShLost why s = .next t) (hk : s.steady.1 = true) :
    t.steady = s.steady := by
  exact State.live_steady h (State.shLostAct_steady _ _ hk)

theorem execChDisc_steady (s t : State) (h : execChDisc s = .next t) (hk : s.steady.1 = true) :
    t.steady = s.steady := by
  refine State.live_steady h ?_
  simp (maxDischargeDepth := 40) +contextual only [↓State.setFlag_steady, ↓State.ssrDemand_steady, hk, 
    ↓State.steady_ite, 
    ite_self]

theorem execSsrTimeout_steady (s t : State) (h : execSsrTimeout s = .next t) (hk : s.steady.1 = true) :
    t.steady = s.steady := by
  refine State.live_steady h ?_
  split
  · exact s.atDue_steady _ _ hk (fun u h => u.ssrExpired_steady h)
  · rfl

theorem execSlfViolation_steady (sh : Bool) (s t : State) (h : execSlfViolation sh s = .next t) (hk : s.steady.1 = true) :
    t.steady = s.steady := by
  exact State.live_steady h (State.slfAct_steady _ _ hk)

theorem execSlaViolation_steady (sh : Bool) (s t : State) (h : execSlaViolation sh s = .next t) (hk : s.steady.1 = true) :
    t.steady = s.steady := by
  exact State.live_steady h (State.slaAct_steady _ _ hk)

theorem execSdpViolation_steady (sh : Bool) (s t : State) (h : execSdpViolation sh s = .next t) (hk : s.steady.1 = true) :
    t.steady = s.steady := by
  exact State.live_steady h (State.sdpAct_steady _ _ hk)

theorem execPblReversal_steady (s t : State) (h : execPblReversal s = .next t) (hk : s.steady.1 = true) :
    t.steady = s.steady := by
  refine State.live_steady h ?_
  simp (maxDischargeDepth := 40) +contextual only [
    ↓State.steady_ite, ↓State.steady_mk, ↓State.steady_fold, 
    ite_self]

theorem execPblOpen_steady (s t : State) (h : execPblOpen s = .next t) (hk : s.steady.1 = true) :
    t.steady = s.steady := by
  refine State.live_steady h ?_
  simp (maxDischargeDepth := 40) +contextual only [↓State.setFlag_steady, ↓State.spbDemand_steady, hk, 
    ↓State.steady_ite, ↓State.steady_mk,
    ↓State.steady_fold, ite_self]

theorem execPblStuck_steady (s t : State) (h : execPblStuck s = .next t) (hk : s.steady.1 = true) :
    t.steady = s.steady := by
  exact State.live_steady h (State.stuckAct_steady _ hk)

theorem execSoutTestPulse_steady (s t : State) (h : execSoutTestPulse s = .next t) (hk : s.steady.1 = true) :
    t.steady = s.steady := by
  refine State.live_steady h ?_
  simp (maxDischargeDepth := 40) +contextual only [↓State.emits_steady, hk]

theorem execSw1Read_steady (sw1 : BitVec 16) (s t : State) (h : execSw1Read sw1 s = .next t) (hk : s.steady.1 = true) :
    t.steady = s.steady := by
  refine State.live_steady h ?_
  simp (maxDischargeDepth := 40) +contextual only [↓State.setFlag_steady, ↓State.ssrDemand_steady, hk, 
    ↓State.steady_ite, ↓State.steady_mk,
    ↓State.steady_fold, ite_self]

/-! ### Ang -/

theorem State.cmdShow_steady (s : State) (hk : s.steady.1 = true) : (State.cmdShow s).steady = s.steady := by
  unfold State.cmdShow; (repeat' split) <;> simp (maxDischargeDepth := 40) +contextual only [↓State.setReg_steady, hk]

theorem absClamp_rateOk (r : Nat) : rateOk (word (absClamp r)) = true := by
  have h : rateMin ≤ absClamp r ∧ absClamp r ≤ rateMax := by
    unfold absClamp; constructor <;> (simp only [rateMin, rateMax]; omega)
  have h2 : (word (absClamp r)).toNat = absClamp r := by
    have := h.2; simp only [word, BitVec.toNat_ofNat, rateMax] at *; omega
  simp only [rateOk, h2, h.1, h.2, decide_true, Bool.and_self]


/-- A state in which only the rate has changed, to one within its bounds, is as sound. -/

theorem State.rate_steady (s : State) (a : Ang) (hr : rateOk a.rate = true) (hk : s.steady.1 = true) :
    ({ s with ang := a } : State).steady = s.steady := by
  obtain ⟨_, hm, he⟩ := State.sound_of_steady hk
  exact State.steady_ext hk hr hm he rfl rfl rfl rfl rfl


theorem State.rateApply_steady (s : State) (cmd : Nat) (hk : s.steady.1 = true) : (s.rateApply cmd).steady = s.steady := by
  unfold State.rateApply
  dsimp only
  have h1 := fun c => State.rate_steady s { s.ang with
    rate := word (absClamp (rocofClamp s.ang.rate.toNat (dmaxOf (s.fld Reg.ANG_ROCOF 0 10) s.ang.rate.toNat) cmd)), clamped
      := c }
    (absClamp_rateOk _) hk
  simp (maxDischargeDepth := 40) +contextual only [h1, hk, ↓State.when_steady, ↓State.setFlag_steady, ↓State.bump_steady,
    implies_true]

theorem State.trimNext_steady (s : State) (hk : s.steady.1 = true) : (s.trimNext).steady = s.steady := by
  have h : ∀ x, ({ s.draw.2 with ang := { s.draw.2.ang with trim := x } } : State).steady = s.draw.2.steady := fun _ => rfl
  unfold State.trimNext
  rw [h]
  exact s.draw_steady hk

theorem State.rateUpdate_steady (s : State) (hk : s.steady.1 = true) : (s.rateUpdate).steady = s.steady := by
  unfold State.rateUpdate
  have h1 := fun x c => State.rate_steady s { s.ang with rate := word (absClamp x), clamped := c } (absClamp_rateOk _) hk
  split
  · rfl
  · exact s.rateApply_steady _ hk
  · exact s.rateApply_steady _ hk
  · dsimp only; rw [State.trimNext_steady _ (by rw [h1]; exact hk), h1]
  · dsimp only; rw [State.trimNext_steady _ (by rw [h1]; exact hk), h1]
  · rfl

theorem State.angBoundary_steady (s : State) (hk : s.steady.1 = true) : (s.angBoundary).steady = s.steady := by
  unfold State.angBoundary
  dsimp only
  rw [State.steady_mk, State.steady_fold]
  refine State.steady_trans (fun h => State.rateUpdate_steady _ h) (State.steady_trans (fun h => State.cmdShow_steady _ h)
    ?_ hk) hk
  rw [State.steady_mk, State.steady_fold]
  exact s.pass_steady _ hk

theorem State.angStart_steady (s : State) (hk : s.steady.1 = true) : (s.angStart).steady = s.steady := by
  obtain ⟨_, hm, he⟩ := State.sound_of_steady hk
  refine State.steady_ext hk ?_ hm he rfl rfl rfl rfl rfl
  show rateOk (word s.fnom) = true
  unfold State.fnom
  split <;> simp [rateOk, word, rateMin, rateMax]

theorem State.angFree_steady (s : State) (hk : s.steady.1 = true) : (s.angFree).steady = s.steady := by
  unfold State.angFree
  split
  · rfl
  · exact State.rate_steady s _ (absClamp_rateOk _) hk

theorem State.angDiscipline_steady (s : State) (load : Bool) (hk : s.steady.1 = true) : (State.angDiscipline s load).steady
  = s.steady := by
  simp (maxDischargeDepth := 40) +contextual only [State.angDiscipline, 
    ↓State.steady_ite, ↓State.steady_mk, ↓State.steady_fold, 
    ite_self]

theorem State.lockLostAct_steady (s : State) (hk : s.steady.1 = true) : (State.lockLostAct s).steady = s.steady := by
  simp (maxDischargeDepth := 40) +contextual only [State.lockLostAct, ↓State.bump_steady, ↓State.setFlag_steady, hk,
    ↓State.steady_ite,
    ↓State.steady_mk, ↓State.steady_fold, ite_self]

theorem State.lockGain_steady (s : State) (hk : s.steady.1 = true) : (State.lockGain s).steady = s.steady := by
  simp (maxDischargeDepth := 40) +contextual only [State.lockGain, 
    ↓State.steady_ite, ↓State.steady_mk, ↓State.steady_fold, 
    ite_self]

theorem State.holdAct_steady (s : State) (hk : s.steady.1 = true) : (State.holdAct s).steady = s.steady := by
  simp (maxDischargeDepth := 40) +contextual only [State.holdAct, 
    ↓State.steady_ite, ↓State.steady_mk, ↓State.steady_fold, 
    ite_self]

theorem State.errJudge_steady (s : State) (qual : Bool) (e : Int) (hk : s.steady.1 = true) : (State.errJudge s qual
  e).steady = s.steady := by
  simp (maxDischargeDepth := 40) +contextual only [State.errJudge, ↓State.lockLostAct_steady, hk, 
    ↓State.steady_ite, ↓State.steady_mk,
    ↓State.steady_fold, ite_self]

theorem State.errCount_steady (s : State) (e : Int) (hk : s.steady.1 = true) : (State.errCount s e).steady = s.steady := by
  simp (maxDischargeDepth := 40) +contextual only [State.errCount, 
    ↓State.steady_ite, ↓State.steady_mk, ↓State.steady_fold, 
    ite_self]

theorem State.markRx_steady (s : State) (path : Bool) (m : Mark) (a : Nat) (qual : Bool) (hk : s.steady.1 = true) :
  (State.markRx s path m a qual).steady = s.steady := by
  unfold State.markRx; (repeat' split) <;> simp (maxDischargeDepth := 40) +contextual only [↓State.errCount_steady,
    ↓State.errJudge_steady, ↓State.setReg_steady, hk, 
    ↓State.steady_ite, ↓State.steady_mk, ↓State.steady_fold, 
    ite_self]

theorem State.oncePast_steady (s : State) (lim n : Nat) (hk : s.steady.1 = true) : (State.oncePast s lim n).steady =
  s.steady := by
  simp (maxDischargeDepth := 40) +contextual only [State.oncePast, ↓State.bump_steady, ↓State.setFlag_steady,
    ↓State.setReg_steady, hk, 
    ↓State.steady_ite, ite_self]

theorem State.onceCheck_steady (s : State) (n : Nat) (hk : s.steady.1 = true) : (State.onceCheck s n).steady = s.steady := by
  simp (maxDischargeDepth := 40) +contextual only [State.onceCheck, ↓State.oncePast_steady, hk]

theorem State.oncePassed_steady (s : State) (hk : s.steady.1 = true) : (State.oncePassed s).steady = s.steady := by
  simp (maxDischargeDepth := 40) +contextual only [State.oncePassed, ↓State.oncePast_steady, hk, 
    ↓State.foldl_steady, implies_true]

theorem State.angLoad_steady (s : State) (hk : s.steady.1 = true) : (s.angLoad).steady = s.steady := by
  unfold State.angLoad
  split
  · split
    · exact State.steady_trans (fun h => State.oncePassed_steady _ h) (State.steady_trans (fun h => State.setFlagEach_steady
      _ _ _ _ _ h)
        (State.rate_steady s _ (absClamp_rateOk _) hk) hk) hk
    · rfl
  · rfl

theorem State.pathChoose_steady (s : State) (hk : s.steady.1 = true) : (State.pathChoose s).steady = s.steady := by
  simp (maxDischargeDepth := 40) +contextual only [State.pathChoose, 
    ↓State.steady_mk, ↓State.steady_fold]

theorem State.angDiscBoundary_steady (s : State) (seen eSeen : Bool) (hk : s.steady.1 = true) : (State.angDiscBoundary s
  seen eSeen).steady = s.steady := by
  unfold State.angDiscBoundary
  repeat' first
    | exact hk
    | (simp (maxDischargeDepth := 40) +contextual only [*, ↓State.angLoad_steady, ↓State.holdAct_steady,
      ↓State.lockGain_steady, ↓State.lockLostAct_steady, ↓State.pathChoose_steady, 
      ↓State.steady_ite, ↓State.steady_mk, ↓State.steady_fold,
      ite_self]; done)

theorem State.thetaLatch_steady (s : State) (hk : s.steady.1 = true) : (State.thetaLatch s).steady = s.steady := by
  simp (maxDischargeDepth := 40) +contextual only [State.thetaLatch, 
    ↓State.steady_mk, ↓State.steady_fold]

theorem execAngThetaRead_steady (s t : State) (h : execAngThetaRead s = .next t) (hk : s.steady.1 = true) :
    t.steady = s.steady := by
  exact State.live_steady h (State.thetaLatch_steady _ hk)

theorem execAngleLocked_steady (s t : State) (h : execAngleLocked s = .next t) (hk : s.steady.1 = true) :
    t.steady = s.steady := by
  refine State.live_steady h ?_
  simp (maxDischargeDepth := 40) +contextual only [↓State.lockGain_steady, hk, 
    ↓State.steady_ite, 
    ite_self]

theorem execLockLost_steady (s t : State) (h : execLockLost s = .next t) (hk : s.steady.1 = true) :
    t.steady = s.steady := by
  refine State.live_steady h ?_
  simp (maxDischargeDepth := 40) +contextual only [↓State.lockLostAct_steady, hk, 
    ↓State.steady_ite, 
    ite_self]

theorem execAngleHold_steady (s t : State) (h : execAngleHold s = .next t) (hk : s.steady.1 = true) :
    t.steady = s.steady := by
  exact State.live_steady h (State.holdAct_steady _ hk)

/-! ### Wire -/

theorem State.line_steady (s : State) (n : Nat) (l : List Nat) (hk : s.steady.1 = true) : (State.line s n l).steady =
  s.steady := by
  simp (maxDischargeDepth := 40) +contextual only [State.line, upd_length, 
    ↓State.steady_ite, ↓State.steady_mk, ↓State.steady_fold, 
    ite_self]

/-! ### Lane -/

theorem State.setRole_steady (s : State) (r : Role) (hk : s.steady.1 = true) : (State.setRole s r).steady = s.steady := by
  unfold State.setRole
  try dsimp only
  repeat' first
    | with_reducible rfl
    | with_reducible exact hk
    | with_reducible refine State.steady_trans (fun h => State.angFree_steady _ h) ?_ hk
    | with_reducible refine State.steady_trans (fun h => State.logEv_steady _ _ _ _ _ _ h) ?_ hk
    | simp only [↓State.steady_mk, ↓State.steady_fold]
    | with_reducible refine State.ite_steady (fun _ => ?_) (fun _ => ?_)

theorem State.updPort_steady (s : State) (n : Nat) (f : Port → Port) (hk : s.steady.1 = true) : (State.updPort s n f).steady
  = s.steady := by
  simp (maxDischargeDepth := 40) +contextual only [State.updPort, upd_length, 
    ↓State.steady_mk, ↓State.steady_fold]

theorem State.updLane_steady (s : State) (n : Nat) (f : Lane → Lane) (hk : s.steady.1 = true) : (State.updLane s n f).steady
  = s.steady := by
  simp (maxDischargeDepth := 40) +contextual only [State.updLane, upd_length, 
    ↓State.steady_mk, ↓State.steady_fold]

theorem State.updAssoc_steady (s : State) (n : Nat) (f : Assoc → Assoc) (hk : s.steady.1 = true) : (State.updAssoc s n
  f).steady = s.steady := by
  simp (maxDischargeDepth := 40) +contextual only [State.updAssoc, upd_length, 
    ↓State.steady_mk, ↓State.steady_fold]

theorem State.tx_steady (s : State) (n : Nat) (name : String) (fields : List Nat) (hk : s.steady.1 = true) : (State.tx s n
  name fields).steady = s.steady := by
  simp (maxDischargeDepth := 40) +contextual only [State.tx, ↓State.emit_steady, ↓State.line_steady, hk]

theorem State.txPair_steady (s : State) (b : Bool) (name : String) (fields : List Nat) (hk : s.steady.1 = true) :
  (State.txPair s b name fields).steady = s.steady := by
  simp (maxDischargeDepth := 40) +contextual only [State.txPair, ↓State.emit_steady, ↓State.line_steady, hk]

theorem State.sendAudits_steady (s : State) (a : Nat) (hk : s.steady.1 = true) : (State.sendAudits s a).steady = s.steady := by
  unfold State.sendAudits; (repeat' split) <;> simp (maxDischargeDepth := 40) +contextual only [↓State.tx_steady,
    ↓State.updAssoc_steady, hk, 
    ↓State.foldl_steady, 
    implies_true]

theorem State.startAudit_steady (s : State) (a : Nat) (hk : s.steady.1 = true) : (State.startAudit s a).steady = s.steady := by
  simp (maxDischargeDepth := 40) +contextual only [State.startAudit, ↓State.sendAudits_steady, ↓State.updAssoc_steady, hk]

theorem State.queueBulk_steady (s : State) (a vc : Nat) (conc : Bool) (slot : Nat) (payload : List Byte) (mir : Option
  Mirror) (hk : s.steady.1 = true) : (State.queueBulk s a vc conc slot payload mir).steady = s.steady := by
  simp (maxDischargeDepth := 40) +contextual only [State.queueBulk, ↓State.updAssoc_steady, hk]

theorem State.queueVc1_steady (s : State) (smn : Nat) (payload : List Byte) (hk : s.steady.1 = true) : (State.queueVc1 s smn
  payload).steady = s.steady := by
  unfold State.queueVc1; (repeat' split) <;> simp (maxDischargeDepth := 40) +contextual only [↓State.queueBulk_steady, hk]

theorem State.updSm_steady (s : State) (n : Nat) (f : Sm → Sm) (hk : s.steady.1 = true) : (State.updSm s n f).steady =
  s.steady := by
  simp (maxDischargeDepth := 40) +contextual only [State.updSm, 
    ↓State.steady_mk, ↓State.steady_fold]

theorem State.marginAt_steady (s : State) (ac : Nat) (hk : s.steady.1 = true) : (State.marginAt s ac).steady = s.steady := by
  simp (maxDischargeDepth := 40) +contextual only [State.marginAt, 
    ↓State.steady_mk, ↓State.steady_fold]

theorem State.sendRegion_steady (s : State) (n p : Nat) (oos : Bool) (hk : s.steady.1 = true) : (State.sendRegion s n p
  oos).steady = s.steady := by
  simp (maxDischargeDepth := 40) +contextual only [State.sendRegion, ↓State.marginAt_steady, ↓State.tx_steady,
    ↓State.updLane_steady, ↓State.when_steady, hk, 
    ↓State.when_steady,
    implies_true]

theorem State.identAll_steady (s : State) (p : Nat) (hk : s.steady.1 = true) : (State.identAll s p).steady = s.steady := by
  simp (maxDischargeDepth := 40) +contextual only [State.identAll, ↓State.queueBulk_steady, ↓State.updSm_steady, hk,
    ↓State.foldl_steady, implies_true]

theorem State.requal_steady (s : State) (n : Nat) (hk : s.steady.1 = true) : (State.requal s n).steady = s.steady := by
  unfold State.requal; (repeat' split) <;> simp (maxDischargeDepth := 40) +contextual only [↓State.identAll_steady,
    ↓State.startAudit_steady, ↓State.updAssoc_steady, ↓State.updLane_steady, hk, 
    ↓State.steady_ite, 
    ite_self]

theorem State.assess_steady (s : State) (n : Nat) (hk : s.steady.1 = true) : (State.assess s n).steady = s.steady := by
  unfold State.assess; dsimp only; (repeat' split) <;> simp (maxDischargeDepth := 40) +contextual only
    [↓State.requal_steady, ↓State.setFlagEach_steady, hk]

theorem State.routesHome_steady (s : State) (hk : s.steady.1 = true) : (State.routesHome s).steady = s.steady := by
  unfold State.routesHome
  try dsimp only
  repeat' first
    | with_reducible rfl
    | with_reducible exact hk
    | with_reducible refine State.steady_trans (fun h => State.requal_steady _ _ h) ?_ hk
    | with_reducible refine State.steady_trans (fun h => State.startAudit_steady _ _ h) ?_ hk
    | with_reducible refine State.steady_trans (fun h => State.updAssoc_steady _ _ _ h) ?_ hk
    | with_reducible refine State.steady_trans (fun h => State.foldl_steady _ _ _ h (fun s x hk => ?_)) ?_ hk
    | simp only [↓State.steady_mk, ↓State.steady_fold, upd_length, List.length_map, List.length_mapIdx, List.length_set]
    | with_reducible refine State.ite_steady (fun _ => ?_) (fun _ => ?_)
    | split

theorem State.moveTo_steady (s : State) (p n : Nat) (hk : s.steady.1 = true) : (State.moveTo s p n).steady = s.steady := by
  simp (maxDischargeDepth := 40) +contextual only [State.moveTo, ↓State.bump_steady, ↓State.requal_steady,
    ↓State.sendRegion_steady, ↓State.setFlagEach_steady, ↓State.startAudit_steady, ↓State.updAssoc_steady, hk, 
    ↓State.steady_ite, 
    ite_self]

theorem State.routeLost_steady (s : State) (p : Nat) (hk : s.steady.1 = true) : (State.routeLost s p).steady = s.steady := by
  unfold State.routeLost; (repeat' split) <;> simp (maxDischargeDepth := 40) +contextual only [↓State.moveTo_steady,
    ↓State.setFlagEach_steady, ↓State.updAssoc_steady, hk, 
    ↓State.steady_ite, 
    ite_self]

theorem State.laneDown_steady (s : State) (n : Nat) (hk : s.steady.1 = true) : (State.laneDown s n).steady = s.steady := by
  unfold State.laneDown; dsimp only; (repeat' split) <;> simp (maxDischargeDepth := 40) +contextual only
    [↓State.routeLost_steady, ↓State.updLane_steady, hk]

theorem State.qualCheck_steady (s : State) (n : Nat) (hk : s.steady.1 = true) : (State.qualCheck s n).steady = s.steady := by
  unfold State.qualCheck; (repeat' split) <;> simp (maxDischargeDepth := 40) +contextual only [↓State.routeLost_steady,
    ↓State.updLane_steady, hk]

theorem State.echoSend_steady (s : State) (n : Nat) (hk : s.steady.1 = true) : (State.echoSend s n).steady = s.steady := by
  simp (maxDischargeDepth := 40) +contextual only [State.echoSend, ↓State.tx_steady, ↓State.updLane_steady, hk]

theorem State.sendMarks_steady (s : State) (hk : s.steady.1 = true) : (State.sendMarks s).steady = s.steady := by
  simp (maxDischargeDepth := 40) +contextual only [State.sendMarks, ↓State.draw_steady, ↓State.tx_steady, hk, 
    ↓State.steady_ite, 
    ↓State.foldl_steady, ite_self, implies_true]

theorem State.idleOut_steady (s : State) (n : Nat) (hk : s.steady.1 = true) : (State.idleOut s n).steady = s.steady := by
  simp (maxDischargeDepth := 40) +contextual only [State.idleOut, ↓State.tx_steady, ↓State.when_steady, hk, 
    ↓State.when_steady, implies_true]

theorem State.idles_steady (s : State) (hk : s.steady.1 = true) : (State.idles s).steady = s.steady := by
  simp (maxDischargeDepth := 40) +contextual only [State.idles, ↓State.idleOut_steady, hk, 
    ↓State.foldl_steady, implies_true]

theorem State.laneUp_steady (s0 : State) (n : Nat) (hk : s0.steady.1 = true) : (State.laneUp s0 n).steady = s0.steady := by
  unfold State.laneUp; dsimp only; (repeat' split) <;> simp (maxDischargeDepth := 40) +contextual only
    [↓State.echoSend_steady, ↓State.idleOut_steady, ↓State.startAudit_steady, hk]

theorem State.sendRestrict_steady (s : State) (set neg : Bool) (arm : Nat) (hk : s.steady.1 = true) : (State.sendRestrict s
  set neg arm).steady = s.steady := by
  unfold State.sendRestrict
  repeat' first
    | exact hk
    | (simp (maxDischargeDepth := 40) +contextual only [*, ↓State.tx_steady, ↓State.updLane_steady, 
      ↓State.steady_ite, 
      ite_self]; done)
    | split
    | refine State.foldl_steady _ _ _ ?_ (fun s x h => ?_)

end Sys2Proof.Machine
end

