-- ==== Sys2Proof/Laws/SteadyData.lean ====
section
/-! SUPPORT. What every operation keeps of a sound state (Safety.lean), block by block: acquisition, metering, filters, ports, converters, links and the far end. -/
namespace Sys2Proof.Machine

/-! ### Acq -/

theorem State.updUnit_steady (s : State) (u : Nat) (f : TrgUnit → TrgUnit) (hk : s.steady.1 = true) : (State.updUnit s u
  f).steady = s.steady := by
  simp (maxDischargeDepth := 40) +contextual only [State.updUnit, upd_length, 
    ↓State.steady_mk, ↓State.steady_fold]

theorem State.updSlot_steady (s : State) (k : Nat) (f : AcqSlot → AcqSlot) (hk : s.steady.1 = true) : (State.updSlot s k
  f).steady = s.steady := by
  simp (maxDischargeDepth := 40) +contextual only [State.updSlot, upd_length, 
    ↓State.steady_mk, ↓State.steady_fold]

theorem State.gapCount_steady (s : State) (k : Nat) (hk : s.steady.1 = true) : (State.gapCount s k).steady = s.steady := by
  simp (maxDischargeDepth := 40) +contextual only [State.gapCount, ↓State.bump_steady, ↓State.setFlag_steady, hk]

theorem State.recFinish_steady (s : State) (k : Nat) (hk : s.steady.1 = true) : (State.recFinish s k).steady = s.steady := by
  unfold State.recFinish; (repeat' split) <;> simp (maxDischargeDepth := 40) +contextual only [↓State.updSlot_steady, hk,
    ↓State.steady_mk, ↓State.steady_fold]

theorem State.recNumber_steady (s : State) (k : Nat) (hk : s.steady.1 = true) : (State.recNumber s k).2.steady = s.steady := by
  simp (maxDischargeDepth := 40) +contextual only [State.recNumber, ↓State.setReg_steady, hk, 
    List.length_mapIdx, ↓State.steady_mk, ↓State.steady_fold]

theorem State.recCheck_steady (s : State) (k : Nat) (hk : s.steady.1 = true) : (State.recCheck s k).steady = s.steady := by
  unfold State.recCheck; (repeat' split) <;> simp (maxDischargeDepth := 40) +contextual only [↓State.recFinish_steady, hk]

theorem State.recStart_steady (s : State) (k : Nat) (e : TrigEnt) (hk : s.steady.1 = true) : (State.recStart s k e).steady =
  s.steady := by
  simp (maxDischargeDepth := 40) +contextual only [State.recStart, ↓State.recCheck_steady, ↓State.recNumber_steady,
    ↓State.updSlot_steady, hk]

theorem State.remStart_steady (s : State) (k : Nat) (e : TrigEnt) (hk : s.steady.1 = true) : (State.remStart s k e).steady =
  s.steady := by
  unfold State.remStart; dsimp only; (repeat' split) <;> simp (maxDischargeDepth := 40) +contextual only
    [↓State.queueBulk_steady, ↓State.recNumber_steady, ↓State.updSlot_steady, hk, 
    ↓State.steady_mk, ↓State.steady_fold]

theorem State.missTrig_steady (s : State) (k : Nat) (e : TrigEnt) (hk : s.steady.1 = true) : (State.missTrig s k e).steady =
  s.steady := by
  simp (maxDischargeDepth := 40) +contextual only [State.missTrig, ↓State.bump_steady, ↓State.setFlag_steady, hk,
    ↓State.steady_ite,
    ↓State.steady_mk, ↓State.steady_fold, ite_self]

theorem State.slotTrig_steady (s : State) (k : Nat) (e : TrigEnt) (hk : s.steady.1 = true) : (State.slotTrig s k e).steady =
  s.steady := by
  unfold State.slotTrig; dsimp only; (repeat' split) <;> simp (maxDischargeDepth := 40) +contextual only
    [↓State.missTrig_steady, ↓State.recStart_steady, ↓State.remStart_steady, ↓State.updSlot_steady, hk]

theorem State.fire_steady (s : State) (u frac : Nat) (a b : TSample) (cubic lin : Bool) (hk : s.steady.1 = true) :
  (State.fire s u frac a b cubic lin).steady = s.steady := by
  simp (maxDischargeDepth := 40) +contextual only [State.fire, ↓State.setReg_steady, ↓State.slotTrig_steady,
    ↓State.snapRaise_steady, ↓State.when_steady, hk, 
    ↓State.when_steady,
    implies_true]

theorem State.decideWait_steady (s : State) (u : Nat) (x : Option TSample) (hk : s.steady.1 = true) : (State.decideWait s u
  x).steady = s.steady := by
  unfold State.decideWait; dsimp only; (repeat' split) <;> simp (maxDischargeDepth := 40) +contextual only
    [↓State.fire_steady, ↓State.updUnit_steady, hk]

theorem State.trgEval_steady (s : State) (u : Nat) (x : Option TSample) (hk : s.steady.1 = true) : (State.trgEval s u
  x).steady = s.steady := by
  unfold State.trgEval; dsimp only; (repeat' split) <;> simp (maxDischargeDepth := 40) +contextual only
    [↓State.decideWait_steady, ↓State.fire_steady, ↓State.updUnit_steady, ↓State.when_steady, hk, 
    ↓State.when_steady, implies_true]

theorem State.trgEnable_steady (s : State) (u : Nat) (was : Bool) (hk : s.steady.1 = true) : (State.trgEnable s u
  was).steady = s.steady := by
  simp (maxDischargeDepth := 40) +contextual only [State.trgEnable, ↓State.updUnit_steady, hk, 
    ↓State.steady_ite, 
    ite_self]

theorem State.trgArm_steady (s : State) (mask pos : Nat) (hk : s.steady.1 = true) : (State.trgArm s mask pos).steady =
  s.steady := by
  simp (maxDischargeDepth := 40) +contextual only [State.trgArm, ↓State.updUnit_steady, hk, 
    ↓State.steady_ite, 
    ↓State.foldl_steady, ite_self, implies_true]

theorem State.ringFrame_steady (s : State) (k : Nat) (f : Frame) (hk : s.steady.1 = true) : (State.ringFrame s k f).steady =
  s.steady := by
  simp (maxDischargeDepth := 40) +contextual only [State.ringFrame, ↓State.gapCount_steady, ↓State.updSlot_steady, hk,
    ↓State.steady_ite,
    ite_self]

theorem State.slotFrame_steady (s : State) (k : Nat) (f : Frame) (hk : s.steady.1 = true) : (State.slotFrame s k f).steady =
  s.steady := by
  unfold State.slotFrame; (repeat' split) <;> simp (maxDischargeDepth := 40) +contextual only [↓State.gapCount_steady,
    ↓State.recCheck_steady, ↓State.ringFrame_steady, ↓State.updSlot_steady, ↓State.when_steady, hk, 
    ↓State.when_steady, implies_true]

theorem State.slotSample_steady (s : State) (k code pos tai : Nat) (w : Word) (hk : s.steady.1 = true) : (State.slotSample s
  k code pos tai w).steady = s.steady := by
  simp (maxDischargeDepth := 40) +contextual only [State.slotSample, ↓State.gapCount_steady, ↓State.slotFrame_steady,
    ↓State.updSlot_steady, ↓State.when_steady, hk, 
    ↓State.steady_ite, ↓State.when_steady,
    ite_self, implies_true]

theorem State.dropNewest_steady (s : State) (k : Nat) (hk : s.steady.1 = true) : (State.dropNewest s k).steady = s.steady := by
  unfold State.dropNewest; dsimp only; (repeat' split) <;> simp (maxDischargeDepth := 40) +contextual only
    [↓State.gapCount_steady, ↓State.updSlot_steady, hk]

theorem State.acqSample_steady (s : State) (code pos tai : Nat) (w : Word) (hk : s.steady.1 = true) : (State.acqSample s
  code pos tai w).steady = s.steady := by
  simp (maxDischargeDepth := 40) +contextual only [State.acqSample, ↓State.slotSample_steady, hk, 
    ↓State.foldl_steady, implies_true]

theorem State.acqFilter_steady (s : State) (n : Nat) (w : Word) (pos tai : Nat) (hk : s.steady.1 = true) : (State.acqFilter
  s n w pos tai).steady = s.steady := by
  simp (maxDischargeDepth := 40) +contextual only [State.acqFilter, ↓State.acqSample_steady, ↓State.trgEval_steady, hk,
    ↓State.steady_ite,
    ↓State.foldl_steady, ite_self, implies_true]

theorem State.acqSignals_steady (s : State) (hk : s.steady.1 = true) : (State.acqSignals s).steady = s.steady := by
  simp (maxDischargeDepth := 40) +contextual only [State.acqSignals, ↓State.acqSample_steady, ↓State.trgEval_steady, hk,
    ↓State.steady_ite,
    ↓State.foldl_steady, ite_self, implies_true]

theorem State.slotEnable_steady (s : State) (k : Nat) (was : Bool) (hk : s.steady.1 = true) : (State.slotEnable s k
  was).steady = s.steady := by
  simp (maxDischargeDepth := 40) +contextual only [State.slotEnable, ↓State.updSlot_steady, hk, 
    ↓State.steady_ite, 
    ite_self]

theorem State.discardOldest_steady (s : State) (k : Nat) (hk : s.steady.1 = true) : (State.discardOldest s k).steady =
  s.steady := by
  unfold State.discardOldest; (repeat' split) <;> simp (maxDischargeDepth := 40) +contextual only [↓State.bump_steady, hk,
    ↓State.steady_mk, ↓State.steady_fold]

theorem State.makeRoom_steady (s : State) (k : Nat) (fuel : Nat) (hk : s.steady.1 = true) :
    (s.makeRoom k fuel).steady = s.steady := by
  induction fuel generalizing s with
  | zero => rfl
  | succ n ih =>
    unfold State.makeRoom
    split
    · rfl
    · have h1 := s.discardOldest_steady k hk
      rw [ih _ (by rw [h1]; exact hk), h1]

theorem State.recordCloseAct_steady (s : State) (k : Nat) (hk : s.steady.1 = true) : (State.recordCloseAct s k).steady =
  s.steady := by
  unfold State.recordCloseAct
  repeat' first
    | exact hk
    | (simp (maxDischargeDepth := 40) +contextual only [*, ↓State.makeRoom_steady, ↓State.updSlot_steady, 
      ↓State.steady_ite, 
      ite_self]; done)

theorem State.mfifoPop_steady (s : State) (hk : s.steady.1 = true) : (State.mfifoPop s).steady = s.steady := by
  simp (maxDischargeDepth := 40) +contextual only [State.mfifoPop, 
    ↓State.steady_mk, ↓State.steady_fold]

theorem State.remErr_steady (s : State) (hk : s.steady.1 = true) : (State.remErr s).steady = s.steady := by
  simp (maxDischargeDepth := 40) +contextual only [State.remErr, ↓State.bump_steady, ↓State.setFlag_steady, hk]

theorem State.remEnd_steady (s : State) (k : Nat) (hk : s.steady.1 = true) : (State.remEnd s k).steady = s.steady := by
  unfold State.remEnd; (repeat' split) <;> simp (maxDischargeDepth := 40) +contextual only [↓State.bumpBy_steady,
    ↓State.recFinish_steady, ↓State.setFlag_steady, ↓State.updSlot_steady, hk, 
    ↓State.steady_ite, 
    ite_self]

theorem State.capData_steady (s : State) (smn tag n first : Nat) (data : List Word) (hk : s.steady.1 = true) :
  (State.capData s smn tag n first data).steady = s.steady := by
  unfold State.capData; (repeat' split) <;> simp (maxDischargeDepth := 40) +contextual only [↓State.remErr_steady,
    ↓State.updSlot_steady, hk]

theorem State.capEnd_steady (s : State) (smn tag status : Nat) (hk : s.steady.1 = true) : (State.capEnd s smn tag
  status).steady = s.steady := by
  unfold State.capEnd; (repeat' split) <;> simp (maxDischargeDepth := 40) +contextual only [↓State.remEnd_steady,
    ↓State.remErr_steady, ↓State.updSlot_steady, hk]

theorem State.remBoundary_steady (s : State) (hk : s.steady.1 = true) : (State.remBoundary s).steady = s.steady := by
  simp (maxDischargeDepth := 40) +contextual only [State.remBoundary, List.length_map, 
    ↓State.steady_mk, ↓State.steady_fold]

theorem State.remTimeout_steady (s : State) (k : Nat) (hk : s.steady.1 = true) : (State.remTimeout s k).steady = s.steady := by
  unfold State.remTimeout; (repeat' split) <;> simp (maxDischargeDepth := 40) +contextual only [↓State.atDue_steady,
    ↓State.remEnd_steady, hk, 
    implies_true]

theorem State.remLoseActive_steady (s : State) (hk : s.steady.1 = true) : (s.remLoseActive).steady = s.steady := by
  refine State.foldl_steady _ _ _ hk (fun s k h => ?_)
  split
  · split
    · exact s.remEnd_steady _ h
    · rfl
  · rfl

theorem execRecordClose_steady (k : Fin 16) (s t : State) (h : execRecordClose k s = .next t) (hk : s.steady.1 = true) :
    t.steady = s.steady := by
  exact State.live_steady h (State.recordCloseAct_steady _ _ hk)

theorem execCapDataRx_steady (smn : Fin 4096) (tag : BitVec 16) (n : Byte) (first : Word) (data : List Word) (s t : State)
  (h : execCapDataRx smn tag n first data s = .next t) (hk : s.steady.1 = true) :
    t.steady = s.steady := by
  exact State.live_steady h (State.capData_steady _ _ _ _ _ _ hk)

theorem execCapEndRx_steady (smn : Fin 4096) (tag : BitVec 16) (status : Byte) (_sent : Word) (s t : State) (h :
  execCapEndRx smn tag status _sent s = .next t) (hk : s.steady.1 = true) :
    t.steady = s.steady := by
  exact State.live_steady h (State.capEnd_steady _ _ _ _ hk)

theorem execRemoteTimeout_steady (k : Fin 16) (s t : State) (h : execRemoteTimeout k s = .next t) (hk : s.steady.1 = true) :
    t.steady = s.steady := by
  exact State.live_steady h (State.remTimeout_steady _ _ hk)

theorem execSnapInEdge_steady (level : Bool) (s t : State) (h : execSnapInEdge level s = .next t) (hk : s.steady.1 = true) :
    t.steady = s.steady := by
  refine State.live_steady h ?_
  simp (maxDischargeDepth := 40) +contextual only [↓State.snapRaise_steady, hk, 
    ↓State.steady_ite, ↓State.steady_mk, ↓State.steady_fold,
    ite_self]

theorem execSnapCmd_steady (s t : State) (h : execSnapCmd s = .next t) (hk : s.steady.1 = true) :
    t.steady = s.steady := by
  exact State.live_steady h (State.snapRaise_steady _ _ hk)

theorem execSnapCopyDone_steady (s t : State) (h : execSnapCopyDone s = .next t) (hk : s.steady.1 = true) :
    t.steady = s.steady := by
  exact State.live_steady h (State.snapDone_steady _ hk)

/-! ### Mtr -/

theorem State.mtrOutput_steady (s : State) (n : Nat) (w : Word) (pos : Nat) (hk : s.steady.1 = true) : (State.mtrOutput s n
  w pos).steady = s.steady := by
  simp (maxDischargeDepth := 40) +contextual only [State.mtrOutput, 
    ↓State.steady_ite, ↓State.steady_mk, ↓State.steady_fold, 
    ite_self]

theorem State.mtrSample_steady (s : State) (k : Nat) (hk : s.steady.1 = true) : (State.mtrSample s k).1.steady = s.steady := by
  unfold State.mtrSample
  try dsimp only
  repeat' first
    | with_reducible rfl
    | with_reducible exact hk
    | with_reducible refine State.steady_trans (fun h => State.setFlag_steady _ _ _ _ _ h) ?_ hk
    | with_reducible refine State.steady_trans (fun h => State.when_steady _ _ _ h (fun hk => ?_)) ?_ hk
    | simp only [↓State.steady_mk, ↓State.steady_fold]

theorem State.mtrFlags_steady (s : State) (c0 c : MtrCore) (gap : Bool) (hk : s.steady.1 = true) : (State.mtrFlags s c0 c
  gap).steady = s.steady := by
  simp (maxDischargeDepth := 40) +contextual only [State.mtrFlags, ↓State.setFlag_steady, ↓State.when_steady, hk,
    ↓State.when_steady, implies_true]

theorem State.mtrBoundary_steady (s : State) (hk : s.steady.1 = true) : (s.mtrBoundary).steady = s.steady := by
  unfold State.mtrBoundary
  split
  · rfl
  · have hf : ∀ (l : List Nat) (a : State × List MtrTake) (g : Nat), a.1.steady = s.steady →
        (l.foldl (fun (a : State × List MtrTake) j =>
          let t := a.1.mtrSample (4 * g + j); (t.1, a.2 ++ [t.2])) a).1.steady = s.steady := by
      intro l
      induction l with
      | nil => intro a g h; exact h
      | cons j l ih =>
        intro a g h
        exact ih _ g (State.steady_trans (fun h => a.1.mtrSample_steady _ h) h hk)
    dsimp only
    refine State.steady_trans (fun h => State.mtrFlags_steady _ _ _ _ h) (State.steady_trans (fun h =>
      State.when_steady _ _ _ h (fun h => State.setFlag_steady _ _ _ _ _ h))
        (State.steady_trans (fun h => State.setReg_steady _ _ _ h) ?_ hk) hk) hk
    rw [State.steady_mk, State.steady_fold]
    exact hf _ _ _ rfl

theorem State.mtrCompare_steady (s : State) (c : MtrCore) (hk : s.steady.1 = true) : (State.mtrCompare s c).steady =
  s.steady := by
  simp (maxDischargeDepth := 40) +contextual only [State.mtrCompare, ↓State.setFlagEach_steady, ↓State.when_steady, hk,
    ↓State.when_steady, implies_true]

theorem State.mtrAdopt_steady (s : State) (c : MtrCore) (hk : s.steady.1 = true) : (State.mtrAdopt s c).steady = s.steady := by
  simp (maxDischargeDepth := 40) +contextual only [State.mtrAdopt, ↓State.logEv_steady, ↓State.mtrCompare_steady, hk,
    ↓State.steady_ite,
    ↓State.steady_mk, ↓State.steady_fold, ite_self]

theorem State.mtrTakeover_steady (s : State) (hk : s.steady.1 = true) : (State.mtrTakeover s).steady = s.steady := by
  unfold State.mtrTakeover
  try dsimp only
  repeat' first
    | with_reducible rfl
    | with_reducible exact hk
    | with_reducible refine State.steady_trans (fun h => State.setFlag_steady _ _ _ _ _ h) ?_ hk
    | with_reducible refine State.steady_trans (fun h => State.foldl_steady _ _ _ h (fun s x hk => ?_)) ?_ hk
    | with_reducible refine State.steady_trans (fun h => State.when_steady _ _ _ h (fun hk => ?_)) ?_ hk
    | simp only [↓State.steady_mk, ↓State.steady_fold]
    | with_reducible refine State.ite_steady (fun _ => ?_) (fun _ => ?_)

theorem State.auditAdd_steady (s : State) (reg : Nat) (old new : Word) (serial : List Byte) (hk : s.steady.1 = true) :
  (State.auditAdd s reg old new serial).steady = s.steady := by
  simp (maxDischargeDepth := 40) +contextual only [State.auditAdd, ↓State.logEv_steady, hk, 
    ↓State.steady_mk, ↓State.steady_fold]

theorem State.sealedWrite_steady (s : State) (reg : Nat) (old new : Word) (serial : List Byte) (hk : s.steady.1 = true) :
  (State.sealedWrite s reg old new serial).steady = s.steady := by
  simp (maxDischargeDepth := 40) +contextual only [State.sealedWrite, ↓State.auditAdd_steady, hk, 
    ↓State.steady_ite, ↓State.steady_mk,
    ↓State.steady_fold, ite_self]

/-! ### Flt -/

theorem State.updChan_steady (s : State) (n : Nat) (f : Chan → Chan) (hk : s.steady.1 = true) : (State.updChan s n f).steady
  = s.steady := by
  simp (maxDischargeDepth := 40) +contextual only [State.updChan, upd_length, 
    ↓State.steady_mk, ↓State.steady_fold]

theorem State.enter_steady (s : State) (n : Nat) (x : Int) (bad beyond : Bool) (pos tai at_ : Nat) (hk : s.steady.1 = true)
  : (State.enter s n x bad beyond pos tai at_).steady = s.steady := by
  simp (maxDischargeDepth := 40) +contextual only [State.enter, ↓State.setFlag_steady, ↓State.updChan_steady, hk,
    ↓State.steady_ite,
    ite_self]

theorem State.missOne_steady (s : State) (n : Nat) (hk : s.steady.1 = true) : (State.missOne s n).steady = s.steady := by
  unfold State.missOne
  try dsimp only
  repeat' first
    | with_reducible rfl
    | with_reducible exact hk
    | with_reducible refine State.steady_trans (fun h => State.bump_steady _ _ h) ?_ hk
    | with_reducible refine State.steady_trans (fun h => State.enter_steady _ _ _ _ _ _ _ _ h) ?_ hk
    | with_reducible refine State.steady_trans (fun h => State.setFlag_steady _ _ _ _ _ h) ?_ hk
    | with_reducible refine State.steady_trans (fun h => State.updChan_steady _ _ _ h) ?_ hk

theorem State.missTo_steady (s : State) (n p : Nat) (fuel : Nat) (hk : s.steady.1 = true) :
    (s.missTo n p fuel).steady = s.steady := by
  induction fuel generalizing s with
  | zero => rfl
  | succ k ih =>
    unfold State.missTo
    split
    · have h1 := s.missOne_steady n hk
      rw [ih _ (by rw [h1]; exact hk), h1]
    · rfl

theorem State.fltResult_steady (s : State) (input : Nat) (w : Word) (angle : Option Nat) (pos tai : Nat) (hk : s.steady.1 =
  true) : (State.fltResult s input w angle pos tai).steady = s.steady := by
  unfold State.fltResult
  try dsimp only
  repeat' first
    | with_reducible rfl
    | with_reducible exact hk
    | with_reducible refine State.steady_trans (fun h => State.enter_steady _ _ _ _ _ _ _ _ h) ?_ hk
    | with_reducible refine State.steady_trans (fun h => State.missTo_steady _ _ _ _ h) ?_ hk
    | with_reducible refine State.steady_trans (fun h => State.updChan_steady _ _ _ h) ?_ hk
    | with_reducible refine State.steady_trans (fun h => State.foldl_steady _ _ _ h (fun s x hk => ?_)) ?_ hk
    | simp only [↓State.steady_mk, ↓State.steady_fold, upd_length, List.length_map, List.length_mapIdx, List.length_set]
    | with_reducible refine State.ite_steady (fun _ => ?_) (fun _ => ?_)
    | split

theorem State.fltDeliver_steady (s : State) (n : Nat) (hk : s.steady.1 = true) : (State.fltDeliver s n).steady = s.steady := by
  unfold State.fltDeliver
  try dsimp only
  repeat' first
    | with_reducible rfl
    | with_reducible exact hk
    | with_reducible refine State.steady_trans (fun h => State.acqFilter_steady _ _ _ _ _ h) ?_ hk
    | with_reducible refine State.steady_trans (fun h => State.enter_steady _ _ _ _ _ _ _ _ h) ?_ hk
    | with_reducible refine State.steady_trans (fun h => State.mtrOutput_steady _ _ _ _ h) ?_ hk
    | with_reducible refine State.steady_trans (fun h => State.setFlag_steady _ _ _ _ _ h) ?_ hk
    | with_reducible refine State.steady_trans (fun h => State.setReg_steady _ _ _ h) ?_ hk
    | with_reducible refine State.steady_trans (fun h => State.updChan_steady _ _ _ h) ?_ hk
    | with_reducible refine State.steady_trans (fun h => State.foldl_steady _ _ _ h (fun s x hk => ?_)) ?_ hk
    | with_reducible refine State.steady_trans (fun h => State.when_steady _ _ _ h (fun hk => ?_)) ?_ hk
    | simp only [↓State.steady_mk, ↓State.steady_fold, upd_length, List.length_map, List.length_mapIdx, List.length_set]
    | with_reducible refine State.ite_steady (fun _ => ?_) (fun _ => ?_)
    | split

theorem State.fltDue_steady (s : State) (t : Nat) (fuel : Nat) (hk : s.steady.1 = true) :
    (s.fltDue t fuel).steady = s.steady := by
  induction fuel generalizing s with
  | zero => rfl
  | succ k ih =>
    unfold State.fltDue
    split
    · rename_i d n _
      refine State.ite_steady (fun _ => ?_) (fun _ => rfl)
      have h1 := s.actAt_steady d (fun u => u.fltDeliver n) hk (fun u h => u.fltDeliver_steady n h)
      rw [ih _ (by rw [h1]; exact hk), h1]
    · rfl

theorem State.filterOutputAct_steady (s : State) (n : Nat) (hk : s.steady.1 = true) : (State.filterOutputAct s n).steady =
  s.steady := by
  unfold State.filterOutputAct; (repeat' split) <;> simp (maxDischargeDepth := 40) +contextual only
    [↓State.fltDeliver_steady, ↓State.pass_steady, hk]

theorem State.missingAct_steady (s : State) (n : Nat) (hk : s.steady.1 = true) : (State.missingAct s n).steady = s.steady := by
  simp (maxDischargeDepth := 40) +contextual only [State.missingAct, ↓State.missOne_steady, ↓State.toAc_steady, hk,
    ↓State.steady_ite,
    ite_self]

theorem State.syncSoft_steady (s : State) (mask : Nat) (hk : s.steady.1 = true) : (State.syncSoft s mask).steady = s.steady
  := by
  simp (maxDischargeDepth := 40) +contextual only [State.syncSoft, ↓State.updChan_steady, hk, 
    ↓State.steady_ite, 
    ↓State.foldl_steady, ite_self, implies_true]

theorem State.syncHard_steady (s : State) (mask : Nat) (hk : s.steady.1 = true) : (State.syncHard s mask).steady = s.steady
  := by
  simp (maxDischargeDepth := 40) +contextual only [State.syncHard, ↓State.updChan_steady, hk, 
    ↓State.steady_ite, 
    ↓State.foldl_steady, ite_self, implies_true]

theorem State.hardGroup_steady (s : State) (g : Nat) (hk : s.steady.1 = true) : (State.hardGroup s g).steady = s.steady := by
  simp (maxDischargeDepth := 40) +contextual only [State.hardGroup, ↓State.updChan_steady, hk, 
    ↓State.steady_ite, 
    ↓State.foldl_steady, ite_self, implies_true]

theorem State.chanChanged_steady (s : State) (n : Nat) (hk : s.steady.1 = true) : (State.chanChanged s n).steady = s.steady
  := by
  simp (maxDischargeDepth := 40) +contextual only [State.chanChanged, ↓State.updChan_steady, hk]

theorem State.fltEnd_steady (s : State) (hk : s.steady.1 = true) : (State.fltEnd s).steady = s.steady := by
  unfold State.fltEnd
  repeat' first
    | exact hk
    | (simp (maxDischargeDepth := 40) +contextual only [*, ↓State.fltDue_steady, ↓State.missTo_steady, 
      ↓State.steady_ite, 
      ↓State.foldl_steady, ite_self, implies_true]; done)

theorem State.fltGd_steady (s : State) (hk : s.steady.1 = true) : (State.fltGd s).steady = s.steady := by
  simp (maxDischargeDepth := 40) +contextual only [State.fltGd, ↓State.setReg_steady, hk, 
    ↓State.foldl_steady, implies_true]

theorem State.ctlDeliver_steady (s : State) (hk : s.steady.1 = true) : (State.ctlDeliver s).steady = s.steady := by
  unfold State.ctlDeliver
  repeat' first
    | exact hk
    | (simp (maxDischargeDepth := 40) +contextual only [*, ↓State.bump_steady, ↓State.fltDue_steady, ↓State.missTo_steady,
      ↓State.setFlag_steady, ↓State.toClk_steady, ↓State.when_steady, 
      ↓State.steady_ite, ↓State.steady_mk, ↓State.steady_fold, ↓State.foldl_steady,
      ↓State.when_steady, ite_self, implies_true]; done)

theorem execFilterOutput_steady (n : Fin 32) (s t : State) (h : execFilterOutput n s = .next t) (hk : s.steady.1 = true) :
    t.steady = s.steady := by
  exact State.live_steady h (State.filterOutputAct_steady _ _ hk)

theorem execMissingSample_steady (n : Fin 32) (s t : State) (h : execMissingSample n s = .next t) (hk : s.steady.1 = true) :
    t.steady = s.steady := by
  exact State.live_steady h (State.missingAct_steady _ _ hk)

/-! ### Phy -/

theorem State.txDisable_steady (s : State) (n : Nat) (b : Bool) (hk : s.steady.1 = true) : (State.txDisable s n b).steady =
  s.steady := by
  simp (maxDischargeDepth := 40) +contextual only [State.txDisable, ↓State.emit_steady, ↓State.updPort_steady, hk,
    ↓State.steady_ite,
    ite_self]

theorem State.frameOut_steady (s : State) (n : Nat) (hk : s.steady.1 = true) : (State.frameOut s n).steady = s.steady := by
  simp (maxDischargeDepth := 40) +contextual only [State.frameOut, ↓State.line_steady, ↓State.updPort_steady, hk]

theorem State.trainOut_steady (s : State) (n : Nat) (hk : s.steady.1 = true) : (State.trainOut s n).steady = s.steady := by
  simp (maxDischargeDepth := 40) +contextual only [State.trainOut, ↓State.frameOut_steady, ↓State.when_steady, hk,
    ↓State.when_steady, implies_true]

theorem State.startAttempt_steady (s : State) (n : Nat) (hk : s.steady.1 = true) : (State.startAttempt s n).steady =
  s.steady := by
  simp (maxDischargeDepth := 40) +contextual only [State.startAttempt, ↓State.bump_steady, ↓State.trainOut_steady,
    ↓State.updPort_steady, hk]

theorem State.toDetect_steady (s : State) (n : Nat) (hk : s.steady.1 = true) : (State.toDetect s n).steady = s.steady := by
  simp (maxDischargeDepth := 40) +contextual only [State.toDetect, ↓State.startAttempt_steady, ↓State.trainOut_steady,
    ↓State.txDisable_steady, ↓State.updPort_steady, hk, 
    ↓State.steady_ite, 
    ite_self]

theorem State.leaveUp_steady (s : State) (n : Nat) (f : State → State) (hf : (f s).steady = s.steady) (hk : s.steady.1 = true) :
    (s.leaveUp n f).steady = s.steady := by
  unfold State.leaveUp
  exact State.ite_steady (fun _ => State.steady_trans (fun h => State.laneDown_steady _ _ h) hf hk) (fun _ => rfl)

theorem State.retrain_steady (s : State) (n : Nat) (hk : s.steady.1 = true) : (s.retrain n).steady = s.steady :=
  s.leaveUp_steady n _ (s.startAttempt_steady n hk) hk

theorem State.enterUp_steady (s : State) (n : Nat) (hk : s.steady.1 = true) : (State.enterUp s n).steady = s.steady := by
  simp (maxDischargeDepth := 40) +contextual only [State.enterUp, ↓State.laneUp_steady, ↓State.setReg_steady,
    ↓State.updPort_steady, hk, 
    ↓State.steady_ite, ite_self]

theorem State.toFallback_steady (s : State) (n : Nat) (hk : s.steady.1 = true) : (State.toFallback s n).steady = s.steady := by
  simp (maxDischargeDepth := 40) +contextual only [State.toFallback, ↓State.setFlag_steady, ↓State.trainOut_steady,
    ↓State.updPort_steady, hk]

theorem State.cagePower_steady (s : State) (n : Nat) (b : Bool) (hk : s.steady.1 = true) : (State.cagePower s n b).steady =
  s.steady := by
  simp (maxDischargeDepth := 40) +contextual only [State.cagePower, ↓State.emit_steady, ↓State.updPort_steady, hk,
    ↓State.steady_ite,
    ite_self]

theorem State.cageUse_steady (s : State) (n : Nat) (bad : Bool) (hk : s.steady.1 = true) : (State.cageUse s n bad).steady =
  s.steady := by
  simp (maxDischargeDepth := 40) +contextual only [State.cageUse, ↓State.cagePower_steady, ↓State.setFlagEach_steady,
    ↓State.toDetect_steady, hk, 
    ↓State.steady_ite, ite_self]

theorem State.sfpInsertAct_steady (s : State) (n : Nat) (id tech : Byte) (hiPower txFault : Bool) (hk : s.steady.1 = true) :
  (State.sfpInsertAct s n id tech hiPower txFault).steady = s.steady := by
  simp (maxDischargeDepth := 40) +contextual only [State.sfpInsertAct, ↓State.cageUse_steady, ↓State.ownInc_steady,
    ↓State.setFlag_steady, ↓State.setReg_steady, ↓State.updPort_steady, ↓State.when_steady, hk, 
    ↓State.steady_ite, 
    ↓State.when_steady, ite_self, implies_true]

theorem State.portOff_steady (s : State) (n : Nat) (hk : s.steady.1 = true) : (State.portOff s n).steady = s.steady := by
  simp (maxDischargeDepth := 40) +contextual only [State.portOff, ↓State.laneDown_steady, ↓State.txDisable_steady,
    ↓State.updPort_steady, hk, 
    ↓State.steady_ite, ite_self]

theorem State.phyCfgAct_steady (s : State) (n : Nat) (hk : s.steady.1 = true) : (State.phyCfgAct s n).steady = s.steady := by
  simp (maxDischargeDepth := 40) +contextual only [State.phyCfgAct, ↓State.portOff_steady, ↓State.toDetect_steady,
    ↓State.updPort_steady, hk, 
    ↓State.steady_ite, ite_self]

theorem State.sfpWithdrawAct_steady (s : State) (n : Nat) (hk : s.steady.1 = true) : (State.sfpWithdrawAct s n).steady =
  s.steady := by
  simp (maxDischargeDepth := 40) +contextual only [State.sfpWithdrawAct, ↓State.cagePower_steady, ↓State.portOff_steady,
    ↓State.setReg_steady, ↓State.updPort_steady, hk]

theorem State.losAct_steady (s : State) (n : Nat) (hk : s.steady.1 = true) : (s.losAct n).steady = s.steady := by
  unfold State.losAct
  dsimp only
  refine State.ite_steady (fun _ => rfl) (fun _ => ?_)
  have h1 : ∀ f, (((s.updPort n f).bump (Reg.PHY_LOS_CNT n)).setFlag (Reg.PHY_FLAGS n) 0 n).steady = s.steady := fun f =>
    State.steady_trans (fun h => State.setFlag_steady _ _ _ _ _ h)
      (State.steady_trans (fun h => State.bump_steady _ _ h) (s.updPort_steady n f hk) hk) hk
  have h2 : ∀ f, ((((s.updPort n f).bump (Reg.PHY_LOS_CNT n)).setFlag (Reg.PHY_FLAGS n) 0 n).toDetect n).steady = s.steady :=
    fun f => State.steady_trans (fun h => State.toDetect_steady _ n h) (h1 f) hk
  refine State.ite_steady (fun _ => ?_) (fun _ => ?_)
  · exact State.steady_trans (fun h => State.leaveUp_steady _ n _ (State.toDetect_steady _ n h) h) (h1 _) hk
  · split
    · exact h2 _
    · exact h2 _
    · exact h2 _
    · exact h2 _
    · exact h1 _

theorem State.losClearAct_steady (s : State) (n : Nat) (hk : s.steady.1 = true) : (State.losClearAct s n).steady = s.steady
  := by
  simp (maxDischargeDepth := 40) +contextual only [State.losClearAct, ↓State.startAttempt_steady, ↓State.updPort_steady, hk,
    ↓State.steady_ite,
    ite_self]

theorem State.lolAct_steady (s : State) (n : Nat) (hk : s.steady.1 = true) : (State.lolAct s n).steady = s.steady := by
  simp (maxDischargeDepth := 40) +contextual only [State.lolAct, ↓State.bump_steady, ↓State.retrain_steady,
    ↓State.setFlag_steady, ↓State.updPort_steady, hk, 
    ↓State.steady_ite, 
    ite_self]

theorem State.shErr_steady (s : State) (n : Nat) (k : Word) (hk : s.steady.1 = true) : (State.shErr s n k).steady = s.steady
  := by
  simp (maxDischargeDepth := 40) +contextual only [State.shErr, ↓State.bumpBy_steady, hk, 
    ↓State.steady_ite, 
    ite_self]

theorem State.toAdapt_steady (s : State) (n : Nat) (hk : s.steady.1 = true) : (State.toAdapt s n).steady = s.steady := by
  simp (maxDischargeDepth := 40) +contextual only [State.toAdapt, ↓State.trainOut_steady, ↓State.updPort_steady, hk]

theorem State.lockCheck_steady (s : State) (n : Nat) (hk : s.steady.1 = true) : (State.lockCheck s n).steady = s.steady := by
  simp (maxDischargeDepth := 40) +contextual only [State.lockCheck, ↓State.toAdapt_steady, hk, 
    ↓State.steady_ite, 
    ite_self]

theorem State.unitClash_steady (s : State) (hk : s.steady.1 = true) : (State.unitClash s).steady = s.steady := by
  unfold State.unitClash
  try dsimp only
  repeat' first
    | with_reducible rfl
    | with_reducible exact hk
    | with_reducible refine State.steady_trans (fun h => State.setFlagEach_steady _ _ _ _ _ h) ?_ hk
    | with_reducible refine State.steady_trans (fun h => State.setRole_steady _ _ h) ?_ hk
    | simp only [↓State.steady_mk, ↓State.steady_fold]

theorem State.trainAct_steady (s : State) (n : Nat) (b : BitVec 64) (hk : s.steady.1 = true) : (State.trainAct s n b).steady
  = s.steady := by
  unfold State.trainAct; dsimp only; (repeat' split) <;> simp (maxDischargeDepth := 40) +contextual only
    [↓State.bump_steady, ↓State.draw_steady, ↓State.lockCheck_steady, ↓State.retrain_steady, ↓State.trainOut_steady,
    ↓State.unitClash_steady, ↓State.updPort_steady, ↓State.when_steady, hk, 
    ↓State.when_steady, implies_true]

theorem State.presetWindow_steady (s : State) (n : Nat) (pass : Bool) (hk : s.steady.1 = true) : (State.presetWindow s n
  pass).steady = s.steady := by
  simp (maxDischargeDepth := 40) +contextual only [State.presetWindow, ↓State.trainOut_steady,
    ↓State.updPort_steady, hk, 
    ↓State.steady_ite, ite_self]

theorem State.confirmDoneAct_steady (s : State) (n : Nat) (hk : s.steady.1 = true) : (State.confirmDoneAct s n).steady =
  s.steady := by
  simp (maxDischargeDepth := 40) +contextual only [State.confirmDoneAct, ↓State.enterUp_steady, ↓State.frameOut_steady, hk,
    ↓State.steady_ite,
    ↓State.foldl_steady, ite_self, implies_true]

theorem execSfpInsert_steady (port : Fin 22) (id tech : Byte) (pins : ModPins) (s t : State) (h : execSfpInsert port id tech
  pins s = .next t) (hk : s.steady.1 = true) :
    t.steady = s.steady := by
  exact State.live_steady h (State.sfpInsertAct_steady _ _ _ _ _ _ hk)

theorem execSfpWithdraw_steady (port : Fin 22) (s t : State) (h : execSfpWithdraw port s = .next t) (hk : s.steady.1 = true) :
    t.steady = s.steady := by
  exact State.live_steady h (State.sfpWithdrawAct_steady _ _ hk)

theorem execLosAssert_steady (port : Fin 22) (s t : State) (h : execLosAssert port s = .next t) (hk : s.steady.1 = true) :
    t.steady = s.steady := by
  exact State.live_steady h (State.losAct_steady _ _ hk)

theorem execLosClear_steady (port : Fin 22) (s t : State) (h : execLosClear port s = .next t) (hk : s.steady.1 = true) :
    t.steady = s.steady := by
  refine State.live_steady h ?_
  simp (maxDischargeDepth := 40) +contextual only [↓State.losClearAct_steady, hk, 
    ↓State.steady_ite, 
    ite_self]

theorem execLol_steady (ev : PortHeaders) (s t : State) (h : execLol ev s = .next t) (hk : s.steady.1 = true) :
    t.steady = s.steady := by
  refine State.live_steady h ?_
  simp (maxDischargeDepth := 40) +contextual only [↓State.lolAct_steady, ↓State.shErr_steady, hk]

theorem execBlockLock_steady (ev : PortHeaders) (s t : State) (h : execBlockLock ev s = .next t) (hk : s.steady.1 = true) :
    t.steady = s.steady := by
  refine State.live_steady h ?_
  simp (maxDischargeDepth := 40) +contextual only [↓State.lockCheck_steady, ↓State.shErr_steady, ↓State.updPort_steady, hk,
    ↓State.steady_ite,
    ite_self]

theorem execRxPolarityInvert_steady (port : Fin 22) (s t : State) (h : execRxPolarityInvert port s = .next t) (hk :
  s.steady.1 = true) :
    t.steady = s.steady := by
  refine State.live_steady h ?_
  simp (maxDischargeDepth := 40) +contextual only [↓State.updPort_steady, hk, 
    ↓State.steady_ite, 
    ite_self]

theorem execHiBer_steady (ev : PortHeaders) (held : Bool) (s t : State) (h : execHiBer ev held s = .next t) (hk : s.steady.1
  = true) :
    t.steady = s.steady := by
  refine State.live_steady h ?_
  simp (maxDischargeDepth := 40) +contextual only [↓State.retrain_steady, ↓State.setFlag_steady, ↓State.shErr_steady,
    ↓State.updPort_steady, hk, 
    ↓State.steady_ite, ite_self]

theorem execTrainingBlockRx_steady (port : Fin 22) (b : BitVec 64) (s t : State) (h : execTrainingBlockRx port b s = .next
  t) (hk : s.steady.1 = true) :
    t.steady = s.steady := by
  refine State.live_steady h ?_
  simp (maxDischargeDepth := 40) +contextual only [↓State.trainAct_steady, hk, 
    ↓State.steady_ite, 
    ite_self]

theorem execRequestTimeout_steady (port : Fin 22) (s t : State) (h : execRequestTimeout port s = .next t) (hk : s.steady.1 =
  true) :
    t.steady = s.steady := by
  refine State.live_steady h ?_
  simp (maxDischargeDepth := 40) +contextual only [↓State.toFallback_steady, hk, 
    ↓State.steady_ite, 
    ite_self]

theorem execAdaptTimeout_steady (port : Fin 22) (s t : State) (h : execAdaptTimeout port s = .next t) (hk : s.steady.1 = true) :
    t.steady = s.steady := by
  refine State.live_steady h ?_
  simp (maxDischargeDepth := 40) +contextual only [↓State.toFallback_steady, hk, 
    ↓State.steady_ite, 
    ite_self]

theorem execAttemptTimeout_steady (port : Fin 22) (s t : State) (h : execAttemptTimeout port s = .next t) (hk : s.steady.1 =
  true) :
    t.steady = s.steady := by
  refine State.live_steady h ?_
  simp (maxDischargeDepth := 40) +contextual only [↓State.bump_steady, ↓State.setFlagEach_steady, ↓State.trainOut_steady,
    ↓State.updPort_steady, hk, 
    ↓State.steady_ite, ite_self]

theorem execFailedExpire_steady (port : Fin 22) (s t : State) (h : execFailedExpire port s = .next t) (hk : s.steady.1 = true) :
    t.steady = s.steady := by
  refine State.live_steady h ?_
  simp (maxDischargeDepth := 40) +contextual only [↓State.toDetect_steady, hk, 
    ↓State.steady_ite, 
    ite_self]

theorem execFallbackPresetWindow_steady (port : Fin 22) (pass : Bool) (s t : State) (h : execFallbackPresetWindow port pass
  s = .next t) (hk : s.steady.1 = true) :
    t.steady = s.steady := by
  exact State.live_steady h (State.presetWindow_steady _ _ _ hk)

theorem execConfirmDone_steady (port : Fin 22) (s t : State) (h : execConfirmDone port s = .next t) (hk : s.steady.1 = true) :
    t.steady = s.steady := by
  exact State.live_steady h (State.confirmDoneAct_steady _ _ hk)

theorem execPhyRetrain_steady (port : Fin 22) (s t : State) (h : execPhyRetrain port s = .next t) (hk : s.steady.1 = true) :
    t.steady = s.steady := by
  exact State.live_steady h (State.retrain_steady _ _ hk)

/-! ### Adc -/

theorem State.updCore_steady (s : State) (c : Nat) (f : AdcCore → AdcCore) (hk : s.steady.1 = true) : (State.updCore s c
  f).steady = s.steady := by
  simp (maxDischargeDepth := 40) +contextual only [State.updCore, upd_length, 
    ↓State.steady_mk, ↓State.steady_fold]

theorem State.adcBit_steady (s : State) (i : Nat) (b : Bool) (hk : s.steady.1 = true) : (State.adcBit s i b).steady =
  s.steady := by
  simp (maxDischargeDepth := 40) +contextual only [State.adcBit, ↓State.setReg_steady, hk]

theorem State.scanBegin_steady (s : State) (c : Nat) (angle : Option Nat) (resumed : Bool) (dly : Nat) (hk : s.steady.1 =
  true) : (State.scanBegin s c angle resumed dly).steady = s.steady := by
  unfold State.scanBegin; dsimp only; (repeat' split) <;> simp (maxDischargeDepth := 40) +contextual only
    [↓State.setReg_steady, ↓State.updCore_steady, hk, 
    ↓State.steady_mk, ↓State.steady_fold]

theorem State.urgDrop_steady (s : State) (hk : s.steady.1 = true) : (State.urgDrop s).steady = s.steady := by
  simp (maxDischargeDepth := 40) +contextual only [State.urgDrop, ↓State.bump_steady, ↓State.setFlag_steady, hk]

theorem State.trigCore_steady (s : State) (c : Nat) (angle : Option Nat) (dly : Nat) (hk : s.steady.1 = true) :
  (State.trigCore s c angle dly).steady = s.steady := by
  unfold State.trigCore; dsimp only; (repeat' split) <;> simp (maxDischargeDepth := 40) +contextual only
    [↓State.bump_steady, ↓State.scanBegin_steady, ↓State.setFlag_steady, ↓State.updCore_steady, ↓State.urgDrop_steady, hk]

theorem State.scanTrig_steady (s : State) (mask : Nat) (angle : Option Nat) (dly : Nat) (hk : s.steady.1 = true) :
  (State.scanTrig s mask angle dly).steady = s.steady := by
  simp (maxDischargeDepth := 40) +contextual only [State.scanTrig, ↓State.trigCore_steady, hk, 
    ↓State.steady_ite, 
    ↓State.foldl_steady, ite_self, implies_true]

theorem State.scanTrigAngle_steady (s : State) (mask : Nat) (angle : Option Nat) (hk : s.steady.1 = true) :
  (State.scanTrigAngle s mask angle).steady = s.steady := by
  simp (maxDischargeDepth := 40) +contextual only [State.scanTrigAngle, ↓State.scanTrig_steady, hk, 
    ↓State.steady_ite, 
    ite_self]

theorem State.trigInAct_steady (s : State) (level : Bool) (hk : s.steady.1 = true) : (State.trigInAct s level).steady =
  s.steady := by
  simp (maxDischargeDepth := 40) +contextual only [State.trigInAct, ↓State.scanTrig_steady, hk, 
    ↓State.steady_ite, ↓State.steady_mk, ↓State.steady_fold,
    ite_self]

theorem State.xcMatchAct_steady (s : State) (n k : Nat) (hk : s.steady.1 = true) :
    (s.xcMatchAct n k).steady = s.steady := by
  unfold State.xcMatchAct
  dsimp only
  refine State.ite_steady (fun _ => ?_) (fun _ => rfl)
  generalize hv : (if k = 0 then (s.ctr n).xc0 else (s.ctr n).xc1) = v
  cases h1 : s.toCount n v with
  | none => rfl
  | some s1 =>
    have h2 := s.toCount_steady s1 n v h1 hk
    have h3 := fun f => State.steady_trans (fun h => s1.updCtr_steady n f h) h2 hk
    exact State.ite_steady (fun _ => State.steady_trans (fun h => State.scanTrigAngle_steady _ _ _ h) (h3 _) hk) (fun _ => h3 _)

theorem State.coreFault_steady (s : State) (c : Nat) (hk : s.steady.1 = true) : (State.coreFault s c).steady = s.steady := by
  simp (maxDischargeDepth := 40) +contextual only [State.coreFault, ↓State.adcBit_steady, ↓State.ownInc_steady,
    ↓State.setFlagEach_steady, ↓State.updCore_steady, hk, 
    ↓State.steady_ite, ↓State.steady_mk, ↓State.steady_fold, 
    ite_self]

theorem State.checkFail_steady (s : State) (c : Nat) (hk : s.steady.1 = true) : (State.checkFail s c).steady = s.steady := by
  simp (maxDischargeDepth := 40) +contextual only [State.checkFail, ↓State.bump_steady, ↓State.coreFault_steady,
    ↓State.updCore_steady, hk, 
    ↓State.steady_ite, ite_self]

theorem State.nextConv_steady (s : State) (c : Nat) (hk : s.steady.1 = true) : (State.nextConv s c).steady = s.steady := by
  unfold State.nextConv; dsimp only; (repeat' split) <;> simp (maxDischargeDepth := 40) +contextual only
    [↓State.scanBegin_steady, ↓State.updCore_steady, hk]

theorem State.resultOut_steady (s : State) (c g pos : Nat) (w : Word) (hk : s.steady.1 = true) : (State.resultOut s c g pos
  w).steady = s.steady := by
  simp (maxDischargeDepth := 40) +contextual only [State.resultOut, ↓State.bump_steady, ↓State.setFlag_steady,
    ↓State.setReg_steady, ↓State.updCore_steady, ↓State.when_steady, hk, 
    ↓State.when_steady, implies_true]

theorem State.checkDone_steady (s : State) (c k : Nat) (code : Int) (hk : s.steady.1 = true) : (State.checkDone s c k
  code).steady = s.steady := by
  simp (maxDischargeDepth := 40) +contextual only [State.checkDone, ↓State.checkFail_steady, ↓State.nextConv_steady,
    ↓State.updCore_steady, hk, 
    ↓State.steady_ite, ite_self]

theorem State.convDone_steady (s : State) (c : Nat) (code : Int) (hk : s.steady.1 = true) : (State.convDone s c code).steady
  = s.steady := by
  unfold State.convDone; dsimp only; (repeat' split) <;> simp (maxDischargeDepth := 40) +contextual only
    [↓State.checkDone_steady, ↓State.fltResult_steady, ↓State.nextConv_steady, ↓State.resultOut_steady,
    ↓State.setReg_steady, ↓State.toSysClk_steady, hk, 
    ↓State.steady_mk, ↓State.steady_fold]

theorem State.convTimeout_steady (s : State) (c : Nat) (hk : s.steady.1 = true) : (State.convTimeout s c).steady = s.steady
  := by
  unfold State.convTimeout; dsimp only; (repeat' split) <;> simp (maxDischargeDepth := 40) +contextual only
    [↓State.checkFail_steady, ↓State.missTo_steady, ↓State.nextConv_steady, ↓State.toSysClk_steady, ↓State.updCore_steady,
    hk, ↓State.steady_ite,
    ↓State.foldl_steady, ite_self, implies_true]

theorem State.urgent_steady (s : State) (g pos : Nat) (hk : s.steady.1 = true) : (State.urgent s g pos).steady = s.steady := by
  unfold State.urgent; dsimp only; (repeat' split) <;> simp (maxDischargeDepth := 40) +contextual only
    [↓State.updCore_steady, ↓State.urgDrop_steady, hk]

theorem State.sparePatchAct_steady (s : State) (hk : s.steady.1 = true) : (State.sparePatchAct s).steady = s.steady := by
  unfold State.sparePatchAct; (repeat' split) <;> simp (maxDischargeDepth := 40) +contextual only [↓State.adcBit_steady,
    ↓State.setReg_steady, ↓State.updCore_steady, hk, 
    ↓State.steady_mk, ↓State.steady_fold]

theorem State.spareCalAct_steady (s : State) (hk : s.steady.1 = true) : (State.spareCalAct s).steady = s.steady := by
  unfold State.spareCalAct; (repeat' split) <;> simp (maxDischargeDepth := 40) +contextual only [
    ↓State.steady_mk,
    ↓State.steady_fold]

theorem State.spareBoundary_steady (s : State) (hk : s.steady.1 = true) : (State.spareBoundary s).steady = s.steady := by
  unfold State.spareBoundary; (repeat' split) <;> simp (maxDischargeDepth := 40) +contextual only [↓State.adcBit_steady,
    ↓State.hardGroup_steady, ↓State.ownInc_steady, ↓State.setFlagEach_steady, ↓State.sparePatchAct_steady,
    ↓State.updCore_steady, hk, 
    ↓State.steady_mk, ↓State.steady_fold]

theorem State.patchGo_steady (s : State) (g : Nat) (hk : s.steady.1 = true) : (State.patchGo s g).steady = s.steady := by
  simp (maxDischargeDepth := 40) +contextual only [State.patchGo, 
    ↓State.steady_ite, ↓State.steady_mk, ↓State.steady_fold, 
    ite_self]

theorem State.patchRelease_steady (s : State) (hk : s.steady.1 = true) : (State.patchRelease s).steady = s.steady := by
  unfold State.patchRelease; (repeat' split) <;> simp (maxDischargeDepth := 40) +contextual only [
    ↓State.steady_mk,
    ↓State.steady_fold]

theorem State.clampAct_steady (s : State) (i : Nat) (active : Bool) (hk : s.steady.1 = true) : (State.clampAct s i
  active).steady = s.steady := by
  simp (maxDischargeDepth := 40) +contextual only [State.clampAct, ↓State.bump_steady, ↓State.setFlag_steady,
    ↓State.setReg_steady, ↓State.when_steady, hk, 
    ↓State.when_steady,
    implies_true]

theorem State.refTo_steady (s : State) (g src : Nat) (fb : Bool) (hk : s.steady.1 = true) : (State.refTo s g src fb).steady
  = s.steady := by
  simp (maxDischargeDepth := 40) +contextual only [State.refTo, ↓State.adcBit_steady, hk, 
    ↓State.steady_mk, ↓State.steady_fold]

theorem State.refSettle_steady (s : State) (g : Nat) (hk : s.steady.1 = true) : (State.refSettle s g).steady = s.steady := by
  unfold State.refSettle; (repeat' split) <;> simp (maxDischargeDepth := 40) +contextual only [↓State.adcBit_steady, hk,
    ↓State.steady_mk, ↓State.steady_fold]

theorem State.refFaultAct_steady (s : State) (g : Nat) (hk : s.steady.1 = true) : (State.refFaultAct s g).steady = s.steady
  := by
  simp (maxDischargeDepth := 40) +contextual only [State.refFaultAct, ↓State.refTo_steady, ↓State.setFlagEach_steady, hk,
    ↓State.steady_ite,
    ite_self]

theorem State.adcBoundary_steady (s : State) (hk : s.steady.1 = true) : (State.adcBoundary s).steady = s.steady := by
  simp (maxDischargeDepth := 40) +contextual only [State.adcBoundary, ↓State.adcBit_steady, ↓State.refSettle_steady,
    ↓State.spareBoundary_steady, hk, 
    ↓State.steady_ite, ↓State.steady_mk, ↓State.steady_fold, ↓State.foldl_steady, ite_self,
    implies_true]

theorem execScanTrigger_steady (groups : BitVec 5) (s t : State) (h : execScanTrigger groups s = .next t) (hk : s.steady.1 =
  true) :
    t.steady = s.steady := by
  exact State.live_steady h (State.scanTrigAngle_steady _ _ _ hk)

theorem execTrigInEdge_steady (level : Bool) (s t : State) (h : execTrigInEdge level s = .next t) (hk : s.steady.1 = true) :
    t.steady = s.steady := by
  exact State.live_steady h (State.trigInAct_steady _ _ hk)

theorem execAdcSwtrig_steady (mask : BitVec 5) (s t : State) (h : execAdcSwtrig mask s = .next t) (hk : s.steady.1 = true) :
    t.steady = s.steady := by
  exact State.live_steady h (State.scanTrig_steady _ _ _ _ hk)

theorem execXcMatch_steady (n : Fin 24) (k : Fin 2) (s t : State) (h : execXcMatch n k s = .next t) (hk : s.steady.1 = true) :
    t.steady = s.steady := by
  exact State.live_steady h (State.xcMatchAct_steady _ _ _ hk)

theorem execConversionDone_steady (core : Fin 5) (code : Int) (s t : State) (h : execConversionDone core code s = .next t)
  (hk : s.steady.1 = true) :
    t.steady = s.steady := by
  exact State.live_steady h (State.convDone_steady _ _ _ hk)

theorem execConversionTimeout_steady (core : Fin 5) (s t : State) (h : execConversionTimeout core s = .next t) (hk :
  s.steady.1 = true) :
    t.steady = s.steady := by
  exact State.live_steady h (State.convTimeout_steady _ _ hk)

theorem execUrgentRequest_steady (g : Fin 4) (pos : Fin 8) (s t : State) (h : execUrgentRequest g pos s = .next t) (hk :
  s.steady.1 = true) :
    t.steady = s.steady := by
  exact State.live_steady h (State.urgent_steady _ _ _ hk)

theorem execSparePatch_steady (s t : State) (h : execSparePatch s = .next t) (hk : s.steady.1 = true) :
    t.steady = s.steady := by
  exact State.live_steady h (State.sparePatchAct_steady _ hk)

theorem execSpareCalDone_steady (s t : State) (h : execSpareCalDone s = .next t) (hk : s.steady.1 = true) :
    t.steady = s.steady := by
  refine State.live_steady h ?_
  split
  · exact s.atDue_steady _ _ hk (fun u h => u.spareCalAct_steady h)
  · rfl

theorem execAdcPatchGo_steady (g : Fin 4) (s t : State) (h : execAdcPatchGo g s = .next t) (hk : s.steady.1 = true) :
    t.steady = s.steady := by
  exact State.live_steady h (State.patchGo_steady _ _ hk)

theorem execAdcPatchRelease_steady (s t : State) (h : execAdcPatchRelease s = .next t) (hk : s.steady.1 = true) :
    t.steady = s.steady := by
  exact State.live_steady h (State.patchRelease_steady _ hk)

theorem execClampOverdrive_steady (input : Fin 32) (active : Bool) (s t : State) (h : execClampOverdrive input active s =
  .next t) (hk : s.steady.1 = true) :
    t.steady = s.steady := by
  exact State.live_steady h (State.clampAct_steady _ _ _ hk)

theorem execRefSettled_steady (g : Fin 4) (s t : State) (h : execRefSettled g s = .next t) (hk : s.steady.1 = true) :
    t.steady = s.steady := by
  refine State.live_steady h ?_
  try dsimp only
  repeat' first
    | with_reducible rfl
    | with_reducible exact hk
    | with_reducible refine State.steady_trans (fun h => State.refSettle_steady _ _ h) ?_ hk
    | with_reducible refine State.steady_trans (fun h => State.toSysClk_steady _ _ h) ?_ hk
    | simp only [↓State.steady_mk, ↓State.steady_fold, upd_length, List.length_map, List.length_mapIdx, List.length_set]
    | with_reducible refine State.ite_steady (fun _ => ?_) (fun _ => ?_)
    | split

theorem execRefFault_steady (g : Fin 4) (s t : State) (h : execRefFault g s = .next t) (hk : s.steady.1 = true) :
    t.steady = s.steady := by
  exact State.live_steady h (State.refFaultAct_steady _ _ hk)

/-! ### Lnk -/

theorem State.bumpLane_steady (s : State) (n a : Nat) (k : Nat) (hk : s.steady.1 = true) : (State.bumpLane s n a k).steady =
  s.steady := by
  simp (maxDischargeDepth := 40) +contextual only [State.bumpLane, ↓State.bumpBy_steady, hk, 
    ↓State.steady_ite, 
    ite_self]

theorem State.dataBlockRx_steady (s : State) (n : Nat) (hk : s.steady.1 = true) : (State.dataBlockRx s n).steady = s.steady
  := by
  simp (maxDischargeDepth := 40) +contextual only [State.dataBlockRx, ↓State.bump_steady, ↓State.updLane_steady, hk,
    ↓State.steady_ite,
    ite_self]

theorem State.updConc_steady (s : State) (c : Nat) (f : Conc → Conc) (hk : s.steady.1 = true) : (State.updConc s c f).steady
  = s.steady := by
  simp (maxDischargeDepth := 40) +contextual only [State.updConc, upd_length, 
    ↓State.steady_mk, ↓State.steady_fold]

theorem State.linkBlock_steady (s : State) (n : Nat) (hk : s.steady.1 = true) : (State.linkBlock s n).steady = s.steady := by
  simp (maxDischargeDepth := 40) +contextual only [State.linkBlock, ↓State.enterUp_steady, hk]

theorem State.ackOut_steady (s : State) (a : Nat) (nak : Bool) (hk : s.steady.1 = true) : (State.ackOut s a nak).steady =
  s.steady := by
  unfold State.ackOut; (repeat' split) <;> simp (maxDischargeDepth := 40) +contextual only [↓State.tx_steady,
    ↓State.updAssoc_steady, hk]

theorem State.concAcked_steady (s : State) (a : Nat) (hk : s.steady.1 = true) : (State.concAcked s a).steady = s.steady := by
  simp (maxDischargeDepth := 40) +contextual only [State.concAcked, ↓State.updConc_steady, ↓State.when_steady, hk,
    ↓State.when_steady, implies_true]

theorem State.nakOut_steady (s : State) (a : Nat) (hk : s.steady.1 = true) : (State.nakOut s a).steady = s.steady := by
  simp (maxDischargeDepth := 40) +contextual only [State.nakOut, ↓State.ackOut_steady, ↓State.updAssoc_steady, hk,
    ↓State.steady_ite,
    ite_self]

theorem State.creditOut_steady (s : State) (a v : Nat) (hk : s.steady.1 = true) : (State.creditOut s a v).steady = s.steady
  := by
  unfold State.creditOut; (repeat' split) <;> simp (maxDischargeDepth := 40) +contextual only [↓State.tx_steady,
    ↓State.updAssoc_steady, hk]

theorem State.badKind_steady (s : State) (vc : Nat) (hk : s.steady.1 = true) : (State.badKind s vc).steady = s.steady := by
  simp (maxDischargeDepth := 40) +contextual only [State.badKind, ↓State.bump_steady, ↓State.setFlag_steady, hk, 
    ↓State.steady_ite, 
    ite_self]

theorem State.bulkRx_steady (s : State) (n a : Nat) (b : BulkBlk) (crcOk : Bool) (hk : s.steady.1 = true) : (State.bulkRx s
  n a b crcOk).steady = s.steady := by
  simp (maxDischargeDepth := 40) +contextual only [State.bulkRx, ↓State.ackOut_steady, ↓State.badKind_steady,
    ↓State.concAcked_steady, ↓State.creditOut_steady, ↓State.nakOut_steady, ↓State.tx_steady, ↓State.updAssoc_steady, hk,
    ↓State.steady_ite,
    ite_self]

theorem State.replay_steady (s : State) (a : Nat) (hk : s.steady.1 = true) : (State.replay s a).steady = s.steady := by
  unfold State.replay; (repeat' split) <;> simp (maxDischargeDepth := 40) +contextual only [↓State.bumpLane_steady,
    ↓State.retrain_steady, ↓State.setFlag_steady, ↓State.tx_steady, ↓State.updAssoc_steady, hk, 
    ↓State.steady_ite, 
    ↓State.foldl_steady, ite_self, implies_true]

theorem State.bulkResume_steady (s : State) (hk : s.steady.1 = true) : (State.bulkResume s).steady = s.steady := by
  simp (maxDischargeDepth := 40) +contextual only [State.bulkResume, ↓State.replay_steady, ↓State.when_steady, hk,
    ↓State.foldl_steady, ↓State.when_steady, implies_true]

theorem State.bulkSend_steady (s0 : State) (a : Nat) (hk : s0.steady.1 = true) : (State.bulkSend s0 a).steady = s0.steady := by
  unfold State.bulkSend; dsimp only; (repeat' split) <;> simp (maxDischargeDepth := 40) +contextual only
    [↓State.replay_steady, ↓State.tx_steady, ↓State.updAssoc_steady, ↓State.when_steady, hk, 
    ↓State.when_steady, implies_true]

theorem State.ackAct_steady (s : State) (n a : Nat) (seq : Byte) (nak : Bool) (hk : s.steady.1 = true) : (State.ackAct s n a
  seq nak).steady = s.steady := by
  simp (maxDischargeDepth := 40) +contextual only [State.ackAct, ↓State.bumpLane_steady, ↓State.replay_steady,
    ↓State.updAssoc_steady, hk, 
    ↓State.steady_ite, ite_self]

theorem State.ackSendAct_steady (s : State) (a : Nat) (hk : s.steady.1 = true) : (State.ackSendAct s a).steady = s.steady := by
  simp (maxDischargeDepth := 40) +contextual only [State.ackSendAct, ↓State.ackOut_steady, ↓State.atDue_steady,
    ↓State.concAcked_steady, hk, 
    ↓State.steady_ite, ite_self,
    implies_true]

theorem State.retryAct_steady (s : State) (a : Nat) (hk : s.steady.1 = true) : (State.retryAct s a).steady = s.steady := by
  unfold State.retryAct; (repeat' split) <;> simp (maxDischargeDepth := 40) +contextual only [↓State.atDue_steady,
    ↓State.replay_steady, hk, 
    ↓State.steady_ite, ite_self,
    implies_true]

theorem State.auditVc_steady (s : State) (n a : Nat) (x : Audit) (hk : s.steady.1 = true) : (State.auditVc s n a x).steady =
  s.steady := by
  simp (maxDischargeDepth := 40) +contextual only [State.auditVc, ↓State.bump_steady, ↓State.setFlagEach_steady,
    ↓State.updAssoc_steady, hk, 
    ↓State.steady_ite, ite_self]

theorem State.auditTake_steady (s : State) (n a : Nat) (next : Byte) (l : List Audit) (hk : s.steady.1 = true) :
  (State.auditTake s n a next l).steady = s.steady := by
  simp (maxDischargeDepth := 40) +contextual only [State.auditTake, ↓State.auditVc_steady, ↓State.updAssoc_steady, hk,
    ↓State.foldl_steady, implies_true]

theorem State.auditAct_steady (s : State) (n a : Nat) (l : List Audit) (hk : s.steady.1 = true) : (State.auditAct s n a
  l).steady = s.steady := by
  unfold State.auditAct; (repeat' split) <;> simp (maxDischargeDepth := 40) +contextual only [↓State.auditTake_steady,
    ↓State.replay_steady, ↓State.requal_steady, ↓State.sendAudits_steady, ↓State.updAssoc_steady, ↓State.when_steady, hk,
    ↓State.when_steady, implies_true]

theorem State.auditRepeatAct_steady (s : State) (a : Nat) (hk : s.steady.1 = true) : (State.auditRepeatAct s a).steady =
  s.steady := by
  simp (maxDischargeDepth := 40) +contextual only [State.auditRepeatAct, ↓State.atDue_steady, ↓State.sendAudits_steady, hk,
    ↓State.steady_ite,
    ite_self, implies_true]

theorem State.echoLost_steady (s : State) (n : Nat) (hk : s.steady.1 = true) : (State.echoLost s n).steady = s.steady := by
  simp (maxDischargeDepth := 40) +contextual only [State.echoLost, ↓State.bump_steady, ↓State.updLane_steady, hk]

theorem State.echoLane_steady (s : State) (n : Nat) (tag turn rtt : Nat) (hk : s.steady.1 = true) : (State.echoLane s n tag
  turn rtt).steady = s.steady := by
  unfold State.echoLane; (repeat' split) <;> simp (maxDischargeDepth := 40) +contextual only [↓State.assess_steady,
    ↓State.echoLost_steady, ↓State.qualCheck_steady, ↓State.setFlag_steady, ↓State.setReg_steady, ↓State.tx_steady,
    ↓State.updLane_steady, hk, 
    ↓State.steady_ite, ite_self]

theorem State.echoPair_steady (s : State) (b : Bool) (tag turn rtt : Nat) (hk : s.steady.1 = true) : (State.echoPair s b tag
  turn rtt).steady = s.steady := by
  unfold State.echoPair; dsimp only; (repeat' split) <;> simp (maxDischargeDepth := 40) +contextual only [upd_length,
    ↓State.steady_mk,
    ↓State.steady_fold]

theorem State.echoTimeoutAct_steady (s : State) (n : Nat) (hk : s.steady.1 = true) : (State.echoTimeoutAct s n).steady =
  s.steady := by
  unfold State.echoTimeoutAct; (repeat' split) <;> simp (maxDischargeDepth := 40) +contextual only [↓State.atDue_steady,
    ↓State.echoLost_steady, hk, upd_length, 
    ↓State.steady_mk, ↓State.steady_fold, 
    implies_true]

theorem State.declareAct_steady (s : State) (n : Nat) (dc : Decl) (hk : s.steady.1 = true) : (State.declareAct s n
  dc).steady = s.steady := by
  unfold State.declareAct; dsimp only; (repeat' split) <;> simp (maxDischargeDepth := 40) +contextual only
    [↓State.assess_steady, ↓State.qualCheck_steady, ↓State.requal_steady, ↓State.setFlag_steady, ↓State.setReg_steady,
    ↓State.updLane_steady, hk]

theorem State.routeTo_steady (s : State) (n : Nat) (hk : s.steady.1 = true) : (State.routeTo s n).2.steady = s.steady := by
  unfold State.routeTo; (repeat' split) <;> simp (maxDischargeDepth := 40) +contextual only [↓State.moveTo_steady, hk]

theorem execCtlBlockDiscard_steady (port : Fin 22) (s t : State) (h : execCtlBlockDiscard port s = .next t) (hk : s.steady.1
  = true) :
    t.steady = s.steady := by
  refine State.live_steady h ?_
  simp (maxDischargeDepth := 40) +contextual only [↓State.bump_steady, hk, 
    ↓State.steady_ite, 
    ite_self]

theorem execOrphanBlock_steady (lane : Fin 20) (s t : State) (h : execOrphanBlock lane s = .next t) (hk : s.steady.1 = true) :
    t.steady = s.steady := by
  exact State.live_steady h (State.dataBlockRx_steady _ _ hk)

theorem execIdleRx_steady (conc : Bool) (n : Fin 22) (disp unitB : Bool) (e : BitVec 16) (s t : State)
    (h : execIdleRx conc n disp unitB e s = .next t) (hk : s.steady.1 = true) : t.steady = s.steady := by
  unfold execIdleRx at h
  split at h
  · exact State.next_steady h (State.ite_steady (fun _ => s.updConc_steady _ _ hk) (fun _ => rfl))
  · exact State.live_steady h (s.enterUp_steady _ hk)

theorem execBulkBlockSend_steady (assoc : Fin 21) (s t : State) (h : execBulkBlockSend assoc s = .next t) (hk : s.steady.1 =
  true) :
    t.steady = s.steady := by
  exact State.live_steady h (State.bulkSend_steady _ _ hk)

theorem execCreditRx_steady (lane : Fin 22) (vc : Fin 4) (limit : BitVec 16) (s t : State) (h : execCreditRx lane vc limit s
  = .next t) (hk : s.steady.1 = true) :
    t.steady = s.steady := by
  refine State.live_steady h ?_
  try dsimp only
  repeat' first
    | with_reducible rfl
    | with_reducible exact hk
    | with_reducible refine State.steady_trans (fun h => State.linkBlock_steady _ _ h) ?_ hk
    | with_reducible refine State.steady_trans (fun h => State.updAssoc_steady _ _ _ h) ?_ hk
    | simp only [↓State.steady_mk, ↓State.steady_fold, upd_length, List.length_map, List.length_mapIdx, List.length_set]
    | with_reducible refine State.ite_steady (fun _ => ?_) (fun _ => ?_)
    | split

theorem execAckSend_steady (assoc : Fin 21) (s t : State) (h : execAckSend assoc s = .next t) (hk : s.steady.1 = true) :
    t.steady = s.steady := by
  exact State.live_steady h (State.ackSendAct_steady _ _ hk)

theorem execCreditSend_steady (assoc : Fin 21) (vc : Fin 4) (s t : State) (h : execCreditSend assoc vc s = .next t) (hk :
  s.steady.1 = true) :
    t.steady = s.steady := by
  refine State.live_steady h ?_
  simp (maxDischargeDepth := 40) +contextual only [↓State.atDue_steady, ↓State.creditOut_steady, hk, 
    ↓State.steady_ite, 
    ite_self, implies_true]

theorem execRetryTimeout_steady (assoc : Fin 21) (s t : State) (h : execRetryTimeout assoc s = .next t) (hk : s.steady.1 =
  true) :
    t.steady = s.steady := by
  exact State.live_steady h (State.retryAct_steady _ _ hk)

theorem execAuditRx_steady (lane : Fin 22) (audits : List Audit) (s t : State) (h : execAuditRx lane audits s = .next t) (hk
  : s.steady.1 = true) :
    t.steady = s.steady := by
  refine State.live_steady h ?_
  try dsimp only
  repeat' first
    | with_reducible rfl
    | with_reducible exact hk
    | with_reducible refine State.steady_trans (fun h => State.auditAct_steady _ _ _ _ h) ?_ hk
    | with_reducible refine State.steady_trans (fun h => State.linkBlock_steady _ _ h) ?_ hk
    | simp only [↓State.steady_mk, ↓State.steady_fold, upd_length, List.length_map, List.length_mapIdx, List.length_set]
    | with_reducible refine State.ite_steady (fun _ => ?_) (fun _ => ?_)
    | split

theorem execAuditRepeat_steady (assoc : Fin 21) (s t : State) (h : execAuditRepeat assoc s = .next t) (hk : s.steady.1 = true) :
    t.steady = s.steady := by
  exact State.live_steady h (State.auditRepeatAct_steady _ _ hk)

theorem execEchoRspRx_steady (lane : Fin 22) (tag : BitVec 16) (turn : BitVec 24) (rttPs : Nat) (s t : State) (h :
  execEchoRspRx lane tag turn rttPs s = .next t) (hk : s.steady.1 = true) :
    t.steady = s.steady := by
  refine State.live_steady h ?_
  simp (maxDischargeDepth := 40) +contextual only [↓State.echoLane_steady, ↓State.echoPair_steady, ↓State.linkBlock_steady,
    hk, ↓State.steady_ite,
    ite_self]

theorem execEchoTimeout_steady (lane : Fin 22) (s t : State) (h : execEchoTimeout lane s = .next t) (hk : s.steady.1 = true) :
    t.steady = s.steady := by
  exact State.live_steady h (State.echoTimeoutAct_steady _ _ hk)

theorem execEchoNow_steady (lane : Fin 20) (s t : State) (h : execEchoNow lane s = .next t) (hk : s.steady.1 = true) :
    t.steady = s.steady := by
  refine State.live_steady h ?_
  simp (maxDischargeDepth := 40) +contextual only [↓State.echoSend_steady, hk, 
    ↓State.steady_ite, 
    ite_self]

theorem execDeclareRx_steady (lane : Fin 20) (dDn dUp : BitVec 12) (conc : BitVec 16) (cport : BitVec 4) (alt : Bool) (s t :
  State) (h : execDeclareRx lane dDn dUp conc cport alt s = .next t) (hk : s.steady.1 = true) :
    t.steady = s.steady := by
  refine State.live_steady h ?_
  simp (maxDischargeDepth := 40) +contextual only [↓State.declareAct_steady, ↓State.linkBlock_steady, hk]

/-! ### Far -/

theorem State.concOut_steady (s : State) (c : Nat) (name : String) (f : List Nat) (hk : s.steady.1 = true) : (State.concOut
  s c name f).steady = s.steady := by
  simp (maxDischargeDepth := 40) +contextual only [State.concOut, ↓State.emit_steady, hk]

theorem State.concSend_steady (s : State) (c : Nat) (name : String) (lane : Nat) (f : List Nat) (hk : s.steady.1 = true) :
  (State.concSend s c name lane f).steady = s.steady := by
  simp (maxDischargeDepth := 40) +contextual only [State.concSend, ↓State.concOut_steady, ↓State.emit_steady, hk]

theorem State.concEach_steady (s : State) (c : Nat) (name : String) (f : List Nat) (hk : s.steady.1 = true) :
  (State.concEach s c name f).steady = s.steady := by
  simp (maxDischargeDepth := 40) +contextual only [State.concEach, ↓State.concSend_steady, hk, 
    ↓State.foldl_steady, implies_true]

theorem State.concOwnerChange_steady (s : State) (c : Nat) (old : Option (BitVec 16 × Bool)) (hk : s.steady.1 = true) :
  (State.concOwnerChange s c old).steady = s.steady := by
  unfold State.concOwnerChange; dsimp only; (repeat' split) <;> simp (maxDischargeDepth := 40) +contextual only
    [↓State.emits_steady, ↓State.updConc_steady, hk]

theorem State.updFar_steady (s : State) (n : Nat) (f : FarSm → FarSm) (hk : s.steady.1 = true) : (State.updFar s n f).steady
  = s.steady := by
  simp (maxDischargeDepth := 40) +contextual only [State.updFar, 
    ↓State.steady_mk, ↓State.steady_fold]

theorem State.smDiscipline_steady (s : State) (c : Nat) (m : Mark) (hk : s.steady.1 = true) : (State.smDiscipline s c
  m).steady = s.steady := by
  simp (maxDischargeDepth := 40) +contextual only [State.smDiscipline, ↓State.updFar_steady, hk, 
    ↓State.foldl_steady, implies_true]

theorem State.concMark_steady (s : State) (c lane : Nat) (m : Mark) (t : Nat) (hk : s.steady.1 = true) : (State.concMark s c
  lane m t).steady = s.steady := by
  simp (maxDischargeDepth := 40) +contextual only [State.concMark, ↓State.concOut_steady, ↓State.concOwnerChange_steady,
    ↓State.smDiscipline_steady, ↓State.updConc_steady, hk, 
    ↓State.steady_ite, 
    ite_self]

theorem State.concRun_steady (s : State) (c : Nat) (oos u : Bool) (e : BitVec 16) (step first : Nat) (ws : List (BitVec
  128)) (hk : s.steady.1 = true) : (State.concRun s c oos u e step first ws).steady = s.steady := by
  simp (maxDischargeDepth := 40) +contextual only [State.concRun, ↓State.concOut_steady, ↓State.concOwnerChange_steady,
    ↓State.emits_steady, ↓State.updConc_steady, ↓State.when_steady, hk, 
    ↓State.steady_ite, 
    ↓State.when_steady, ite_self, implies_true]

theorem State.concFlush_steady (s : State) (c : Nat) (hk : s.steady.1 = true) : (State.concFlush s c).steady = s.steady := by
  simp (maxDischargeDepth := 40) +contextual only [State.concFlush, ↓State.concEach_steady, ↓State.updConc_steady, hk,
    ↓State.foldl_steady, implies_true]

theorem State.concWord_steady (s : State) (c slot step w : Nat) (hk : s.steady.1 = true) : (State.concWord s c slot step
  w).steady = s.steady := by
  simp (maxDischargeDepth := 40) +contextual only [State.concWord, ↓State.concFlush_steady, ↓State.updConc_steady,
    ↓State.when_steady, hk, 
    ↓State.steady_ite, ↓State.when_steady, ite_self,
    implies_true]

theorem State.concWitness_steady (s : State) (c : Nat) (leftA leftB : Bool) (hk : s.steady.1 = true) : (State.concWitness s
  c leftA leftB).steady = s.steady := by
  simp (maxDischargeDepth := 40) +contextual only [State.concWitness, ↓State.concEach_steady, ↓State.concFlush_steady,
    ↓State.updConc_steady, hk]

theorem State.concAudits_steady (s : State) (c : Nat) (unitB : Bool) (lane : Nat) (hk : s.steady.1 = true) :
  (State.concAudits s c unitB lane).steady = s.steady := by
  simp (maxDischargeDepth := 40) +contextual only [State.concAudits, ↓State.concSend_steady, hk, 
    ↓State.foldl_steady, implies_true]

theorem State.farOut_steady (s : State) (name : String) (f : List Nat) (hk : s.steady.1 = true) : (State.farOut s name
  f).steady = s.steady := by
  simp (maxDischargeDepth := 40) +contextual only [State.farOut, ↓State.emit_steady, hk]

theorem State.smCmd_steady (s : State) (n : Nat) (w : BitVec 128) (hk : s.steady.1 = true) : (State.smCmd s n w).steady =
  s.steady := by
  simp (maxDischargeDepth := 40) +contextual only [State.smCmd, ↓State.updFar_steady, hk, 
    ↓State.steady_ite, 
    ite_self]

theorem State.smAc0_steady (s : State) (n : Nat) (m0 : SmSample) (hk : s.steady.1 = true) : (State.smAc0 s n m0).steady =
  s.steady := by
  unfold State.smAc0; dsimp only; (repeat' split) <;> simp (maxDischargeDepth := 40) +contextual only
    [↓State.concWord_steady, ↓State.farOut_steady, ↓State.updFar_steady, hk]

theorem State.smRestrictAct_steady (s : State) (n : Nat) (set neg : Bool) (ac : Nat) (hk : s.steady.1 = true) :
  (State.smRestrictAct s n set neg ac).steady = s.steady := by
  simp (maxDischargeDepth := 40) +contextual only [State.smRestrictAct, ↓State.updFar_steady, hk]

theorem State.concAccept_steady (s : State) (c v : Nat) (hk : s.steady.1 = true) : (State.concAccept s c v).steady =
  s.steady := by
  unfold State.concAccept; (repeat' split) <;> simp (maxDischargeDepth := 40) +contextual only [↓State.updConc_steady, hk]

theorem State.concUp_steady (s : State) (c slot vc : Nat) (body : List Byte) (hk : s.steady.1 = true) : (State.concUp s c
  slot vc body).steady = s.steady := by
  unfold State.concUp; dsimp only; (repeat' split) <;> simp (maxDischargeDepth := 40) +contextual only
    [↓State.concOut_steady, ↓State.updConc_steady, ↓State.when_steady, hk, 
    ↓State.when_steady, implies_true]

theorem State.smAnswer_steady (s : State) (n : Nat) (r : SmRequest) (hk : s.steady.1 = true) : (State.smAnswer s n r).steady
  = s.steady := by
  unfold State.smAnswer; (repeat' split) <;> simp (maxDischargeDepth := 40) +contextual only [↓State.farOut_steady,
    ↓State.updFar_steady, hk]

theorem State.smRequest_steady (s : State) (n : Nat) (r : SmRequest) (hk : s.steady.1 = true) : (State.smRequest s n
  r).steady = s.steady := by
  unfold State.smRequest; (repeat' split) <;> simp (maxDischargeDepth := 40) +contextual only [↓State.concAccept_steady,
    ↓State.concUp_steady, ↓State.smAnswer_steady, hk]

theorem execConcMarkRx_steady (c : Fin 20) (lane : Fin 20) (m : Mark) (tPs : Nat) (s t : State) (h : execConcMarkRx c lane m
  tPs s = .next t) (hk : s.steady.1 = true) :
    t.steady = s.steady := by
  exact State.next_steady h (State.concMark_steady _ _ _ _ _ hk)

theorem execConcCycDnRx_steady (c : Fin 20) (unitB : Bool) (epoch : BitVec 16) (step : Fin 1024) (first : Fin 256) (words :
  List (BitVec 128)) (s t : State) (h : execConcCycDnRx c unitB epoch step first words s = .next t) (hk : s.steady.1 = true)
  :
    t.steady = s.steady := by
  exact State.next_steady h (State.concRun_steady _ _ _ _ _ _ _ _ hk)

theorem execConcOosRunRx_steady (c : Fin 20) (unitB : Bool) (epoch : BitVec 16) (step : Fin 1024) (first : Fin 256) (words :
  List (BitVec 128)) (s t : State) (h : execConcOosRunRx c unitB epoch step first words s = .next t) (hk : s.steady.1 =
  true) :
    t.steady = s.steady := by
  exact State.next_steady h (State.concRun_steady _ _ _ _ _ _ _ _ hk)

theorem execConcRestrictRx_steady (c : Fin 20) (unitB set neg : Bool) (arm : Fin 8) (first last rseq : Byte) (s t : State)
  (h : execConcRestrictRx c unitB set neg arm first last rseq s = .next t) (hk : s.steady.1 = true) :
    t.steady = s.steady := by
  refine State.next_steady h ?_
  try dsimp only
  repeat' first
    | with_reducible rfl
    | with_reducible exact hk
    | with_reducible refine State.steady_trans (fun h => State.concOut_steady _ _ _ _ h) ?_ hk
    | simp only [↓State.steady_mk, ↓State.steady_fold, upd_length, List.length_map, List.length_mapIdx, List.length_set]
    | with_reducible refine State.ite_steady (fun _ => ?_) (fun _ => ?_)
    | split

theorem execConcWitnessWindow_steady (c : Fin 20) (leftA leftB : Bool) (s t : State) (h : execConcWitnessWindow c leftA
  leftB s = .next t) (hk : s.steady.1 = true) :
    t.steady = s.steady := by
  exact State.next_steady h (State.concWitness_steady _ _ _ _ hk)

theorem execConcEchoReply_steady (c : Fin 20) (lane : Fin 20) (tag : BitVec 16) (turn : BitVec 24) (s t : State) (h :
  execConcEchoReply c lane tag turn s = .next t) (hk : s.steady.1 = true) :
    t.steady = s.steady := by
  exact State.next_steady h (State.concSend_steady _ _ _ _ _ hk)

theorem execConcDeclare_steady (c : Fin 20) (lane : Fin 20) (dDn dUp : BitVec 12) (cport : BitVec 4) (alt : Bool) (s t :
  State) (h : execConcDeclare c lane dDn dUp cport alt s = .next t) (hk : s.steady.1 = true) :
    t.steady = s.steady := by
  refine State.next_steady h ?_
  simp (maxDischargeDepth := 40) +contextual only [↓State.concSend_steady, hk]

theorem execConcAuditRx_steady (c : Fin 20) (unitB : Bool) (lane : Fin 20) (s t : State) (h : execConcAuditRx c unitB lane s
  = .next t) (hk : s.steady.1 = true) :
    t.steady = s.steady := by
  refine State.next_steady h ?_
  simp (maxDischargeDepth := 40) +contextual only [↓State.concAudits_steady, ↓State.updConc_steady, hk]

theorem execConcLatRx_steady (c : Fin 20) (lane : Fin 20) (d : BitVec 18) (_tag : BitVec 16) (s t : State) (h :
  execConcLatRx c lane d _tag s = .next t) (hk : s.steady.1 = true) :
    t.steady = s.steady := by
  exact State.next_steady h (State.updConc_steady _ _ _ hk)

theorem execSmCmdRx_steady (n : Fin 4096) (w : BitVec 128) (s t : State) (h : execSmCmdRx n w s = .next t) (hk : s.steady.1
  = true) :
    t.steady = s.steady := by
  exact State.next_steady h (State.smCmd_steady _ _ _ hk)

theorem execSmLocalAc0_steady (n : Fin 4096) (x : SmSample) (s t : State) (h : execSmLocalAc0 n x s = .next t) (hk :
  s.steady.1 = true) :
    t.steady = s.steady := by
  exact State.next_steady h (State.smAc0_steady _ _ _ hk)

theorem execSmPblLost_steady (n : Fin 4096) (s t : State) (h : execSmPblLost n s = .next t) (hk : s.steady.1 = true) :
    t.steady = s.steady := by
  refine State.next_steady h ?_
  simp (maxDischargeDepth := 40) +contextual only [↓State.updFar_steady, hk, 
    ↓State.steady_ite, 
    ite_self]

theorem execSmRestrict_steady (n : Fin 4096) (set neg : Bool) (ac : Fin 1024) (s t : State) (h : execSmRestrict n set neg ac
  s = .next t) (hk : s.steady.1 = true) :
    t.steady = s.steady := by
  exact State.next_steady h (State.smRestrictAct_steady _ _ _ _ _ hk)

theorem execSmOwnProtection_steady (n : Fin 4096) (bypass : Bool) (s t : State) (h : execSmOwnProtection n bypass s = .next
  t) (hk : s.steady.1 = true) :
    t.steady = s.steady := by
  exact State.next_steady h (State.updFar_steady _ _ _ hk)

theorem execConcLoopLost_steady (c : Fin 20) (s t : State) (h : execConcLoopLost c s = .next t) (hk : s.steady.1 = true) :
    t.steady = s.steady := by
  refine State.next_steady h ?_
  simp (maxDischargeDepth := 40) +contextual only [↓State.concOut_steady, ↓State.updConc_steady, hk]

theorem execConcLoopRestored_steady (c : Fin 20) (s t : State) (h : execConcLoopRestored c s = .next t) (hk : s.steady.1 =
  true) :
    t.steady = s.steady := by
  refine State.next_steady h ?_
  simp (maxDischargeDepth := 40) +contextual only [↓State.concOut_steady, ↓State.updConc_steady, ↓State.updFar_steady, hk,
    ↓State.steady_ite,
    ↓State.foldl_steady, ite_self, implies_true]

theorem execSmBulkRequestRx_steady (n : Fin 4096) (r : SmRequest) (s t : State) (h : execSmBulkRequestRx n r s = .next t)
  (hk : s.steady.1 = true) :
    t.steady = s.steady := by
  exact State.next_steady h (State.smRequest_steady _ _ _ hk)

end Sys2Proof.Machine
end

