-- ==== Sys2Proof/Laws/SteadyUnit.lean ====
section
/-! SUPPORT. What every operation keeps of a sound state (Safety.lean), block by block: arms, calendar, configuration, ledger, memory and clocks, modes. -/
namespace Sys2Proof.Machine

/-! ### Arm -/

theorem State.noSpareShow_steady (s : State) (hk : s.steady.1 = true) : (State.noSpareShow s).steady = s.steady := by
  simp (maxDischargeDepth := 40) +contextual only [State.noSpareShow, 
    ↓State.steady_mk, ↓State.steady_fold]

theorem State.replClose_steady (s : State) (n : Nat) (r : Resp) (hk : s.steady.1 = true) : (State.replClose s n r).steady =
  s.steady := by
  unfold State.replClose; dsimp only; (repeat' split) <;> simp (maxDischargeDepth := 40) +contextual only
    [↓State.noSpareShow_steady, ↓State.updSm_steady, hk]

theorem State.respWord_steady (s : State) (lane slot step : Nat) (w : BitVec 96) (hk : s.steady.1 = true) : (State.respWord
  s lane slot step w).steady = s.steady := by
  unfold State.respWord; (repeat' split) <;> simp (maxDischargeDepth := 40) +contextual only [↓State.replClose_steady,
    ↓State.updLane_steady, ↓State.updSm_steady, hk, 
    ↓State.steady_ite, 
    ite_self]

theorem State.cycUp_steady (s : State) (lane first count step : Nat) (ws : List (BitVec 96)) (hk : s.steady.1 = true) :
  (State.cycUp s lane first count step ws).steady = s.steady := by
  unfold State.cycUp; (repeat' split) <;> simp (maxDischargeDepth := 40) +contextual only [↓State.bump_steady,
    ↓State.bumpBy_steady, ↓State.respWord_steady, ↓State.updLane_steady, hk, 
    ↓State.steady_ite, 
    ↓State.foldl_steady, ite_self, implies_true]

theorem State.respDeadlineOne_steady (s : State) (n : Nat) (hk : s.steady.1 = true) : (State.respDeadlineOne s n).steady =
  s.steady := by
  simp (maxDischargeDepth := 40) +contextual only [State.respDeadlineOne, ↓State.bump_steady, ↓State.setFlag_steady,
    ↓State.updSm_steady, hk, 
    ↓State.steady_ite, ite_self]

theorem State.respDeadline_steady (s : State) (hk : s.steady.1 = true) : (State.respDeadline s).steady = s.steady := by
  simp (maxDischargeDepth := 40) +contextual only [State.respDeadline, ↓State.bumpBy_steady, ↓State.respDeadlineOne_steady,
    ↓State.toAc_steady, hk, 
    ↓State.steady_ite, ↓State.steady_mk, ↓State.steady_fold, ↓State.foldl_steady, ite_self,
    implies_true]

theorem State.predict_steady (s : State) (a n : Nat) (i : Int) (hk : s.steady.1 = true) : (State.predict s a n i).steady =
  s.steady := by
  simp (maxDischargeDepth := 40) +contextual only [State.predict, ↓State.updSm_steady, hk]

theorem State.armShow_steady (s : State) (a : Nat) (hk : s.steady.1 = true) : (State.armShow s a).steady = s.steady := by
  simp (maxDischargeDepth := 40) +contextual only [State.armShow, ↓State.setReg_steady, hk, 
    ↓State.foldl_steady, implies_true]

theorem State.armLevel_steady (s : State) (a : Nat) (p1 : ArmPat) (hk : s.steady.1 = true) : (State.armLevel s a p1).steady
  = s.steady := by
  simp (maxDischargeDepth := 40) +contextual only [State.armLevel, ↓State.setReg_steady, hk]

theorem State.shortCheck_steady (s : State) (a : Nat) (usable : Nat) (hk : s.steady.1 = true) : (State.shortCheck s a
  usable).steady = s.steady := by
  simp (maxDischargeDepth := 40) +contextual only [State.shortCheck, ↓State.setFlagEach_steady, hk, 
    ↓State.steady_ite, ↓State.steady_mk,
    ↓State.steady_fold, ite_self]

theorem State.armMeasure_steady (s0 : State) (a : Nat) (hk : s0.steady.1 = true) : (State.armMeasure s0 a).steady =
  s0.steady := by
  simp (maxDischargeDepth := 40) +contextual only [State.armMeasure, ↓State.armShow_steady, ↓State.predict_steady,
    ↓State.shortCheck_steady, ↓State.updSm_steady, hk, 
    ↓State.foldl_steady, 
    implies_true]

theorem State.armsMeasure_steady (s : State) (hk : s.steady.1 = true) : (State.armsMeasure s).steady = s.steady := by
  simp (maxDischargeDepth := 40) +contextual only [State.armsMeasure, ↓State.armMeasure_steady, ↓State.setReg_steady, hk,
    ↓State.foldl_steady, implies_true]

theorem State.putWords_steady (s : State) (a : Nat) (p1 p2 : ArmPat) (hk : s.steady.1 = true) : (State.putWords s a p1
  p2).steady = s.steady := by
  simp (maxDischargeDepth := 40) +contextual only [State.putWords, ↓State.updSm_steady, hk, 
    ↓State.foldl_steady, implies_true]

theorem State.buildArm_steady (s : State) (a : Nat) (hk : s.steady.1 = true) : (State.buildArm s a).steady = s.steady := by
  unfold State.buildArm
  try dsimp only
  repeat' first
    | with_reducible rfl
    | with_reducible exact hk
    | with_reducible refine State.steady_trans (fun h => State.armLevel_steady _ _ _ h) ?_ hk
    | with_reducible refine State.steady_trans (fun h => State.bump_steady _ _ h) ?_ hk
    | with_reducible refine State.steady_trans (fun h => State.putWords_steady _ _ _ _ h) ?_ hk
    | with_reducible refine State.steady_trans (fun h => State.setFlag_steady _ _ _ _ _ h) ?_ hk
    | with_reducible refine State.steady_trans (fun h => State.updSm_steady _ _ _ h) ?_ hk
    | simp only [↓State.steady_mk, ↓State.steady_fold]
    | with_reducible refine State.ite_steady (fun _ => ?_) (fun _ => ?_)
    | split

theorem State.prechStep_steady (s : State) (hk : s.steady.1 = true) : (State.prechStep s).steady = s.steady := by
  simp (maxDischargeDepth := 40) +contextual only [State.prechStep, 
    ↓State.steady_mk, ↓State.steady_fold]

theorem State.prechOkAct_steady (s : State) (hk : s.steady.1 = true) : (State.prechOkAct s).steady = s.steady := by
  simp (maxDischargeDepth := 40) +contextual only [State.prechOkAct, 
    ↓State.steady_mk, ↓State.steady_fold]

theorem State.unmappedCheck_steady (s : State) (hk : s.steady.1 = true) : (State.unmappedCheck s).steady = s.steady := by
  unfold State.unmappedCheck; (repeat' split) <;> simp (maxDischargeDepth := 40) +contextual only
    [↓State.setFlagEach_steady, hk, 
    ↓State.steady_ite, ↓State.steady_mk, ↓State.steady_fold, ite_self]

theorem State.mainWrite_steady (s : State) (n ost cmp : Nat) (hk : s.steady.1 = true) : (State.mainWrite s n ost cmp).steady
  = s.steady := by
  simp (maxDischargeDepth := 40) +contextual only [State.mainWrite, ↓State.setReg_steady, ↓State.updCtr_steady, hk]

theorem State.mainCompares_steady (s : State) (hk : s.steady.1 = true) : (State.mainCompares s).steady = s.steady := by
  simp (maxDischargeDepth := 40) +contextual only [State.mainCompares, ↓State.mainWrite_steady, hk, 
    ↓State.steady_ite, 
    ↓State.foldl_steady, ite_self, implies_true]

theorem State.armBuild_steady (s : State) (hk : s.steady.1 = true) : (State.armBuild s).steady = s.steady := by
  unfold State.armBuild
  repeat' first
    | exact hk
    | (simp (maxDischargeDepth := 40) +contextual only [*, ↓State.armsMeasure_steady, ↓State.buildArm_steady,
      ↓State.bump_steady, ↓State.mainCompares_steady, ↓State.unmappedCheck_steady, 
      ↓State.steady_ite, ↓State.steady_mk, ↓State.steady_fold,
      ↓State.foldl_steady, ite_self, implies_true]; done)

theorem State.armEnd_steady (s : State) (hk : s.steady.1 = true) : (State.armEnd s).steady = s.steady := by
  simp (maxDischargeDepth := 40) +contextual only [State.armEnd, ↓State.armsMeasure_steady, ↓State.prechStep_steady,
    ↓State.when_steady, hk, 
    ↓State.when_steady, 
    implies_true]

theorem State.queueSlot_steady (s : State) (n j : Nat) (hk : s.steady.1 = true) : (State.queueSlot s n j).steady = s.steady
  := by
  simp (maxDischargeDepth := 40) +contextual only [State.queueSlot, ↓State.marginAt_steady, ↓State.tx_steady,
    ↓State.updLane_steady, ↓State.when_steady, hk, 
    ↓State.steady_ite, ↓State.when_steady,
    ite_self, implies_true]

theorem State.releaseSlot_steady (s : State) (lane j : Nat) (hk : s.steady.1 = true) : (State.releaseSlot s lane j).steady =
  s.steady := by
  simp (maxDischargeDepth := 40) +contextual only [State.releaseSlot, ↓State.armBuild_steady, ↓State.queueSlot_steady,
    ↓State.toClk_steady, hk, 
    ↓State.steady_ite, ite_self]

theorem State.releaseTo_steady (s : State) (clk : Nat) (hk : s.steady.1 = true) : (State.releaseTo s clk).steady = s.steady
  := by
  simp (maxDischargeDepth := 40) +contextual only [State.releaseTo, ↓State.releaseSlot_steady, hk, 
    ↓State.steady_ite, 
    ↓State.foldl_steady, ite_self, implies_true]

theorem State.slotReleaseAct_steady (s : State) (lane j : Nat) (hk : s.steady.1 = true) : (State.slotReleaseAct s lane
  j).steady = s.steady := by
  unfold State.slotReleaseAct
  repeat' first
    | exact hk
    | (simp (maxDischargeDepth := 40) +contextual only [*, ↓State.releaseSlot_steady, ↓State.releaseTo_steady]; done)

theorem State.shadowJudge_steady (s : State) (inTime : Bool) (hk : s.steady.1 = true) : (State.shadowJudge s inTime).steady
  = s.steady := by
  simp (maxDischargeDepth := 40) +contextual only [State.shadowJudge, ↓State.bump_steady, hk, 
    ↓State.steady_ite, ↓State.steady_mk, ↓State.steady_fold,
    ite_self]

theorem State.shadowSettle_steady (s : State) (hk : s.steady.1 = true) : (State.shadowSettle s).steady = s.steady := by
  simp (maxDischargeDepth := 40) +contextual only [State.shadowSettle, ↓State.shadowJudge_steady, hk, 
    ↓State.steady_ite, ↓State.steady_mk,
    ↓State.steady_fold, ite_self]

theorem State.armComplete_steady (s : State) (hk : s.steady.1 = true) : (State.armComplete s).steady = s.steady := by
  unfold State.armComplete
  repeat' first
    | exact hk
    | (simp (maxDischargeDepth := 40) +contextual only [*, ↓State.armBuild_steady, ↓State.bulkResume_steady,
      ↓State.marginAt_steady, ↓State.pwmLoadAllAct_steady, ↓State.queueSlot_steady, ↓State.releaseTo_steady,
      ↓State.shadowSettle_steady, ↓State.toClk_steady, ↓State.when_steady, 
      ↓State.steady_ite, ↓State.steady_mk, ↓State.steady_fold,
      ↓State.foldl_steady, ↓State.when_steady, ite_self, implies_true]; done)

theorem State.marginReset_steady (s : State) (hk : s.steady.1 = true) : (State.marginReset s).steady = s.steady := by
  simp (maxDischargeDepth := 40) +contextual only [State.marginReset, 
    ↓State.steady_mk, ↓State.steady_fold]

theorem State.formSets_steady (s : State) (hk : s.steady.1 = true) : (State.formSets s).steady = s.steady := by
  simp (maxDischargeDepth := 40) +contextual only [State.formSets, ↓State.noSpareShow_steady, ↓State.updSm_steady, hk,
    ↓State.steady_ite,
    ↓State.steady_mk, ↓State.steady_fold, ↓State.foldl_steady, ite_self, implies_true]

theorem State.armCfgChanged_steady (s : State) (hk : s.steady.1 = true) : (State.armCfgChanged s).steady = s.steady := by
  simp (maxDischargeDepth := 40) +contextual only [State.armCfgChanged, ↓State.noSpareShow_steady, hk, 
    ↓State.steady_mk,
    ↓State.steady_fold]

theorem State.joinActive_steady (s : State) (n : Nat) (hk : s.steady.1 = true) : (State.joinActive s n).steady = s.steady := by
  simp (maxDischargeDepth := 40) +contextual only [State.joinActive, ↓State.noSpareShow_steady, ↓State.updSm_steady, hk]

theorem State.promote_steady (s : State) (a : Nat) (hk : s.steady.1 = true) : (State.promote s a).steady = s.steady := by
  unfold State.promote; (repeat' split) <;> simp (maxDischargeDepth := 40) +contextual only [↓State.joinActive_steady,
    ↓State.setFlagEach_steady, ↓State.updSm_steady, hk, 
    ↓State.steady_mk, ↓State.steady_fold]

theorem State.retireAct_steady (s : State) (n : Nat) (hk : s.steady.1 = true) : (State.retireAct s n).steady = s.steady := by
  unfold State.retireAct; (repeat' split) <;> simp (maxDischargeDepth := 40) +contextual only [↓State.bump_steady,
    ↓State.promote_steady, ↓State.setFlagEach_steady, ↓State.updSm_steady, hk, 
    ↓State.steady_ite, ↓State.steady_mk, ↓State.steady_fold,
    ite_self]

theorem State.sparePromoteAct_steady (s : State) (n : Nat) (hk : s.steady.1 = true) : (State.sparePromoteAct s n).steady =
  s.steady := by
  simp (maxDischargeDepth := 40) +contextual only [State.sparePromoteAct, ↓State.joinActive_steady, hk, 
    ↓State.steady_ite, 
    ite_self]

theorem State.setsBoundary_steady (s : State) (hk : s.steady.1 = true) : (State.setsBoundary s).steady = s.steady := by
  simp (maxDischargeDepth := 40) +contextual only [State.setsBoundary, ↓State.noSpareShow_steady, ↓State.retireAct_steady,
    ↓State.sparePromoteAct_steady, hk, 
    ↓State.foldl_steady, 
    implies_true]

theorem State.hwcTripAct_steady (s : State) (line : Bool) (n : Nat) (neg : Bool) (hk : s.steady.1 = true) :
  (State.hwcTripAct s line n neg).steady = s.steady := by
  unfold State.hwcTripAct
  repeat' first
    | exact hk
    | (simp (maxDischargeDepth := 40) +contextual only [*, ↓State.bump_steady, ↓State.pwmRefresh_steady,
      ↓State.sendRestrict_steady, ↓State.setFlag_steady, 
      ↓State.steady_ite, ↓State.steady_mk, ↓State.steady_fold, ↓State.foldl_steady,
      ite_self, implies_true]; done)

theorem State.hwcReleaseAct_steady (s : State) (line : Bool) (n : Nat) (hk : s.steady.1 = true) : (State.hwcReleaseAct s
  line n).steady = s.steady := by
  unfold State.hwcReleaseAct
  repeat' first
    | exact hk
    | (simp (maxDischargeDepth := 40) +contextual only [*, ↓State.sendRestrict_steady, 
      ↓State.steady_ite, ↓State.steady_mk,
      ↓State.steady_fold, ite_self]; done)
    | split
    | refine State.foldl_steady _ _ _ ?_ (fun s x h => ?_)

theorem execResponseWordRx_steady (lane : Fin 20) (slot : Fin 256) (step : Fin 1024) (w : BitVec 96) (s t : State) (h :
  execResponseWordRx lane slot step w s = .next t) (hk : s.steady.1 = true) :
    t.steady = s.steady := by
  refine State.live_steady h ?_
  simp (maxDischargeDepth := 40) +contextual only [↓State.linkBlock_steady, ↓State.respWord_steady, hk, 
    ↓State.steady_ite, 
    ite_self]

theorem execCycUpRx_steady (lane : Fin 20) (first : Fin 256) (count : Fin 512) (step : Fin 1024) (words : List (BitVec 96))
  (s t : State) (h : execCycUpRx lane first count step words s = .next t) (hk : s.steady.1 = true) :
    t.steady = s.steady := by
  refine State.live_steady h ?_
  simp (maxDischargeDepth := 40) +contextual only [↓State.cycUp_steady, ↓State.linkBlock_steady, hk]

theorem execResponseDeadline_steady (s t : State) (h : execResponseDeadline s = .next t) (hk : s.steady.1 = true) :
    t.steady = s.steady := by
  exact State.live_steady h (State.respDeadline_steady _ hk)

theorem execPrechOk_steady (s t : State) (h : execPrechOk s = .next t) (hk : s.steady.1 = true) :
    t.steady = s.steady := by
  exact State.live_steady h (State.prechOkAct_steady _ hk)

theorem execSlotRelease_steady (lane : Fin 20) (j : Fin 256) (s t : State) (h : execSlotRelease lane j s = .next t) (hk :
  s.steady.1 = true) :
    t.steady = s.steady := by
  exact State.live_steady h (State.slotReleaseAct_steady _ _ _ hk)

theorem execArmComplete_steady (s t : State) (h : execArmComplete s = .next t) (hk : s.steady.1 = true) :
    t.steady = s.steady := by
  exact State.live_steady h (State.armComplete_steady _ hk)

theorem execPipeMarginRst_steady (s t : State) (h : execPipeMarginRst s = .next t) (hk : s.steady.1 = true) :
    t.steady = s.steady := by
  exact State.live_steady h (State.marginReset_steady _ hk)

theorem execSmRetire_steady (n : Fin 4096) (s t : State) (h : execSmRetire n s = .next t) (hk : s.steady.1 = true) :
    t.steady = s.steady := by
  exact State.live_steady h (State.retireAct_steady _ _ hk)

theorem execSparePromote_steady (n : Fin 4096) (s t : State) (h : execSparePromote n s = .next t) (hk : s.steady.1 = true) :
    t.steady = s.steady := by
  exact State.live_steady h (State.sparePromoteAct_steady _ _ hk)

theorem execHwcTrip_steady (line : Bool) (n : Fin 6) (neg : Bool) (s t : State) (h : execHwcTrip line n neg s = .next t) (hk
  : s.steady.1 = true) :
    t.steady = s.steady := by
  exact State.live_steady h (State.hwcTripAct_steady _ _ _ _ hk)

theorem execHwcRelease_steady (line : Bool) (n : Fin 6) (s t : State) (h : execHwcRelease line n s = .next t) (hk :
  s.steady.1 = true) :
    t.steady = s.steady := by
  exact State.live_steady h (State.hwcReleaseAct_steady _ _ _ hk)

/-! ### Cfg -/

theorem State.cfgWrite_steady (s : State) (hk : s.steady.1 = true) : (State.cfgWrite s).steady = s.steady := by
  simp (maxDischargeDepth := 40) +contextual only [State.cfgWrite, 
    ↓State.steady_ite, ↓State.steady_mk, ↓State.steady_fold, 
    ite_self]

theorem State.cfgLoad_steady (s : State) (hk : s.steady.1 = true) : (State.cfgLoad s).steady = s.steady := by
  unfold State.cfgLoad; (repeat' split) <;> simp (maxDischargeDepth := 40) +contextual only [↓State.setReg_steady, hk,
    ↓State.steady_mk, ↓State.steady_fold, ↓State.foldl_steady, implies_true]

/-! ### Cal -/

theorem State.calShow_steady (s : State) (hk : s.steady.1 = true) : (State.calShow s).steady = s.steady := by
  simp (maxDischargeDepth := 40) +contextual only [State.calShow, ↓State.setReg_steady, hk]

theorem State.timeStepped_steady (s : State) (hk : s.steady.1 = true) : (State.timeStepped s).steady = s.steady := by
  simp (maxDischargeDepth := 40) +contextual only [State.timeStepped, ↓State.bump_steady, ↓State.setFlagEach_steady, hk,
    ↓State.steady_mk, ↓State.steady_fold]

theorem State.calOffset_steady (s : State) (off : Int) (hk : s.steady.1 = true) : (State.calOffset s off).steady = s.steady
  := by
  simp (maxDischargeDepth := 40) +contextual only [State.calOffset, ↓State.calShow_steady, ↓State.draw_steady,
    ↓State.setReg_steady, hk, 
    ↓State.steady_ite, ↓State.steady_mk, ↓State.steady_fold, ite_self]

theorem State.utcSet_steady (s : State) (o : Nat) (hk : s.steady.1 = true) : (State.utcSet s o).steady = s.steady := by
  simp (maxDischargeDepth := 40) +contextual only [State.utcSet, ↓State.calShow_steady, ↓State.setReg_steady, hk,
    ↓State.steady_mk, ↓State.steady_fold]

theorem State.utcTake_steady (s : State) (o : Nat) (hk : s.steady.1 = true) : (State.utcTake s o).steady = s.steady := by
  simp (maxDischargeDepth := 40) +contextual only [State.utcTake, ↓State.cfgWrite_steady, ↓State.utcSet_steady,
    ↓State.when_steady, hk, 
    ↓State.when_steady, 
    implies_true]

theorem State.ptpRx_steady (s : State) (m : PtpMsg) (hk : s.steady.1 = true) : (State.ptpRx s m).steady = s.steady := by
  unfold State.ptpRx; (repeat' split) <;> simp (maxDischargeDepth := 40) +contextual only [↓State.calOffset_steady,
    ↓State.utcTake_steady, hk, 
    ↓State.steady_ite, ↓State.steady_mk, ↓State.steady_fold, ite_self]

theorem State.ppsIn_steady (s : State) (hk : s.steady.1 = true) : (State.ppsIn s).steady = s.steady := by
  simp (maxDischargeDepth := 40) +contextual only [State.ppsIn, ↓State.calOffset_steady, hk, 
    ↓State.steady_ite, 
    ite_self]

theorem State.calLock_steady (s : State) (hk : s.steady.1 = true) : (State.calLock s).steady = s.steady := by
  simp (maxDischargeDepth := 40) +contextual only [State.calLock, ↓State.calShow_steady, hk, 
    ↓State.steady_ite, ↓State.steady_mk, ↓State.steady_fold,
    ite_self]

theorem State.calHold_steady (s : State) (hk : s.steady.1 = true) : (State.calHold s).steady = s.steady := by
  simp (maxDischargeDepth := 40) +contextual only [State.calHold, ↓State.calShow_steady, ↓State.setFlag_steady, hk,
    ↓State.steady_ite,
    ↓State.steady_mk, ↓State.steady_fold, ite_self]

theorem State.holdExpired_steady (s : State) (hk : s.steady.1 = true) : (State.holdExpired s).steady = s.steady := by
  simp (maxDischargeDepth := 40) +contextual only [State.holdExpired, ↓State.calShow_steady, hk, 
    ↓State.steady_mk,
    ↓State.steady_fold]

theorem State.calSetAct_steady (s : State) (hk : s.steady.1 = true) : (State.calSetAct s).steady = s.steady := by
  simp (maxDischargeDepth := 40) +contextual only [State.calSetAct, ↓State.calShow_steady, ↓State.timeStepped_steady, hk,
    ↓State.steady_ite,
    ↓State.steady_mk, ↓State.steady_fold, ite_self]

theorem State.calBoundary_steady (s : State) (hk : s.steady.1 = true) : (State.calBoundary s).steady = s.steady := by
  unfold State.calBoundary; dsimp only; (repeat' split) <;> simp (maxDischargeDepth := 40) +contextual only
    [↓State.calShow_steady, ↓State.timeStepped_steady, ↓State.utcTake_steady, hk, 
    ↓State.steady_mk, ↓State.steady_fold]

theorem State.batMeasureAct_steady (s : State) (mv : Option Word) (hk : s.steady.1 = true) : (State.batMeasureAct s
  mv).steady = s.steady := by
  unfold State.batMeasureAct; (repeat' split) <;> simp (maxDischargeDepth := 40) +contextual only [↓State.calShow_steady,
    ↓State.draw_steady, ↓State.ownInc_steady, ↓State.ownUpd_steady, ↓State.setFlag_steady, ↓State.setReg_steady, hk,
    ↓State.steady_ite,
    ↓State.steady_mk, ↓State.steady_fold, ite_self]

theorem State.ownSecond_steady (s : State) (k : Nat) (hk : s.steady.1 = true) : (State.ownSecond s k).steady = s.steady := by
  simp (maxDischargeDepth := 40) +contextual only [State.ownSecond, ↓State.ownUpd_steady, hk, 
    ↓State.steady_ite, ↓State.steady_mk, ↓State.steady_fold,
    ite_self]

theorem State.proofAge_steady (s : State) (hk : s.steady.1 = true) : (State.proofAge s).steady = s.steady := by
  simp (maxDischargeDepth := 40) +contextual only [State.proofAge, ↓State.setReg_steady, hk, 
    ↓State.steady_ite, ↓State.steady_mk, ↓State.steady_fold,
    ite_self]

theorem State.timeRecordAct_steady (s : State) (hk : s.steady.1 = true) : (State.timeRecordAct s).steady = s.steady := by
  simp (maxDischargeDepth := 40) +contextual only [State.timeRecordAct, ↓State.calShow_steady, ↓State.draw_steady,
    ↓State.ownSecond_steady, ↓State.proofAge_steady, hk, 
    ↓State.steady_ite, ↓State.steady_mk, ↓State.steady_fold, ↓State.foldl_steady, 
    ite_self, implies_true]

theorem State.calLatch_steady (s : State) (hk : s.steady.1 = true) : (State.calLatch s).steady = s.steady := by
  simp (maxDischargeDepth := 40) +contextual only [State.calLatch, 
    ↓State.steady_mk, ↓State.steady_fold]

theorem execPtpMessageRx_steady (m : PtpMsg) (s t : State) (h : execPtpMessageRx m s = .next t) (hk : s.steady.1 = true) :
    t.steady = s.steady := by
  exact State.live_steady h (State.ptpRx_steady _ _ hk)

theorem execPpsInEdge_steady (s t : State) (h : execPpsInEdge s = .next t) (hk : s.steady.1 = true) :
    t.steady = s.steady := by
  exact State.live_steady h (State.ppsIn_steady _ hk)

theorem execCalLocked_steady (s t : State) (h : execCalLocked s = .next t) (hk : s.steady.1 = true) :
    t.steady = s.steady := by
  refine State.live_steady h ?_
  split
  · exact s.atDue_steady _ _ hk (fun u h => u.calLock_steady h)
  · rfl

theorem execCalHoldover_steady (s t : State) (h : execCalHoldover s = .next t) (hk : s.steady.1 = true) :
    t.steady = s.steady := by
  refine State.live_steady h ?_
  split
  · exact s.atDue_steady _ _ hk (fun u h => u.calHold_steady h)
  · rfl

theorem execCalHoldoverExpire_steady (s t : State) (h : execCalHoldoverExpire s = .next t) (hk : s.steady.1 = true) :
    t.steady = s.steady := by
  refine State.live_steady h ?_
  split
  · exact s.atDue_steady _ _ hk (fun u h => u.holdExpired_steady h)
  · rfl

theorem execCalSet_steady (s t : State) (h : execCalSet s = .next t) (hk : s.steady.1 = true) :
    t.steady = s.steady := by
  exact State.live_steady h (State.calSetAct_steady _ hk)

theorem execBatMeasure_steady (mv : Option Word) (s t : State) (h : execBatMeasure mv s = .next t) (hk : s.steady.1 = true) :
    t.steady = s.steady := by
  exact State.live_steady h (State.batMeasureAct_steady _ _ hk)

theorem execTimeRecord_steady (s t : State) (h : execTimeRecord s = .next t) (hk : s.steady.1 = true) :
    t.steady = s.steady := by
  exact State.live_steady h (State.timeRecordAct_steady _ hk)

theorem execCalTimeRead_steady (s t : State) (h : execCalTimeRead s = .next t) (hk : s.steady.1 = true) :
    t.steady = s.steady := by
  exact State.live_steady h (State.calLatch_steady _ hk)

theorem execPpsOutPulse_steady (s t : State) (h : execPpsOutPulse s = .next t) (hk : s.steady.1 = true) :
    t.steady = s.steady := by
  refine State.live_steady h ?_
  simp (maxDischargeDepth := 40) +contextual only [↓State.emits_steady, hk, 
    ↓State.steady_ite, 
    ite_self]

/-! ### Ldg -/

theorem State.decide4_steady (s : State) (d : LdgDec) (hk : s.steady.1 = true) : (State.decide4 s d).steady = s.steady := by
  simp (maxDischargeDepth := 40) +contextual only [State.decide4, 
    ↓State.steady_mk, ↓State.steady_fold]

theorem State.wearReleaseAct_steady (s : State) (smn : Nat) (hk : s.steady.1 = true) : (State.wearReleaseAct s smn).steady =
  s.steady := by
  unfold State.wearReleaseAct; (repeat' split) <;> simp (maxDischargeDepth := 40) +contextual only [↓State.decide4_steady,
    ↓State.updSm_steady, hk]

theorem State.wearRequest_steady (s : State) (smn : Nat) (hk : s.steady.1 = true) : (State.wearRequest s smn).steady =
  s.steady := by
  simp (maxDischargeDepth := 40) +contextual only [State.wearRequest, ↓State.setFlag_steady, ↓State.updSm_steady,
    ↓State.wearReleaseAct_steady, hk, 
    ↓State.steady_ite, ite_self]

theorem State.putRec_steady (s : State) (a : Nat) (r : Rec) (hk : s.steady.1 = true) : (State.putRec s a r).steady =
  s.steady := by
  simp (maxDischargeDepth := 40) +contextual only [State.putRec, ↓State.decide4_steady, ↓State.updSm_steady,
    ↓State.wearRequest_steady, hk, 
    ↓State.steady_ite, ↓State.steady_mk, ↓State.steady_fold, ite_self]

theorem State.changeOut_steady (s : State) (a : Nat) (r : Rec) (hk : s.steady.1 = true) : (State.changeOut s a r).steady =
  s.steady := by
  simp (maxDischargeDepth := 40) +contextual only [State.changeOut, ↓State.queueBulk_steady, hk]

theorem State.changeRec_steady (s : State) (a : Nat) (r : Rec) (hk : s.steady.1 = true) : (State.changeRec s a r).steady =
  s.steady := by
  simp (maxDischargeDepth := 40) +contextual only [State.changeRec, ↓State.changeOut_steady, ↓State.putRec_steady,
    ↓State.when_steady, hk, 
    ↓State.steady_ite, ↓State.steady_mk, ↓State.steady_fold, ↓State.when_steady, ite_self,
    implies_true]

theorem State.mirrorApply_steady (s : State) (hk : s.steady.1 = true) : (State.mirrorApply s).steady = s.steady := by
  simp (maxDischargeDepth := 40) +contextual only [State.mirrorApply, ↓State.putRec_steady, hk, 
    ↓State.steady_mk, ↓State.steady_fold,
    ↓State.foldl_steady, implies_true]

theorem State.ackLost_steady (s : State) (hk : s.steady.1 = true) : (State.ackLost s).steady = s.steady := by
  simp (maxDischargeDepth := 40) +contextual only [State.ackLost, ↓State.setFlag_steady, hk, 
    ↓State.steady_mk, ↓State.steady_fold]

theorem State.mirrorTimeout_steady (s : State) (hk : s.steady.1 = true) : (State.mirrorTimeout s).steady = s.steady := by
  unfold State.mirrorTimeout; (repeat' split) <;> simp (maxDischargeDepth := 40) +contextual only [↓State.ackLost_steady,
    ↓State.atDue_steady, ↓State.putRec_steady, hk, 
    ↓State.steady_mk, ↓State.steady_fold, ↓State.foldl_steady, 
    implies_true]

theorem State.pairAcked_steady (s : State) (hk : s.steady.1 = true) : (State.pairAcked s).steady = s.steady := by
  simp (maxDischargeDepth := 40) +contextual only [State.pairAcked, ↓State.putRec_steady, hk, 
    ↓State.steady_mk, ↓State.steady_fold,
    ↓State.foldl_steady, implies_true]

theorem State.archiveRec_steady (s : State) (a : Nat) (r : Rec) (hk : s.steady.1 = true) : (State.archiveRec s a r).steady =
  s.steady := by
  simp (maxDischargeDepth := 40) +contextual only [State.archiveRec, ↓State.setFlag_steady, hk, 
    ↓State.steady_ite, ↓State.steady_mk, ↓State.steady_fold,
    ite_self]

theorem State.archiveAll_steady (s : State) (smn : Nat) (hk : s.steady.1 = true) : (State.archiveAll s smn).steady =
  s.steady := by
  simp (maxDischargeDepth := 40) +contextual only [State.archiveAll, ↓State.archiveRec_steady, ↓State.changeRec_steady, hk,
    ↓State.foldl_steady, implies_true]

theorem State.mergeOne_steady (s : State) (a : Nat) (i : LdgItem) (hk : s.steady.1 = true) : (State.mergeOne s a i).steady =
  s.steady := by
  simp (maxDischargeDepth := 40) +contextual only [State.mergeOne, ↓State.archiveRec_steady, ↓State.bump_steady,
    ↓State.changeRec_steady, ↓State.setFlag_steady, ↓State.setFlagEach_steady, hk, 
    ↓State.steady_ite, 
    ite_self]

theorem State.mergeQuar_steady (s : State) (a : Nat) (i : LdgItem) (hk : s.steady.1 = true) : (State.mergeQuar s a i).steady
  = s.steady := by
  unfold State.mergeQuar; (repeat' split) <;> simp (maxDischargeDepth := 40) +contextual only [↓State.archiveRec_steady, hk,
    ↓State.steady_mk, ↓State.steady_fold]

theorem State.quarEnd_steady (s : State) (smn : Nat) (hk : s.steady.1 = true) : (State.quarEnd s smn).steady = s.steady := by
  simp (maxDischargeDepth := 40) +contextual only [State.quarEnd, 
    ↓State.steady_mk, ↓State.steady_fold]

theorem State.sendReconcile_steady (s : State) (smn first tag n : Nat) (hk : s.steady.1 = true) : (State.sendReconcile s smn
  first tag n).steady = s.steady := by
  simp (maxDischargeDepth := 40) +contextual only [State.sendReconcile, ↓State.queueVc1_steady, hk]

theorem State.reportAct_steady (s : State) (smn first tag : Nat) (items : List LdgItem) (hk : s.steady.1 = true) :
  (State.reportAct s smn first tag items).steady = s.steady := by
  unfold State.reportAct; dsimp only; (repeat' split) <;> simp (maxDischargeDepth := 40) +contextual only
    [↓State.bump_steady, ↓State.mergeOne_steady, ↓State.mergeQuar_steady, ↓State.sendReconcile_steady, hk, upd_length,
    ↓State.steady_mk,
    ↓State.steady_fold, ↓State.foldl_steady, implies_true]

theorem State.reportTimeoutAct_steady (s : State) (smn first : Nat) (hk : s.steady.1 = true) : (State.reportTimeoutAct s smn
  first).steady = s.steady := by
  unfold State.reportTimeoutAct; dsimp only; (repeat' split) <;> simp (maxDischargeDepth := 40) +contextual only
    [↓State.bump_steady, ↓State.changeRec_steady, hk, upd_length, 
    ↓State.steady_ite, ↓State.steady_mk, ↓State.steady_fold, ↓State.foldl_steady, 
    ite_self, implies_true]

theorem State.sendVisit_steady (s : State) (p smn first : Nat) (again : Bool) (hk : s.steady.1 = true) : (State.sendVisit s
  p smn first again).steady = s.steady := by
  simp (maxDischargeDepth := 40) +contextual only [State.sendVisit, ↓State.queueVc1_steady, hk, upd_length, 
    ↓State.steady_mk, ↓State.steady_fold]

theorem State.passEnd_steady (s : State) (p : Nat) (hk : s.steady.1 = true) : (State.passEnd s p).steady = s.steady := by
  simp (maxDischargeDepth := 40) +contextual only [State.passEnd, ↓State.bump_steady, ↓State.setReg_steady, hk, upd_length,
    List.length_map, ↓State.steady_ite, ↓State.steady_mk,
    ↓State.steady_fold, ite_self]

theorem State.sweepMerged_steady (s : State) (a : Nat) (r : Rec) (hk : s.steady.1 = true) : (State.sweepMerged s a r).steady
  = s.steady := by
  unfold State.sweepMerged; (repeat' split) <;> simp (maxDischargeDepth := 40) +contextual only [upd_length,
    ↓State.steady_mk,
    ↓State.steady_fold]

theorem State.sweepVisitAct_steady (s : State) (p : Nat) (hk : s.steady.1 = true) : (State.sweepVisitAct s p).steady =
  s.steady := by
  unfold State.sweepVisitAct; dsimp only; (repeat' split) <;> simp (maxDischargeDepth := 40) +contextual only
    [↓State.passEnd_steady, ↓State.sendVisit_steady, hk, upd_length, 
    ↓State.steady_mk, ↓State.steady_fold]

theorem State.idFail_steady (s : State) (smn : Nat) (hk : s.steady.1 = true) : (State.idFail s smn).steady = s.steady := by
  simp (maxDischargeDepth := 40) +contextual only [State.idFail, ↓State.bump_steady, ↓State.setFlagEach_steady, hk]

theorem State.acceptNew_steady (s : State) (smn : Nat) (id : BitVec 64) (hk : s.steady.1 = true) : (State.acceptNew s smn
  id).steady = s.steady := by
  simp (maxDischargeDepth := 40) +contextual only [State.acceptNew, ↓State.archiveAll_steady, ↓State.queueVc1_steady,
    ↓State.updSm_steady, hk, 
    ↓State.steady_ite, ite_self]

theorem State.acceptBy_steady (s : State) (smn : Nat) (id : BitVec 64) (hk : s.steady.1 = true) : (State.acceptBy s smn
  id).steady = s.steady := by
  simp (maxDischargeDepth := 40) +contextual only [State.acceptBy, ↓State.acceptNew_steady, ↓State.decide4_steady,
    ↓State.when_steady, hk, 
    ↓State.steady_ite, ↓State.when_steady, ite_self,
    implies_true]

theorem State.identAct_steady (s : State) (smn : Nat) (b : IdentBody) (hk : s.steady.1 = true) : (State.identAct s smn
  b).steady = s.steady := by
  simp (maxDischargeDepth := 40) +contextual only [State.identAct, ↓State.acceptBy_steady, ↓State.acceptNew_steady,
    ↓State.decide4_steady, ↓State.idFail_steady, ↓State.updSm_steady, hk, 
    ↓State.steady_ite, 
    ite_self]

theorem State.identTimeout_steady (s : State) (smn : Nat) (hk : s.steady.1 = true) : (State.identTimeout s smn).steady =
  s.steady := by
  unfold State.identTimeout; (repeat' split) <;> simp (maxDischargeDepth := 40) +contextual only [↓State.acceptBy_steady,
    ↓State.atDue_steady, ↓State.idFail_steady, ↓State.updSm_steady, hk, 
    implies_true]

theorem State.applyDec_steady (s : State) (d : LdgDec) (hk : s.steady.1 = true) : (State.applyDec s d).steady = s.steady := by
  unfold State.applyDec; (repeat' split) <;> simp (maxDischargeDepth := 40) +contextual only [↓State.noSpareShow_steady,
    ↓State.updSm_steady, hk]

theorem State.decisionsApply_steady (s : State) (hk : s.steady.1 = true) : (State.decisionsApply s).steady = s.steady := by
  simp (maxDischargeDepth := 40) +contextual only [State.decisionsApply, ↓State.applyDec_steady, hk, 
    ↓State.steady_mk,
    ↓State.steady_fold, ↓State.foldl_steady, implies_true]

theorem State.ldgBoundary_steady (s : State) (hk : s.steady.1 = true) : (State.ldgBoundary s).steady = s.steady := by
  unfold State.ldgBoundary
  try dsimp only
  repeat' first
    | with_reducible rfl
    | with_reducible exact hk
    | with_reducible refine State.steady_trans (fun h => State.decisionsApply_steady _ h) ?_ hk
    | with_reducible refine State.steady_trans (fun h => State.wearReleaseAct_steady _ _ h) ?_ hk
    | with_reducible refine State.steady_trans (fun h => State.foldl_steady _ _ _ h (fun s x hk => ?_)) ?_ hk
    | simp only [↓State.steady_mk, ↓State.steady_fold]
    | with_reducible refine State.ite_steady (fun _ => ?_) (fun _ => ?_)
    | split

theorem State.retireCmd_steady (s : State) (n : Nat) (hk : s.steady.1 = true) : (State.retireCmd s n).2.steady = s.steady := by
  unfold State.retireCmd; (repeat' split) <;> simp (maxDischargeDepth := 40) +contextual only [↓State.wearRequest_steady,
    hk]

theorem State.replaceCmd_steady (s : State) (n : Nat) (hk : s.steady.1 = true) : (State.replaceCmd s n).2.steady = s.steady
  := by
  unfold State.replaceCmd; dsimp only; (repeat' split) <;> simp (maxDischargeDepth := 40) +contextual only
    [↓State.quarEnd_steady, ↓State.updSm_steady, hk]

theorem State.maintainExit_steady (s : State) (hk : s.steady.1 = true) : (State.maintainExit s).steady = s.steady := by
  simp (maxDischargeDepth := 40) +contextual only [State.maintainExit, ↓State.updSm_steady, hk, 
    ↓State.steady_ite, 
    ↓State.foldl_steady, ite_self, implies_true]

theorem State.imageStart_steady (s : State) (hk : s.steady.1 = true) : (State.imageStart s).steady = s.steady := by
  simp (maxDischargeDepth := 40) +contextual only [State.imageStart, 
    ↓State.steady_ite, ↓State.steady_mk, ↓State.steady_fold, 
    ite_self]

theorem State.imageDone_steady (s : State) (ok : Bool) (hk : s.steady.1 = true) : (State.imageDone s ok).steady = s.steady := by
  unfold State.imageDone; (repeat' split) <;> simp (maxDischargeDepth := 40) +contextual only [↓State.setFlag_steady,
    ↓State.setReg_steady, hk, 
    ↓State.steady_mk, ↓State.steady_fold]

theorem State.imageLoad_steady (s : State) (hk : s.steady.1 = true) : (State.imageLoad s).steady = s.steady := by
  unfold State.imageLoad; dsimp only; (repeat' split) <;> simp (maxDischargeDepth := 40) +contextual only [
    ↓State.steady_mk,
    ↓State.steady_fold]

theorem execWearRelease_steady (smn : Fin 4096) (s t : State) (h : execWearRelease smn s = .next t) (hk : s.steady.1 = true) :
    t.steady = s.steady := by
  exact State.live_steady h (State.wearReleaseAct_steady _ _ hk)

theorem execLdgMirrorTimeout_steady (s t : State) (h : execLdgMirrorTimeout s = .next t) (hk : s.steady.1 = true) :
    t.steady = s.steady := by
  exact State.live_steady h (State.mirrorTimeout_steady _ hk)

theorem execReportRx_steady (smn : Fin 4096) (first : BitVec 13) (tag : Word) (items : List LdgItem) (s t : State) (h :
  execReportRx smn first tag items s = .next t) (hk : s.steady.1 = true) :
    t.steady = s.steady := by
  exact State.live_steady h (State.reportAct_steady _ _ _ _ _ hk)

theorem execReportTimeout_steady (smn : Fin 4096) (first : BitVec 13) (s t : State) (h : execReportTimeout smn first s =
  .next t) (hk : s.steady.1 = true) :
    t.steady = s.steady := by
  exact State.live_steady h (State.reportTimeoutAct_steady _ _ _ hk)

theorem execSweepVisit_steady (lane : Fin 20) (s t : State) (h : execSweepVisit lane s = .next t) (hk : s.steady.1 = true) :
    t.steady = s.steady := by
  exact State.live_steady h (State.sweepVisitAct_steady _ _ hk)

theorem execIdentRx_steady (smn : Fin 4096) (b : IdentBody) (s t : State) (h : execIdentRx smn b s = .next t) (hk :
  s.steady.1 = true) :
    t.steady = s.steady := by
  exact State.live_steady h (State.identAct_steady _ _ _ hk)

theorem execIdentTimeout_steady (smn : Fin 4096) (s t : State) (h : execIdentTimeout smn s = .next t) (hk : s.steady.1 = true) :
    t.steady = s.steady := by
  exact State.live_steady h (State.identTimeout_steady _ _ hk)

theorem execLdgDecisionApply_steady (s t : State) (h : execLdgDecisionApply s = .next t) (hk : s.steady.1 = true) :
    t.steady = s.steady := by
  refine State.live_steady h ?_
  simp (maxDischargeDepth := 40) +contextual only [↓State.decisionsApply_steady, ↓State.setsBoundary_steady, hk]

theorem execLdgImageStart_steady (s t : State) (h : execLdgImageStart s = .next t) (hk : s.steady.1 = true) :
    t.steady = s.steady := by
  exact State.live_steady h (State.imageStart_steady _ hk)

theorem execLdgImageDone_steady (ok : Bool) (s t : State) (h : execLdgImageDone ok s = .next t) (hk : s.steady.1 = true) :
    t.steady = s.steady := by
  exact State.live_steady h (State.imageDone_steady _ _ hk)

/-! ### Mem -/

theorem State.updBank_steady (s : State) (p : Nat) (f : Bank → Bank) (hk : s.steady.1 = true) : (State.updBank s p f).steady
  = s.steady := by
  simp (maxDischargeDepth := 40) +contextual only [State.updBank, upd_length, 
    ↓State.steady_mk, ↓State.steady_fold]

theorem State.cellWrite_steady (s : State) (w : Nat) (v : BitVec 64) (hk : s.steady.1 = true) : (State.cellWrite s w
  v).steady = s.steady := by
  simp (maxDischargeDepth := 40) +contextual only [State.cellWrite, 
    ↓State.steady_mk, ↓State.steady_fold]

theorem State.sramWrite_steady (s : State) (w : Nat) (v : BitVec 64) (hk : s.steady.1 = true) : (State.sramWrite s w
  v).steady = s.steady := by
  simp (maxDischargeDepth := 40) +contextual only [State.sramWrite, ↓State.cellWrite_steady, hk,
    ↓State.steady_ite,
    ↓State.steady_mk, ↓State.steady_fold, ite_self]

theorem State.sramAnswer_steady (s : State) (portA : Bool) (r : Option SramReq) (t : State) (hk : t.steady.1 = true) :
  (State.sramAnswer s portA r t).steady = t.steady := by
  unfold State.sramAnswer; (repeat' split) <;> simp (maxDischargeDepth := 40) +contextual only [↓State.emit_steady, hk]

theorem State.sramApply_steady (s : State) (r : Option SramReq) (hk : s.steady.1 = true) : (State.sramApply s r).steady =
  s.steady := by
  unfold State.sramApply; (repeat' split) <;> simp (maxDischargeDepth := 40) +contextual only [↓State.sramWrite_steady, hk]

theorem State.sramClock_steady (s : State) (a b : Option SramReq) (hk : s.steady.1 = true) : (State.sramClock s a b).steady
  = s.steady := by
  simp (maxDischargeDepth := 40) +contextual only [State.sramClock, ↓State.bump_steady, ↓State.sramAnswer_steady,
    ↓State.sramApply_steady, ↓State.when_steady, hk, 
    ↓State.when_steady,
    implies_true]

theorem State.sramBank_steady (s : State) (as bs : List SramReq) (hk : s.steady.1 = true) : (State.sramBank s as bs).steady
  = s.steady := by
  simp (maxDischargeDepth := 40) +contextual only [State.sramBank, ↓State.sramClock_steady, hk, 
    ↓State.foldl_steady, implies_true]

theorem State.sramServe_steady (s : State) (hk : s.steady.1 = true) : (State.sramServe s).steady = s.steady := by
  simp (maxDischargeDepth := 40) +contextual only [State.sramServe, ↓State.sramBank_steady, hk, 
    ↓State.steady_ite, ↓State.steady_mk, ↓State.steady_fold,
    ↓State.foldl_steady, ite_self, implies_true]

theorem State.remapStart_steady (s : State) (hk : s.steady.1 = true) : (State.remapStart s).steady = s.steady := by
  unfold State.remapStart; (repeat' split) <;> simp (maxDischargeDepth := 40) +contextual only [↓State.setFlag_steady,
    ↓State.updBank_steady, hk, 
    ↓State.steady_mk, ↓State.steady_fold]

theorem State.bankDue_steady (s : State) (p : Nat) (hk : s.steady.1 = true) : (State.bankDue s p).steady = s.steady := by
  simp (maxDischargeDepth := 40) +contextual only [State.bankDue, ↓State.remapStart_steady, ↓State.setFlag_steady,
    ↓State.updBank_steady, hk, 
    ↓State.steady_ite, ite_self]

theorem State.sramCe_steady (s : State) (w : Nat) (hk : s.steady.1 = true) : (State.sramCe s w).steady = s.steady := by
  simp (maxDischargeDepth := 40) +contextual only [State.sramCe, ↓State.bankDue_steady, ↓State.bump_steady,
    ↓State.setFlag_steady, ↓State.updBank_steady, hk, 
    ↓State.steady_ite, 
    ite_self]

theorem State.sramUe_steady (s : State) (w : Nat) (hk : s.steady.1 = true) : (State.sramUe s w).steady = s.steady := by
  simp (maxDischargeDepth := 40) +contextual only [State.sramUe, ↓State.bankDue_steady, ↓State.bump_steady,
    ↓State.setFlag_steady, ↓State.setReg_steady, hk]

theorem State.remapDone_steady (s : State) (hk : s.steady.1 = true) : (State.remapDone s).steady = s.steady := by
  unfold State.remapDone; (repeat' split) <;> simp (maxDischargeDepth := 40) +contextual only [↓State.ownInc_steady,
    ↓State.remapStart_steady, ↓State.setFlagEach_steady, ↓State.updBank_steady, hk, 
    ↓State.steady_mk, ↓State.steady_fold]

theorem State.scrub_steady (s : State) (err : Option Bool) (hk : s.steady.1 = true) : (State.scrub s err).steady = s.steady
  := by
  unfold State.scrub; (repeat' split) <;> simp (maxDischargeDepth := 40) +contextual only [↓State.sramCe_steady,
    ↓State.sramUe_steady, hk, List.length_map, 
    ↓State.steady_ite, ↓State.steady_mk, ↓State.steady_fold, ite_self]

theorem State.slicePast_steady (s : State) (n : Nat) (hk : s.steady.1 = true) : (State.slicePast s n).steady = s.steady := by
  simp (maxDischargeDepth := 40) +contextual only [State.slicePast, 
    ↓State.steady_mk, ↓State.steady_fold]

theorem State.sliceTake_steady (s : State) (n : Nat) (hk : s.steady.1 = true) : (State.sliceTake s n).steady = s.steady := by
  simp (maxDischargeDepth := 40) +contextual only [State.sliceTake, 
    ↓State.steady_mk, ↓State.steady_fold]

theorem State.sliceBorrow_steady (s : State) (hk : s.steady.1 = true) : (State.sliceBorrow s).steady = s.steady := by
  unfold State.sliceBorrow; (repeat' split) <;> simp (maxDischargeDepth := 40) +contextual only [↓State.slicePast_steady,
    ↓State.sliceTake_steady, hk, 
    ↓State.steady_ite, ↓State.steady_mk, ↓State.steady_fold, ite_self]

theorem State.lineBack_steady (s : State) (n : Nat) (hk : s.steady.1 = true) : (State.lineBack s n).steady = s.steady := by
  simp (maxDischargeDepth := 40) +contextual only [State.lineBack, ↓State.cellWrite_steady, hk,
    ↓State.foldl_steady, implies_true]

theorem State.sliceReturn_steady (s : State) (fails : List Nat) (hk : s.steady.1 = true) : (State.sliceReturn s
  fails).steady = s.steady := by
  unfold State.sliceReturn; (repeat' split) <;> simp (maxDischargeDepth := 40) +contextual only [↓State.bankDue_steady,
    ↓State.bump_steady, ↓State.lineBack_steady, ↓State.remapStart_steady, ↓State.setFlag_steady, hk, 
    ↓State.steady_mk,
    ↓State.steady_fold, ↓State.foldl_steady, implies_true]

theorem State.retvCheck_steady (s : State) (hk : s.steady.1 = true) : (State.retvCheck s).steady = s.steady := by
  simp (maxDischargeDepth := 40) +contextual only [State.retvCheck, 
    ↓State.steady_ite, ↓State.steady_mk, ↓State.steady_fold, 
    ite_self]

theorem State.ledgerBurst_steady (s : State) (addr : Nat) (hk : s.steady.1 = true) : (State.ledgerBurst s addr).steady =
  s.steady := by
  simp (maxDischargeDepth := 40) +contextual only [State.ledgerBurst, 
    ↓State.steady_mk, ↓State.steady_fold]

theorem State.acqBurst_steady (s : State) (hk : s.steady.1 = true) : (State.acqBurst s).steady = s.steady := by
  unfold State.acqBurst; dsimp only; (repeat' split) <;> simp (maxDischargeDepth := 40) +contextual only
    [↓State.draw_steady, ↓State.logEv_steady, hk, List.length_map, 
    ↓State.steady_mk, ↓State.steady_fold]

theorem State.emmcCheck_steady (s : State) (a b eol : Nat) (hk : s.steady.1 = true) : (State.emmcCheck s a b eol).steady =
  s.steady := by
  simp (maxDischargeDepth := 40) +contextual only [State.emmcCheck, ↓State.logFlag_steady, ↓State.ownUpd_steady,
    ↓State.setFlagEach_steady, hk, 
    ↓State.steady_ite, ↓State.steady_mk, ↓State.steady_fold, ite_self]

theorem State.bkMeasureAct_steady (s : State) (ppm : Word) (hk : s.steady.1 = true) : (State.bkMeasureAct s ppm).steady =
  s.steady := by
  simp (maxDischargeDepth := 40) +contextual only [State.bkMeasureAct, ↓State.setReg_steady, hk, 
    ↓State.steady_ite, ↓State.steady_mk,
    ↓State.steady_fold, ite_self]

theorem State.clkGoAct_steady (s : State) (hk : s.steady.1 = true) : (State.clkGoAct s).steady = s.steady := by
  simp (maxDischargeDepth := 40) +contextual only [State.clkGoAct, 
    ↓State.steady_ite, ↓State.steady_mk, ↓State.steady_fold, 
    ite_self]

theorem State.divTransfer_steady (s : State) (hk : s.steady.1 = true) : (State.divTransfer s).steady = s.steady := by
  simp (maxDischargeDepth := 40) +contextual only [State.divTransfer, ↓State.setReg_steady, hk, 
    ↓State.steady_ite, ↓State.steady_mk, ↓State.steady_fold,
    ite_self]

theorem execRemapDone_steady (s t : State) (h : execRemapDone s = .next t) (hk : s.steady.1 = true) :
    t.steady = s.steady := by
  exact State.live_steady h (State.remapDone_steady _ hk)

theorem execScrubStep_steady (err : Option Bool) (s t : State) (h : execScrubStep err s = .next t) (hk : s.steady.1 = true) :
    t.steady = s.steady := by
  exact State.live_steady h (State.scrub_steady _ _ hk)

theorem execMtSliceBorrow_steady (s t : State) (h : execMtSliceBorrow s = .next t) (hk : s.steady.1 = true) :
    t.steady = s.steady := by
  exact State.live_steady h (State.sliceBorrow_steady _ hk)

theorem execMtSliceReturn_steady (fails : List (Fin 32)) (s t : State) (h : execMtSliceReturn fails s = .next t) (hk :
  s.steady.1 = true) :
    t.steady = s.steady := by
  refine State.live_steady h ?_
  simp (maxDischargeDepth := 40) +contextual only [↓State.sliceReturn_steady, hk]

theorem execEmmcLifeCheck_steady (a b : BitVec 4) (eol : BitVec 2) (s t : State) (h : execEmmcLifeCheck a b eol s = .next t)
  (hk : s.steady.1 = true) :
    t.steady = s.steady := by
  exact State.live_steady h (State.emmcCheck_steady _ _ _ _ hk)

theorem execBkMeasure_steady (ppm : Word) (s t : State) (h : execBkMeasure ppm s = .next t) (hk : s.steady.1 = true) :
    t.steady = s.steady := by
  exact State.live_steady h (State.bkMeasureAct_steady _ _ hk)

theorem execClkGo_steady (s t : State) (h : execClkGo s = .next t) (hk : s.steady.1 = true) :
    t.steady = s.steady := by
  exact State.live_steady h (State.clkGoAct_steady _ hk)

theorem execDividerTransfer_steady (s t : State) (h : execDividerTransfer s = .next t) (hk : s.steady.1 = true) :
    t.steady = s.steady := by
  exact State.live_steady h (State.divTransfer_steady _ hk)

theorem execBandRej_steady (n : Fin 10) (s t : State) (h : execBandRej n s = .next t) (hk : s.steady.1 = true) :
    t.steady = s.steady := by
  refine State.live_steady h ?_
  simp (maxDischargeDepth := 40) +contextual only [↓State.setFlagEach_steady, hk, 
    ↓State.steady_ite, 
    ite_self]

/-! ### Mode -/

theorem State.modeObserve_steady (s : State) (hk : s.steady.1 = true) : (State.modeObserve s).steady = s.steady := by
  simp (maxDischargeDepth := 40) +contextual only [State.modeObserve, 
    ↓State.steady_mk, ↓State.steady_fold]

theorem State.busQualAct_steady (s : State) (hk : s.steady.1 = true) : (State.busQualAct s).steady = s.steady := by
  simp (maxDischargeDepth := 40) +contextual only [State.busQualAct, 
    ↓State.steady_mk, ↓State.steady_fold]

theorem State.brkDisagreeAct_steady (s : State) (hk : s.steady.1 = true) : (State.brkDisagreeAct s).steady = s.steady := by
  simp (maxDischargeDepth := 40) +contextual only [State.brkDisagreeAct, ↓State.setFlagEach_steady, hk, 
    ↓State.steady_ite, ↓State.steady_mk,
    ↓State.steady_fold, ite_self]

theorem State.cause_steady (s : State) (f : Causes → Causes) (hk : s.steady.1 = true) : (State.cause s f).steady = s.steady
  := by
  simp (maxDischargeDepth := 40) +contextual only [State.cause, 
    ↓State.steady_mk, ↓State.steady_fold]

theorem State.castonDoneAct_steady (s : State) (hk : s.steady.1 = true) : (State.castonDoneAct s).steady = s.steady := by
  simp (maxDischargeDepth := 40) +contextual only [State.castonDoneAct, ↓State.cause_steady, hk, 
    ↓State.steady_ite, 
    ite_self]

theorem State.castonFailAct_steady (s : State) (hk : s.steady.1 = true) : (State.castonFailAct s).steady = s.steady := by
  simp (maxDischargeDepth := 40) +contextual only [State.castonFailAct, ↓State.cause_steady, ↓State.setFlag_steady, hk,
    ↓State.steady_ite,
    ite_self]

theorem State.syncOkAct_steady (s : State) (hk : s.steady.1 = true) : (State.syncOkAct s).steady = s.steady := by
  simp (maxDischargeDepth := 40) +contextual only [State.syncOkAct, ↓State.trigUpdate_steady, hk, 
    ↓State.steady_mk,
    ↓State.steady_fold]

theorem State.syncTimeoutAct_steady (s : State) (hk : s.steady.1 = true) : (State.syncTimeoutAct s).steady = s.steady := by
  simp (maxDischargeDepth := 40) +contextual only [State.syncTimeoutAct, ↓State.cause_steady, hk, 
    ↓State.steady_ite, 
    ite_self]

theorem State.syncLostAct_steady (s : State) (hk : s.steady.1 = true) : (State.syncLostAct s).steady = s.steady := by
  simp (maxDischargeDepth := 40) +contextual only [State.syncLostAct, ↓State.cause_steady, hk, 
    ↓State.steady_ite, 
    ite_self]

theorem State.bindOffAct_steady (s : State) (hk : s.steady.1 = true) : (State.bindOffAct s).steady = s.steady := by
  simp (maxDischargeDepth := 40) +contextual only [State.bindOffAct, ↓State.cause_steady, hk, 
    ↓State.steady_ite, 
    ite_self]

theorem State.boTimeoutAct_steady (s : State) (hk : s.steady.1 = true) : (State.boTimeoutAct s).steady = s.steady := by
  simp (maxDischargeDepth := 40) +contextual only [State.boTimeoutAct, ↓State.cause_steady, ↓State.setFlag_steady, hk,
    ↓State.steady_ite,
    ite_self]

theorem State.boAbortAct_steady (s : State) (hk : s.steady.1 = true) : (State.boAbortAct s).steady = s.steady := by
  simp (maxDischargeDepth := 40) +contextual only [State.boAbortAct, ↓State.cause_steady, ↓State.setFlag_steady, hk,
    ↓State.steady_ite,
    ite_self]

theorem State.rtEntryAct_steady (s : State) (hk : s.steady.1 = true) : (State.rtEntryAct s).steady = s.steady := by
  simp (maxDischargeDepth := 40) +contextual only [State.rtEntryAct, ↓State.cause_steady, hk, 
    ↓State.steady_ite, 
    ite_self]

theorem State.rtExitAct_steady (s : State) (hk : s.steady.1 = true) : (State.rtExitAct s).steady = s.steady := by
  simp (maxDischargeDepth := 40) +contextual only [State.rtExitAct, ↓State.cause_steady, hk, 
    ↓State.steady_ite, 
    ite_self]

theorem State.holdExpAct_steady (s : State) (hk : s.steady.1 = true) : (State.holdExpAct s).steady = s.steady := by
  simp (maxDischargeDepth := 40) +contextual only [State.holdExpAct, ↓State.cause_steady, ↓State.setFlag_steady, hk,
    ↓State.steady_ite,
    ite_self]

theorem State.rejoinSeen_steady (s : State) (hk : s.steady.1 = true) : (State.rejoinSeen s).steady = s.steady := by
  simp (maxDischargeDepth := 40) +contextual only [State.rejoinSeen, ↓State.cause_steady, hk, 
    ↓State.steady_ite, 
    ite_self]

theorem State.modeEvents_steady (s : State) (hk : s.steady.1 = true) : (State.modeEvents s).steady = s.steady := by
  unfold State.modeEvents
  try dsimp only
  repeat' first
    | with_reducible rfl
    | with_reducible exact hk
    | with_reducible refine State.steady_trans (fun h => State.bindOffAct_steady _ h) ?_ hk
    | with_reducible refine State.steady_trans (fun h => State.boAbortAct_steady _ h) ?_ hk
    | with_reducible refine State.steady_trans (fun h => State.boTimeoutAct_steady _ h) ?_ hk
    | with_reducible refine State.steady_trans (fun h => State.brkDisagreeAct_steady _ h) ?_ hk
    | with_reducible refine State.steady_trans (fun h => State.busQualAct_steady _ h) ?_ hk
    | with_reducible refine State.steady_trans (fun h => State.castonDoneAct_steady _ h) ?_ hk
    | with_reducible refine State.steady_trans (fun h => State.castonFailAct_steady _ h) ?_ hk
    | with_reducible refine State.steady_trans (fun h => State.holdExpAct_steady _ h) ?_ hk
    | with_reducible refine State.steady_trans (fun h => State.rejoinSeen_steady _ h) ?_ hk
    | with_reducible refine State.steady_trans (fun h => State.rtEntryAct_steady _ h) ?_ hk
    | with_reducible refine State.steady_trans (fun h => State.rtExitAct_steady _ h) ?_ hk
    | with_reducible refine State.steady_trans (fun h => State.syncLostAct_steady _ h) ?_ hk
    | with_reducible refine State.steady_trans (fun h => State.syncOkAct_steady _ h) ?_ hk
    | with_reducible refine State.steady_trans (fun h => State.syncTimeoutAct_steady _ h) ?_ hk

theorem State.freezeTargets_steady (s : State) (f : Bool) (hk : s.steady.1 = true) : (State.freezeTargets s f).steady =
  s.steady := by
  simp (maxDischargeDepth := 40) +contextual only [State.freezeTargets, ↓State.setReg_steady, hk, 
    ↓State.steady_ite, 
    ite_self]

theorem State.rtTrans_steady (s : State) (frm dest : Mode) (hk : s.steady.1 = true) : (State.rtTrans s frm dest).steady =
  s.steady := by
  simp (maxDischargeDepth := 40) +contextual only [State.rtTrans, ↓State.setReg_steady, hk, 
    ↓State.steady_ite, ↓State.steady_mk, ↓State.steady_fold,
    ite_self]

theorem State.enterFields_steady (s : State) (frm dest : Mode) (ssr : Bool) (hk : s.steady.1 = true) : (State.enterFields s
  frm dest ssr).steady = s.steady := by
  simp (maxDischargeDepth := 40) +contextual only [State.enterFields, 
    ↓State.steady_mk, ↓State.steady_fold]

theorem State.enterTargets_steady (s : State) (frm dest : Mode) (hk : s.steady.1 = true) : (State.enterTargets s frm
  dest).steady = s.steady := by
  simp (maxDischargeDepth := 40) +contextual only [State.enterTargets, ↓State.freezeTargets_steady, ↓State.rtTrans_steady,
    ↓State.setReg_steady, ↓State.when_steady, hk, 
    ↓State.steady_mk, ↓State.steady_fold, ↓State.when_steady,
    implies_true]

theorem State.enterFlags_steady (s : State) (row rank : Nat) (inv timeout wasOk : Bool) (hk : s.steady.1 = true) :
  (State.enterFlags s row rank inv timeout wasOk).steady = s.steady := by
  simp (maxDischargeDepth := 40) +contextual only [State.enterFlags, ↓State.setFlag_steady, ↓State.when_steady, hk,
    ↓State.when_steady, implies_true]

theorem State.enterNote_steady (s : State) (row rank : Nat) (frm dest : Mode) (hk : s.steady.1 = true) : (State.enterNote s
  row rank frm dest).steady = s.steady := by
  simp (maxDischargeDepth := 40) +contextual only [State.enterNote, ↓State.bump_steady, ↓State.logEv_steady,
    ↓State.setReg_steady, hk]

theorem State.enterSaf_steady (s : State) (row : Nat) (frm tm : Mode) (hk : s.steady.1 = true) :
    (s.enterSaf row frm tm).steady = s.steady := by
  unfold State.enterSaf
  dsimp only
  have hr : ∀ (t : State) (x : Saf), x.sins.length = t.saf.sins.length → ({ t with saf := x } : State).steady = t.steady :=
    fun t x h => by rw [State.steady_mk, h, State.steady_fold]
  refine State.steady_trans (fun h => State.when_steady _ _ _ h (fun h => State.maintainExit_steady _ h)) ?_ hk
  refine State.steady_trans (fun h => State.when_steady _ _ _ h (fun _ => hr _ _ rfl)) ?_ hk
  refine State.steady_trans (fun h => State.when_steady _ _ _ h (fun _ => hr _ _ rfl)) ?_ hk
  refine State.steady_trans (fun h => State.when_steady _ _ _ h (fun h => State.steady_trans
    (fun h => State.spbDemand_steady _ _ _ _ h) (hr _ _ rfl) h)) ?_ hk
  exact State.when_steady _ _ _ hk (fun _ => hr _ _ rfl)

theorem State.enterMode_steady (s : State) (row rank : Nat) (dest : Mode) (hk : s.steady.1 = true) : (State.enterMode s row
  rank dest).steady = s.steady := by
  simp (maxDischargeDepth := 40) +contextual only [State.enterMode, ↓State.enterFields_steady, ↓State.enterFlags_steady,
    ↓State.enterNote_steady, ↓State.enterSaf_steady, ↓State.enterTargets_steady, ↓State.rejoinAct_steady,
    ↓State.safSettle_steady, ↓State.trigUpdate_steady, ↓State.when_steady, hk, 
    ↓State.when_steady, implies_true]

theorem State.ssrInBindOff_steady (s : State) (hk : s.steady.1 = true) : (State.ssrInBindOff s).steady = s.steady := by
  simp (maxDischargeDepth := 40) +contextual only [State.ssrInBindOff, 
    ↓State.steady_ite, ↓State.steady_mk, ↓State.steady_fold, 
    ite_self]

theorem State.brkApply_steady (s : State) (conv tie : Option Bool) (hk : s.steady.1 = true) : (State.brkApply s conv
  tie).steady = s.steady := by
  unfold State.brkApply; (repeat' split) <;> simp (maxDischargeDepth := 40) +contextual only [
    ↓State.steady_mk,
    ↓State.steady_fold]

theorem State.hostTargets_steady (s : State) (hk : s.steady.1 = true) : (State.hostTargets s).steady = s.steady := by
  simp (maxDischargeDepth := 40) +contextual only [State.hostTargets, ↓State.setReg_steady, hk]

theorem State.syncTargets_steady (s : State) (hk : s.steady.1 = true) : (State.syncTargets s).steady = s.steady := by
  simp (maxDischargeDepth := 40) +contextual only [State.syncTargets, ↓State.setReg_steady, hk]

theorem State.boTargets_steady (s : State) (hk : s.steady.1 = true) : (State.boTargets s).steady = s.steady := by
  simp (maxDischargeDepth := 40) +contextual only [State.boTargets, ↓State.freezeTargets_steady, ↓State.setFlag_steady,
    ↓State.setReg_steady, hk, 
    ↓State.steady_ite, ↓State.steady_mk, ↓State.steady_fold, ite_self]

theorem State.kvWrite_steady (s : State) (hk : s.steady.1 = true) : (State.kvWrite s).steady = s.steady := by
  simp (maxDischargeDepth := 40) +contextual only [State.kvWrite, ↓State.setReg_steady, hk, 
    ↓State.steady_ite, 
    ite_self]

theorem State.modeTargets_steady (s : State) (hk : s.steady.1 = true) : (State.modeTargets s).steady = s.steady := by
  simp (maxDischargeDepth := 40) +contextual only [State.modeTargets, ↓State.boTargets_steady, ↓State.ftInputs_steady,
    ↓State.hostTargets_steady, ↓State.kvWrite_steady, ↓State.kzEnd_steady, ↓State.kzWrite_steady, ↓State.syncTargets_steady,
    hk, ↓State.steady_ite,
    ↓State.steady_mk, ↓State.steady_fold, ite_self]

theorem execBusQualified_steady (s t : State) (h : execBusQualified s = .next t) (hk : s.steady.1 = true) :
    t.steady = s.steady := by
  exact State.live_steady h (State.busQualAct_steady _ hk)

theorem execBrkDisagree_steady (s t : State) (h : execBrkDisagree s = .next t) (hk : s.steady.1 = true) :
    t.steady = s.steady := by
  exact State.live_steady h (State.brkDisagreeAct_steady _ hk)

theorem execCastonComplete_steady (s t : State) (h : execCastonComplete s = .next t) (hk : s.steady.1 = true) :
    t.steady = s.steady := by
  exact State.live_steady h (State.castonDoneAct_steady _ hk)

theorem execCastonFail_steady (s t : State) (h : execCastonFail s = .next t) (hk : s.steady.1 = true) :
    t.steady = s.steady := by
  exact State.live_steady h (State.castonFailAct_steady _ hk)

theorem execSyncOk_steady (s t : State) (h : execSyncOk s = .next t) (hk : s.steady.1 = true) :
    t.steady = s.steady := by
  exact State.live_steady h (State.syncOkAct_steady _ hk)

theorem execSyncTimeout_steady (s t : State) (h : execSyncTimeout s = .next t) (hk : s.steady.1 = true) :
    t.steady = s.steady := by
  exact State.live_steady h (State.syncTimeoutAct_steady _ hk)

theorem execBindOffComplete_steady (s t : State) (h : execBindOffComplete s = .next t) (hk : s.steady.1 = true) :
    t.steady = s.steady := by
  exact State.live_steady h (State.bindOffAct_steady _ hk)

theorem execBoTimeout_steady (s t : State) (h : execBoTimeout s = .next t) (hk : s.steady.1 = true) :
    t.steady = s.steady := by
  exact State.live_steady h (State.boTimeoutAct_steady _ hk)

theorem execRideThroughEntry_steady (s t : State) (h : execRideThroughEntry s = .next t) (hk : s.steady.1 = true) :
    t.steady = s.steady := by
  exact State.live_steady h (State.rtEntryAct_steady _ hk)

theorem execRideThroughExit_steady (s t : State) (h : execRideThroughExit s = .next t) (hk : s.steady.1 = true) :
    t.steady = s.steady := by
  exact State.live_steady h (State.rtExitAct_steady _ hk)

theorem execHoldExpired_steady (s t : State) (h : execHoldExpired s = .next t) (hk : s.steady.1 = true) :
    t.steady = s.steady := by
  exact State.live_steady h (State.holdExpAct_steady _ hk)

theorem execRejoin_steady (s t : State) (h : execRejoin s = .next t) (hk : s.steady.1 = true) :
    t.steady = s.steady := by
  exact State.live_steady h (State.rejoinSeen_steady _ hk)

end Sys2Proof.Machine
end

