-- ==== Sys2Proof/Laws/SteadyPair.lean ====
section
/-! SUPPORT. What every operation keeps of a sound state (Safety.lean), block by block: the pair, reset and start, register writes. -/
namespace Sys2Proof.Machine

/-! ### Pair -/

theorem State.toRole_steady (s : State) (r : Role) (hk : s.steady.1 = true) : (State.toRole s r).steady = s.steady := by
  unfold State.toRole
  repeat' first
    | exact hk
    | (simp (maxDischargeDepth := 40) +contextual only [*, ↓State.remLoseActive_steady, ↓State.safSettle_steady,
      ↓State.setRole_steady, 
      ↓State.steady_ite, ite_self]; done)

theorem State.isolatedReady_steady (s : State) (hk : s.steady.1 = true) : (State.isolatedReady s).steady = s.steady := by
  simp (maxDischargeDepth := 40) +contextual only [State.isolatedReady, ↓State.enterMode_steady, hk, 
    ↓State.steady_ite, 
    ite_self]

theorem State.toSyncing_steady (s : State) (hk : s.steady.1 = true) : (State.toSyncing s).steady = s.steady := by
  unfold State.toSyncing
  repeat' first
    | exact hk
    | (simp (maxDischargeDepth := 40) +contextual only [*, ↓State.angDiscipline_steady, ↓State.setReg_steady,
      ↓State.toRole_steady, 
      ↓State.steady_mk, ↓State.steady_fold]; done)

theorem State.toActive_steady (s : State) (hk : s.steady.1 = true) : (State.toActive s).steady = s.steady := by
  unfold State.toActive
  repeat' first
    | exact hk
    | (simp (maxDischargeDepth := 40) +contextual only [*, ↓State.startAudit_steady, ↓State.toRole_steady, 
      List.length_map, ↓State.steady_ite, ↓State.steady_mk,
      ↓State.steady_fold, ↓State.foldl_steady, ite_self, implies_true]; done)

theorem State.sawEpoch_steady (s : State) (e : BitVec 16) (hk : s.steady.1 = true) : (State.sawEpoch s e).steady = s.steady
  := by
  simp (maxDischargeDepth := 40) +contextual only [State.sawEpoch, 
    ↓State.steady_ite, ↓State.steady_mk, ↓State.steady_fold, 
    ite_self]

theorem State.demote_steady (s : State) (hk : s.steady.1 = true) : (State.demote s).steady = s.steady := by
  simp (maxDischargeDepth := 40) +contextual only [State.demote, ↓State.enterMode_steady, ↓State.setFlag_steady,
    ↓State.toRole_steady, ↓State.toSyncing_steady, hk, 
    ↓State.steady_ite, 
    ite_self]

theorem State.pairBoth_steady (s : State) (name : String) (f : List Nat) (hk : s.steady.1 = true) : (State.pairBoth s name
  f).steady = s.steady := by
  simp (maxDischargeDepth := 40) +contextual only [State.pairBoth, ↓State.txPair_steady, hk, 
    ↓State.steady_ite, 
    ↓State.foldl_steady, ite_self, implies_true]

theorem State.hbSend_steady (s : State) (hk : s.steady.1 = true) : (State.hbSend s).steady = s.steady := by
  simp (maxDischargeDepth := 40) +contextual only [State.hbSend, ↓State.pairBoth_steady, hk, 
    ↓State.steady_ite, ↓State.steady_mk, ↓State.steady_fold,
    ite_self]

theorem State.hbVersion_steady (s : State) (v : Nat) (hk : s.steady.1 = true) : (State.hbVersion s v).steady = s.steady := by
  unfold State.hbVersion
  repeat' first
    | exact hk
    | (simp (maxDischargeDepth := 40) +contextual only [*, ↓State.setFlag_steady, ↓State.setFlagEach_steady,
      ↓State.toRole_steady, 
      ↓State.steady_ite, ↓State.steady_mk, ↓State.steady_fold, ite_self]; done)

theorem State.hbRole_steady (s : State) (h : Heartbeat) (hk : s.steady.1 = true) : (State.hbRole s h).steady = s.steady := by
  unfold State.hbRole; (repeat' split) <;> simp (maxDischargeDepth := 40) +contextual only [↓State.demote_steady,
    ↓State.toSyncing_steady, hk, 
    ↓State.steady_mk, ↓State.steady_fold]

theorem State.hbAck_steady (s : State) (h : Heartbeat) (hk : s.steady.1 = true) : (State.hbAck s h).steady = s.steady := by
  unfold State.hbAck; (repeat' split) <;> simp (maxDischargeDepth := 40) +contextual only [
    ↓State.steady_mk, ↓State.steady_fold]

theorem State.hbRx_steady (s : State) (path : Bool) (h : Heartbeat) (hk : s.steady.1 = true) : (State.hbRx s path h).steady
  = s.steady := by
  simp (maxDischargeDepth := 40) +contextual only [State.hbRx, ↓State.hbAck_steady, ↓State.hbRole_steady,
    ↓State.hbVersion_steady, ↓State.sawEpoch_steady, hk, upd_length, 
    ↓State.steady_ite, ↓State.steady_mk, ↓State.steady_fold, 
    ite_self]

theorem State.partnerLost_steady (s : State) (hk : s.steady.1 = true) : (State.partnerLost s).steady = s.steady := by
  unfold State.partnerLost; (repeat' split) <;> simp (maxDischargeDepth := 40) +contextual only [↓State.setFlag_steady,
    ↓State.setReg_steady, hk, 
    ↓State.steady_mk, ↓State.steady_fold]

theorem State.silentPath_steady (s : State) (b : Bool) (hk : s.steady.1 = true) : (State.silentPath s b).steady = s.steady := by
  unfold State.silentPath; (repeat' split) <;> simp (maxDischargeDepth := 40) +contextual only [↓State.atDue_steady,
    ↓State.bump_steady, ↓State.partnerLost_steady, ↓State.setFlagEach_steady, hk, upd_length, 
    ↓State.steady_ite, ↓State.steady_mk, ↓State.steady_fold,
    ite_self, implies_true]

theorem State.resolveJournal_steady (s : State) (hk : s.steady.1 = true) : (State.resolveJournal s).steady = s.steady := by
  simp (maxDischargeDepth := 40) +contextual only [State.resolveJournal, ↓State.logEv_steady, hk, 
    ↓State.steady_mk,
    ↓State.steady_fold, ↓State.foldl_steady, implies_true]

theorem State.takeoverDispatch_steady (s : State) (hk : s.steady.1 = true) : (State.takeoverDispatch s).steady = s.steady := by
  simp (maxDischargeDepth := 40) +contextual only [State.takeoverDispatch, ↓State.sendRegion_steady, hk, 
    ↓State.steady_ite, 
    ↓State.foldl_steady, ite_self, implies_true]

theorem State.resendRestr_steady (s : State) (hk : s.steady.1 = true) : (State.resendRestr s).steady = s.steady := by
  unfold State.resendRestr
  repeat' first
    | exact hk
    | (simp (maxDischargeDepth := 40) +contextual only [*, ↓State.sendRestrict_steady]; done)
    | split
    | refine State.foldl_steady _ _ _ ?_ (fun s x h => ?_)

theorem State.proofClear_steady (s : State) (hk : s.steady.1 = true) : (State.proofClear s).steady = s.steady := by
  simp (maxDischargeDepth := 40) +contextual only [State.proofClear, 
    ↓State.steady_mk, ↓State.steady_fold]

theorem State.takeSsr_steady (s : State) (hk : s.steady.1 = true) : (State.takeSsr s).steady = s.steady := by
  simp (maxDischargeDepth := 40) +contextual only [State.takeSsr, ↓State.spbDemand_steady, hk, 
    ↓State.steady_ite, ↓State.steady_mk, ↓State.steady_fold,
    ite_self]

theorem State.takeover_steady (s : State) (hk : s.steady.1 = true) : (s.takeover).steady = s.steady := by
  have hp : ∀ (t : State) (x : Pair), x.paths.length = t.pair.paths.length → ({ t with pair := x } : State).steady = t.steady :=
    fun t x h => by rw [State.steady_mk, h, State.steady_fold]
  unfold State.takeover
  extract_lets det proof s1
  have h1 : s1.steady = s.steady := s.toActive_steady hk
  have h2 := (hp s1 { s1.pair with
    proofSteps := if proof then some 0 else none, proofDir := s1.unitB, isolated := false } rfl).trans h1
  have h3 := State.steady_trans (fun h => State.setReg_steady _ Reg.PAIR_TKO_DET (word det) h) h2 hk
  refine State.steady_trans (fun h => State.safSettle_steady _ h) (State.steady_trans (fun h => State.resolveJournal_steady _ h)
    (State.steady_trans (fun h => State.takeSsr_steady _ h) ?_ hk) hk) hk
  refine State.steady_trans (fun h => State.setFlagEach_steady _ _ _ _ _ h) (State.steady_trans (fun h => State.bump_steady
    _ _ h)
    (State.steady_trans (fun h => State.snapTakeover_steady _ h) (State.steady_trans (fun h => State.resendRestr_steady _ h)
    (State.steady_trans (fun h => State.takeoverDispatch_steady _ h) (State.steady_trans (fun h => State.setReg_steady _ _ _ h)
      h3 hk) hk) hk) hk) hk) hk

theorem State.witnessJudge_steady (s : State) (hk : s.steady.1 = true) : (State.witnessJudge s).steady = s.steady := by
  simp (maxDischargeDepth := 40) +contextual only [State.witnessJudge, ↓State.setFlag_steady, ↓State.setReg_steady,
    ↓State.takeover_steady, hk, List.length_map, 
    ↓State.steady_ite, ↓State.steady_mk, ↓State.steady_fold, ite_self]

theorem State.witnessDecide_steady (s : State) (hk : s.steady.1 = true) : (State.witnessDecide s).steady = s.steady := by
  unfold State.witnessDecide; (repeat' split) <;> simp (maxDischargeDepth := 40) +contextual only [↓State.atDue_steady,
    ↓State.witnessJudge_steady, hk, 
    implies_true]

theorem State.witnessSeen_steady (s : State) (n : Nat) (w : Wit) (hk : s.steady.1 = true) : (State.witnessSeen s n w).steady
  = s.steady := by
  simp (maxDischargeDepth := 40) +contextual only [State.witnessSeen, ↓State.demote_steady, ↓State.sawEpoch_steady,
    ↓State.updLane_steady, hk, 
    ↓State.steady_ite, ↓State.steady_mk, ↓State.steady_fold, ite_self]

theorem State.sampleSeen_steady (s : State) (row step : Nat) (l : List Word) (hk : s.steady.1 = true) : (State.sampleSeen s
  row step l).steady = s.steady := by
  simp (maxDischargeDepth := 40) +contextual only [State.sampleSeen, 
    ↓State.steady_ite, ↓State.steady_mk, ↓State.steady_fold, 
    ite_self]

theorem State.sampleSend_steady (s : State) (hk : s.steady.1 = true) : (State.sampleSend s).steady = s.steady := by
  simp (maxDischargeDepth := 40) +contextual only [State.sampleSend, ↓State.txPair_steady, hk, 
    ↓State.steady_ite, 
    ite_self]

theorem State.reachOut_steady (s : State) (hk : s.steady.1 = true) : (State.reachOut s).steady = s.steady := by
  simp (maxDischargeDepth := 40) +contextual only [State.reachOut, ↓State.pairBoth_steady, ↓State.toAc_steady, hk,
    ↓State.steady_ite,
    ite_self]

theorem State.singleHomed_steady (s : State) (hk : s.steady.1 = true) : (State.singleHomed s).steady = s.steady := by
  simp (maxDischargeDepth := 40) +contextual only [State.singleHomed, ↓State.setFlagEach_steady, ↓State.updLane_steady, hk,
    ↓State.steady_ite,
    ↓State.foldl_steady, ite_self, implies_true]

theorem State.reachSeen_steady (s : State) (meterM : Bool) (reach linked : Nat) (hk : s.steady.1 = true) : (State.reachSeen
  s meterM reach linked).steady = s.steady := by
  unfold State.reachSeen
  repeat' first
    | exact hk
    | (simp (maxDischargeDepth := 40) +contextual only [*, ↓State.setFlagEach_steady, ↓State.singleHomed_steady,
      ↓State.toRole_steady, 
      ↓State.steady_ite, ↓State.steady_mk, ↓State.steady_fold, ite_self]; done)

theorem State.modeSettle_steady (s : State) (hk : s.steady.1 = true) : (State.modeSettle s).steady = s.steady := by
  simp (maxDischargeDepth := 40) +contextual only [State.modeSettle, ↓State.modeTargets_steady, hk, 
    ↓State.steady_ite, ↓State.steady_mk,
    ↓State.steady_fold, ite_self]

theorem State.ssrMirrored_steady (s : State) (hk : s.steady.1 = true) : (State.ssrMirrored s).steady = s.steady := by
  simp (maxDischargeDepth := 40) +contextual only [State.ssrMirrored, 
    ↓State.steady_ite, ↓State.steady_mk, ↓State.steady_fold, 
    ite_self]

theorem State.followMode_steady (s : State) (dest : Mode) (hk : s.steady.1 = true) : (State.followMode s dest).steady =
  s.steady := by
  simp (maxDischargeDepth := 40) +contextual only [State.followMode, ↓State.enterFields_steady, ↓State.enterTargets_steady,
    ↓State.rejoinTerm_steady, ↓State.safSettle_steady, ↓State.setReg_steady, ↓State.ssrMirrored_steady,
    ↓State.trigUpdate_steady, ↓State.when_steady, hk, 
    ↓State.steady_ite, ↓State.when_steady,
    ite_self, implies_true]

theorem State.markMode_steady (s : State) (m : Mark) (hk : s.steady.1 = true) : (State.markMode s m).steady = s.steady := by
  simp (maxDischargeDepth := 40) +contextual only [State.markMode, ↓State.followMode_steady, ↓State.modeSettle_steady, hk,
    ↓State.steady_ite,
    ite_self]

theorem State.pairMark_steady (s : State) (path : Bool) (m : Mark) (a : Nat) (hk : s.steady.1 = true) : (State.pairMark s
  path m a).steady = s.steady := by
  simp (maxDischargeDepth := 40) +contextual only [State.pairMark, ↓State.markMode_steady, ↓State.markRx_steady,
    ↓State.sawEpoch_steady, hk, 
    ↓State.steady_ite, ite_self]

theorem State.pairEchoes_steady (s : State) (hk : s.steady.1 = true) : (State.pairEchoes s).steady = s.steady := by
  simp (maxDischargeDepth := 40) +contextual only [State.pairEchoes, ↓State.txPair_steady, hk, upd_length, 
    ↓State.steady_ite, ↓State.steady_mk, ↓State.steady_fold,
    ↓State.foldl_steady, ite_self, implies_true]

theorem State.recordSend_steady (s : State) (hk : s.steady.1 = true) : (State.recordSend s).steady = s.steady := by
  simp (maxDischargeDepth := 40) +contextual only [State.recordSend, ↓State.emit_steady, hk, 
    ↓State.steady_ite, ↓State.steady_mk, ↓State.steady_fold,
    ite_self]

theorem State.diverged_steady (s : State) (own digest : Word) (hk : s.steady.1 = true) : (State.diverged s own
  digest).steady = s.steady := by
  simp (maxDischargeDepth := 40) +contextual only [State.diverged, ↓State.bump_steady, ↓State.logEv_steady,
    ↓State.setReg_steady, hk, 
    ↓State.steady_ite, ↓State.steady_mk, ↓State.steady_fold, ite_self]

theorem State.recordCompare_steady (s : State) (r : StepRec) (digest : Word) (hk : s.steady.1 = true) : (State.recordCompare
  s r digest).steady = s.steady := by
  simp (maxDischargeDepth := 40) +contextual only [State.recordCompare, ↓State.diverged_steady, hk, 
    ↓State.steady_ite, ↓State.steady_mk,
    ↓State.steady_fold, ite_self]

theorem State.recordSeen_steady (s : State) (r : StepRec) (digest : Word) (hk : s.steady.1 = true) : (State.recordSeen s r
  digest).steady = s.steady := by
  simp (maxDischargeDepth := 40) +contextual only [State.recordSeen, ↓State.recordCompare_steady, hk, 
    ↓State.steady_ite, ↓State.steady_mk,
    ↓State.steady_fold, ite_self]

theorem State.recMissAct_steady (s : State) (hk : s.steady.1 = true) : (State.recMissAct s).steady = s.steady := by
  simp (maxDischargeDepth := 40) +contextual only [State.recMissAct, ↓State.bump_steady, ↓State.setFlag_steady,
    ↓State.toAc_steady, hk, 
    ↓State.steady_ite, ↓State.steady_mk, ↓State.steady_fold, ite_self]

theorem State.measDivAct_steady (s : State) (hk : s.steady.1 = true) : (State.measDivAct s).steady = s.steady := by
  simp (maxDischargeDepth := 40) +contextual only [State.measDivAct, ↓State.setFlagEach_steady, hk, 
    ↓State.steady_ite, ↓State.steady_mk,
    ↓State.steady_fold, ite_self]

theorem State.measCompare_steady (s : State) (l : List (Int × Bool)) (hk : s.steady.1 = true) : (State.measCompare s
  l).steady = s.steady := by
  simp (maxDischargeDepth := 40) +contextual only [State.measCompare, 
    ↓State.steady_mk, ↓State.steady_fold]

theorem State.adoptMode_steady (s : State) (r : StepRec) (hk : s.steady.1 = true) : (State.adoptMode s r).steady = s.steady
  := by
  simp (maxDischargeDepth := 40) +contextual only [State.adoptMode, ↓State.safSettle_steady, ↓State.setReg_steady,
    ↓State.ssrMirrored_steady, ↓State.trigUpdate_steady, ↓State.when_steady, hk, 
    ↓State.steady_ite, ↓State.steady_mk, ↓State.steady_fold,
    ↓State.foldl_steady, ↓State.when_steady, ite_self, implies_true]

theorem State.adoptCmds_steady (s : State) (r : StepRec) (hk : s.steady.1 = true) : (State.adoptCmds s r).steady = s.steady
  := by
  unfold State.adoptCmds; (repeat' split) <;> simp (maxDischargeDepth := 40) +contextual only [
    ↓State.steady_mk,
    ↓State.steady_fold]

theorem State.adopt_steady (s : State) (r : StepRec) (hk : s.steady.1 = true) : (State.adopt s r).steady = s.steady := by
  unfold State.adopt; (repeat' split) <;> simp (maxDischargeDepth := 40) +contextual only [↓State.adoptCmds_steady,
    ↓State.adoptMode_steady, ↓State.mtrAdopt_steady, ↓State.updSm_steady, hk, 
    ↓State.steady_mk, ↓State.steady_fold,
    ↓State.foldl_steady, implies_true]

theorem State.adoptBoundary_steady (s : State) (hk : s.steady.1 = true) : (State.adoptBoundary s).steady = s.steady := by
  unfold State.adoptBoundary; (repeat' split) <;> simp (maxDischargeDepth := 40) +contextual only [↓State.adopt_steady,
    ↓State.adoptCmds_steady, ↓State.adoptMode_steady, hk, 
    ↓State.steady_mk, ↓State.steady_fold]

theorem State.transferStart_steady (s : State) (hk : s.steady.1 = true) : (State.transferStart s).steady = s.steady := by
  simp (maxDischargeDepth := 40) +contextual only [State.transferStart, ↓State.emit_steady, hk,
    ↓State.steady_ite,
    ↓State.steady_mk, ↓State.steady_fold, ite_self]

theorem State.transferDone_steady (s : State) (x : Transfer) (hk : s.steady.1 = true) : (State.transferDone s x).steady =
  s.steady := by
  simp (maxDischargeDepth := 40) +contextual only [State.transferDone, ↓State.setReg_steady, hk, 
    ↓State.steady_ite, ↓State.steady_mk,
    ↓State.steady_fold, ite_self]

theorem State.transferBoundary_steady (s : State) (hk : s.steady.1 = true) : (State.transferBoundary s).steady = s.steady := by
  unfold State.transferBoundary
  repeat' first
    | exact hk
    | (simp (maxDischargeDepth := 40) +contextual only [*, ↓State.adopt_steady, ↓State.toRole_steady, 
      ↓State.steady_ite, ↓State.steady_mk,
      ↓State.steady_fold]; done)
    | split

theorem State.handoverSend_steady (s : State) (x : Handover) (hk : s.steady.1 = true) : (State.handoverSend s x).steady =
  s.steady := by
  simp (maxDischargeDepth := 40) +contextual only [State.handoverSend, ↓State.pairBoth_steady, hk, 
    ↓State.foldl_steady, implies_true]

theorem State.startHandover_steady (s : State) (reason : Nat) (hk : s.steady.1 = true) : (State.startHandover s
  reason).2.steady = s.steady := by
  unfold State.startHandover; (repeat' split) <;> simp (maxDischargeDepth := 40) +contextual only
    [↓State.handoverSend_steady, hk, 
    ↓State.steady_ite, ↓State.steady_mk, ↓State.steady_fold, ite_self]

theorem State.handoverSeen_steady (s : State) (reason row step : Nat) (hk : s.steady.1 = true) : (State.handoverSeen s
  reason row step).steady = s.steady := by
  simp (maxDischargeDepth := 40) +contextual only [State.handoverSeen, 
    ↓State.steady_ite, ↓State.steady_mk, ↓State.steady_fold, 
    ite_self]

theorem State.revertAct_steady (s : State) (hk : s.steady.1 = true) : (State.revertAct s).steady = s.steady := by
  simp (maxDischargeDepth := 40) +contextual only [State.revertAct, ↓State.atDue_steady, ↓State.startHandover_steady, hk,
    ↓State.steady_ite,
    ite_self, implies_true]

theorem State.loneStartAct_steady (s : State) (hk : s.steady.1 = true) : (State.loneStartAct s).steady = s.steady := by
  unfold State.loneStartAct
  repeat' first
    | exact hk
    | (simp (maxDischargeDepth := 40) +contextual only [*, ↓State.atDue_steady, ↓State.toActive_steady, 
      ↓State.steady_ite, ↓State.steady_mk,
      ↓State.steady_fold, ite_self, implies_true]; done)

theorem State.handoverBoundary_steady (s : State) (hk : s.steady.1 = true) : (State.handoverBoundary s).steady = s.steady := by
  unfold State.handoverBoundary
  try dsimp only
  repeat' first
    | with_reducible rfl
    | with_reducible exact hk
    | with_reducible refine State.steady_trans (fun h => State.angDiscipline_steady _ _ h) ?_ hk
    | with_reducible refine State.steady_trans (fun h => State.bump_steady _ _ h) ?_ hk
    | with_reducible refine State.steady_trans (fun h => State.mtrTakeover_steady _ h) ?_ hk
    | with_reducible refine State.steady_trans (fun h => State.setFlag_steady _ _ _ _ _ h) ?_ hk
    | with_reducible refine State.steady_trans (fun h => State.setFlagEach_steady _ _ _ _ _ h) ?_ hk
    | with_reducible refine State.steady_trans (fun h => State.toActive_steady _ h) ?_ hk
    | with_reducible refine State.steady_trans (fun h => State.toRole_steady _ _ h) ?_ hk
    | simp only [↓State.steady_mk, ↓State.steady_fold]
    | with_reducible refine State.ite_steady (fun _ => ?_) (fun _ => ?_)
    | split

theorem State.handoverWanted_steady (s : State) (hk : s.steady.1 = true) : (State.handoverWanted s).steady = s.steady := by
  unfold State.handoverWanted; dsimp only; (repeat' split) <;> simp (maxDischargeDepth := 40) +contextual only
    [↓State.handoverSend_steady, ↓State.startHandover_steady, hk]

theorem State.qualBoundary_steady (s : State) (hk : s.steady.1 = true) : (State.qualBoundary s).steady = s.steady := by
  simp (maxDischargeDepth := 40) +contextual only [State.qualBoundary, ↓State.measDivAct_steady, ↓State.setReg_steady,
    ↓State.singleHomed_steady, hk, 
    ↓State.steady_mk, ↓State.steady_fold]

theorem State.proofResultAct_steady (s : State) (hk : s.steady.1 = true) : (State.proofResultAct s).steady = s.steady := by
  unfold State.proofResultAct; (repeat' split) <;> simp (maxDischargeDepth := 40) +contextual only [
    ↓State.setFlagEach_steady, ↓State.setReg_steady, hk, 
    ↓State.steady_ite, ↓State.steady_mk, ↓State.steady_fold, 
    ite_self]

theorem State.proofStart_steady (s : State) (hk : s.steady.1 = true) : (State.proofStart s).steady = s.steady := by
  simp (maxDischargeDepth := 40) +contextual only [State.proofStart, ↓State.idles_steady, hk, 
    ↓State.steady_mk, ↓State.steady_fold]

theorem State.proofSilenceEndAct_steady (s : State) (hk : s.steady.1 = true) : (State.proofSilenceEndAct s).steady =
  s.steady := by
  unfold State.proofSilenceEndAct
  repeat' first
    | exact hk
    | (simp (maxDischargeDepth := 40) +contextual only [*, ↓State.atDue_steady, ↓State.toSyncing_steady, 
      ↓State.steady_ite, ↓State.steady_mk,
      ↓State.steady_fold, ite_self, implies_true]; done)

theorem State.isolateAct_steady (s : State) (hk : s.steady.1 = true) : (State.isolateAct s).2.steady = s.steady := by
  unfold State.isolateAct
  repeat' first
    | exact hk
    | (simp (maxDischargeDepth := 40) +contextual only [*, ↓State.toRole_steady, 
      ↓State.steady_mk, ↓State.steady_fold]; done)
    | split

theorem State.rejoinPair_steady (s : State) (hk : s.steady.1 = true) : (State.rejoinPair s).2.steady = s.steady := by
  unfold State.rejoinPair
  repeat' first
    | exact hk
    | (simp (maxDischargeDepth := 40) +contextual only [*, ↓State.toSyncing_steady, 
      ↓State.steady_ite, ↓State.steady_mk, ↓State.steady_fold,
      ite_self]; done)
    | split

theorem execHeartbeatSend_steady (s t : State) (h : execHeartbeatSend s = .next t) (hk : s.steady.1 = true) :
    t.steady = s.steady := by
  exact State.live_steady h (State.hbSend_steady _ hk)

theorem execHeartbeatRx_steady (path : Bool) (h : Heartbeat) (s t : State) (h : execHeartbeatRx path h s = .next t) (hk :
  s.steady.1 = true) :
    t.steady = s.steady := by
  refine State.live_steady h ?_
  simp (maxDischargeDepth := 40) +contextual only [↓State.hbRx_steady, ↓State.linkBlock_steady, hk]

theorem execWitnessDecision_steady (s t : State) (h : execWitnessDecision s = .next t) (hk : s.steady.1 = true) :
    t.steady = s.steady := by
  exact State.live_steady h (State.witnessDecide_steady _ hk)

theorem execWitnessRx_steady (lane : Fin 20) (presA presB owner ownValid : Bool) (epoch : BitVec 16) (win : Fin 8) (step :
  Fin 1024) (s t : State) (h : execWitnessRx lane presA presB owner ownValid epoch win step s = .next t) (hk : s.steady.1 =
  true) :
    t.steady = s.steady := by
  refine State.live_steady h ?_
  simp (maxDischargeDepth := 40) +contextual only [↓State.linkBlock_steady, ↓State.witnessSeen_steady, hk]

theorem execSampleRx_steady (_unitB : Bool) (row : BitVec 22) (step : Fin 1024) (inputs : List Word) (s t : State) (h :
  execSampleRx _unitB row step inputs s = .next t) (hk : s.steady.1 = true) :
    t.steady = s.steady := by
  exact State.live_steady h (State.sampleSeen_steady _ _ _ _ hk)

theorem execReachSend_steady (s t : State) (h : execReachSend s = .next t) (hk : s.steady.1 = true) :
    t.steady = s.steady := by
  exact State.live_steady h (State.reachOut_steady _ hk)

theorem execReachRx_steady (_unitB meterM : Bool) (reach linked : BitVec 20) (s t : State) (h : execReachRx _unitB meterM
  reach linked s = .next t) (hk : s.steady.1 = true) :
    t.steady = s.steady := by
  exact State.live_steady h (State.reachSeen_steady _ _ _ _ hk)

theorem execPairMarkRx_steady (path : Bool) (m : Mark) (arrivalPs : Nat) (s t : State) (h : execPairMarkRx path m arrivalPs
  s = .next t) (hk : s.steady.1 = true) :
    t.steady = s.steady := by
  refine State.live_steady h ?_
  simp (maxDischargeDepth := 40) +contextual only [↓State.linkBlock_steady, ↓State.pairMark_steady, hk]

theorem execPairEchoReqRx_steady (path : Bool) (tag : BitVec 16) (turn : BitVec 24) (s t : State) (h : execPairEchoReqRx
  path tag turn s = .next t) (hk : s.steady.1 = true) :
    t.steady = s.steady := by
  refine State.live_steady h ?_
  simp (maxDischargeDepth := 40) +contextual only [↓State.linkBlock_steady, ↓State.txPair_steady, hk, 
    ↓State.steady_ite, 
    ite_self]

theorem execStepRecordRx_steady (r : StepRec) (digest : Word) (s t : State) (h : execStepRecordRx r digest s = .next t) (hk
  : s.steady.1 = true) :
    t.steady = s.steady := by
  exact State.live_steady h (State.recordSeen_steady _ _ _ hk)

theorem execRecMiss_steady (s t : State) (h : execRecMiss s = .next t) (hk : s.steady.1 = true) :
    t.steady = s.steady := by
  exact State.live_steady h (State.recMissAct_steady _ hk)

theorem execMeasDiv_steady (s t : State) (h : execMeasDiv s = .next t) (hk : s.steady.1 = true) :
    t.steady = s.steady := by
  exact State.live_steady h (State.measDivAct_steady _ hk)

theorem execStateTransferDone_steady (x : Transfer) (s t : State) (h : execStateTransferDone x s = .next t) (hk : s.steady.1
  = true) :
    t.steady = s.steady := by
  exact State.live_steady h (State.transferDone_steady _ _ hk)

theorem execHandoverRx_steady (_unitB : Bool) (reason : BitVec 3) (row : BitVec 22) (step : Fin 1024) (s t : State) (h :
  execHandoverRx _unitB reason row step s = .next t) (hk : s.steady.1 = true) :
    t.steady = s.steady := by
  exact State.live_steady h (State.handoverSeen_steady _ _ _ _ hk)

theorem execRevert_steady (s t : State) (h : execRevert s = .next t) (hk : s.steady.1 = true) :
    t.steady = s.steady := by
  exact State.live_steady h (State.revertAct_steady _ hk)

theorem execLoneStart_steady (s t : State) (h : execLoneStart s = .next t) (hk : s.steady.1 = true) :
    t.steady = s.steady := by
  exact State.live_steady h (State.loneStartAct_steady _ hk)

theorem execProofResult_steady (s t : State) (h : execProofResult s = .next t) (hk : s.steady.1 = true) :
    t.steady = s.steady := by
  exact State.live_steady h (State.proofResultAct_steady _ hk)

theorem execProofSilenceEnd_steady (s t : State) (h : execProofSilenceEnd s = .next t) (hk : s.steady.1 = true) :
    t.steady = s.steady := by
  exact State.live_steady h (State.proofSilenceEndAct_steady _ hk)

/-! ### Boot -/

/-- Indexing keeps the log without gaps and within its length (R416, R417, R421). -/

theorem Evlog.index_ok (l : List EvEntry) (r : Bool) (ev : Evlog) (h : ev.ok = true) : (ev.index l r).ok = true := by
  induction l generalizing ev with
  | nil => exact h
  | cons e l ih =>
    unfold Evlog.index
    rw [List.foldl_cons]
    refine ih _ ?_
    obtain ⟨h1, h2, h3, h4⟩ := (Evlog.ok_iff ev).mp h
    rw [Evlog.ok_iff]
    dsimp only
    generalize hx : ({ e with index := ev.next, subseq := _, restaged := r } : EvEntry) = x
    have hxi : x.index = ev.next := by rw [← hx]
    generalize 262144 = n at h2 ⊢
    refine ⟨h1, ?_, ?_, ?_⟩
    · rw [List.length_drop, List.length_append, List.length_singleton]; omega
    · rw [List.length_drop, List.length_append, List.length_singleton]
      split <;> omega
    · rw [List.map_drop, List.map_append, List.map_singleton, hxi, h4, ← h3, ← List.range'_1_concat, List.length_drop,
        List.length_append, List.length_singleton, List.drop_range']
      split
      · congr 1 <;> omega
      · congr 1 <;> omega


theorem State.evIndex_steady (s : State) (pick : EvEntry → Bool) (restaged : Bool) (hk : s.steady.1 = true) :
    (s.evIndex pick restaged).steady = s.steady := by
  obtain ⟨hr, hm, he⟩ := State.sound_of_steady hk
  unfold State.evIndex
  dsimp only
  have h1 : ({ s.sys.ev with staged := s.sys.ev.staged.filter (fun e => !pick e) } : Evlog).ok = true := by
    obtain ⟨h1, h2, h3, h4⟩ := (Evlog.ok_iff s.sys.ev).mp he
    exact (Evlog.ok_iff _).mpr ⟨Nat.le_trans (List.length_filter_le _ _) h1, h2, h3, h4⟩
  have h2 := Evlog.index_ok (sortBy (fun a b => a.key.le b.key) (s.sys.ev.staged.filter pick)) restaged _ h1
  have h3 : ∀ ev : Evlog, ev.ok = true → ({ s with sys := { s.sys with ev := ev } } : State).steady = s.steady :=
    fun ev h => State.steady_ext hk hr hm h rfl rfl rfl rfl rfl
  exact State.ite_steady (fun _ => State.steady_trans (fun h => State.setReg_steady _ _ _ h) (h3 _ h2) hk) (fun _ => h3 _ h2)

theorem State.evBoundary_steady (s : State) (hk : s.steady.1 = true) : (State.evBoundary s).steady = s.steady := by
  simp (maxDischargeDepth := 40) +contextual only [State.evBoundary, ↓State.evIndex_steady, hk]

theorem State.cleared_steady (s : State) (hk : s.steady.1 = true) : (s.cleared).steady = s.steady := by
  obtain ⟨_, _, he⟩ := State.sound_of_steady hk
  have hm : ∀ (l : List Nat) (m : List (Nat × Word)), mwf regReset m = true →
      mwf regReset (l.foldl (fun m a => regsSet m a (s.reg a)) m) = true := by
    intro l
    induction l with
    | nil => intro m h; exact h
    | cons a l ih => intro m h; exact ih _ (regsSet_mwf m a _ h)
  have hl := State.shape_of_steady hk
  have hs : s.cleared.shape = unitShape := by
    simp only [State.shape, unitShape, List.cons.injEq] at hl
    simp only [State.shape, State.cleared, List.length_map, hl.1, hl.2.2.1, hl.2.2.2.1, hl.2.2.2.2.1, hl.2.2.2.2.2.2.2.2.2.2.1,
      hl.2.2.2.2.2.2.2.2.2.2.2.1, hl.2.2.2.2.2.2.2.2.2.2.2.2.2.1]
    rfl
  exact State.steady_ext hk (show rateOk State.reset.ang.rate = true by decide) (hm _ [] rfl) he (hs.trans hl.symm) rfl rfl
    rfl rfl

theorem State.resetNow_steady (s : State) (cause : Nat) (rail : Nat) (hk : s.steady.1 = true) : (State.resetNow s cause
  rail).steady = s.steady := by
  simp (maxDischargeDepth := 40) +contextual only [State.resetNow, ↓State.bump_steady, 
    ↓State.cleared_steady, ↓State.emits_steady, ↓State.logEv_steady, hk, 
    ↓State.steady_ite, ↓State.steady_mk, ↓State.steady_fold, 
    ite_self]

theorem State.resetVia_steady (s : State) (cause reason : Nat) (hk : s.steady.1 = true) : (State.resetVia s cause
  reason).steady = s.steady := by
  simp (maxDischargeDepth := 40) +contextual only [State.resetVia, ↓State.resetNow_steady,
    ↓State.startHandover_steady, hk, 
    ↓State.steady_ite, ↓State.steady_mk, ↓State.steady_fold, ite_self]

theorem State.resetBoundary_steady (s : State) (hk : s.steady.1 = true) : (State.resetBoundary s).steady = s.steady := by
  unfold State.resetBoundary; (repeat' split) <;> simp (maxDischargeDepth := 40) +contextual only [↓State.resetNow_steady,
    hk, 
    ↓State.steady_mk, ↓State.steady_fold]

theorem State.resettable_steady {s t u : State} (h : s.resettable t = .next u) (ht : t.steady = s.steady) :
    u.steady = s.steady := by
  obtain rfl := Host.Outcome.next.inj h
  exact State.ite_steady (fun _ => ht) (fun _ => rfl)


theorem State.resetPress_steady (s : State) (hk : s.steady.1 = true) : s.resetPress.steady = s.steady := by
  unfold State.resetPress
  exact State.ite_steady (fun _ => rfl) (fun _ => State.resetVia_steady _ _ _ hk)

theorem State.vinSet_steady (s : State) (b : Bool) (mv : Nat) (hk : s.steady.1 = true) : (State.vinSet s b mv).steady =
  s.steady := by
  simp (maxDischargeDepth := 40) +contextual only [State.vinSet, 
    ↓State.steady_ite, ↓State.steady_mk, ↓State.steady_fold, 
    ite_self]

theorem State.inputLost_steady (s : State) (b : Bool) (mv : Nat) (hk : s.steady.1 = true) : (State.inputLost s b mv).steady
  = s.steady := by
  simp (maxDischargeDepth := 40) +contextual only [State.inputLost, ↓State.setFlagEach_steady, ↓State.vinSet_steady, hk,
    ↓State.steady_ite,
    ite_self]

theorem State.powerWarn_steady (s : State) (a b : Nat) (hk : s.steady.1 = true) : (State.powerWarn s a b).steady = s.steady
  := by
  simp (maxDischargeDepth := 40) +contextual only [State.powerWarn, ↓State.bump_steady, ↓State.setFlagEach_steady,
    ↓State.vinSet_steady, hk, 
    ↓State.steady_ite, ↓State.steady_mk, ↓State.steady_fold, ite_self]

theorem State.powerClear_steady (s : State) (a b : Nat) (hk : s.steady.1 = true) : (State.powerClear s a b).steady =
  s.steady := by
  simp (maxDischargeDepth := 40) +contextual only [State.powerClear, ↓State.bump_steady, ↓State.retvCheck_steady,
    ↓State.setFlagEach_steady, ↓State.vinSet_steady, hk, 
    ↓State.steady_ite, ↓State.steady_mk, ↓State.steady_fold, 
    ite_self]

theorem State.lifelineCapture_steady (s : State) (hk : s.steady.1 = true) : (State.lifelineCapture s).steady = s.steady := by
  simp (maxDischargeDepth := 40) +contextual only [State.lifelineCapture, 
    ↓State.steady_ite, ↓State.steady_mk, ↓State.steady_fold,
    ite_self]

theorem State.lifelineDone_steady (s : State) (ok : Bool) (hk : s.steady.1 = true) : (State.lifelineDone s ok).steady =
  s.steady := by
  simp (maxDischargeDepth := 40) +contextual only [State.lifelineDone, ↓State.retvCheck_steady, ↓State.setFlag_steady, hk,
    ↓State.steady_ite,
    ↓State.steady_mk, ↓State.steady_fold, ite_self]

theorem State.clockCause_steady (s : State) (hard qual : Bool) (hk : s.steady.1 = true) : (State.clockCause s hard
  qual).steady = s.steady := by
  simp (maxDischargeDepth := 40) +contextual only [State.clockCause, ↓State.setFlag_steady, ↓State.spbDemand_steady,
    ↓State.ssrDemand_steady, ↓State.startHandover_steady, hk, 
    ↓State.steady_ite, ↓State.steady_mk, ↓State.steady_fold, 
    ite_self]

theorem State.pllSet_steady (s : State) (n : Nat) (b : Bool) (hk : s.steady.1 = true) : (State.pllSet s n b).steady =
  s.steady := by
  simp (maxDischargeDepth := 40) +contextual only [State.pllSet, 
    List.length_set, ↓State.steady_mk, ↓State.steady_fold]

theorem State.lossDeclared_steady (s : State) (flag : Nat) (cls : Nat) (hk : s.steady.1 = true) : (State.lossDeclared s flag
  cls).steady = s.steady := by
  simp (maxDischargeDepth := 40) +contextual only [State.lossDeclared, ↓State.bump_steady, ↓State.setFlagEach_steady, hk]

theorem State.toBackup_steady (s : State) (hk : s.steady.1 = true) : (State.toBackup s).steady = s.steady := by
  simp (maxDischargeDepth := 40) +contextual only [State.toBackup, ↓State.emits_steady, hk, 
    ↓State.steady_ite, ↓State.steady_mk, ↓State.steady_fold,
    ite_self]

theorem State.spllLoss_steady (s : State) (hk : s.steady.1 = true) : (State.spllLoss s).steady = s.steady := by
  simp (maxDischargeDepth := 40) +contextual only [State.spllLoss, ↓State.clockCause_steady, ↓State.lossDeclared_steady,
    ↓State.pllSet_steady, ↓State.toBackup_steady, hk, 
    ↓State.steady_ite, 
    ite_self]

theorem State.refLoss_steady (s : State) (hk : s.steady.1 = true) : (State.refLoss s).steady = s.steady := by
  unfold State.refLoss
  repeat' first
    | exact hk
    | (simp (maxDischargeDepth := 40) +contextual only [*, ↓State.clockCause_steady, ↓State.lolAct_steady,
      ↓State.lossDeclared_steady, ↓State.pllSet_steady, ↓State.toBackup_steady, 
      ↓State.steady_ite, ↓State.steady_mk, ↓State.steady_fold,
      ↓State.foldl_steady, ite_self, implies_true]; done)

theorem State.qpllLoss_steady (s : State) (q : Nat) (hk : s.steady.1 = true) : (State.qpllLoss s q).steady = s.steady := by
  unfold State.qpllLoss
  repeat' first
    | exact hk
    | (simp (maxDischargeDepth := 40) +contextual only [*, ↓State.lolAct_steady, ↓State.lossDeclared_steady,
      ↓State.pllSet_steady, 
      ↓State.steady_ite, ↓State.foldl_steady, ite_self,
      implies_true]; done)

theorem State.apllLoss_steady (s : State) (hk : s.steady.1 = true) : (State.apllLoss s).steady = s.steady := by
  simp (maxDischargeDepth := 40) +contextual only [State.apllLoss, ↓State.lossDeclared_steady, ↓State.pllSet_steady, hk,
    ↓State.steady_ite,
    ↓State.steady_mk, ↓State.steady_fold, ite_self]

theorem State.apllLateAct_steady (s : State) (hk : s.steady.1 = true) : (State.apllLateAct s).steady = s.steady := by
  simp (maxDischargeDepth := 40) +contextual only [State.apllLateAct, ↓State.clockCause_steady, hk, 
    ↓State.steady_mk,
    ↓State.steady_fold]

theorem State.dpllLoss_steady (s : State) (hk : s.steady.1 = true) : (State.dpllLoss s).steady = s.steady := by
  simp (maxDischargeDepth := 40) +contextual only [State.dpllLoss, ↓State.clockCause_steady, ↓State.lossDeclared_steady,
    ↓State.pllSet_steady, ↓State.resetNow_steady, hk, 
    ↓State.steady_ite, ↓State.steady_mk, ↓State.steady_fold, 
    ite_self]

theorem State.bpllLoss_steady (s : State) (hk : s.steady.1 = true) : (State.bpllLoss s).steady = s.steady := by
  simp (maxDischargeDepth := 40) +contextual only [State.bpllLoss, ↓State.lossDeclared_steady, ↓State.pllSet_steady,
    ↓State.toBackup_steady, hk, 
    ↓State.steady_ite, ↓State.steady_mk, ↓State.steady_fold, ite_self]

theorem State.firmwareReset_steady (s : State) (reg flag : Nat) (hk : s.steady.1 = true) : (State.firmwareReset s reg
  flag).steady = s.steady := by
  simp (maxDischargeDepth := 40) +contextual only [State.firmwareReset, ↓State.logEv_steady, ↓State.resetVia_steady, hk]

theorem State.sramError_steady (s : State) (w : Nat) (corrected : Bool) (u : SramUser) (hk : s.steady.1 = true) :
  (State.sramError s w corrected u).steady = s.steady := by
  unfold State.sramError; dsimp only; (repeat' split) <;> simp (maxDischargeDepth := 40) +contextual only
    [↓State.dropNewest_steady, ↓State.firmwareReset_steady, ↓State.nakOut_steady,
    ↓State.retrain_steady, ↓State.sramCe_steady, ↓State.sramUe_steady, ↓State.updAssoc_steady, hk]

theorem State.dramPatrolAct_steady (s : State) (addr : Nat) (err : Option Bool) (hk : s.steady.1 = true) :
  (State.dramPatrolAct s addr err).steady = s.steady := by
  unfold State.dramPatrolAct; (repeat' split) <;> simp (maxDischargeDepth := 40) +contextual only [↓State.acqBurst_steady,
    ↓State.bump_steady, ↓State.firmwareReset_steady, ↓State.ledgerBurst_steady, ↓State.setFlag_steady,
    ↓State.setFlagEach_steady, ↓State.setReg_steady, hk]

theorem State.zeroKeys_steady (s : State) (hk : s.steady.1 = true) : (State.zeroKeys s).steady = s.steady := by
  simp (maxDischargeDepth := 40) +contextual only [State.zeroKeys, 
    ↓State.steady_mk, ↓State.steady_fold]

theorem State.zeroise_steady (s : State) (hk : s.steady.1 = true) : (State.zeroise s).steady = s.steady := by
  simp (maxDischargeDepth := 40) +contextual only [State.zeroise, ↓State.bump_steady, ↓State.setFlagEach_steady,
    ↓State.setReg_steady, ↓State.zeroKeys_steady, hk, 
    ↓State.steady_mk, ↓State.steady_fold]

theorem State.tamperOpenAct_steady (s : State) (hk : s.steady.1 = true) : (State.tamperOpenAct s).steady = s.steady := by
  simp (maxDischargeDepth := 40) +contextual only [State.tamperOpenAct, ↓State.zeroise_steady, hk, 
    ↓State.steady_ite, ↓State.steady_mk,
    ↓State.steady_fold, ite_self]

theorem State.bootImage_steady (s : State) (hk : s.steady.1 = true) : (State.bootImage s).steady = s.steady := by
  unfold State.bootImage; dsimp only; (repeat' split) <;> simp (maxDischargeDepth := 40) +contextual only
    [↓State.ownInc_steady, ↓State.setFlag_steady, hk, 
    ↓State.steady_mk, ↓State.steady_fold]

theorem State.bandsCal_steady (s : State) (hk : s.steady.1 = true) : (State.bandsCal s).steady = s.steady := by
  simp (maxDischargeDepth := 40) +contextual only [State.bandsCal, ↓State.draw_steady, ↓State.setReg_steady, hk, 
    ↓State.foldl_steady, implies_true]

theorem State.vinAtStart_steady (s : State) (hk : s.steady.1 = true) : (State.vinAtStart s).steady = s.steady := by
  simp (maxDischargeDepth := 40) +contextual only [State.vinAtStart, ↓State.draw_steady, ↓State.vinSet_steady, hk,
    ↓State.steady_ite,
    ite_self]

theorem State.discardJournal_steady (s : State) (hk : s.steady.1 = true) : (State.discardJournal s).steady = s.steady := by
  simp (maxDischargeDepth := 40) +contextual only [State.discardJournal, ↓State.logEv_steady, hk, 
    ↓State.steady_mk,
    ↓State.steady_fold, ↓State.foldl_steady, implies_true]

theorem State.mtrRestore_steady (s : State) (hk : s.steady.1 = true) : (State.mtrRestore s).steady = s.steady := by
  unfold State.mtrRestore; (repeat' split) <;> simp (maxDischargeDepth := 40) +contextual only [↓State.setFlag_steady, hk,
    ↓State.steady_mk, ↓State.steady_fold]

theorem State.calStart_steady (s : State) (hk : s.steady.1 = true) : (State.calStart s).steady = s.steady := by
  unfold State.calStart
  repeat' first
    | exact hk
    | (simp (maxDischargeDepth := 40) +contextual only [*, ↓State.calShow_steady, ↓State.draw_steady,
      ↓State.setFlag_steady, 
      ↓State.steady_ite, ↓State.steady_mk, ↓State.steady_fold, ite_self]; done)

theorem State.cagesStart_steady (s : State) (hk : s.steady.1 = true) : (State.cagesStart s).steady = s.steady := by
  simp (maxDischargeDepth := 40) +contextual only [State.cagesStart, ↓State.cageUse_steady, ↓State.setReg_steady,
    ↓State.updPort_steady, hk, 
    ↓State.steady_ite, ↓State.foldl_steady, ite_self,
    implies_true]

theorem State.startPower_steady (s : State) (hk : s.steady.1 = true) : (s.startPower).steady = s.steady := by
  have hl := State.shape_of_steady hk
  simp only [State.shape, unitShape, List.cons.injEq] at hl
  have h10 : (List.replicate 10 true).length = s.clk.lock.length := by
    rw [List.length_replicate]; exact hl.2.2.2.2.2.2.2.2.2.2.2.2.1.symm
  unfold State.startPower
  dsimp only
  refine State.steady_trans (fun h => State.vinAtStart_steady _ h) (State.steady_trans (fun h => State.bandsCal_steady _ h)
    ?_ hk) hk
  rw [State.steady_mk, h10, State.steady_fold]

theorem State.startRun_steady (s : State) (hk : s.steady.1 = true) : (State.startRun s).steady = s.steady := by
  unfold State.startRun
  try dsimp only
  repeat' first
    | with_reducible rfl
    | with_reducible exact hk
    | with_reducible refine State.steady_trans (fun h => State.draw_steady _ h) ?_ hk
    | with_reducible refine State.steady_trans (fun h => State.evIndex_steady _ _ _ h) ?_ hk
    | with_reducible refine State.steady_trans (fun h => State.setFlag_steady _ _ _ _ _ h) ?_ hk
    | with_reducible refine State.steady_trans (fun h => State.when_steady _ _ _ h (fun hk => ?_)) ?_ hk

theorem State.startLost_steady (s : State) (hk : s.steady.1 = true) : (State.startLost s).steady = s.steady := by
  unfold State.startLost; (repeat' split) <;> simp (maxDischargeDepth := 40) +contextual only [↓State.logEv_steady, hk,
    ↓State.steady_mk, ↓State.steady_fold]

theorem State.startImage_steady (s : State) (hk : s.steady.1 = true) : (State.startImage s).steady = s.steady := by
  simp (maxDischargeDepth := 40) +contextual only [State.startImage, ↓State.cagesStart_steady, ↓State.calStart_steady,
    ↓State.cfgLoad_steady, ↓State.discardJournal_steady, ↓State.imageLoad_steady, ↓State.logEv_steady,
    ↓State.mtrRestore_steady, ↓State.startLost_steady, ↓State.when_steady, hk, 
    ↓State.when_steady, implies_true]

theorem State.unitStart_steady (s : State) (hk : s.steady.1 = true) : (State.unitStart s).steady = s.steady := by
  simp (maxDischargeDepth := 40) +contextual only [State.unitStart, ↓State.bootImage_steady, ↓State.startImage_steady,
    ↓State.startPower_steady, ↓State.startRun_steady, ↓State.when_steady, ↓State.zeroise_steady, hk, 
    ↓State.steady_ite, 
    ↓State.when_steady, ite_self, implies_true]

theorem State.startRole_steady (s : State) (hk : s.steady.1 = true) : (State.startRole s).steady = s.steady := by
  unfold State.startRole
  repeat' first
    | exact hk
    | (simp (maxDischargeDepth := 40) +contextual only [*, ↓State.toActive_steady, ↓State.toRole_steady,
      ↓State.toSyncing_steady, 
      ↓State.steady_ite, ↓State.steady_mk, ↓State.steady_fold, ite_self]; done)

theorem State.relayUpdate_steady (s : State) (hk : s.steady.1 = true) : (State.relayUpdate s).steady = s.steady := by
  simp (maxDischargeDepth := 40) +contextual only [State.relayUpdate, ↓State.emit_steady, hk, 
    ↓State.steady_ite, ↓State.steady_mk, ↓State.steady_fold,
    ite_self]

theorem State.minverRaise_steady (s : State) (hk : s.steady.1 = true) : (State.minverRaise s).steady = s.steady := by
  unfold State.minverRaise; (repeat' split) <;> simp (maxDischargeDepth := 40) +contextual only [↓State.setReg_steady, hk]

theorem State.initComplete_steady (s : State) (pass : Bool) (hk : s.steady.1 = true) : (State.initComplete s pass).steady =
  s.steady := by
  simp (maxDischargeDepth := 40) +contextual only [State.initComplete, ↓State.angStart_steady, ↓State.enterMode_steady,
    ↓State.minverRaise_steady, ↓State.relayUpdate_steady, ↓State.startRole_steady,
    ↓State.unmappedCheck_steady, hk, 
    ↓State.steady_ite, ite_self]

theorem execSupplyReset_steady (s t : State) (h : execSupplyReset s = .next t) (hk : s.steady.1 = true) :
    t.steady = s.steady := by
  exact State.resettable_steady h (State.resetNow_steady _ _ _ hk)

theorem execRailFault_steady (rail : Fin 6) (s t : State) (h : execRailFault rail s = .next t) (hk : s.steady.1 = true) :
    t.steady = s.steady := by
  exact State.resettable_steady h (State.resetNow_steady _ _ _ hk)

theorem execWatchdogReset_steady (s t : State) (h : execWatchdogReset s = .next t) (hk : s.steady.1 = true) :
    t.steady = s.steady := by
  exact State.resettable_steady h (State.resetNow_steady _ _ _ hk)

theorem execResetInPress_steady (s t : State) (h : execResetInPress s = .next t) (hk : s.steady.1 = true) :
    t.steady = s.steady := by
  exact State.resettable_steady h (State.resetPress_steady _ hk)

theorem execResetInHandoverTimeout_steady (s t : State) (h : execResetInHandoverTimeout s = .next t) (hk : s.steady.1 = true) :
    t.steady = s.steady := by
  refine State.live_steady h ?_
  try dsimp only
  repeat' first
    | with_reducible rfl
    | with_reducible exact hk
    | with_reducible refine State.steady_trans (fun h => State.resetNow_steady _ _ _ h) ?_ hk
    | simp only [↓State.steady_mk, ↓State.steady_fold, upd_length, List.length_map, List.length_mapIdx, List.length_set]
    | with_reducible refine State.ite_steady (fun _ => ?_) (fun _ => ?_)
    | split

theorem execRstStuck_steady (s t : State) (h : execRstStuck s = .next t) (hk : s.steady.1 = true) :
    t.steady = s.steady := by
  refine State.live_steady h ?_
  simp (maxDischargeDepth := 40) +contextual only [↓State.setFlagEach_steady, hk, 
    ↓State.steady_ite, ↓State.steady_mk, ↓State.steady_fold,
    ite_self]

theorem execRstStuckClear_steady (s t : State) (h : execRstStuckClear s = .next t) (hk : s.steady.1 = true) :
    t.steady = s.steady := by
  refine State.live_steady h ?_
  simp (maxDischargeDepth := 40) +contextual only [
    ↓State.steady_mk, ↓State.steady_fold]

theorem execInputLost_steady (b : Bool) (mv : Word) (s t : State) (h : execInputLost b mv s = .next t) (hk : s.steady.1 =
  true) :
    t.steady = s.steady := by
  exact State.next_steady h (State.inputLost_steady _ _ _ hk)

theorem execInputRestored_steady (b : Bool) (mv : Word) (s t : State) (h : execInputRestored b mv s = .next t) (hk :
  s.steady.1 = true) :
    t.steady = s.steady := by
  refine State.next_steady h ?_
  simp (maxDischargeDepth := 40) +contextual only [↓State.vinSet_steady, hk, 
    ↓State.steady_ite, 
    ite_self]

theorem execPowerWarn_steady (mvA mvB : Word) (s t : State) (h : execPowerWarn mvA mvB s = .next t) (hk : s.steady.1 = true) :
    t.steady = s.steady := by
  exact State.live_steady h (State.powerWarn_steady _ _ _ hk)

theorem execPowerWarnClear_steady (mvA mvB : Word) (s t : State) (h : execPowerWarnClear mvA mvB s = .next t) (hk :
  s.steady.1 = true) :
    t.steady = s.steady := by
  exact State.live_steady h (State.powerClear_steady _ _ _ hk)

theorem execLifelineDone_steady (ok : Bool) (s t : State) (h : execLifelineDone ok s = .next t) (hk : s.steady.1 = true) :
    t.steady = s.steady := by
  exact State.live_steady h (State.lifelineDone_steady _ _ hk)

theorem execSpllLoss_steady (s t : State) (h : execSpllLoss s = .next t) (hk : s.steady.1 = true) :
    t.steady = s.steady := by
  exact State.live_steady h (State.spllLoss_steady _ hk)

theorem execRefLost_steady (s t : State) (h : execRefLost s = .next t) (hk : s.steady.1 = true) :
    t.steady = s.steady := by
  exact State.live_steady h (State.refLoss_steady _ hk)

theorem execQpllLoss_steady (q : Fin 6) (s t : State) (h : execQpllLoss q s = .next t) (hk : s.steady.1 = true) :
    t.steady = s.steady := by
  exact State.live_steady h (State.qpllLoss_steady _ _ hk)

theorem execQpllRelock_steady (q : Fin 6) (ok : Bool) (s t : State) (h : execQpllRelock q ok s = .next t) (hk : s.steady.1 =
  true) :
    t.steady = s.steady := by
  refine State.live_steady h ?_
  simp (maxDischargeDepth := 40) +contextual only [↓State.pllSet_steady, hk, 
    ↓State.steady_ite, 
    ite_self]

theorem execApllLoss_steady (s t : State) (h : execApllLoss s = .next t) (hk : s.steady.1 = true) :
    t.steady = s.steady := by
  exact State.live_steady h (State.apllLoss_steady _ hk)

theorem execApllRelock_steady (s t : State) (h : execApllRelock s = .next t) (hk : s.steady.1 = true) :
    t.steady = s.steady := by
  refine State.live_steady h ?_
  simp (maxDischargeDepth := 40) +contextual only [↓State.pllSet_steady, hk, 
    ↓State.steady_ite, ↓State.steady_mk, ↓State.steady_fold,
    ite_self]

theorem execApllRelockTimeout_steady (s t : State) (h : execApllRelockTimeout s = .next t) (hk : s.steady.1 = true) :
    t.steady = s.steady := by
  refine State.live_steady h ?_
  split
  · exact s.atDue_steady _ _ hk (fun u h => u.apllLateAct_steady h)
  · rfl

theorem execDpllLoss_steady (s t : State) (h : execDpllLoss s = .next t) (hk : s.steady.1 = true) :
    t.steady = s.steady := by
  exact State.live_steady h (State.dpllLoss_steady _ hk)

theorem execBpllLoss_steady (s t : State) (h : execBpllLoss s = .next t) (hk : s.steady.1 = true) :
    t.steady = s.steady := by
  exact State.live_steady h (State.bpllLoss_steady _ hk)

theorem execSramEccError_steady (addr : BitVec 20) (corrected : Bool) (user : SramUser) (s t : State) (h : execSramEccError
  addr corrected user s = .next t) (hk : s.steady.1 = true) :
    t.steady = s.steady := by
  exact State.live_steady h (State.sramError_steady _ _ _ _ hk)

theorem execDramPatrol_steady (addr : Word) (err : Option Bool) (s t : State) (h : execDramPatrol addr err s = .next t) (hk
  : s.steady.1 = true) :
    t.steady = s.steady := by
  exact State.live_steady h (State.dramPatrolAct_steady _ _ _ hk)

theorem execTamperOpen_steady (s t : State) (h : execTamperOpen s = .next t) (hk : s.steady.1 = true) :
    t.steady = s.steady := by
  refine State.next_steady h ?_
  simp (maxDischargeDepth := 40) +contextual only [↓State.tamperOpenAct_steady, hk]

theorem execUnitStart_steady (s t : State) (h : execUnitStart s = .next t) (hk : s.steady.1 = true) :
    t.steady = s.steady := by
  refine State.next_steady h ?_
  simp (maxDischargeDepth := 40) +contextual only [↓State.unitStart_steady, hk]

/-! ### RegWrite -/

theorem State.rawWrite_steady (s : State) (a : Nat) (v : Word) (hk : s.steady.1 = true) : (State.rawWrite s a v).steady =
  s.steady := by
  simp (maxDischargeDepth := 40) +contextual only [State.rawWrite, ↓State.setReg_steady, hk]

theorem State.rawEntry_steady (s : State) (e : RegEntry) (hk : s.steady.1 = true) : (State.rawEntry s e).steady = s.steady := by
  simp (maxDischargeDepth := 40) +contextual only [State.rawEntry, ↓State.rawWrite_steady, hk, 
    ↓State.steady_ite, 
    ite_self]

theorem State.rawSet_steady (s : State) (es : List RegEntry) (hk : s.steady.1 = true) : (State.rawSet s es).steady =
  s.steady := by
  simp (maxDischargeDepth := 40) +contextual only [State.rawSet, ↓State.rawEntry_steady, hk, 
    ↓State.foldl_steady, implies_true]

theorem State.staged_steady (s : State) (t : Nat) (hk : s.steady.1 = true) : (State.staged s t).steady = s.steady := by
  simp (maxDischargeDepth := 40) +contextual only [State.staged, ↓State.rawSet_steady, hk, 
    ↓State.foldl_steady, implies_true]

theorem State.mark_steady (s : State) (a : Nat) (hk : s.steady.1 = true) : (State.mark s a).steady = s.steady := by
  simp (maxDischargeDepth := 40) +contextual only [State.mark, 
    ↓State.steady_ite, ↓State.steady_mk, ↓State.steady_fold, 
    ite_self]

theorem State.putEntry_steady (s : State) (serial : List Byte) (e : RegEntry) (hk : s.steady.1 = true) : (State.putEntry s
  serial e).steady = s.steady := by
  simp (maxDischargeDepth := 40) +contextual only [State.putEntry, ↓State.mark_steady, ↓State.sealedWrite_steady,
    ↓State.setReg_steady, hk, 
    ↓State.steady_ite, ite_self]

theorem State.laneCfg_steady (s0 s : State) (n : Nat) (hk : s.steady.1 = true) : (State.laneCfg s0 s n).steady = s.steady := by
  unfold State.laneCfg
  try dsimp only
  repeat' first
    | with_reducible rfl
    | with_reducible exact hk
    | with_reducible refine State.steady_trans (fun h => State.assess_steady _ _ h) ?_ hk
    | with_reducible refine State.steady_trans (fun h => State.routeLost_steady _ _ h) ?_ hk
    | with_reducible refine State.steady_trans (fun h => State.foldl_steady _ _ _ h (fun s x hk => ?_)) ?_ hk
    | simp only [↓State.steady_mk, ↓State.steady_fold, upd_length, List.length_map, List.length_mapIdx, List.length_set]
    | with_reducible refine State.ite_steady (fun _ => ?_) (fun _ => ?_)
    | split

theorem State.angleMask_steady (s : State) (hk : s.steady.1 = true) : (State.angleMask s).steady = s.steady := by
  simp (maxDischargeDepth := 40) +contextual only [State.angleMask, ↓State.updChan_steady, hk, 
    ↓State.steady_ite, 
    ↓State.foldl_steady, ite_self, implies_true]

theorem State.tripCfg_steady (s0 s : State) (i : Nat) (hk : s.steady.1 = true) : (State.tripCfg s0 s i).steady = s.steady := by
  simp (maxDischargeDepth := 40) +contextual only [State.tripCfg, ↓State.tripLatch_steady, ↓State.updTrip_steady, hk,
    ↓State.steady_ite,
    ite_self]

theorem State.calCfg_steady (s : State) (hk : s.steady.1 = true) : (State.calCfg s).steady = s.steady := by
  simp (maxDischargeDepth := 40) +contextual only [State.calCfg, ↓State.calShow_steady, hk, 
    ↓State.steady_mk, ↓State.steady_fold]

theorem State.pairCfg_steady (s0 s : State) (hk : s.steady.1 = true) : (State.pairCfg s0 s).steady = s.steady := by
  unfold State.pairCfg
  repeat' first
    | exact hk
    | (simp (maxDischargeDepth := 40) +contextual only [*, ↓State.startRole_steady, 
      ↓State.steady_ite, 
      ite_self]; done)

theorem State.writeHook_steady (s0 s : State) (a : Nat) (v : Word) (hk : s.steady.1 = true) : (State.writeHook s0 s a
  v).steady = s.steady := by
  unfold State.writeHook
  repeat' first
    | exact hk
    | (simp (maxDischargeDepth := 40) +contextual only [*, ↓State.angleMask_steady, ↓State.armCfgChanged_steady,
      ↓State.calCfg_steady, ↓State.calSetAct_steady, ↓State.chanChanged_steady, ↓State.laneCfg_steady,
      ↓State.onceCheck_steady, ↓State.pairCfg_steady, ↓State.phyCfgAct_steady, ↓State.pwmSetEn_steady, ↓State.refTo_steady,
      ↓State.setReg_steady, ↓State.slotEnable_steady, ↓State.trgEnable_steady, ↓State.trigUpdate_steady,
      ↓State.tripCfg_steady, ↓State.updCtr_steady, ↓State.utcSet_steady, 
      ↓State.steady_ite, 
      ↓State.foldl_steady, ite_self, implies_true]; done)
    | split

theorem State.pairAct_steady (s : State) (k : Nat) (hk : s.steady.1 = true) : (State.pairAct s k).2.steady = s.steady := by
  unfold State.pairAct
  repeat' first
    | exact hk
    | (simp (maxDischargeDepth := 40) +contextual only [*, ↓State.isolateAct_steady, ↓State.proofStart_steady,
      ↓State.rejoinPair_steady, ↓State.startHandover_steady]; done)
    | split

theorem State.tamperClear_steady (s : State) (hk : s.steady.1 = true) : (State.tamperClear s).steady = s.steady := by
  simp (maxDischargeDepth := 40) +contextual only [State.tamperClear, 
    ↓State.steady_ite, ↓State.steady_mk, ↓State.steady_fold, 
    ite_self]

theorem State.laneAct_steady (s : State) (n o : Nat) (v : Word) (hk : s.steady.1 = true) : (State.laneAct s n o v).2.steady
  = s.steady := by
  unfold State.laneAct
  repeat' first
    | exact hk
    | (simp (maxDischargeDepth := 40) +contextual only [*, ↓State.echoSend_steady, ↓State.retrain_steady,
      ↓State.routeTo_steady, 
      ↓State.steady_ite, ite_self]; done)
    | split

theorem State.woAct_steady (s : State) (a : Nat) (v : Word) (hk : s.steady.1 = true) :
    (s.woAct a v).2.steady = s.steady := by
  have hi : ∀ (c : Bool) (t : State), t.steady = s.steady → (if c then t else s).steady = s.steady :=
    fun c t h => State.ite_steady (fun _ => h) (fun _ => rfl)
  unfold State.woAct
  dsimp only
  refine State.ite_snd_steady (fun _ => State.ite_snd_steady (fun _ => s.laneAct_steady _ _ v hk) (fun _ => rfl)) (fun _ => ?_)
  refine State.ite_snd_steady (fun _ => hi _ _ (s.marginReset_steady hk)) (fun _ => ?_)
  refine State.ite_snd_steady (fun _ => hi _ _ (s.pwmLoadAllAct_steady hk)) (fun _ => ?_)
  refine State.ite_snd_steady (fun _ => s.tripClrAct_steady _ hk) (fun _ => ?_)
  refine State.ite_snd_steady (fun _ => s.scanTrig_steady _ _ _ hk) (fun _ => ?_)
  refine State.ite_snd_steady (fun _ => ?_) (fun _ => ?_)
  · have h1 : (if bit v 8 = true then s.patchGo (bits v 0 2) else s).steady = s.steady := hi _ _ (s.patchGo_steady _ hk)
    exact State.ite_steady (fun _ => State.steady_trans (fun h => State.patchRelease_steady _ h) h1 hk) (fun _ => h1)
  refine State.ite_snd_steady (fun _ => hi _ _ (s.urgent_steady _ _ hk)) (fun _ => ?_)
  refine State.ite_snd_steady (fun _ => s.syncSoft_steady _ hk) (fun _ => ?_)
  refine State.ite_snd_steady (fun _ => s.syncHard_steady _ hk) (fun _ => ?_)
  refine State.ite_snd_steady (fun _ => hi _ _ (s.mfifoPop_steady hk)) (fun _ => ?_)
  refine State.ite_snd_steady (fun _ => s.trgArm_steady _ _ hk) (fun _ => ?_)
  refine State.ite_snd_steady (fun _ => hi _ _ (s.snapRaise_steady _ hk)) (fun _ => ?_)
  refine State.ite_snd_steady (fun _ => hi _ _ (s.clkGoAct_steady hk)) (fun _ => ?_)
  refine State.ite_snd_steady (fun _ => hi _ _ (s.tamperClear_steady hk)) (fun _ => ?_)
  refine State.ite_snd_steady (fun _ => ?_) (fun _ => rfl)
  refine State.foldl_snd_steady _ _ _ hk (fun r k h => ?_)
  exact State.ite_snd_steady (fun _ => r.2.pairAct_steady k h) (fun _ => rfl)

theorem State.applyAccess_steady (s : State) (es : List RegEntry) (serial : List Byte) (hk : s.steady.1 = true) :
    (s.applyAccess es serial).2.steady = s.steady := by
  unfold State.applyAccess
  dsimp only
  have h1 := State.foldl_steady (fun s e => s.putEntry serial e) es s hk (fun s e h => s.putEntry_steady serial e h)
  have h2 := State.steady_trans (fun h => State.foldl_steady (fun t a => State.writeHook s t a (s.valueAfter es a))
    (writtenBy es) _ h
    (fun t a h => State.writeHook_steady s t a _ h)) h1 hk
  refine State.steady_trans (fun h => State.safSettle_steady _ h) (State.steady_trans (fun h =>
    State.foldl_snd_steady _ _ _ h (fun r e h => ?_)) h2 hk) hk
  split
  · exact r.2.woAct_steady _ _ h
  · rfl

theorem execTamperClr_steady (s t : State) (h : execTamperClr s = .next t) (hk : s.steady.1 = true) :
    t.steady = s.steady := by
  refine State.live_steady h ?_
  simp (maxDischargeDepth := 40) +contextual only [↓State.tamperClear_steady, hk, 
    ↓State.steady_mk, ↓State.steady_fold]

end Sys2Proof.Machine
end

