-- ==== Sys2Proof/Laws/SteadyHost.lean ====
section
/-! SUPPORT. What every operation keeps of a sound state (Safety.lean), block by block: the commands of the host. -/
namespace Sys2Proof.Machine

/-! ### HostRead -/

theorem State.streamFree_steady (s : State) (k first : Nat) (hk : s.steady.1 = true) : (State.streamFree s k first).steady =
  s.steady := by
  simp (maxDischargeDepth := 40) +contextual only [State.streamFree, ↓State.updSlot_steady, hk]

theorem State.readOne_steady (s : State) (a : Nat) (hk : s.steady.1 = true) : (State.readOne s a).2.steady = s.steady := by
  simp (maxDischargeDepth := 40) +contextual only [State.readOne, ↓State.calLatch_steady, ↓State.draw_steady,
    ↓State.setReg_steady, ↓State.thetaLatch_steady, hk, 
    ↓State.steady_ite, 
    ite_self]

theorem State.readRegs_steady (s : State) (op : HostOp) (hk : s.steady.1 = true) : (s.readRegs op).2.steady = s.steady :=
  State.foldl_snd_steady _ _ _ hk (fun r a h => r.2.readOne_steady a h)

/-! ### Reply -/

theorem State.updCmds_steady (s : State) (f : CmdCore → CmdCore) (hk : s.steady.1 = true) : (State.updCmds s f).steady =
  s.steady := by
  simp (maxDischargeDepth := 40) +contextual only [State.updCmds, 
    ↓State.steady_mk, ↓State.steady_fold]

theorem State.updSess_steady (s : State) (n : Nat) (f : Sess → Sess) (hk : s.steady.1 = true) : (State.updSess s n f).steady
  = s.steady := by
  simp (maxDischargeDepth := 40) +contextual only [State.updSess, ↓State.updCmds_steady, hk]

theorem State.closeSess_steady (s : State) (n : Nat) (hk : s.steady.1 = true) : (State.closeSess s n).steady = s.steady := by
  simp (maxDischargeDepth := 40) +contextual only [State.closeSess, ↓State.updCmds_steady, hk, 
    ↓State.steady_mk, ↓State.steady_fold]

theorem State.sendReply_steady (s : State) (r : Reply) (hk : s.steady.1 = true) : (State.sendReply s r).steady = s.steady := by
  simp (maxDischargeDepth := 40) +contextual only [State.sendReply, ↓State.emits_steady, hk]

theorem State.journal_steady (s : State) (x : Sess) (q : Req) (op : HostOp) (accepted : Bool) (hk : s.steady.1 = true) :
  (State.journal s x q op accepted).steady = s.steady := by
  simp (maxDischargeDepth := 40) +contextual only [State.journal, ↓State.updCmds_steady, hk]

theorem State.outcome_steady (s : State) (session : Nat) (seq : Word) (status : Nat) (hk : s.steady.1 = true) :
  (State.outcome s session seq status).steady = s.steady := by
  simp (maxDischargeDepth := 40) +contextual only [State.outcome, ↓State.updCmds_steady, hk]

theorem State.deliver1_steady (s : State) (r : Reply) (hk : s.steady.1 = true) : (State.deliver1 s r).steady = s.steady := by
  simp (maxDischargeDepth := 40) +contextual only [State.deliver1, ↓State.outcome_steady, ↓State.sendReply_steady,
    ↓State.updSess_steady, hk, 
    ↓State.steady_ite, ite_self]

theorem State.pushWait_steady (s : State) (w : Wait) (hk : s.steady.1 = true) : (State.pushWait s w).steady = s.steady := by
  simp (maxDischargeDepth := 40) +contextual only [State.pushWait, ↓State.queueBulk_steady, hk, 
    ↓State.steady_ite, ↓State.steady_mk, ↓State.steady_fold,
    ite_self]

theorem State.complete_steady (s : State) (a : Accepted) (status : Nat) (data : List Byte) (hk : s.steady.1 = true) :
  (State.complete s a status data).steady = s.steady := by
  unfold State.complete; (repeat' split) <;> simp (maxDischargeDepth := 40) +contextual only [↓State.outcome_steady, hk,
    ↓State.steady_mk, ↓State.steady_fold]

/-! ### HostAct -/

theorem State.setOwner_steady (s : State) (c n : Nat) (hk : s.steady.1 = true) : (State.setOwner s c n).steady = s.steady := by
  simp (maxDischargeDepth := 40) +contextual only [State.setOwner, ↓State.updCmds_steady, hk]

theorem State.mgmtOut_steady (s : State) (conc : Bool) (id code : Nat) (body : List Byte) (hk : s.steady.1 = true) :
  (State.mgmtOut s conc id code body).steady = s.steady := by
  unfold State.mgmtOut; dsimp only; (repeat' split) <;> simp (maxDischargeDepth := 40) +contextual only
    [↓State.queueBulk_steady, hk, 
    ↓State.steady_mk, ↓State.steady_fold]

theorem State.acqFreeAct_steady (s : State) (num : Word) (hk : s.steady.1 = true) : (State.acqFreeAct s num).2.steady =
  s.steady := by
  unfold State.acqFreeAct; (repeat' split) <;> simp (maxDischargeDepth := 40) +contextual only [
    ↓State.steady_mk,
    ↓State.steady_fold]

theorem State.setImage_steady (s : State) (b : Bool) (i : Option Image) (hk : s.steady.1 = true) : (State.setImage s b
  i).steady = s.steady := by
  simp (maxDischargeDepth := 40) +contextual only [State.setImage, 
    ↓State.steady_ite, ↓State.steady_mk, ↓State.steady_fold, 
    ite_self]

theorem State.fwBeginAct_steady (s : State) (len : Nat) (ver : Word) (hk : s.steady.1 = true) : (State.fwBeginAct s len
  ver).steady = s.steady := by
  simp (maxDischargeDepth := 40) +contextual only [State.fwBeginAct, ↓State.setImage_steady, hk, 
    ↓State.steady_mk,
    ↓State.steady_fold]

theorem State.fwDataAct_steady (s : State) (off : Nat) (data : List Byte) (hk : s.steady.1 = true) : (State.fwDataAct s off
  data).steady = s.steady := by
  simp (maxDischargeDepth := 40) +contextual only [State.fwDataAct, 
    ↓State.steady_mk, ↓State.steady_fold]

theorem State.fwEndAct_steady (s : State) (hk : s.steady.1 = true) : (State.fwEndAct s).2.steady = s.steady := by
  unfold State.fwEndAct; (repeat' split) <;> simp (maxDischargeDepth := 40) +contextual only [↓State.setImage_steady, hk,
    ↓State.steady_mk, ↓State.steady_fold]

theorem State.freshNonce_steady (s : State) (hk : s.steady.1 = true) : (State.freshNonce s).steady = s.steady := by
  simp (maxDischargeDepth := 40) +contextual only [State.freshNonce, ↓State.draw_steady, hk, 
    ↓State.steady_mk, ↓State.steady_fold]

theorem State.debugAct_steady (s : State) (hk : s.steady.1 = true) : (State.debugAct s).steady = s.steady := by
  simp (maxDischargeDepth := 40) +contextual only [State.debugAct, ↓State.resetNow_steady, ↓State.zeroKeys_steady, hk,
    ↓State.steady_mk, ↓State.steady_fold]

theorem State.spsPut_steady (s : State) (l : List (Nat × Word)) (hk : s.steady.1 = true) : (State.spsPut s l).steady =
  s.steady := by
  simp (maxDischargeDepth := 40) +contextual only [State.spsPut, ↓State.mark_steady, ↓State.rawWrite_steady, hk, 
    ↓State.foldl_steady, implies_true]

theorem State.spsAct_steady (s : State) (l : List (Nat × Word)) (hk : s.steady.1 = true) : (State.spsAct s l).steady =
  s.steady := by
  simp (maxDischargeDepth := 40) +contextual only [State.spsAct, ↓State.safSettle_steady, ↓State.sinApart_steady,
    ↓State.spsPut_steady, hk, 
    ↓State.steady_mk, ↓State.steady_fold, ↓State.foldl_steady, 
    implies_true]

theorem State.confirmAct_steady (s : State) (chk : Word) (hk : s.steady.1 = true) : (State.confirmAct s chk).2.steady =
  s.steady := by
  unfold State.confirmAct; (repeat' split) <;> simp (maxDischargeDepth := 40) +contextual only [↓State.safSettle_steady,
    ↓State.setFlag_steady, hk, 
    ↓State.steady_mk, ↓State.steady_fold]

theorem State.safResetAct_steady (s : State) (hk : s.steady.1 = true) : (State.safResetAct s).2.steady = s.steady := by
  unfold State.safResetAct; (repeat' split) <;> simp (maxDischargeDepth := 40) +contextual only [↓State.resetClear_steady,
    hk, ↓State.steady_ite,
    ↓State.steady_mk, ↓State.steady_fold, ite_self]

theorem State.proofRecord_steady (s : State) (t : Nat) (pass : Bool) (hk : s.steady.1 = true) : (State.proofRecord s t
  pass).steady = s.steady := by
  simp (maxDischargeDepth := 40) +contextual only [State.proofRecord, ↓State.setReg_steady, hk,
    ↓State.steady_ite,
    ↓State.steady_mk, ↓State.steady_fold, ite_self]

theorem State.proofEnd_steady (s : State) (pass : Bool) (hk : s.steady.1 = true) : (State.proofEnd s pass).steady = s.steady
  := by
  unfold State.proofEnd; (repeat' split) <;> simp (maxDischargeDepth := 40) +contextual only [↓State.complete_steady,
    ↓State.proofRecord_steady, ↓State.safSettle_steady, hk, 
    ↓State.steady_mk, ↓State.steady_fold]

theorem State.proof3Check_steady (s : State) (hk : s.steady.1 = true) : (State.proof3Check s).steady = s.steady := by
  unfold State.proof3Check; (repeat' split) <;> simp (maxDischargeDepth := 40) +contextual only [↓State.proofEnd_steady, hk]

theorem State.sinFaultDue_steady (s : State) (k : Nat) (hk : s.steady.1 = true) : (State.sinFaultDue s k).steady = s.steady
  := by
  simp (maxDischargeDepth := 40) +contextual only [State.sinFaultDue, ↓State.proof3Check_steady, ↓State.sinFaultAct_steady,
    ↓State.updSin_steady, hk, 
    ↓State.steady_ite, ite_self]

theorem State.proofBegin_steady (s : State) (t : Nat) (a : Accepted) (hk : s.steady.1 = true) : (State.proofBegin s t
  a).steady = s.steady := by
  unfold State.proofBegin; (repeat' split) <;> simp (maxDischargeDepth := 40) +contextual only [↓State.proof3Check_steady,
    ↓State.proofEnd_steady, ↓State.safSettle_steady, hk, List.length_map, 
    ↓State.steady_ite, ↓State.steady_mk, ↓State.steady_fold, 
    ite_self]

theorem State.holdOver_steady (s : State) (hk : s.steady.1 = true) : (State.holdOver s).steady = s.steady := by
  unfold State.holdOver; (repeat' split) <;> simp (maxDischargeDepth := 40) +contextual only [↓State.soutUpdate_steady, hk,
    ↓State.steady_mk, ↓State.steady_fold]

theorem State.proofDecided_steady (s : State) (pass : Bool) (hk : s.steady.1 = true) : (State.proofDecided s pass).steady =
  s.steady := by
  unfold State.proofDecided; (repeat' split) <;> simp (maxDischargeDepth := 40) +contextual only [↓State.atDue_steady,
    ↓State.holdOver_steady, ↓State.proofEnd_steady, hk, 
    implies_true]

theorem State.proofSeen_steady (s : State) (out : Nat) (seen : Bool) (hk : s.steady.1 = true) : (State.proofSeen s out
  seen).2.steady = s.steady := by
  unfold State.proofSeen; (repeat' split) <;> simp (maxDischargeDepth := 40) +contextual only [↓State.proofEnd_steady,
    ↓State.soutUpdate_steady, hk, 
    ↓State.steady_mk, ↓State.steady_fold]

theorem State.sealAct_steady (s : State) (serial : List Byte) (hk : s.steady.1 = true) : (State.sealAct s serial).2.steady =
  s.steady := by
  simp (maxDischargeDepth := 40) +contextual only [State.sealAct, ↓State.auditAdd_steady, hk, 
    ↓State.steady_mk, ↓State.steady_fold]

theorem State.fwhashAct_steady (s : State) (h serial : List Byte) (hk : s.steady.1 = true) : (State.fwhashAct s h
  serial).steady = s.steady := by
  simp (maxDischargeDepth := 40) +contextual only [State.fwhashAct, ↓State.auditAdd_steady, hk, 
    ↓State.steady_ite, ↓State.steady_mk, ↓State.steady_fold,
    ite_self]

theorem State.keyGenAct_steady (s : State) (metro : Bool) (hk : s.steady.1 = true) : (State.keyGenAct s metro).2.steady =
  s.steady := by
  simp (maxDischargeDepth := 40) +contextual only [State.keyGenAct, 
    ↓State.steady_mk, ↓State.steady_fold]

theorem State.certAct_steady (s : State) (c : List Byte) (hk : s.steady.1 = true) : (State.certAct s c).2.steady = s.steady
  := by
  unfold State.certAct; (repeat' split) <;> simp (maxDischargeDepth := 40) +contextual only [
    ↓State.steady_mk,
    ↓State.steady_fold]

theorem State.immOp_steady (s : State) (q : Req) (op : HostOp) (hk : s.steady.1 = true) : (s.immOp q op).2.2.steady =
  s.steady := by
  unfold State.immOp
  cases op with
  | ownClaim c =>
    exact State.ite_thd_steady (fun _ => rfl) (fun _ => s.setOwner_steady _ _ hk)
  | ownRelease c =>
    exact State.ite_thd_steady (fun _ => s.setOwner_steady _ _ hk) (fun _ => rfl)
  | acqFree num => exact s.acqFreeAct_steady _ hk
  | acqStream k f n =>
    exact State.ite_steady (fun _ => s.streamFree_steady _ _ hk) (fun _ => rfl)
  | safSpb => exact s.spbDemand_steady _ _ _ hk
  | safProofOut o x => exact s.proofSeen_steady _ _ hk
  | fwBegin len ver =>
    exact State.ite_thd_steady (fun _ => rfl) (fun _ => s.fwBeginAct_steady _ _ hk)
  | fwData off data => exact s.fwDataAct_steady _ _ hk
  | fwEnd => exact s.fwEndAct_steady hk
  | fwActivate b =>
    exact State.ite_thd_steady (fun _ => rfl) (fun _ => rfl)
  | mgmtSend c id code body => exact s.mgmtOut_steady _ _ _ _ hk
  | reset => exact s.resetVia_steady _ _ hk
  | close => exact s.closeSess_steady _ hk
  | debugUnlock t => exact s.debugAct_steady hk
  | _ => rfl

theorem State.setTarget_steady (s : State) (k : Nat) (v : Word) (hk : s.steady.1 = true) : (State.setTarget s k v).steady =
  s.steady := by
  simp (maxDischargeDepth := 40) +contextual only [State.setTarget, ↓State.setReg_steady, hk]

theorem State.bndOp_steady (s : State) (a : Accepted) (hk : s.steady.1 = true) : (s.bndOp a).2.2.steady = s.steady := by
  have ht : ∀ l : List (Nat × Word), (l.foldl (fun s p => s.setTarget p.1 p.2) s).steady = s.steady := fun l =>
    State.foldl_steady _ l s hk (fun s p h => s.setTarget_steady p.1 p.2 h)
  unfold State.bndOp
  generalize a.op = op
  cases op with
  | setP _ => exact ht _
  | setQ _ => exact ht _
  | setV _ => exact ht _
  | setF _ => exact ht _
  | setMulti _ _ _ _ _ => exact ht _
  | regAccess es =>
    have h1 := s.applyAccess_steady es a.serial hk
    exact State.ite_steady (fun _ => State.steady_trans (fun h => State.cfgWrite_steady _ h) h1 hk) (fun _ => h1)
  | ldgRetire n => exact s.retireCmd_steady _ hk
  | ldgReplace n => exact s.replaceCmd_steady _ hk
  | mtrSeal => exact s.sealAct_steady _ hk
  | mtrFwhash =>
    dsimp only
    split
    · exact s.fwhashAct_steady _ _ hk
    · rfl
  | pairAction k => exact s.pairAct_steady _ hk
  | spsWrite off vals => exact s.spsAct_steady _ hk
  | spsConfirm c => exact s.confirmAct_steady _ hk
  | safReset => exact s.safResetAct_steady hk
  | keyGen k => exact s.keyGenAct_steady _ hk
  | certSet c => exact s.certAct_steady _ hk
  | _ => rfl

/-! ### Pipe -/

theorem State.deliver_steady (s : State) (hk : s.steady.1 = true) : (State.deliver s).steady = s.steady := by
  unfold State.deliver
  repeat' first
    | exact hk
    | (simp (maxDischargeDepth := 40) +contextual only [*, ↓State.ctlDeliver_steady, ↓State.sampleSend_steady, 
      ↓State.steady_ite,
      ite_self]; done)

theorem State.shadowInputs_steady (s : State) (hk : s.steady.1 = true) : (State.shadowInputs s).steady = s.steady := by
  unfold State.shadowInputs; (repeat' split) <;> simp (maxDischargeDepth := 40) +contextual only [↓State.bump_steady,
    ↓State.measCompare_steady, hk, 
    ↓State.steady_mk, ↓State.steady_fold]

theorem State.gfeObserve_steady (s : State) (hk : s.steady.1 = true) : (State.gfeObserve s).steady = s.steady := by
  simp (maxDischargeDepth := 40) +contextual only [State.gfeObserve, ↓State.acqSignals_steady, ↓State.excursions_steady,
    ↓State.modeObserve_steady, ↓State.rtObserve_steady, ↓State.trigUpdate_steady, hk, 
    ↓State.steady_ite, 
    ite_self]

theorem State.gfeDone_steady (s : State) (fault : Bool) (hk : s.steady.1 = true) : (State.gfeDone s fault).steady = s.steady
  := by
  unfold State.gfeDone
  repeat' first
    | exact hk
    | (simp (maxDischargeDepth := 40) +contextual only [*, ↓State.deliver_steady, ↓State.gfeFault_steady,
      ↓State.gfeObserve_steady, ↓State.gfeStep_steady, ↓State.modeSettle_steady, ↓State.shadowInputs_steady,
      ↓State.stepMissed_steady, ↓State.toClk_steady, 
      ↓State.steady_ite, 
      ite_self]; done)

theorem State.lateTwice_steady (s : State) (hk : s.steady.1 = true) : (State.lateTwice s).steady = s.steady := by
  simp (maxDischargeDepth := 40) +contextual only [State.lateTwice, ↓State.setFlag_steady, ↓State.spbDemand_steady,
    ↓State.startHandover_steady, hk, 
    ↓State.steady_ite, ↓State.steady_mk, ↓State.steady_fold, ite_self]

theorem State.judgeDispatch_steady (s : State) (hk : s.steady.1 = true) : (State.judgeDispatch s).steady = s.steady := by
  simp (maxDischargeDepth := 40) +contextual only [State.judgeDispatch, ↓State.bump_steady, ↓State.lateTwice_steady,
    ↓State.logEv_steady, ↓State.shadowSettle_steady, hk, 
    ↓State.steady_ite, ↓State.steady_mk, ↓State.steady_fold, 
    ite_self]

theorem State.deadline_steady (s : State) (hk : s.steady.1 = true) : (State.deadline s).steady = s.steady := by
  simp (maxDischargeDepth := 40) +contextual only [State.deadline, ↓State.judgeDispatch_steady, ↓State.recordSend_steady,
    ↓State.toAc_steady, hk, 
    ↓State.steady_ite, ite_self]

theorem State.marginEnd_steady (s : State) (hk : s.steady.1 = true) : (State.marginEnd s).steady = s.steady := by
  simp (maxDischargeDepth := 40) +contextual only [State.marginEnd, ↓State.marginAt_steady, hk, 
    ↓State.steady_ite, 
    ite_self]

theorem execControlSampleDelivery_steady (s t : State) (h : execControlSampleDelivery s = .next t) (hk : s.steady.1 = true) :
    t.steady = s.steady := by
  exact State.live_steady h (State.deliver_steady _ hk)

theorem execDispatchDeadline_steady (s t : State) (h : execDispatchDeadline s = .next t) (hk : s.steady.1 = true) :
    t.steady = s.steady := by
  exact State.live_steady h (State.deadline_steady _ hk)

/-! ### HostCmd -/

theorem State.refused_steady (s : State) (op : HostOp) (status : Nat) (hk : s.steady.1 = true) : (State.refused s op
  status).steady = s.steady := by
  unfold State.refused; (repeat' split) <;> simp (maxDischargeDepth := 40) +contextual only [↓State.freshNonce_steady,
    ↓State.setFlag_steady, hk]

theorem State.accept_steady (s : State) (q : Req) (op : HostOp) (serial : List Byte) (t : Nat) (hk : s.steady.1 = true) :
  (State.accept s q op serial t).steady = s.steady := by
  simp (maxDischargeDepth := 40) +contextual only [State.accept, ↓State.updCmds_steady, hk, 
    ↓State.steady_ite, ↓State.steady_mk, ↓State.steady_fold,
    ite_self]

theorem State.stageFw_steady (s : State) (es : List RegEntry) (t : Nat) (hk : s.steady.1 = true) : (State.stageFw s es
  t).steady = s.steady := by
  simp (maxDischargeDepth := 40) +contextual only [State.stageFw, ↓State.updCmds_steady, hk, 
    ↓State.steady_ite, ↓State.steady_mk, ↓State.steady_fold,
    ite_self]

theorem State.applyFw_steady (s : State) (es : List RegEntry) (hk : s.steady.1 = true) : (State.applyFw s es).steady =
  s.steady := by
  simp (maxDischargeDepth := 40) +contextual only [State.applyFw, ↓State.applyAccess_steady, ↓State.cfgWrite_steady, hk,
    ↓State.steady_ite,
    ite_self]

theorem State.registerWrite_steady (s : State) (es : List RegEntry) (hk : s.steady.1 = true) : (State.registerWrite s
  es).steady = s.steady := by
  unfold State.registerWrite; (repeat' split) <;> simp (maxDischargeDepth := 40) +contextual only [↓State.applyFw_steady,
    ↓State.stageFw_steady, hk]

theorem State.keepWait_steady (s : State) (w : Wait) (hk : s.steady.1 = true) : (State.keepWait s w).steady = s.steady := by
  simp (maxDischargeDepth := 40) +contextual only [State.keepWait, 
    ↓State.steady_ite, ↓State.steady_mk, ↓State.steady_fold, 
    ite_self]

theorem State.noWaits_steady (s : State) (hk : s.steady.1 = true) : (State.noWaits s).steady = s.steady := by
  simp (maxDischargeDepth := 40) +contextual only [State.noWaits, 
    ↓State.steady_mk, ↓State.steady_fold]

theorem State.sendWait_steady (s : State) (w : Wait) (hk : s.steady.1 = true) : (State.sendWait s w).steady = s.steady := by
  unfold State.sendWait
  repeat' first
    | exact hk
    | (simp (maxDischargeDepth := 40) +contextual only [*, ↓State.deliver1_steady, ↓State.immOp_steady, 
      ↓State.steady_ite, 
      ite_self]; done)
    | split

theorem State.flush_steady (s : State) (hk : s.steady.1 = true) : (State.flush s).steady = s.steady := by
  unfold State.flush
  repeat' first
    | exact hk
    | (simp (maxDischargeDepth := 40) +contextual only [*, ↓State.keepWait_steady, ↓State.noWaits_steady,
      ↓State.sendWait_steady, 
      ↓State.steady_ite, ↓State.foldl_steady, ite_self,
      implies_true]; done)

theorem State.runWait_steady (s : State) (w : Wait) (op : HostOp) (hk : s.steady.1 = true) : (State.runWait s w op).2.steady
  = s.steady := by
  unfold State.runWait
  repeat' first
    | exact hk
    | (simp (maxDischargeDepth := 40) +contextual only [*, ↓State.immOp_steady]; done)

theorem State.release_steady (s : State) (pick : Wait → Bool) (hk : s.steady.1 = true) : (State.release s pick).steady =
  s.steady := by
  unfold State.release
  repeat' first
    | exact hk
    | (simp (maxDischargeDepth := 40) +contextual only [*, ↓State.keepWait_steady, 
      ↓State.runWait_steady, 
      ↓State.steady_ite, ite_self]; done)
    | split
    | refine State.foldl_steady _ _ _ ?_ (fun s x h => ?_)

theorem State.takeReads_steady (s : State) (hk : s.steady.1 = true) : (State.takeReads s).steady = s.steady := by
  unfold State.takeReads
  repeat' first
    | exact hk
    | (simp (maxDischargeDepth := 40) +contextual only [*, ↓State.keepWait_steady, 
      ↓State.readRegs_steady]; done)
    | split
    | refine State.foldl_steady _ _ _ ?_ (fun s x h => ?_)

theorem State.hostExec_steady (s : State) (q : Req) (op : HostOp) (hk : s.steady.1 = true) : (State.hostExec s q op).steady
  = s.steady := by
  unfold State.hostExec
  try dsimp only
  repeat' first
    | with_reducible rfl
    | with_reducible exact hk
    | with_reducible refine State.steady_trans (fun h => State.accept_steady _ _ _ _ _ h) ?_ hk
    | with_reducible refine State.steady_trans (fun h => State.flush_steady _ h) ?_ hk
    | with_reducible refine State.steady_trans (fun h => State.immOp_steady _ _ _ h) ?_ hk
    | with_reducible refine State.steady_trans (fun h => State.journal_steady _ _ _ _ _ h) ?_ hk
    | with_reducible refine State.steady_trans (fun h => State.pushWait_steady _ _ h) ?_ hk
    | with_reducible refine State.steady_trans (fun h => State.readRegs_steady _ _ h) ?_ hk
    | with_reducible refine State.steady_trans (fun h => State.refused_steady _ _ _ h) ?_ hk
    | with_reducible refine State.steady_trans (fun h => State.runWait_steady _ _ _ h) ?_ hk
    | simp only [↓State.steady_mk, ↓State.steady_fold, upd_length, List.length_map, List.length_mapIdx, List.length_set]
    | with_reducible refine State.ite_steady (fun _ => ?_) (fun _ => ?_)
    | split

theorem State.duplicate_steady (s : State) (x : Sess) (q : Req) (hk : s.steady.1 = true) : (State.duplicate s x q).steady =
  s.steady := by
  unfold State.duplicate; (repeat' split) <;> simp (maxDischargeDepth := 40) +contextual only [↓State.bump_steady,
    ↓State.sendReply_steady, ↓State.updSess_steady, hk]

theorem State.drain_steady (k : Nat) (n : Fin 9) (s : State) (hk : s.steady.1 = true) : (State.drain k n s).steady =
  s.steady := by
  induction k generalizing s with
  | zero => rfl
  | succ k ih =>
    unfold State.drain
    split
    · rfl
    · refine State.ite_steady (fun _ => s.closeSess_steady _ hk) (fun _ => ?_)
      split
      · rfl
      · exact State.steady_trans (fun h => ih _ h)
          (State.steady_trans (fun h => State.hostExec_steady _ _ _ h) (s.updSess_steady _ _ hk) hk) hk

theorem State.sortSeq_steady (s : State) (x : Sess) (q : Req) (op : HostOp) (hk : s.steady.1 = true) : (State.sortSeq s x q
  op).steady = s.steady := by
  simp (maxDischargeDepth := 40) +contextual only [State.sortSeq, ↓State.bump_steady, ↓State.drain_steady,
    ↓State.duplicate_steady, ↓State.hostExec_steady, ↓State.updSess_steady, hk, 
    ↓State.steady_ite, 
    ite_self]

theorem State.park_steady (s : State) (p : Parked) (hk : s.steady.1 = true) : (State.park s p).steady = s.steady := by
  simp (maxDischargeDepth := 40) +contextual only [State.park, 
    ↓State.steady_mk, ↓State.steady_fold]

theorem State.hostIn_steady (s : State) (q : Req) (op : HostOp) (hk : s.steady.1 = true) : (State.hostIn s q op).steady =
  s.steady := by
  unfold State.hostIn; (repeat' split) <;> simp (maxDischargeDepth := 40) +contextual only [↓State.bump_steady,
    ↓State.park_steady, ↓State.sortSeq_steady, ↓State.updSess_steady, hk]

theorem execRegisterWrite_steady (es : List RegEntry) (s t : State) (h : execRegisterWrite es s = .next t) (hk : s.steady.1
  = true) :
    t.steady = s.steady := by
  exact State.live_steady h (State.registerWrite_steady _ _ hk)

theorem execRefSelect_steady (g : Fin 4) (src : Fin 3) (s t : State) (h : execRefSelect g src s = .next t) (hk : s.steady.1
  = true) :
    t.steady = s.steady := by
  refine State.live_steady h ?_
  simp (maxDischargeDepth := 40) +contextual only [↓State.registerWrite_steady, hk]

theorem execFltSyncSoft_steady (mask : Word) (s t : State) (h : execFltSyncSoft mask s = .next t) (hk : s.steady.1 = true) :
    t.steady = s.steady := by
  exact State.live_steady h (State.registerWrite_steady _ _ hk)

theorem execFltSyncHard_steady (mask : Word) (s t : State) (h : execFltSyncHard mask s = .next t) (hk : s.steady.1 = true) :
    t.steady = s.steady := by
  exact State.live_steady h (State.registerWrite_steady _ _ hk)

theorem execAcqTrgArm_steady (mask : BitVec 8) (s t : State) (h : execAcqTrgArm mask s = .next t) (hk : s.steady.1 = true) :
    t.steady = s.steady := by
  refine State.live_steady h ?_
  simp (maxDischargeDepth := 40) +contextual only [↓State.registerWrite_steady, hk]

theorem execAcqMfifoPop_steady (s t : State) (h : execAcqMfifoPop s = .next t) (hk : s.steady.1 = true) :
    t.steady = s.steady := by
  exact State.live_steady h (State.registerWrite_steady _ _ hk)

theorem execRouteWrite_steady (lane : Fin 20) (s t : State) (h : execRouteWrite lane s = .next t) (hk : s.steady.1 = true) :
    t.steady = s.steady := by
  exact State.live_steady h (State.registerWrite_steady _ _ hk)

/-! ### Session -/

theorem State.clearReply_steady (s : State) (port : HostPort) (seq : Word) (status : Nat) (data : List Byte) (hk :
  s.steady.1 = true) : (State.clearReply s port seq status data).steady = s.steady := by
  simp (maxDischargeDepth := 40) +contextual only [State.clearReply, ↓State.sendReply_steady, hk]

theorem State.allot_steady (s : State) (port : HostPort) (seq : Word) (p : List Byte) (n : Nat) (cert : List Byte × Nat ×
  List Byte) (hk : s.steady.1 = true) : (State.allot s port seq p n cert).steady = s.steady := by
  simp (maxDischargeDepth := 40) +contextual only [State.allot, ↓State.clearReply_steady, ↓State.draw_steady,
    ↓State.updCmds_steady, hk]

theorem State.helloIn_steady (s : State) (port : HostPort) (seq : Word) (p : List Byte) (hk : s.steady.1 = true) :
  (State.helloIn s port seq p).steady = s.steady := by
  unfold State.helloIn; (repeat' split) <;> simp (maxDischargeDepth := 40) +contextual only [↓State.allot_steady,
    ↓State.bump_steady, ↓State.clearReply_steady, hk]

theorem State.finishIn_steady (s : State) (port : HostPort) (n : Fin 9) (sig : List Byte) (hk : s.steady.1 = true) :
  (State.finishIn s port n sig).steady = s.steady := by
  unfold State.finishIn; (repeat' split) <;> simp (maxDischargeDepth := 40) +contextual only [↓State.bump_steady,
    ↓State.closeSess_steady, ↓State.deliver1_steady, ↓State.duplicate_steady, ↓State.updSess_steady, hk]

theorem State.packetIn_steady (s : State) (port : HostPort) (d : List Byte) (hk : s.steady.1 = true) : (State.packetIn s
  port d).steady = s.steady := by
  unfold State.packetIn; dsimp only; (repeat' split) <;> simp (maxDischargeDepth := 40) +contextual only
    [↓State.bump_steady, ↓State.finishIn_steady, ↓State.helloIn_steady, ↓State.hostIn_steady, hk]

theorem State.packetRx_steady (s : State) (port : HostPort) (d : List Byte) (hk : s.steady.1 = true) : (State.packetRx s
  port d).steady = s.steady := by
  simp (maxDischargeDepth := 40) +contextual only [State.packetRx, ↓State.packetIn_steady, ↓State.park_steady, hk,
    ↓State.steady_ite,
    ite_self]

theorem State.unpark_steady (s : State) (hk : s.steady.1 = true) : (State.unpark s).steady = s.steady := by
  unfold State.unpark
  repeat' first
    | exact hk
    | (simp (maxDischargeDepth := 40) +contextual only [*, ↓State.finishIn_steady, ↓State.helloIn_steady,
      ↓State.hostIn_steady, ↓State.packetRx_steady, 
      ↓State.steady_ite]; done)
    | split
    | refine State.foldl_steady _ _ _ ?_ (fun s x h => ?_)

theorem State.reorderOut_steady (s : State) (n : Nat) (hk : s.steady.1 = true) : (State.reorderOut s n).steady = s.steady := by
  unfold State.reorderOut; (repeat' split) <;> simp (maxDischargeDepth := 40) +contextual only [↓State.bumpBy_steady,
    ↓State.updSess_steady, hk]

theorem State.mirrorIn_steady (s : State) (b : BulkBlk) (hk : s.steady.1 = true) : (State.mirrorIn s b).steady = s.steady := by
  unfold State.mirrorIn; (repeat' split) <;> simp (maxDischargeDepth := 40) +contextual only [↓State.putRec_steady,
    ↓State.sweepMerged_steady, hk, 
    ↓State.steady_mk, ↓State.steady_fold]

theorem State.ackSeen_steady (s : State) (n : Nat) (seq : Byte) (nak : Bool) (hk : s.steady.1 = true) : (State.ackSeen s n
  seq nak).steady = s.steady := by
  unfold State.ackSeen
  repeat' first
    | exact hk
    | (simp (maxDischargeDepth := 40) +contextual only [*, ↓State.ackAct_steady, ↓State.flush_steady,
      ↓State.pairAcked_steady, ↓State.release_steady, 
      ↓State.steady_ite, 
      ite_self]; done)
    | split

theorem State.ackLateAct_steady (s : State) (hk : s.steady.1 = true) : (State.ackLateAct s).steady = s.steady := by
  unfold State.ackLateAct
  repeat' first
    | exact hk
    | (simp (maxDischargeDepth := 40) +contextual only [*, ↓State.ackLost_steady, ↓State.atDue_steady, ↓State.flush_steady,
      ↓State.release_steady, 
      implies_true]; done)
    | split

theorem State.gfeComplete_steady (s : State) (fault : Bool) (hk : s.steady.1 = true) : (State.gfeComplete s fault).steady =
  s.steady := by
  unfold State.gfeComplete
  repeat' first
    | exact hk
    | (simp (maxDischargeDepth := 40) +contextual only [*, ↓State.flush_steady, ↓State.gfeDone_steady,
      ↓State.takeReads_steady]; done)

theorem State.mgmtAnswer_steady (s : State) (tag : Nat) (status : Nat) (data : List Byte) (hk : s.steady.1 = true) :
  (State.mgmtAnswer s tag status data).steady = s.steady := by
  unfold State.mgmtAnswer
  repeat' first
    | exact hk
    | (simp (maxDischargeDepth := 40) +contextual only [*, ↓State.bump_steady, ↓State.flush_steady, 
      ↓State.steady_ite, ↓State.steady_mk,
      ↓State.steady_fold, ite_self]; done)

theorem State.sinFaultSeen_steady (s : State) (k : Nat) (hk : s.steady.1 = true) : (State.sinFaultSeen s k).steady =
  s.steady := by
  unfold State.sinFaultSeen
  repeat' first
    | exact hk
    | (simp (maxDischargeDepth := 40) +contextual only [*, ↓State.atDue_steady, ↓State.flush_steady,
      ↓State.sinFaultDue_steady, 
      implies_true]; done)
    | split

theorem execPacketRx_steady (port : HostPort) (d : List Byte) (s t : State) (h : execPacketRx port d s = .next t) (hk :
  s.steady.1 = true) :
    t.steady = s.steady := by
  exact State.live_steady h (State.packetRx_steady _ _ _ hk)

theorem execReorderTimeout_steady (session : Fin 9) (s t : State) (h : execReorderTimeout session s = .next t) (hk :
  s.steady.1 = true) :
    t.steady = s.steady := by
  refine State.live_steady h ?_
  split
  · exact s.atDue_steady _ _ hk (fun u h => u.reorderOut_steady _ h)
  · rfl

theorem execSessionTimeout_steady (session : Fin 9) (s t : State) (h : execSessionTimeout session s = .next t) (hk :
  s.steady.1 = true) :
    t.steady = s.steady := by
  refine State.live_steady h ?_
  split
  · exact s.atDue_steady _ _ hk (fun u h => u.closeSess_steady _ h)
  · rfl

theorem execHello_steady (port : HostPort) (p : List Byte) (s t : State) (h : execHello port p s = .next t) (hk : s.steady.1
  = true) :
    t.steady = s.steady := by
  refine State.live_steady h ?_
  simp (maxDischargeDepth := 40) +contextual only [↓State.helloIn_steady, ↓State.park_steady, hk, 
    ↓State.steady_ite, 
    ite_self]

theorem execFinish_steady (port : HostPort) (session : Fin 9) (sig : List Byte) (s t : State) (h : execFinish port session
  sig s = .next t) (hk : s.steady.1 = true) :
    t.steady = s.steady := by
  refine State.live_steady h ?_
  simp (maxDischargeDepth := 40) +contextual only [↓State.finishIn_steady, ↓State.park_steady, hk, 
    ↓State.steady_ite, 
    ite_self]

theorem execBulkBlockRx_steady (lane : Fin 22) (b : BulkBlk) (crcOk : Bool) (s t : State) (h : execBulkBlockRx lane b crcOk
  s = .next t) (hk : s.steady.1 = true) :
    t.steady = s.steady := by
  refine State.live_steady h ?_
  try dsimp only
  repeat' first
    | with_reducible rfl
    | with_reducible exact hk
    | with_reducible refine State.steady_trans (fun h => State.bulkRx_steady _ _ _ _ _ h) ?_ hk
    | with_reducible refine State.steady_trans (fun h => State.linkBlock_steady _ _ h) ?_ hk
    | with_reducible refine State.steady_trans (fun h => State.mirrorIn_steady _ _ h) ?_ hk
    | simp only [↓State.steady_mk, ↓State.steady_fold, upd_length, List.length_map, List.length_mapIdx, List.length_set]
    | with_reducible refine State.ite_steady (fun _ => ?_) (fun _ => ?_)
    | split

theorem execAckRx_steady (lane : Fin 22) (seq : Byte) (nak : Bool) (s t : State) (h : execAckRx lane seq nak s = .next t)
  (hk : s.steady.1 = true) :
    t.steady = s.steady := by
  refine State.live_steady h ?_
  simp (maxDischargeDepth := 40) +contextual only [↓State.ackSeen_steady, ↓State.linkBlock_steady, hk]

theorem execAckLate_steady (s t : State) (h : execAckLate s = .next t) (hk : s.steady.1 = true) :
    t.steady = s.steady := by
  exact State.live_steady h (State.ackLateAct_steady _ hk)

theorem execPathSilent_steady (path : Bool) (s t : State) (h : execPathSilent path s = .next t) (hk : s.steady.1 = true) :
    t.steady = s.steady := by
  refine State.live_steady h ?_
  simp (maxDischargeDepth := 40) +contextual only [↓State.flush_steady, ↓State.release_steady, ↓State.silentPath_steady, hk,
    ↓State.steady_ite,
    ite_self]

theorem execGfeComplete_steady (fault : Bool) (s t : State) (h : execGfeComplete fault s = .next t) (hk : s.steady.1 = true) :
    t.steady = s.steady := by
  exact State.live_steady h (State.gfeComplete_steady _ _ hk)

theorem execMgmtAnswerRx_steady (tag : Word) (code : BitVec 16) (body : List Byte) (s t : State) (h : execMgmtAnswerRx tag
  code body s = .next t) (hk : s.steady.1 = true) :
    t.steady = s.steady := by
  exact State.live_steady h (State.mgmtAnswer_steady _ _ _ _ hk)

theorem execMgmtTimeout_steady (tag : Word) (s t : State) (h : execMgmtTimeout tag s = .next t) (hk : s.steady.1 = true) :
    t.steady = s.steady := by
  refine State.live_steady h ?_
  split
  · exact s.atDue_steady _ _ hk (fun u h => u.mgmtAnswer_steady _ _ _ h)
  · rfl

theorem execMgmtEventRx_steady (smn code : BitVec 16) (body : List Byte) (s t : State) (h : execMgmtEventRx smn code body s
  = .next t) (hk : s.steady.1 = true) :
    t.steady = s.steady := by
  refine State.live_steady h ?_
  simp (maxDischargeDepth := 40) +contextual only [↓State.logEv_steady, hk]

theorem execSinChange_steady (k : Fin 8) (chB level : Bool) (s t : State) (h : execSinChange k chB level s = .next t) (hk :
  s.steady.1 = true) :
    t.steady = s.steady := by
  exact State.live_steady h (State.sinChangeAct_steady _ _ _ _ hk)

theorem execSinFault_steady (k : Fin 8) (s t : State) (h : execSinFault k s = .next t) (hk : s.steady.1 = true) :
    t.steady = s.steady := by
  exact State.live_steady h (State.sinFaultSeen_steady _ _ hk)

theorem execProofTestDecided_steady (pass : Bool) (s t : State) (h : execProofTestDecided pass s = .next t) (hk : s.steady.1
  = true) :
    t.steady = s.steady := by
  refine State.live_steady h ?_
  simp (maxDischargeDepth := 40) +contextual only [↓State.flush_steady, ↓State.proofDecided_steady, hk]

theorem execProofTimeout_steady (s t : State) (h : execProofTimeout s = .next t) (hk : s.steady.1 = true) :
    t.steady = s.steady := by
  refine State.live_steady h ?_
  split
  · exact s.atDue_steady _ _ hk (fun u h => State.steady_trans (fun h => State.flush_steady _ h) (u.proofEnd_steady false h) h)
  · rfl

/-! ### Host -/

theorem State.pairRow_steady (s : State) (q : Option Req) (k : Byte) (hk : s.steady.1 = true) : (State.pairRow s q k).steady
  = s.steady := by
  unfold State.pairRow; (repeat' split) <;> simp (maxDischargeDepth := 40) +contextual only [↓State.hostIn_steady,
    ↓State.pairAct_steady, hk]

theorem execPing_steady (q : Req) (s t : State) (h : execPing q s = .next t) (hk : s.steady.1 = true) :
    t.steady = s.steady := by
  exact State.live_steady h (State.hostIn_steady _ _ _ hk)

theorem execIdent_steady (q : Req) (s t : State) (h : execIdent q s = .next t) (hk : s.steady.1 = true) :
    t.steady = s.steady := by
  exact State.live_steady h (State.hostIn_steady _ _ _ hk)

theorem execOwnClaim_steady (q : Req) (cls : Byte) (s t : State) (h : execOwnClaim q cls s = .next t) (hk : s.steady.1 = true) :
    t.steady = s.steady := by
  exact State.live_steady h (State.hostIn_steady _ _ _ hk)

theorem execOwnRelease_steady (q : Req) (cls : Byte) (s t : State) (h : execOwnRelease q cls s = .next t) (hk : s.steady.1 =
  true) :
    t.steady = s.steady := by
  exact State.live_steady h (State.hostIn_steady _ _ _ hk)

theorem execEvlogRead_steady (q : Req) (first : BitVec 64) (n : Byte) (s t : State) (h : execEvlogRead q first n s = .next
  t) (hk : s.steady.1 = true) :
    t.steady = s.steady := by
  exact State.live_steady h (State.hostIn_steady _ _ _ hk)

theorem execMgmtSend_steady (q : Req) (conc : Bool) (id code : BitVec 16) (body : List Byte) (s t : State) (h : execMgmtSend
  q conc id code body s = .next t) (hk : s.steady.1 = true) :
    t.steady = s.steady := by
  exact State.live_steady h (State.hostIn_steady _ _ _ hk)

theorem execReset_steady (q : Req) (s t : State) (h : execReset q s = .next t) (hk : s.steady.1 = true) :
    t.steady = s.steady := by
  exact State.live_steady h (State.hostIn_steady _ _ _ hk)

theorem execModeSet_steady (q : Req) (code : Byte) (s t : State) (h : execModeSet q code s = .next t) (hk : s.steady.1 = true) :
    t.steady = s.steady := by
  exact State.live_steady h (State.hostIn_steady _ _ _ hk)

theorem execBrkReport_steady (q : Req) (conv tie : Byte) (s t : State) (h : execBrkReport q conv tie s = .next t) (hk :
  s.steady.1 = true) :
    t.steady = s.steady := by
  exact State.live_steady h (State.hostIn_steady _ _ _ hk)

theorem execSetP_steady (q : Req) (v : Word) (s t : State) (h : execSetP q v s = .next t) (hk : s.steady.1 = true) :
    t.steady = s.steady := by
  exact State.live_steady h (State.hostIn_steady _ _ _ hk)

theorem execSetQ_steady (q : Req) (v : Word) (s t : State) (h : execSetQ q v s = .next t) (hk : s.steady.1 = true) :
    t.steady = s.steady := by
  exact State.live_steady h (State.hostIn_steady _ _ _ hk)

theorem execSetV_steady (q : Req) (v : Word) (s t : State) (h : execSetV q v s = .next t) (hk : s.steady.1 = true) :
    t.steady = s.steady := by
  exact State.live_steady h (State.hostIn_steady _ _ _ hk)

theorem execSetF_steady (q : Req) (v : Word) (s t : State) (h : execSetF q v s = .next t) (hk : s.steady.1 = true) :
    t.steady = s.steady := by
  exact State.live_steady h (State.hostIn_steady _ _ _ hk)

theorem execSetMulti_steady (q : Req) (mask : Byte) (p qq v f : Word) (s t : State) (h : execSetMulti q mask p qq v f s =
  .next t) (hk : s.steady.1 = true) :
    t.steady = s.steady := by
  exact State.live_steady h (State.hostIn_steady _ _ _ hk)

theorem execRegAccess_steady (q : Req) (es : List RegEntry) (s t : State) (h : execRegAccess q es s = .next t) (hk :
  s.steady.1 = true) :
    t.steady = s.steady := by
  exact State.live_steady h (State.hostIn_steady _ _ _ hk)

theorem execRegReadRange_steady (q : Req) (first : Word) (n : Byte) (s t : State) (h : execRegReadRange q first n s = .next
  t) (hk : s.steady.1 = true) :
    t.steady = s.steady := by
  exact State.live_steady h (State.hostIn_steady _ _ _ hk)

theorem execLdgRead_steady (q : Req) (addr : Word) (n : BitVec 16) (s t : State) (h : execLdgRead q addr n s = .next t) (hk
  : s.steady.1 = true) :
    t.steady = s.steady := by
  exact State.live_steady h (State.hostIn_steady _ _ _ hk)

theorem execLdgArchRead_steady (q : Req) (first : Word) (n : Byte) (s t : State) (h : execLdgArchRead q first n s = .next t)
  (hk : s.steady.1 = true) :
    t.steady = s.steady := by
  exact State.live_steady h (State.hostIn_steady _ _ _ hk)

theorem execLdgRetire_steady (q : Req) (smn : BitVec 16) (s t : State) (h : execLdgRetire q smn s = .next t) (hk :
  s.steady.1 = true) :
    t.steady = s.steady := by
  exact State.live_steady h (State.hostIn_steady _ _ _ hk)

theorem execLdgReplace_steady (q : Req) (smn : BitVec 16) (s t : State) (h : execLdgReplace q smn s = .next t) (hk :
  s.steady.1 = true) :
    t.steady = s.steady := by
  exact State.live_steady h (State.hostIn_steady _ _ _ hk)

theorem execLdgKeySet_steady (q : Req) (key : List Byte) (s t : State) (h : execLdgKeySet q key s = .next t) (hk :
  s.steady.1 = true) :
    t.steady = s.steady := by
  exact State.live_steady h (State.hostIn_steady _ _ _ hk)

theorem execAcqHead_steady (q : Req) (s t : State) (h : execAcqHead q s = .next t) (hk : s.steady.1 = true) :
    t.steady = s.steady := by
  exact State.live_steady h (State.hostIn_steady _ _ _ hk)

theorem execAcqRead_steady (q : Req) (num off : Word) (n : BitVec 16) (s t : State) (h : execAcqRead q num off n s = .next
  t) (hk : s.steady.1 = true) :
    t.steady = s.steady := by
  exact State.live_steady h (State.hostIn_steady _ _ _ hk)

theorem execAcqFree_steady (q : Req) (num : Word) (s t : State) (h : execAcqFree q num s = .next t) (hk : s.steady.1 = true) :
    t.steady = s.steady := by
  exact State.live_steady h (State.hostIn_steady _ _ _ hk)

theorem execAcqStream_steady (q : Req) (slot : Byte) (first : BitVec 64) (n : BitVec 16) (s t : State) (h : execAcqStream q
  slot first n s = .next t) (hk : s.steady.1 = true) :
    t.steady = s.steady := by
  exact State.live_steady h (State.hostIn_steady _ _ _ hk)

theorem execMtrReadout_steady (q : Req) (s t : State) (h : execMtrReadout q s = .next t) (hk : s.steady.1 = true) :
    t.steady = s.steady := by
  exact State.live_steady h (State.hostIn_steady _ _ _ hk)

theorem execMtrProfile_steady (q : Req) (first : Word) (n : Byte) (s t : State) (h : execMtrProfile q first n s = .next t)
  (hk : s.steady.1 = true) :
    t.steady = s.steady := by
  exact State.live_steady h (State.hostIn_steady _ _ _ hk)

theorem execMtrAuditRead_steady (q : Req) (first : Word) (n : Byte) (s t : State) (h : execMtrAuditRead q first n s = .next
  t) (hk : s.steady.1 = true) :
    t.steady = s.steady := by
  exact State.live_steady h (State.hostIn_steady _ _ _ hk)

theorem execMtrSeal_steady (q : Req) (s t : State) (h : execMtrSeal q s = .next t) (hk : s.steady.1 = true) :
    t.steady = s.steady := by
  exact State.live_steady h (State.hostIn_steady _ _ _ hk)

theorem execMtrFwhash_steady (q : Req) (s t : State) (h : execMtrFwhash q s = .next t) (hk : s.steady.1 = true) :
    t.steady = s.steady := by
  exact State.live_steady h (State.hostIn_steady _ _ _ hk)

theorem execSpsWrite_steady (q : Req) (off : BitVec 16) (vals : List Word) (s t : State) (h : execSpsWrite q off vals s =
  .next t) (hk : s.steady.1 = true) :
    t.steady = s.steady := by
  exact State.live_steady h (State.hostIn_steady _ _ _ hk)

theorem execSpsConfirm_steady (q : Req) (chk : Word) (s t : State) (h : execSpsConfirm q chk s = .next t) (hk : s.steady.1 =
  true) :
    t.steady = s.steady := by
  exact State.live_steady h (State.hostIn_steady _ _ _ hk)

theorem execSafReset_steady (q : Req) (s t : State) (h : execSafReset q s = .next t) (hk : s.steady.1 = true) :
    t.steady = s.steady := by
  exact State.live_steady h (State.hostIn_steady _ _ _ hk)

theorem execSafSpb_steady (q : Req) (s t : State) (h : execSafSpb q s = .next t) (hk : s.steady.1 = true) :
    t.steady = s.steady := by
  exact State.live_steady h (State.hostIn_steady _ _ _ hk)

theorem execSafProof_steady (q : Req) (test : Byte) (s t : State) (h : execSafProof q test s = .next t) (hk : s.steady.1 =
  true) :
    t.steady = s.steady := by
  exact State.live_steady h (State.hostIn_steady _ _ _ hk)

theorem execSafProofOut_steady (q : Req) (out seen : Byte) (s t : State) (h : execSafProofOut q out seen s = .next t) (hk :
  s.steady.1 = true) :
    t.steady = s.steady := by
  exact State.live_steady h (State.hostIn_steady _ _ _ hk)

theorem execFwBegin_steady (q : Req) (len ver : Word) (s t : State) (h : execFwBegin q len ver s = .next t) (hk : s.steady.1
  = true) :
    t.steady = s.steady := by
  exact State.live_steady h (State.hostIn_steady _ _ _ hk)

theorem execFwData_steady (q : Req) (off : Word) (data : List Byte) (s t : State) (h : execFwData q off data s = .next t)
  (hk : s.steady.1 = true) :
    t.steady = s.steady := by
  exact State.live_steady h (State.hostIn_steady _ _ _ hk)

theorem execFwEnd_steady (q : Req) (s t : State) (h : execFwEnd q s = .next t) (hk : s.steady.1 = true) :
    t.steady = s.steady := by
  exact State.live_steady h (State.hostIn_steady _ _ _ hk)

theorem execFwActivate_steady (q : Req) (img : Byte) (s t : State) (h : execFwActivate q img s = .next t) (hk : s.steady.1 =
  true) :
    t.steady = s.steady := by
  exact State.live_steady h (State.hostIn_steady _ _ _ hk)

theorem execClose_steady (q : Req) (s t : State) (h : execClose q s = .next t) (hk : s.steady.1 = true) :
    t.steady = s.steady := by
  exact State.live_steady h (State.hostIn_steady _ _ _ hk)

theorem execTrustSet_steady (q : Req) (anchor : List Byte) (s t : State) (h : execTrustSet q anchor s = .next t) (hk :
  s.steady.1 = true) :
    t.steady = s.steady := by
  exact State.live_steady h (State.hostIn_steady _ _ _ hk)

theorem execKeyGen_steady (q : Req) (kind : Byte) (s t : State) (h : execKeyGen q kind s = .next t) (hk : s.steady.1 = true) :
    t.steady = s.steady := by
  exact State.live_steady h (State.hostIn_steady _ _ _ hk)

theorem execCertSet_steady (q : Req) (cert : List Byte) (s t : State) (h : execCertSet q cert s = .next t) (hk : s.steady.1
  = true) :
    t.steady = s.steady := by
  exact State.live_steady h (State.hostIn_steady _ _ _ hk)

theorem execDebugUnlock_steady (q : Req) (token : List Byte) (s t : State) (h : execDebugUnlock q token s = .next t) (hk :
  s.steady.1 = true) :
    t.steady = s.steady := by
  exact State.live_steady h (State.hostIn_steady _ _ _ hk)

theorem execPairHandover_steady (q : Option Req) (s t : State) (h : execPairHandover q s = .next t) (hk : s.steady.1 = true) :
    t.steady = s.steady := by
  exact State.live_steady h (State.pairRow_steady _ _ _ hk)

theorem execPairProof_steady (q : Option Req) (s t : State) (h : execPairProof q s = .next t) (hk : s.steady.1 = true) :
    t.steady = s.steady := by
  exact State.live_steady h (State.pairRow_steady _ _ _ hk)

theorem execPairIsolate_steady (q : Option Req) (s t : State) (h : execPairIsolate q s = .next t) (hk : s.steady.1 = true) :
    t.steady = s.steady := by
  exact State.live_steady h (State.pairRow_steady _ _ _ hk)

theorem execPairRejoin_steady (q : Option Req) (s t : State) (h : execPairRejoin q s = .next t) (hk : s.steady.1 = true) :
    t.steady = s.steady := by
  exact State.live_steady h (State.pairRow_steady _ _ _ hk)

end Sys2Proof.Machine
end

