-- ==== Sys2Proof/Laws/SteadyStep.lean ====
section
/-! SUPPORT. What every operation keeps of a sound state (Safety.lean), block by block: stitches, the boundary and the clock edge. -/
namespace Sys2Proof.Machine

/-! ### Boundary -/

theorem State.doutAct_steady (s : State) (edge : Nat) (hk : s.steady.1 = true) : (State.doutAct s edge).steady = s.steady := by
  simp (maxDischargeDepth := 40) +contextual only [State.doutAct, ↓State.setTrig_steady, hk, 
    ↓State.steady_ite, 
    ite_self]

theorem State.stitchAct_steady (s : State) (n p : Nat) (hk : s.steady.1 = true) : (State.stitchAct s n p).steady = s.steady
  := by
  unfold State.stitchAct; (repeat' split) <;> simp (maxDischargeDepth := 40) +contextual only [↓State.doutAct_steady,
    ↓State.emit_steady, ↓State.pwmSync_steady, ↓State.scanTrigAngle_steady, ↓State.sendMarks_steady,
    ↓State.snapRaise_steady, ↓State.trgArm_steady, hk]

theorem State.onceDone_steady (s : State) (n : Nat) (hk : s.steady.1 = true) : (State.onceDone s n).steady = s.steady := by
  simp (maxDischargeDepth := 40) +contextual only [State.onceDone, ↓State.setReg_steady, hk, 
    ↓State.steady_ite, 
    ite_self]

theorem State.stitchFire_steady (s : State) (n p : Nat) (hk : s.steady.1 = true) : (State.stitchFire s n p).steady =
  s.steady := by
  simp (maxDischargeDepth := 40) +contextual only [State.stitchFire, ↓State.onceDone_steady, ↓State.stitchAct_steady,
    ↓State.toAc_steady, hk]

theorem State.fireTo_steady (s : State) (lim : Nat) (hk : s.steady.1 = true) : (State.fireTo s lim).steady = s.steady := by
  simp (maxDischargeDepth := 40) +contextual only [State.fireTo, ↓State.stitchFire_steady, hk, 
    ↓State.steady_mk, ↓State.steady_fold,
    ↓State.foldl_steady, implies_true]

theorem State.stitchReach_steady (s : State) (n : Nat) (hk : s.steady.1 = true) : (State.stitchReach s n).steady = s.steady
  := by
  unfold State.stitchReach; (repeat' split) <;> simp (maxDischargeDepth := 40) +contextual only [↓State.fireTo_steady, hk]

theorem State.fireToClk_steady (s : State) (k : Nat) (hk : s.steady.1 = true) : (State.fireToClk s k).steady = s.steady := by
  simp (maxDischargeDepth := 40) +contextual only [State.fireToClk, ↓State.fireTo_steady, hk]

theorem State.pipelineTo_steady (s : State) (clk ac : Nat) (hk : s.steady.1 = true) : (s.pipelineTo clk ac).steady =
  s.steady := by
  have hi : ∀ (c : Prop) [Decidable c] (t u : State), t.steady = s.steady → (t.steady.1 = true → u.steady = t.steady) →
      (if c then u else t).steady = s.steady := fun c _ t u h hu =>
    State.ite_steady (fun _ => State.steady_trans hu h hk) (fun _ => h)
  have hf : ∀ (t : State) (n : Nat) (f : State → State), (∀ u : State, u.steady.1 = true → (f u).steady = u.steady) →
      t.steady.1 = true → (f (t.fireTo n)).steady = t.steady := fun t n f hf h =>
    State.steady_trans (hf _) (t.fireTo_steady n h) h
  have hc : ∀ (t : State) (n : Nat) (f : State → State), (∀ u : State, u.steady.1 = true → (f u).steady = u.steady) →
      t.steady.1 = true → (f (t.fireToClk n)).steady = t.steady := fun t n f hf h =>
    State.steady_trans (hf _) (t.fireToClk_steady n h) h
  unfold State.pipelineTo
  extract_lets s1 s2 g s3 s4 s5 s6 s7
  have h1 : s1.steady = s.steady := hi _ s _ rfl (hc s 480 State.deliver (fun u h => u.deliver_steady h))
  have h2 : s2.steady = s.steady := hi _ s1 _ h1 (hf s1 255 State.respDeadline (fun u h => u.respDeadline_steady h))
  have h3 : s3.steady = s.steady := hi _ s2 _ h2 (hc s2 g (fun u => u.gfeComplete false) (fun u h => u.gfeComplete_steady
    false h))
  have h4 : s4.steady = s.steady := hi _ s3 _ h3 (fun h => s3.releaseTo_steady _ h)
  have h5 : s5.steady = s.steady := hi _ s4 _ h4 (hc s4 _ State.armComplete (fun u h => u.armComplete_steady h))
  have h6 : s6.steady = s.steady := hi _ s5 _ h5 (fun h => s5.shadowSettle_steady h)
  have h7 : s7.steady = s.steady := hi _ s6 _ h6 (hf s6 799 State.deadline (fun u h => u.deadline_steady h))
  exact hi _ s7 _ h7 (hf s7 999 State.recMissAct (fun u h => u.recMissAct_steady h))

theorem State.runTo_steady (s : State) (t : Nat) (hk : s.steady.1 = true) : (State.runTo s t).steady = s.steady := by
  simp (maxDischargeDepth := 40) +contextual only [State.runTo, ↓State.fireTo_steady, ↓State.pipelineTo_steady,
    ↓State.toSysClk_steady, hk, 
    ↓State.steady_ite, ite_self]

theorem State.timed_steady (s : State) (e : Timed) (hk : s.steady.1 = true) : (s.timed e).steady = s.steady := by
  cases e with
  | load n => exact s.transfer_steady n hk
  | period n => exact s.periodDue_steady n hk
  | cmp n => exact s.cmpMatchAct_steady n hk
  | xc n k => exact s.xcMatchAct_steady n k hk
  | dead n b => exact s.deadTimeAct_steady n b hk
  | blank i => exact s.blankCloseAct_steady i hk
  | filter n => exact s.fltDeliver_steady n hk
  | refSettled g => exact s.refSettle_steady g hk
  | spareCal => exact s.spareCalAct_steady hk
  | recClose k => exact s.recordCloseAct_steady k hk
  | snapLow => exact s.snapLow_steady hk
  | snapCopy => exact s.snapDone_steady hk
  | sinFault k => exact State.steady_trans (fun h => State.flush_steady _ h) (s.sinFaultDue_steady k hk) hk
  | ssrLimit => exact s.ssrExpired_steady hk
  | proofHold => exact s.holdOver_steady hk
  | proofLimit => exact State.steady_trans (fun h => State.flush_steady _ h) (s.proofEnd_steady false hk) hk
  | reorder n => exact s.reorderOut_steady n hk
  | idle n => exact s.closeSess_steady n hk
  | noAnswer tag => exact s.mgmtAnswer_steady tag 0x201 [] hk
  | ackLate => exact s.ackLateAct_steady hk
  | mirrorLate => exact s.mirrorTimeout_steady hk
  | apllLate => exact s.apllLateAct_steady hk
  | calLock => exact s.calLock_steady hk
  | calHold => exact s.calHold_steady hk
  | calExpire => exact s.holdExpired_steady hk


theorem State.elapse_steady (s : State) (lim : Nat) (fuel : Nat) (hk : s.steady.1 = true) :
    (s.elapse lim fuel).steady = s.steady := by
  induction fuel generalizing s with
  | zero => rfl
  | succ k ih =>
    unfold State.elapse
    split
    · rename_i t e _
      have h1 : (if t < s.sys.clk then s.actAt t (fun u => u.timed e) else (s.runTo t).timed e).steady = s.steady :=
        State.ite_steady (fun _ => s.actAt_steady t _ hk (fun u h => u.timed_steady e h))
          (fun _ => State.steady_trans (fun h => State.timed_steady _ e h) (s.runTo_steady t hk) hk)
      rw [ih _ (by rw [h1]; exact hk), h1]
    · rfl

theorem State.standbyCount_steady (s : State) (hk : s.steady.1 = true) : (State.standbyCount s).steady = s.steady := by
  simp (maxDischargeDepth := 40) +contextual only [State.standbyCount, ↓State.modeObserve_steady, ↓State.rtObserve_steady,
    hk, ↓State.steady_ite,
    ite_self]

theorem State.endStep_steady (s : State) (hk : s.steady.1 = true) : (State.endStep s).steady = s.steady := by
  simp (maxDischargeDepth := 40) +contextual only [State.endStep, ↓State.armEnd_steady, ↓State.elapse_steady,
    ↓State.fireTo_steady, ↓State.fltEnd_steady, ↓State.marginEnd_steady, ↓State.mtrBoundary_steady, ↓State.pass_steady,
    ↓State.pipelineTo_steady, ↓State.safBoundary_steady, ↓State.standbyCount_steady, ↓State.stepMissed_steady,
    ↓State.takeReads_steady, ↓State.when_steady, hk, 
    ↓State.when_steady,
    implies_true]

/-- The log's own marks, which its soundness does not rest on. -/

theorem State.evMark_steady (s : State) (k : Nat) (b : Bool) (hk : s.steady.1 = true) :
    ({ s with sys := { s.sys with ev := { s.sys.ev with item := k, alarm := b } } } : State).steady = s.steady := by
  obtain ⟨hr, hm, he⟩ := State.sound_of_steady hk
  exact State.steady_ext hk hr hm he rfl rfl rfl rfl rfl


theorem State.atItem_steady (s : State) (k : Nat) (hk : s.steady.1 = true) : (s.atItem k).steady = s.steady :=
  s.evMark_steady k _ hk

theorem State.item1_steady (s : State) (hk : s.steady.1 = true) : (State.item1 s).steady = s.steady := by
  simp (maxDischargeDepth := 40) +contextual only [State.item1, ↓State.angBoundary_steady, ↓State.angDiscBoundary_steady,
    ↓State.atItem_steady, ↓State.calBoundary_steady, hk, 
    ↓State.steady_mk, ↓State.steady_fold]

theorem State.rolesBoundary_steady (s : State) (hk : s.steady.1 = true) : (State.rolesBoundary s).steady = s.steady := by
  unfold State.rolesBoundary
  repeat' first
    | exact hk
    | (simp (maxDischargeDepth := 40) +contextual only [*, ↓State.adoptBoundary_steady, ↓State.handoverBoundary_steady,
      ↓State.isolatedReady_steady, ↓State.mtrTakeover_steady, ↓State.transferBoundary_steady, 
      ↓State.steady_ite, 
      ite_self]; done)

theorem State.takeDue_steady (s : State) (hk : s.steady.1 = true) : (State.takeDue s).2.2.steady = s.steady := by
  simp (maxDischargeDepth := 40) +contextual only [State.takeDue, ↓State.updCmds_steady, hk, 
    ↓State.steady_ite, ↓State.steady_mk, ↓State.steady_fold,
    ite_self]

theorem State.brkDue_steady (s : State) (l : List Accepted) (hk : s.steady.1 = true) : (State.brkDue s l).steady = s.steady
  := by
  unfold State.brkDue
  repeat' first
    | exact hk
    | (simp (maxDischargeDepth := 40) +contextual only [*, ↓State.brkApply_steady, 
      ↓State.steady_ite, 
      ite_self]; done)
    | split
    | refine State.foldl_steady _ _ _ ?_ (fun s x h => ?_)

theorem State.transition_steady (s : State) (conv0 tie0 : Bool) (want : Option (Nat × Mode)) (hk : s.steady.1 = true) :
  (State.transition s conv0 tie0 want).2.steady = s.steady := by
  unfold State.transition; dsimp only; (repeat' split) <;> simp (maxDischargeDepth := 40) +contextual only
    [↓State.enterMode_steady, ↓State.formSets_steady, ↓State.routesHome_steady, hk, 
    ↓State.steady_mk, ↓State.steady_fold]

theorem State.dropped_steady (s : State) (want : Option (Nat × Mode)) (done : Bool) (hk : s.steady.1 = true) :
  (State.dropped s want done).steady = s.steady := by
  simp (maxDischargeDepth := 40) +contextual only [State.dropped, ↓State.setFlagEach_steady, ↓State.when_steady, hk,
    ↓State.when_steady, implies_true]

theorem State.proofDue_steady (s : State) (a : Accepted) (t : Nat) (hk : s.steady.1 = true) : (State.proofDue s a t).steady
  = s.steady := by
  simp (maxDischargeDepth := 40) +contextual only [State.proofDue, ↓State.complete_steady, ↓State.proofBegin_steady, hk,
    ↓State.steady_ite,
    ite_self]

theorem State.runDue_steady (done : Bool) (s : State) (a : Accepted) (hk : s.steady.1 = true) : (State.runDue done s
  a).steady = s.steady := by
  unfold State.runDue
  repeat' first
    | exact hk
    | (simp (maxDischargeDepth := 40) +contextual only [*, ↓State.bndOp_steady, ↓State.complete_steady,
      ↓State.proofDue_steady, 
      ↓State.steady_ite, ite_self]; done)
    | split

theorem State.mirrorDue_steady (s : State) (a : Accepted) (hk : s.steady.1 = true) : (State.mirrorDue s a).steady = s.steady
  := by
  unfold State.mirrorDue
  repeat' first
    | exact hk
    | (simp (maxDischargeDepth := 40) +contextual only [*, ↓State.applyAccess_steady, ↓State.cfgWrite_steady,
      ↓State.setTarget_steady, 
      ↓State.steady_ite, ↓State.foldl_steady, ite_self,
      implies_true]; done)
    | split

theorem State.commandsBoundary_steady (s : State) (hk : s.steady.1 = true) : (State.commandsBoundary s).steady = s.steady := by
  simp (maxDischargeDepth := 40) +contextual only [State.commandsBoundary, ↓State.brkDue_steady, ↓State.dropped_steady,
    ↓State.mirrorDue_steady, ↓State.modeEvents_steady, ↓State.runDue_steady, ↓State.ssrInBindOff_steady,
    ↓State.takeDue_steady, ↓State.transition_steady, hk, 
    ↓State.steady_ite, ↓State.foldl_steady, 
    ite_self, implies_true]

theorem State.stepBegin_steady (s : State) (hk : s.steady.1 = true) : (State.stepBegin s).steady = s.steady := by
  simp (maxDischargeDepth := 40) +contextual only [State.stepBegin, ↓State.adcBoundary_steady, ↓State.fltGd_steady,
    ↓State.ldgBoundary_steady, ↓State.mainPeriods_steady, ↓State.modeTargets_steady, ↓State.pwmRefresh_steady,
    ↓State.remBoundary_steady, ↓State.rtBoundary_steady, ↓State.setsBoundary_steady, ↓State.unmappedCheck_steady, hk,
    ↓State.steady_ite,
    ↓State.steady_mk, ↓State.steady_fold, ite_self]

theorem State.stepMarks_steady (s : State) (hk : s.steady.1 = true) : (State.stepMarks s).steady = s.steady := by
  simp (maxDischargeDepth := 40) +contextual only [State.stepMarks, List.length_map, 
    ↓State.steady_mk, ↓State.steady_fold]

theorem State.alarmClear_steady (s : State) (hk : s.steady.1 = true) : (s.alarmClear).steady = s.steady := by
  unfold State.alarmClear
  exact State.ite_steady (fun _ => s.evMark_steady _ false hk) (fun _ => rfl)

theorem State.besides_steady (s : State) (hk : s.steady.1 = true) : (State.besides s).steady = s.steady := by
  simp (maxDischargeDepth := 40) +contextual only [State.besides, ↓State.alarmClear_steady, ↓State.bulkResume_steady,
    ↓State.evBoundary_steady, ↓State.flush_steady, ↓State.handoverWanted_steady, ↓State.lifelineCapture_steady,
    ↓State.qualBoundary_steady, ↓State.relayUpdate_steady, ↓State.resetBoundary_steady, ↓State.retvCheck_steady,
    ↓State.sramServe_steady, ↓State.transferStart_steady, ↓State.unpark_steady, hk]

theorem State.rowEchoes_steady (s : State) (hk : s.steady.1 = true) : (State.rowEchoes s).steady = s.steady := by
  simp (maxDischargeDepth := 40) +contextual only [State.rowEchoes, ↓State.echoSend_steady, ↓State.pairEchoes_steady, hk,
    ↓State.steady_ite,
    ↓State.foldl_steady, ite_self, implies_true]

theorem State.items345_steady (s : State) (hk : s.steady.1 = true) : (State.items345 s).steady = s.steady := by
  simp (maxDischargeDepth := 40) +contextual only [State.items345, ↓State.atItem_steady, ↓State.fireTo_steady,
    ↓State.idles_steady, ↓State.rowEchoes_steady, hk]

theorem State.armStale_steady (s : State) (hk : s.steady.1 = true) : (State.armStale s).steady = s.steady := by
  simp (maxDischargeDepth := 40) +contextual only [State.armStale, 
    ↓State.steady_mk, ↓State.steady_fold]

theorem State.boundaryRest_steady (s : State) (hk : s.steady.1 = true) : (State.boundaryRest s).steady = s.steady := by
  simp (maxDischargeDepth := 40) +contextual only [State.boundaryRest, ↓State.armStale_steady, ↓State.atItem_steady,
    ↓State.besides_steady, ↓State.commandsBoundary_steady, ↓State.items345_steady, ↓State.kzClock_steady,
    ↓State.rolesBoundary_steady, ↓State.stepBegin_steady, ↓State.stepMarks_steady, hk, 
    ↓State.steady_ite, 
    ite_self]

theorem State.boundary_steady (s : State) (hk : s.steady.1 = true) : (State.boundary s).steady = s.steady := by
  simp (maxDischargeDepth := 40) +contextual only [State.boundary, ↓State.boundaryRest_steady, ↓State.endStep_steady,
    ↓State.item1_steady, hk, 
    ↓State.steady_ite, ite_self]

theorem State.clockEdge_steady (s : State) (hk : s.steady.1 = true) : (State.clockEdge s).steady = s.steady := by
  simp (maxDischargeDepth := 40) +contextual only [State.clockEdge, ↓State.boundary_steady, ↓State.elapse_steady,
    ↓State.fireTo_steady, ↓State.pass_steady, ↓State.pipelineTo_steady, hk, 
    ↓State.steady_ite, ↓State.steady_mk, ↓State.steady_fold, 
    ite_self]

theorem execStitchFire_steady (n : Fin 2048) (s t : State) (h : execStitchFire n s = .next t) (hk : s.steady.1 = true) :
    t.steady = s.steady := by
  exact State.live_steady h (State.stitchReach_steady _ _ hk)

theorem execStepBoundary_steady (s t : State) (h : execStepBoundary s = .next t) (hk : s.steady.1 = true) :
    t.steady = s.steady := by
  exact State.live_steady h (State.boundary_steady _ hk)

theorem execInitComplete_steady (pass : Bool) (s t : State) (h : execInitComplete pass s = .next t) (hk : s.steady.1 = true) :
    t.steady = s.steady := by
  refine State.live_steady h ?_
  simp (maxDischargeDepth := 40) +contextual only [↓State.initComplete_steady, ↓State.items345_steady, 
    ↓State.stepBegin_steady, hk, 
    ↓State.steady_ite, ite_self]

end Sys2Proof.Machine
end

