-- ==== Sys2Proof/Tests/Slice0.lean ====
section
/-! SUPPORT. The model's own tests: ill-formed commands that `Instr.wf` refuses, values written out by hand from rules of the
specification, and for every statement with hypotheses a state and operands that meet them. -/

section
set_option Elab.async false
open Sys2Proof Sys2Proof.Machine

/-! ### States the tests use -/

/-- A unit that has started. -/
def Tests.live : State := { State.reset with pwr := { State.reset.pwr with booted := true } }

/-- A started unit whose angle base runs on its own. -/
def Tests.turn : State := { Tests.live with ang := { State.reset.ang with st := .free } }

/-- The unit in a role and a mode. -/
def Tests.inMode (s : State) (r : Role) (m : Mode) : State := { s with mo := { s.mo with role := r, mode := m } }

/-- A running, active unit in direct mode (PIPE_CFG at reset). -/
def Tests.act : State := Tests.inMode Tests.turn .active .ready

/-- A running unit in STANDBY whose PAIR_CFG has PAIR_EN set. -/
def Tests.stby : State := (Tests.inMode Tests.turn .standby .ready).setReg Reg.PAIR_CFG 1

/-- With PIPE_CFG.LANE_MODE set. -/
def Tests.lanes (s : State) : State := s.setReg Reg.PIPE_CFG 1

theorem test_states_up : Tests.live.up ∧ Tests.turn.up ∧ Tests.act.up ∧ Tests.stby.up ∧ (Tests.lanes Tests.act).up := by
  unfold State.up; decide +kernel

/-! ### Ill-formed commands: one for each check of `Instr.wf` -/

theorem test_wf_refuses :
    [Instr.registerWrite [], .pairMarkRx false ⟨0, 1024, 0, 0, false, .ready, 0⟩ 0, .pairMarkRx false ⟨0, 0, 0, 0, false, .ready, 256⟩ 0,
     .cycUpRx 0 0 0 0 [], .cycUpRx 0 255 2 0 [0, 0], .cycUpRx 0 0 2 0 [0],
     .bulkBlockRx 0 ⟨1, 0, false, 0, [1, 2, 3], none⟩ true, .bulkBlockRx 0 ⟨1, 0, false, 0, List.replicate 9 0, none⟩ true,
     .auditRx 0 [], .concMarkRx 0 0 ⟨0, 1024, 0, 0, false, .ready, 0⟩ 0, .concCycDnRx 0 false 0 0 255 [0, 0],
     .concOosRunRx 0 false 0 0 0 [], .concRestrictRx 0 false true false 6 0 0 0, .reportRx 0 0 0 [],
     .identRx 0 ⟨0, 0, 1, 0, []⟩, .conversionDone 0 32768, .conversionDone 0 (-32769), .capDataRx 0 0 0 0 [],
     .sampleRx false 0 0 [], .smBulkRequestRx 0 (.sweepRd 0 0 0), .smBulkRequestRx 0 (.reconcile 0 [] 0),
     .smBulkRequestRx 0 (.mgmt 0 0 (List.replicate 257 0))].all (fun i => !i.wf) = true := by decide +kernel

theorem test_wf_refuses_long :
    (let q : Req := ⟨1, 1, .h0⟩
     !(Instr.mgmtSend q false 0 0 (List.replicate 1401 0)).wf && !(Instr.mgmtAnswerRx 0 0 (List.replicate 257 0)).wf &&
     !(Instr.mgmtEventRx 0 0 (List.replicate 257 0)).wf && !(Instr.regAccess q (List.replicate 117 ⟨0, 0, 0⟩)).wf &&
     !(Instr.ldgKeySet q (List.replicate 1401 0)).wf && !(Instr.spsWrite q 0 (List.replicate 350 0)).wf &&
     !(Instr.fwData q 0 (List.replicate 1397 0)).wf && !(Instr.hello .s0 (List.replicate 1401 0)).wf &&
     !(Instr.finish .s0 0 (List.replicate 1401 0)).wf && !(Instr.trustSet q (List.replicate 1401 0)).wf &&
     !(Instr.certSet q (List.replicate 1401 0)).wf && !(Instr.debugUnlock q (List.replicate 1401 0)).wf &&
     !(Instr.mtSliceReturn (List.replicate 33 0)).wf) = true := by decide +kernel

theorem test_wf_packet (d : List Byte) (h : d.length = 65536) : (Instr.packetRx .s0 d).wf = false := by
  simp [Instr.wf, lenIn, h]

/-- A step record and a transfer of a step beyond the row. -/
theorem test_wf_record (r : StepRec) (x : Transfer) (h : r.step = 1024) (k : x.srec.step = 1024) :
    (Instr.stepRecordRx r 0).wf = false ∧ (Instr.stateTransferDone x).wf = false := by
  simp [Instr.wf, StepRec.wf, h, k]

/-- Well-formed commands at the bounds of the same checks. -/
theorem test_wf_takes :
    [Instr.cycUpRx 0 254 2 0 [0, 0], .concCycDnRx 0 false 0 0 255 [0], .concRestrictRx 0 false true false 5 0 0 0,
     .conversionDone 0 32767, .conversionDone 0 (-32768), .bulkBlockRx 0 ⟨1, 0, false, 0, List.replicate 256 0, none⟩ true].all
      Instr.wf = true := by decide +kernel

/-! ### States and operands that meet the hypotheses of the statements, one conjunct for each clause -/

/-- A log entry for the staging ring. -/
def Tests.entry : EvEntry :=
  { index := 0, key := ⟨0, 0, 0, 0, 7, 0, 0, 0⟩, subseq := 0, cls := 1, unit := false, shadow := false, fw := false,
    restaged := false, preAngle := false, source := 0, code := 0, time := 0, data := 0 }

/-- A running unit one clock before its boundary. -/
def Tests.edge : State := { Tests.turn with ang := { Tests.turn.ang with acc := BitVec.ofNat 64 (2 ^ 54 - 1) } }

theorem test_meets_IdleStepIsClockEdge :
    (let s : State := { State.reset with pwr := { State.reset.pwr with on := false } }
     s.pending = [] ∧ s.pwr.on = false) ∧
    (State.reset.pending = [] ∧ State.reset.pwr.on = true ∧ State.reset.running = false) ∧
    (Tests.edge.pending = [] ∧ Tests.edge.pwr.on = true ∧ Tests.edge.running = true ∧ Tests.edge.toBoundary ≤ 1) ∧
    (Tests.turn.pending = [] ∧ Tests.turn.pwr.on = true ∧ Tests.turn.running = true ∧ 1 < Tests.turn.toBoundary) := by
  decide +kernel

theorem test_meets_StepKeepsSafe :
    ∃ s t : State, s.safe = true ∧ step s = .next t :=
  ⟨Tests.live, { Tests.live with sys := { Tests.live.sys with clk := 1, tai := Tests.live.sys.tai + Tests.live.tick } },
    by decide +kernel, rfl⟩

theorem test_meets_EveryCommandAnswers : State.reset.sound = true := by decide +kernel

theorem test_meets_NoEffectWithoutPower :
    let s : State := { State.reset with pwr := { State.reset.pwr with on := false } }
    s.pwr.on = false ∧ Instr.stepBoundary.actsUnpowered = false := by decide +kernel

theorem test_meets_Stores :
    (State.reset.sound = true ∧ (1 : Nat) ≠ 0) ∧ mwf (fun _ => Sm.fresh) State.reset.arm.sms = true := by decide +kernel

theorem test_meets_EventLog :
    (let s := Tests.live
     s.sound = true ∧ Reg.GFE_FLAGS ≠ Reg.EVLOG_FLAGS ∧ 31 < 32 ∧ s.flag Reg.GFE_FLAGS 31 = false ∧
       s.sys.ev.lostPend = none ∧ s.sys.ev.staged.length < 1024) ∧
    (let s := Tests.live.setFlag Reg.GFE_FLAGS 0
     s.sound = true ∧ s.flag Reg.GFE_FLAGS 0 = true) ∧
    (let s : State := { Tests.live with sys := { Tests.live.sys with
       ev := { Tests.live.sys.ev with staged := List.replicate 1024 Tests.entry } } }
     s.sound = true ∧ s.sys.ev.staged.length = 1024) := by decide +kernel

theorem test_meets_BoundaryOrder : Tests.turn.pwr.on = true ∧ Tests.turn.running = true := by decide +kernel

theorem test_meets_BoundaryAdvances :
    let s := Tests.edge
    s.sound = true ∧ s.running = true ∧ s.ang.backup = false ∧ s.ang.trim.natAbs ≤ 2 * s.ang.rate.toNat / 1000000 := by
  decide +kernel

theorem test_meets_RateStaysInBounds :
    let rate := 0x32000000; let cmd := 0x32000001; let rocof := regReset Reg.ANG_ROCOF
    rateMin ≤ rate ∧ rate ≤ rateMax ∧ rateMin ≤ cmd ∧ cmd ≤ rateMax ∧ cmd ≤ rate + dmaxOf rocof.toNat rate ∧
      rate ≤ cmd + dmaxOf rocof.toNat rate := by decide +kernel

theorem test_meets_EngineCommands :
    (Tests.act.up ∧ Tests.act.running = true ∧ Tests.act.gfe.delivered = false) ∧
    (let s : State := { Tests.act with gfe := { Tests.act.gfe with delivered := true } }
     s.up ∧ s.running = true ∧ s.gfe.delivered = true ∧ s.gfe.done = false ∧ s.cmd.waits = [] ∧ s.pair.modeDue = false ∧
       s.pair.shadowStep = false) ∧
    Tests.stby.shadowing = true ∧
    (let s := Tests.inMode Tests.act .active .coast
     s.shadowing = false ∧ s.mode = .coast) ∧
    Tests.act.released = false ∧ Tests.act.pipe.judged = false ∧ Tests.act.acUp ≤ 800 := by unfold State.up; decide +kernel

/-- A lane-mode unit with one qualified lane of two slots that is its association's route. -/
def Tests.lane0 (s : State) : State :=
  let t := (((Tests.lanes s).setReg (Reg.LNK_CFG 0) 1).setReg (Reg.LNK_MAP 0) 0x20000).setReg (Reg.ARMa_N 0) 2
  (t.updLane 0 (fun l => { l with qual := true })).updAssoc 0 (fun x => { x with route := some 0 })

/-- A lane-mode unit outside the pair whose words are built. -/
def Tests.built : State := { Tests.lanes Tests.turn with arm := { Tests.turn.arm with built := true } }

theorem test_meets_DeadlineCommands_arm :
    (let s := Tests.built
     s.up ∧ s.running = true ∧ s.pipe.armDone = false ∧ s.arm.built = true ∧ s.laneMode = true ∧ s.isActive = false ∧
       s.shadowing = false ∧ s.pair.shadowStep = false) ∧ ∀ a, (Tests.built.assoc a).replayDue = false := by
  refine ⟨by unfold State.up; decide +kernel, fun a => ?_⟩
  have h : ∀ b, b < 21 → (Tests.built.assoc b).replayDue = false := by decide +kernel
  have n : Tests.built.lnk.assocs.length = 21 := by decide +kernel
  by_cases k : a < 21
  · exact h a k
  · rw [State.assoc, List.getD_eq_getElem?_getD, List.getElem?_eq_none (by omega)]; rfl

theorem test_meets_DeadlineCommands :
    (Tests.act.up ∧ Tests.act.running = true ∧ Tests.act.pipe.respTaken = false ∧ Tests.act.laneMode = false) ∧
    (Tests.lanes Tests.act).laneMode = true ∧
    (let s : State := { Tests.lane0 Tests.act with arm := { (Tests.lane0 Tests.act).arm with built := true } }
     let u := s.toClk (paceClk 0 (s.mapN (s.prim 0)))
     let t := s.updLane 0 (fun l => { l with qmask := 1 })
     let v := t.toClk (paceClk 1 (t.mapN (t.prim 0)))
     (s.up ∧ s.arm.built = true ∧ s.slotsDue (paceClk 0 (s.mapN (s.prim 0)) - 1) = [] ∧ u.cycLanes.contains 0 = true ∧
       0 < s.mapN (s.prim 0) ∧ (s.lane 0).qmask.testBit 0 = false ∧ s.pipe.judged = false ∧ u.acUp ≤ 800) ∧
     t.up ∧ t.arm.built = true ∧ t.slotsDue (paceClk 1 (t.mapN (t.prim 0)) - 1) = [] ∧ v.cycLanes.contains 0 = true ∧
       1 < t.mapN (t.prim 0) ∧ (t.lane 0).qmask.testBit 1 = false ∧ t.pipe.judged = false ∧ v.acUp ≤ 800 ∧
       maskFull 3 (t.mapN (t.prim 0)) = true) ∧
    (let s : State := { Tests.act with pipe := { Tests.act.pipe with armDone := true } }
     s.up ∧ s.running = true ∧ s.pipe.judged = false ∧ s.pair.silence = false ∧ s.paired = false ∧ s.isActive = true ∧
       s.laneMode = false ∧ s.pipe.armDone = true) ∧
    (let s := Tests.act.setReg Reg.PIPE_CFG 0
     s.sound = true ∧ s.isActive = true ∧ s.pair.silence = false ∧ s.laneMode = false ∧ s.pipe.armDone = false ∧
       s.pipe.lateLast = false ∧ s.flag Reg.PIPE_CFG 1 = false) ∧
    (let s : State := { Tests.act.setReg Reg.PIPE_CFG 0 with pipe := { Tests.act.pipe with lateLast := true } }
     s.sound = true ∧ s.isActive = true ∧ s.pair.silence = false ∧ s.laneMode = false ∧ s.pipe.armDone = false ∧
       s.pipe.lateLast = true ∧ s.paired = false ∧ s.flag Reg.PIPE_CFG 1 = false) := by
  unfold State.up; decide +kernel

/-- A standby whose angle base is disciplined, in a state of the discipline. -/
def Tests.disc (st : AngState) : State :=
  let s := Tests.stby.setReg Reg.ANG_CFG 2
  { s with ang := { s.ang with st := st } }

theorem test_meets_AngleCommands :
    (let s : State := { Tests.disc .track with ang := { (Tests.disc .track).ang with lockCnt := 1024 } }
     s.up ∧ s.disciplined = true ∧ s.ang.st = .track ∧ 1024 ≤ s.ang.lockCnt) ∧
    (let s : State := { Tests.disc .locked with ang := { (Tests.disc .locked).ang with outCnt := 4, err := 80001 } }
     s.up ∧ s.disciplined = true ∧ s.ang.st = .locked ∧ 4 ≤ s.ang.outCnt ∧ 80000 < s.ang.err.natAbs) ∧
    (let s : State := { Tests.disc .locked with ang := { (Tests.disc .locked).ang with noMark := 2 } }
     s.up ∧ s.disciplined = true ∧ 2 ≤ s.ang.noMark ∧ s.ang.st ≠ .hold) ∧
    (let s := Tests.disc .track
     let m : Mark := { row := 0, step := 0, rate := 0x32000000, epoch := 0, unit := false, mode := .ready, txofs := 0 }
     s.up ∧ s.paired = true ∧ s.shadowing = true ∧ (s.port 20).ts ≠ .confirm ∧ s.pair.modeDue = false ∧ s.ang.st = .track ∧
       false = s.ang.path ∧ true ≠ s.ang.path ∧ rateMin ≤ m.rate.toNat ∧ m.rate.toNat ≤ rateMax ∧
       epochNewer m.epoch s.pair.epochMax = false ∧ (s.phaseErrOf m 69000 (s.pathDelay false)).natAbs ≤ 20000 ∧
       (s.port 21).ts ≠ .confirm) := by unfold State.up; decide +kernel

/-- A unit whose entry 9 drives TRIG_OUT in every step at ac 64, once the fixed entry 1 has fired. -/
def Tests.entry9 : State :=
  let s := ((Tests.turn.setReg (Reg.STn_CTL 9) 0x53).setReg (Reg.STn_POS 9) 64).setReg Reg.ANG_GROUP_EN 1
  { s with ang := { s.ang with fired := 1 } }

theorem test_meets_AngleCommands_stitch :
    let s := Tests.entry9
    s.up ∧ s.running = true ∧ s.entryAc 9 = some 64 ∧ s.ang.fired ≤ s.stepNo * 1024 + 64 ∧ s.entriesDue 64 = [(64, 9)] ∧
      s.fld (Reg.STn_CTL 9) 4 3 = 5 ∧ s.fld (Reg.STn_CTL 9) 1 2 = 1 ∧ s.trigClaim = none ∧
      bits (s.reg (Reg.STn_TGT 9)) 0 2 = 0 ∧ s.ang.trigOut = false := by unfold State.up; decide +kernel

/-- With a latched SPB. -/
def Tests.spb (s : State) : State := { s with saf := { s.saf with spb := true } }

theorem test_meets_TransitionsOfTheTable :
    (Tests.spb Tests.act).chooseRow false false none = some (25, 1, .safeStop) := by decide +kernel

theorem test_meets_SafeStopWins :
    Tests.stby.shadowing = true ∧
    (let s := Tests.spb Tests.act
     s.shadowing = false ∧ s.saf.spb = true ∧ s.mode ≠ .init ∧ s.mode ≠ .safeStop ∧ (∀ c : Nat × Mode, some (7, Mode.castOn) = some c → 0 < c.1)) := by
  refine ⟨by decide +kernel, by decide +kernel, by decide +kernel, by decide +kernel, by decide +kernel, ?_⟩
  rintro _ ⟨⟩; decide

theorem test_meets_ModeCommands :
    (let s : State := { Tests.act with mo := { Tests.act.mo with ocCnt := 8 } }
     s.up ∧ 8 ≤ s.mo.ocCnt ∧ s.mo.conv = false ∧ s.mode = .ready) ∧
    (let s := Tests.inMode Tests.act .active .castOn
     let t : State := { s with mo := { s.mo with kv1 := 1024 } }
     let u : State := { s with mo := { s.mo with kv1 := 1023, tPause := msFs (1000 * s.regN Reg.MODE_CO_TPAUSE) + 1 } }
     t.up ∧ t.mode = .castOn ∧ 1024 ≤ t.mo.kv1 ∧
       u.up ∧ u.mode = .castOn ∧ u.mo.kv1 < 1024 ∧ msFs (1000 * u.regN Reg.MODE_CO_TPAUSE) < u.mo.tPause) ∧
    (let s := (Tests.inMode Tests.act .active .sync).setReg Reg.MODE_CFG 1
     let t : State := { s with mo := { s.mo with syOkT := msFs (s.regN Reg.MODE_SY_TOK), syncT := msFs (1000 * s.regN Reg.MODE_SY_TMAX) } }
     t.up ∧ t.mode = .sync ∧ msFs (t.regN Reg.MODE_SY_TOK) ≤ t.mo.syOkT ∧ t.flag Reg.MODE_CFG 0 = true ∧ t.ang.trigOut = false ∧
       msFs (1000 * t.regN Reg.MODE_SY_TMAX) ≤ t.mo.syncT) ∧
    (let s := Tests.inMode Tests.act .active .bindOff
     let t : State := { s with mo := { s.mo with boCnt := 1024, boT := msFs (1000 * s.regN Reg.MODE_BO_TMAX) } }
     t.up ∧ t.mode = .bindOff ∧ 1024 ≤ t.mo.boCnt ∧ msFs (1000 * t.regN Reg.MODE_BO_TMAX) ≤ t.mo.boT) ∧
    ((Mode.rideThrough = .rideThrough ∨ Mode.rideThrough = .coast) ∧ (Mode.connected = .connected ∨ Mode.connected = .island)) ∧
    (Mode.ready ≠ .rideThrough ∧ Mode.ready ≠ .coast) ∧ Tests.act.sound = true := by
  unfold State.up; decide +kernel

theorem test_meets_RideThroughCommands :
    (let s := Tests.inMode Tests.act .active .island
     let t : State := { s with rt := { s.rt with entryCnt := 2 } }
     t.up ∧ 2 ≤ t.rt.entryCnt ∧ t.mode = .island) ∧
    (let s := Tests.inMode Tests.act .active .rideThrough
     let t : State := { s with mo := { s.mo with origin := some .connected }, rt := { s.rt with exitT := s.tExit 0 } }
     t.up ∧ t.mode = .rideThrough ∧ t.tExit (if t.mo.origin = some .island then 1 else 0) ≤ t.rt.exitT) ∧
    (let s := Tests.inMode Tests.act .active .coast
     let t : State := { s with rt := { s.rt with coastT := msFs (s.regN Reg.RT_HOLD), validCnt := 256 } }
     t.up ∧ t.mode = .coast ∧ msFs (t.regN Reg.RT_HOLD) ≤ t.rt.coastT ∧ 256 ≤ t.rt.validCnt) ∧
    (let s := Tests.inMode Tests.act .active .connected
     let t : State := { s with rt := { s.rt with lv := ⟨true, 0, s.tExit 0, false, false, false⟩ } }
     t.up ∧ t.rtSet = some 0 ∧ t.rt.lv.run = true ∧ t.tExit 0 ≤ t.rt.lv.exitT ∧ t.rt.hv.run = false ∧ t.rt.f.run = false ∧
       t.flag Reg.MODE_CFG 0 = false ∧ t.flag Reg.RT_CFG 0 = false) ∧
    (let t : State := { Tests.act with rt := { Tests.act.rt with
       pjRun := true, pjT := msFs (Tests.act.regN Reg.RT_PJ_TDEC), recRun := true, recT := msFs (Tests.act.regN Reg.RT_T_REC) } }
     t.up ∧ t.rt.pjRun = true ∧ msFs (t.regN Reg.RT_PJ_TDEC) ≤ t.rt.pjT ∧ t.rt.recRun = true ∧
       msFs (t.regN Reg.RT_T_REC) ≤ t.rt.recT) := by unfold State.up; decide +kernel

/-- A CRC-protected word of zeros of submodule 0. -/
def Tests.rsp0 : BitVec 96 := BitVec.ofNat 96 (crc16 96 0)

theorem test_meets_Responses :
    (let s := Tests.lane0 Tests.act
     s.up ∧ (s.port 0).ts ≠ .confirm ∧ s.primaryOf 0 = some 0 ∧ s.ac ≤ 256 ∧ 1 < s.mapN 0 ∧ s.pipe.respTaken = false ∧
       s.step10 < 1024 ∧ (s.sm 0).rx = false ∧ rspCrcOk 0 Tests.rsp0 = true ∧ (s.sm 0).repl ≠ 2 ∧ mwf (fun _ => Sm.fresh) s.arm.sms = true ∧
       (s.sm 1).rx = false ∧ rspCrcOk 1 Tests.rsp0 = false) ∧
    (let s := Tests.lane0 Tests.act
     s.up ∧ (s.port 0).ts ≠ .confirm ∧ s.primaryOf 0 = some 0 ∧ 0 < 2 ∧ 0 + 2 ≤ s.mapN 0 ∧ s.ac ≤ 256 ∧ s.mapN 0 < 1 + 2) ∧
    256 < ({ Tests.act with ang := { Tests.act.ang with acc := BitVec.ofNat 64 (2 ^ 53) } } : State).ac ∧
    (let r : Resp := { vcap := 100, status := 0x0A00, soe := 0, tmax := 0, vspread := 0, echo := 5 }
     let w : SmWord := { stamp := 5, epoch := 0, pat1 := 0, pat2 := 0, bal := false, byp := false, iso := false, pci := false }
     let s := (Tests.lane0 Tests.act).updSm 0 (fun m => { m with set := 1, acc := 1, got := some r, words := [w] })
     s.sound = true ∧ mwf (fun _ => Sm.fresh) s.arm.sms = true ∧ (s.sm 0).got = some r ∧
       (s.sm 0).words.any (fun w => w.stamp == r.echo) = true ∧ (s.sm 0).set = 1 ∧ (s.sm 0).inService = true ∧
       statusUsable r.status = true ∧ (s.sm 1).got = none ∧ (s.sm 1).repl = 0 ∧ 1 ≠ (0 : Nat)) ∧
    (let s := (Tests.lane0 Tests.act).updSm 0 (fun m => { m with set := 1, miss := 15 })
     (s.sm 0).got = none ∧ s.fld Reg.ARM_RESP_LOSS 0 4 < (s.sm 0).miss + 1) := by unfold State.up; decide +kernel

/-- Submodule 0 of the ACTIVE set asked to retire, submodule 1 a spare, ready or not. -/
def Tests.retiring (ready : Bool) (set1 : Nat) : State :=
  ((Tests.lane0 Tests.act).updSm 0 (fun m => { m with set := 1, retire := 1 })).updSm 1 (fun m => { m with set := set1, acc := 1, ready := ready })

/-- The same once submodule 0 has retired. -/
def Tests.retired (s : State) : State :=
  ((s.updSm 0 (fun m => { m with set := 3, retire := 0, wearReq := false, usable := false, fail := 0 })).bump
    Reg.ARM_RETIRE_CNT).setFlagEach Reg.ARM_FLAGS 2 0

theorem test_meets_SparesAndComparators :
    (let s := Tests.retiring true 2
     s.up ∧ s.armOf 0 = some 0 ∧ (s.sm 0).set = 1 ∧ (s.sm 0).retire ≠ 0 ∧ (s.sm 0).retire ≠ 3 ∧
       (Tests.retired s).bestSpare 0 = some 1) ∧
    (let s := Tests.retiring false 0
     s.up ∧ s.armOf 0 = some 0 ∧ (s.sm 0).set = 1 ∧ (s.sm 0).retire ≠ 0 ∧ (s.sm 0).retire ≠ 3 ∧
       (Tests.retired s).bestSpare 0 = none ∧ (Tests.retired s).fullestSpare 0 = none) ∧
    (let s := (Tests.retiring true 2).updSm 1 (fun m => { m with joining := true })
     s.up ∧ (s.sm 1).joining = true ∧ (s.sm 1).ready = true ∧ (s.sm 1).set = 2) ∧ 0 < 6 ∧
    (Tests.act.up ∧ Tests.act.released = false ∧ (2 : Fin 6).val < 3) ∧
    (let s := (Tests.inMode (Tests.lane0 Tests.act) .active .island).setReg Reg.GFE_MAP 0x1000000
     s.up ∧ s.released = true ∧ s.flag Reg.GFE_MAP 24 = true ∧ s.laneMode = true) ∧
    (let s := Tests.inMode Tests.act .active .island
     s.up ∧ s.released = true ∧ s.laneMode = false) ∧
    (let s : State := { Tests.act with rt := { Tests.act.rt with restr := [some true, none, none, none, none, none] } }
     s.up ∧ s.rt.restr.getD 0 none = some true ∧ s.rt.lineTrip = List.replicate 3 none) := by unfold State.up; decide +kernel

/-- A command word of zeros for submodule 0, and the same for submodule 1. -/
def Tests.cmd0 : BitVec 128 := BitVec.ofNat 128 (2 ^ 124 + crc16 112 (2 ^ 108))

theorem test_meets_SubmoduleInputs :
    (let s := Tests.act
     s.cmdValid 0 Tests.cmd0 = true ∧ (s.farSm 0).rx = none ∧ s.cmdValid 1 Tests.cmd0 = false ∧ s.loopAt 0 = false) ∧
    (let s := Tests.act.updFar 0 (fun x => { x with rx := some (parseCmd Tests.cmd0), pblLost := false })
     s.cmdValid 0 Tests.cmd0 = true ∧ (s.farSm 0).rx = some (parseCmd Tests.cmd0) ∧ (s.farSm 0).pblLost = false ∧
       (s.farSm 0).byp = false ∧ (s.farSm 0).localBlk = false) ∧ (3 < 4 ∧ 2 ≠ 3) := by decide +kernel

theorem test_meets_SubmoduleStep :
    (let w := parseCmd Tests.cmd0
     let s := Tests.act.updFar 0 (fun x => { x with rx := some w, pblLost := false })
     mwf (fun _ => FarSm.fresh) s.far.sms = true ∧ (s.farSm 0).rx = some w ∧ (s.farSm 0).pblLost = false ∧
       (s.farSm 0).byp = false ∧ (s.farSm 0).localBlk = false ∧ (s.farSm 0).restr = none ∧ (s.farSm 0).reopen = false ∧
       w.byp = false ∧ w.pci = false) ∧
    (let s := Tests.act
     (s.farSm 0).rx = none ∧ 2 ≤ (s.farSm 0).missed ∧ (s.farSm 0).last = none ∧ 1 ≠ (0 : Nat)) := by decide +kernel

theorem test_meets_SubmoduleInputs_bulk :
    (Tests.lane0 Tests.act).slotOf 1 = some (0, 1) ∧ Tests.act.slotOf 1 = none ∧ reqAnswered .identReq ≠ none ∧
      reqAnswered (.reopen 7) = none ∧ (0 : BitVec 2).toNat < 4 := by decide +kernel

theorem test_meets_SubmoduleStep_ran :
    ∃ t, exec (.smLocalAc0 0 ⟨0, 0, 0, 0, true, 0, false, false, none⟩) Tests.act = .next t := ⟨_, rfl⟩

theorem test_meets_ConcentratorCommands :
    (let s := Tests.lane0 Tests.act
     (s.conc 0).owner = none ∧ (0 : Fin 20).val < s.far.concs.length ∧ mwf (fun _ => FarSm.fresh) s.far.sms = true ∧
       1 ∈ s.concSms 0) ∧
    (let s := (Tests.lane0 Tests.act).updConc 0 (fun x => { x with owner := some (1, false) })
     (s.conc 0).owner = some (1, false) ∧ ([0, 0] : List (BitVec 128)) ≠ [] ∧ 0 + 2 ≤ s.mapN 0 ∧ 0 < s.far.concs.length ∧
       (s.conc 0).owner.isSome = true) := by decide +kernel

/-- Port 0 enabled, in a state of its training, with a module. -/
def Tests.port0 (f : Port → Port) : State :=
  (Tests.act.setReg (Reg.PHY_CFG 0) 1).updPort 0 (fun p => f { p with present := true })

theorem test_meets_PortPlugged :
    (let s := Tests.act.setReg (Reg.PHY_CFG 0) 1
     s.up ∧ (s.port 0).present = false ∧ moduleRefused 0x05 0 false = true ∧ moduleRefused 0x03 0 false = false ∧
       s.phyEn 0 = true ∧ s.linkUp 0 = false) ∧
    (let s := Tests.port0 (fun p => { p with ts := .lock })
     s.up ∧ (s.port 0).present = true ∧ (s.port 0).los = false ∧ (s.port 0).ts = .lock ∧ s.linkUp 0 = false) ∧
    (let s := Tests.port0 (fun p => { p with ts := .linkUp })
     let t := Tests.port0 (fun p => { p with ts := .failed })
     (s.port 0).los = false ∧ (s.port 0).ts = .linkUp ∧ s.linkUp 0 = true ∧ (t.port 0).los = false ∧ (t.port 0).ts = .failed) ∧
    (let s := Tests.port0 (fun p => { p with ts := .detect, los := true })
     s.up ∧ (s.port 0).present = true ∧ (s.port 0).los = true ∧ (s.port 0).ts = .detect) := by unfold State.up; decide +kernel

/-- A training block: TYPE 0xD2, every request hold, receiver ready, and its CRC. -/
def Tests.trn : BitVec 64 :=
  let l := 0xD2 + 2 ^ 34
  BitVec.ofNat 64 (l + crc16 48 l * 2 ^ 48)

theorem test_meets_PortTraining :
    (let s := Tests.port0 (fun p => { p with ts := .lock, valid := 3 })
     let t := Tests.port0 (fun p => { p with ts := .lock, valid := 2, attempt := true })
     s.up ∧ (s.port 0).present = true ∧ (s.port 0).los = false ∧ (s.port 0).ts = .lock ∧ 3 ≤ (s.port 0).valid ∧
       (s.port 0).blockLock = false ∧ (s.port 0).refused = false ∧ parseTrn 0 = none ∧ t.up ∧ (t.port 0).valid < 3 ∧
       (t.port 0).los = false ∧ (t.port 0).attempt = true ∧ (t.port 0).blockLock = false) ∧
    (let s := Tests.port0 (fun p => { p with ts := .adapt, rxReady := true, readyCnt := 2, reqs := [1, 0, 0] })
     s.up ∧ (s.port 0).present = true ∧ (s.port 0).refused = false ∧ (parseTrn Tests.trn).map (·.ready) = some true ∧
       (s.port 0).ts = .adapt ∧ (s.port 0).rxReady = true ∧ (s.port 0).readyCnt = 2 ∧
       (s.port 0).reqs.any (· != 0) = true) ∧
    (let s := Tests.port0 (fun p => { p with ts := .failed, attempt := true })
     s.up ∧ (s.port 0).attempt = true ∧ (s.port 0).ts = .failed) ∧
    (let s (k : Nat) := Tests.port0 (fun p => { p with ts := .fallback, preset := k })
     let t := Tests.port0 (fun p => { p with ts := .fallback, blockLock := true, preset := 2 })
     (∀ k, k < 3 → ((s k).port 0).ts = .fallback ∧ ((s k).port 0).rxReady = false ∧ ((s k).port 0).linMode = false ∧
       ((s k).port 0).preset = k) ∧
       t.up ∧ (t.port 0).ts = .fallback ∧ (t.port 0).rxReady = false ∧ (t.port 0).blockLock = true ∧ (t.port 0).preset < 3) ∧
    (let s := Tests.port0 (fun p => { p with ts := .confirm })
     s.up ∧ (s.port 0).ts = .confirm) ∧
    (let s := Tests.port0 (fun p => { p with ts := .linkUp })
     s.up ∧ s.linkUp 0 = true) := by unfold State.up; decide +kernel

/-- The first lane as its association's bulk route, up, of an active unit. -/
def Tests.bulk (f : Assoc → Assoc) : State :=
  ((Tests.lane0 Tests.act).updPort 0 (fun p => { p with ts := .linkUp, present := true })).updAssoc 0 f

/-- A bulk block on VC1 of KIND 1 under a sequence number. -/
def Tests.blk (seq : Byte) : BulkBlk := { vc := 1, seq := seq, conc := false, slot := 0, payload := 1 :: List.replicate 7 0, mir := none }

theorem test_meets_BulkRx :
    (let l := (Tests.bulk id).rxLimit 0 0
     let s := Tests.bulk (fun x => { x with limitTx := [l, 0, 0] })
     let b := Tests.blk 0
     let u := s.updAssoc 0 (fun x => { x with
        used := x.used.set (b.vc.val - 1) (x.used.getD (b.vc.val - 1) 0 + 1), expect := x.expect + 1, nakSent := false,
        ackSince := if x.ackPend = 0 then s.sys.clk else x.ackSince, ackPend := x.ackPend + 1,
        limSince := x.limSince.set (b.vc.val - 1) (some ((x.limSince.getD (b.vc.val - 1) none).getD s.sys.clk)) })
     s.up ∧ s.linkBlock 0 = s ∧ s.assocOf 0 = some 0 ∧ 0 < 21 ∧ b.vc ≠ 0 ∧ b.payload.length ≠ 0 ∧ b.payload.length ≤ 256 ∧
       b.payload.length % 8 = 0 ∧ (b.payload.headD 0).toNat = 1 ∧
       b.seq = (s.assoc 0).expect ∧ (s.assoc 0).ackPend < 7 ∧ (u.rxLimit 0 0 - (u.assoc 0).limitTx.getD 0 0).toNat < 4 ∧
       ((Tests.blk 192).seq ≠ (s.assoc 0).expect ∧ ((s.assoc 0).expect - (Tests.blk 192).seq).toNat ≤ 64) ∧
       ((Tests.blk 191).seq ≠ (s.assoc 0).expect ∧ 64 < ((s.assoc 0).expect - (Tests.blk 191).seq).toNat)) := by
  unfold State.up; decide +kernel

theorem test_meets_BulkRx_entry :
    let r := Tests.stby.updPort 20 (fun p => { p with ts := .linkUp, present := true })
    let s := r.updAssoc 20 (fun x => { x with limitTx := [0, r.rxLimit 20 1, 0] })
    let b : BulkBlk := { Tests.blk 0 with vc := 2, mir := some (.entry s.cmd.core) }
    let u := s.updAssoc 20 (fun x => { x with
        used := x.used.set (b.vc.val - 1) (x.used.getD (b.vc.val - 1) 0 + 1), expect := x.expect + 1, nakSent := false,
        ackSince := if x.ackPend = 0 then s.sys.clk else x.ackSince, ackPend := x.ackPend + 1,
        limSince := x.limSince.set (b.vc.val - 1) (some ((x.limSince.getD (b.vc.val - 1) none).getD s.sys.clk)) })
    s.up ∧ s.linkBlock 20 = s ∧ s.assocOf 20 = some 20 ∧ s.shadowing = true ∧ b.seq = (s.assoc 20).expect ∧ (s.assoc 20).ackPend < 7 ∧
      (u.rxLimit 20 1 - (u.assoc 20).limitTx.getD 1 0).toNat < 4 := by
  unfold State.up; decide +kernel

theorem test_meets_BulkRx_far :
    (let s := Tests.bulk (fun x => { x with kept := [Tests.blk 0], audit := true })
     let x1 : Audit := { vc := 1, limit := 5, used := 0, nextSeq := 0, done := true }
     s.up ∧ s.linkBlock 0 = s ∧ s.assocOf 0 = some 0 ∧ (1 : Fin 4) ≠ 0 ∧ 0 < ackedBy (s.assoc 0).kept 0 ∧
       [Tests.blk 0].head? = some (Tests.blk 0) ∧ (s.port 0).ts ≠ .confirm ∧ s.bulkPort 0 = some (0 : Fin 22).val ∧ x1.vc = 1 ∧
       (s.assoc 0).limit.length = 3 ∧ (s.assoc 0).audit = true ∧ (s.assoc 0).replays < s.fld Reg.LNH_CFG 0 4) ∧
    (let s := (Tests.stby.updPort 20 (fun p => { p with ts := .linkUp, present := true })).updAssoc 20 (fun x => { x with auditRx := true })
     s.up ∧ s.assocOf 20 = some 20 ∧ s.bulkPort 20 = some 20 ∧ (s.assoc 20).audit = false ∧ (s.assoc 20).limit.length = 3 ∧
       20 < 21 ∧ (s.port 20).ts ≠ .confirm) ∧
    (let s := (Tests.bulk (fun x => { x with auditRx := true }))
     let t : State := { s with sys := { s.sys with clk := 9000 } }
     t.up ∧ (t.assoc 0).auditRx = true ∧ (t.assoc 0).auditClk + 8000 ≤ (t.toSysClk ((t.assoc 0).auditClk + 8000)).sys.clk) := by
  unfold State.up; decide +kernel

/-- At another clock, its boundary where it was. -/
def Tests.at_ (c : Nat) (s : State) : State := { s with sys := { s.sys with clk := c } }

/-- A unit later in its step, its boundary where it was. -/
def Tests.later (s : State) : State := { s with sys := { s.sys with clk := s.sys.clk + 200000 } }

theorem test_meets_BulkOut :
    (let s := Tests.later (Tests.bulk (fun x => { x with queue := [Tests.blk 0], limit := [1, 0, 0], ackPend := 1 }))
     let u := s.toSysClk ((s.assoc 0).ackSince + 200)
     let v := s.toSysClk (s.creditDue 0 0)
     s.up ∧ (s.assoc 0).replayDue = false ∧ s.bulkPort 0 = some 0 ∧
       (s.assoc 0).queue.findIdx? (fun b => (s.assoc 0).canSend (b.vc.val - 1)) = some 0 ∧
       (s.assoc 0).queue[0]? = some (Tests.blk 0) ∧ s.bulkOpen 0 0 = true ∧ 0 < (s.assoc 0).ackPend ∧
       (s.assoc 0).ackSince + 200 ≤ u.sys.clk ∧ u.bulkPort 0 = some 0 ∧ (1 : Fin 4) ≠ 0 ∧
       s.creditDue 0 0 ≤ v.sys.clk ∧ v.bulkPort 0 = some 0 ∧ v.mem.retv = false) ∧
    (let s := Tests.bulk (fun x => { x with queue := [Tests.blk 0] })
     s.up ∧ ∀ b ∈ (s.assoc 0).queue, (s.assoc 0).canSend (b.vc.val - 1) = false) ∧
    (let s := Tests.later (Tests.bulk (fun x => { x with kept := [Tests.blk 0] }))
     let t := Tests.later (Tests.bulk (fun x => { x with kept := [Tests.blk 0], replays := 15 }))
     let c := (s.assoc 0).advClk + 40 * s.fld Reg.LNH_CFG 8 8
     s.up ∧ (s.assoc 0).kept ≠ [] ∧ (s.assoc 0).audit = false ∧ c ≤ (s.toSysClk c).sys.clk ∧ (s.toSysClk c).bulkPort 0 = some 0 ∧
       (s.toSysClk c).assoc 0 = s.assoc 0 ∧ (s.assoc 0).replays < (s.toSysClk c).fld Reg.LNH_CFG 0 4 ∧
       (s.toSysClk c).bulkOpen 0 0 = true ∧ t.up ∧ (t.toSysClk c).fld Reg.LNH_CFG 0 4 ≤ (t.assoc 0).replays ∧
       (t.toSysClk c).bulkPort 0 = some 0 ∧ 0 < 20) ∧
    (let s : State := Tests.later (Tests.bulk (fun x => { x with kept := [Tests.blk 0] }))
     let t := s.updLane 0 (fun l => { l with qmask := 1 })
     let c := (t.assoc 0).advClk + 40 * t.fld Reg.LNH_CFG 8 8
     (t.toSysClk c).bulkOpen 0 0 = false) := by unfold State.up; decide +kernel

theorem test_meets_LaneCommands :
    (let s := (Tests.bulk id).updLane 0 (fun l => { l with echo := some (7, 0) })
     let t := Tests.later s
     s.up ∧ (s.lane 0).echo = some ((7 : BitVec 16).toNat, 0) ∧ s.linkUp 0 = true ∧ s.sys.clk ≤ 0 + 4000 ∧
       (500000 - (0 : BitVec 24).toNat) / 2 ≤ 250000 ∧ 0 + 4000 < t.sys.clk ∧ 0 + 4000 ≤ (t.toSysClk (0 + 4000)).sys.clk) ∧
    (let s := (Tests.bulk id).updLane 0 (fun l => { l with lastDecl := some ⟨1, 0, 0, 0, false⟩, runLeft := 1 })
     s.up ∧ (s.lane 0).decl = none ∧ (s.lane 0).lastDecl = some ⟨1, 0, 0, 0, false⟩ ∧ (⟨1, 0, 0, 0, false⟩ : Decl) ≠ ⟨0, 0, 0, 0, false⟩ ∧
       0 < (s.lane 0).runLeft ∧ ((Tests.bulk id).lane 0).lastDecl = none ∧ ((Tests.bulk id).lane 0).runLeft = 0) ∧
    (let s := ((Tests.bulk id).updLane 0 (fun l => { l with latSent := true, decl := some ⟨0, 0, 0, 0, false⟩, d := some 0 })).updAssoc 0
       (fun x => { x with route := none })
     s.up ∧ s.primaryOf 0 = some 0 ∧ (s.assoc 0).route ≠ some 0 ∧ s.qualApart 0 = true) ∧
    (let s := (Tests.bulk id).updAssoc 0 (fun x => { x with route := none })
     (Tests.bulk id).primaryOf 0 = some 0 ∧ ((Tests.bulk id).assoc 0).route = some 0 ∧ s.primaryOf 0 = some 0 ∧
       (s.assoc 0).route ≠ some 0 ∧ s.qualApart 0 = false) := by unfold State.up; decide +kernel

/-- A ledger record of identity 9. -/
def Tests.rec9 : Rec :=
  { id := 9, typ := 1, state := 1, limset := 0, stale := false, missed := false, last := 0, nsw := 5, nth := 0, qah := 0, hrs := 0 }

/-- An item of identity 9. -/
def Tests.item9 : LdgItem := { LdgItem.zero with id := 9, nsw := 7 }

/-- A unit whose ledger holds a record at one address. -/
def Tests.withRec (s : State) (a : Nat) (r : Rec) : State := { s with ldg := { s.ldg with recs := mset Rec.empty s.ldg.recs a r } }

theorem test_meets_CountersNeverFall :
    (let s := Tests.withRec Tests.act 3 Tests.rec9
     s.mirrored = false ∧ s.ldg.mirror = [] ∧ mwf (fun _ => Rec.empty) s.ldg.recs = true ∧ (s.recAt 3).state ≠ 0 ∧
       (s.recAt 3).id = Tests.item9.id ∧ (s.recAt 4).state = 0 ∧ (4 : Nat) ≠ 3) := by decide +kernel

/-- A lane-mode unit with the sweep on; submodule 1 accepted with six endpoints. -/
def Tests.sweep : State :=
  ((Tests.lane0 Tests.act).setReg Reg.LDG_CFG 4).updSm 1 (fun m => { m with acc := 1, nep := 6 })

/-- A visit to submodule 1 under way on lane 0. -/
def Tests.visiting : State :=
  { Tests.sweep with ldg := { Tests.sweep.ldg with
    sweeps := upd Tests.sweep.ldg.sweeps 0 (fun w => { w with visit := some ⟨1, 5, 1, 1, false⟩ }) } }

/-- A slot of the ledger's image under a number. -/
def Tests.img (seq : Nat) : LdgImage := { seq := seq, recs := [], crcs := [] }

theorem test_meets_LedgerCommands :
    (let s := Tests.sweep
     let w := s.ldg.sweeps.getD 0 Sweep.fresh
     s.up ∧ s.flag Reg.LDG_CFG 2 = true ∧ s.isActive = true ∧ s.laneMode = true ∧ w.visit = none ∧ w.done = false ∧
       s.staleGroup 0 = none ∧ s.nextGroup 0 w.smn w.ep = some (1, 0)) ∧
    (let s := Tests.withRec Tests.sweep 8197 { Tests.rec9 with stale := true }
     s.up ∧ s.staleGroup 0 = some (1, 5)) ∧
    ((5 < (List.replicate 6 Tests.item9).length) ∧ [Tests.item9] ≠ [] ∧ [Tests.item9].length ≤ 5 ∧
      [Tests.item9].any (fun i => i.typ == 255) = false ∧ Tests.sweep.slotOf 1 = some (0, 1) ∧ (Tests.sweep.sm 1).acc = 1 ∧
      (Tests.sweep.sm 1).repl ≠ 1 ∧ Tests.sweep.laneMode = true) ∧
    (Tests.sweep.updSm 1 (fun m => { m with acc := 3 })).slotOf 1 = some (0, 1) ∧
    (let s := Tests.sweep.updSm 1 (fun m => { m with acc := 2 })
     s.up ∧ s.slotOf 1 = some (0, 1) ∧ (s.sm 1).acc = 2) ∧
    (let s := Tests.visiting
     s.up ∧ s.slotOf 1 = some (0, 1) ∧ (s.ldg.sweeps.getD 0 Sweep.fresh).visit = some ⟨1, 5, 1, 1, false⟩ ∧ 0 < 20) ∧
    (let s := Tests.withRec Tests.visiting 8197 Tests.rec9
     s.mirrored = false ∧ s.ldg.mirror = [] ∧ mwf (fun _ => Rec.empty) s.ldg.recs = true ∧ 0 < 1 ∧
       (s.recAt (epAddr 1 (5 + 0))).state ≠ 0) ∧
    (let s : State := { Tests.act with ldg := { Tests.act.ldg with mirror := [⟨3, Tests.rec9, 0⟩] } }
     let t := Tests.later s
     s.up ∧ s.ldg.mirror = [⟨3, Tests.rec9, 0⟩] ∧ s.ldg.imgBusy = none ∧ (s.toSysClk (0 + 8000)).sys.clk < 0 + 8000 ∧ t.up ∧
       t.ldg.mirror = [⟨3, Tests.rec9, 0⟩] ∧ 0 + 8000 ≤ (t.toSysClk (0 + 8000)).sys.clk) ∧
    (let s : State := { Tests.act with ldg := { Tests.act.ldg with
       imgBusy := some (Tests.img 3), imgA := some (Tests.img 1), imgB := some (Tests.img 2) } }
     s.up ∧ s.ldg.imgBusy = some (Tests.img 3) ∧ s.ldg.imgA = some (Tests.img 1) ∧ s.ldg.imgB = some (Tests.img 2) ∧
       (Tests.img 1).valid = true ∧ (Tests.img 2).valid = true ∧ (Tests.img 1).seq < (Tests.img 2).seq) := by
  unfold State.up; refine ⟨?_, ?_, ?_, ?_, ?_⟩ <;> decide +kernel

/-- With a trusted key, submodule 1's first endpoint on record or not. -/
def Tests.keyed (s : State) : State := { s with ldg := { s.ldg with key := some [1] } }

/-- Whichever way the signature turns out, the other conditions of the three cases are met. -/
theorem test_meets_IdentityCommands :
    (let s := Tests.keyed (Tests.withRec Tests.sweep 8192 Tests.rec9)
     let b : IdentBody := ⟨9, 0, 8192, 0, List.replicate 96 0⟩
     s.up ∧ s.laneMode = true ∧ s.ldg.key = some [1] ∧ s.accLatest 1 < 2 ∧
       2 ≤ (s.updSm 1 (fun m => { m with acc := 2 })).accLatest 1 ∧ s.liveLatest 1 ≠ [] ∧ b.nep.toNat ≠ 0 ∧ b.nep.toNat ≤ 8192 ∧ (s.sm 1).repl = 0 ∧
       (s.recLatest (epAddr 1 0)).state ≠ 0 ∧ (s.recLatest (epAddr 1 0)).id = b.id) ∧
    (let s := Tests.keyed Tests.sweep
     s.up ∧ s.liveLatest 1 = [] ∧ (s.recLatest (epAddr 1 0)).state = 0 ∧ s.accLatest 1 < 2 ∧
       (Tests.withRec Tests.sweep 8192 Tests.rec9).liveLatest 1 ≠ [] ∧
       ((Tests.withRec Tests.sweep 8192 Tests.rec9).recLatest (epAddr 1 0)).id ≠ 8) ∧
    (let s := Tests.sweep.updSm 1 (fun m => { m with identAt := some 0 })
     let t : State := { s with sys := { s.sys with clk := 40000000 } }
     s.up ∧ (s.sm 1).identAt = some 0 ∧ (s.toSysClk (0 + 40000000)).sys.clk < 0 + 40000000 ∧ t.up ∧
       0 + 40000000 ≤ (t.toSysClk (0 + 40000000)).sys.clk) ∧
    (∀ k : Fin 3, let s := Tests.sweep.setReg Reg.LDG_CFG (word k.val)
      s.fld Reg.LDG_CFG 0 2 = k.val ∧ s.accLatest 1 < 2) ∧
    (LdgDec.accept 1 1).same (.accept 1 3) = true ∧
    (let s := (Tests.retiring true 2).updSm 0 (fun m => { m with retire := 0, wearReq := true })
     s.up ∧ s.armOf 0 = some 0 ∧ s.firstWear 0 = some 0 ∧ s.readySpare 0 = true ∧ s.gapPassed 0 = true ∧ s.wearOut 0 = false) ∧
    (let s : State := { Tests.act with ldg := { Tests.act.ldg with decs := [(0, .accept 1 1)] } }
     let t : State := { Tests.act with ldg := { Tests.act.ldg with decs := [(4, .accept 1 1)] } }
     s.up ∧ s.ldg.decs = [(0, .accept 1 1)] ∧ 0 ≤ s.stepNo ∧ t.up ∧ t.ldg.decs = [(4, .accept 1 1)] ∧ t.stepNo < 4) := by
  unfold State.up; decide +kernel

theorem test_meets_IdentityCommands_signature (b : IdentBody) :
    Config.ecdsaVerify [1] (identSigned b) b.sig = true ∨ Config.ecdsaVerify [1] (identSigned b) b.sig = false :=
  Bool.eq_false_or_eq_true _

/-- Counter 0 enabled on the clock, one in the list of the main ones or not. -/
def Tests.ctr0 (f : Counter → Counter) : State :=
  (Tests.turn.setReg (Reg.PWMn_CFG 0) 3).updCtr 0 (fun c => f { c with fDis := false })

theorem test_meets_PwmCommands :
    (let s := Tests.ctr0 (fun c => { c with raw := true, ost := 0, cmp := 100, xc0 := 50, xc1 := 60 })
     let t := s.setReg (Reg.PWMn_XROUTE 0) 0x10000
     s.up ∧ s.ctrEn 0 = true ∧ (s.toCount 0 (s.ctr 0).per).isSome = false ∧ (s.ctr 0).ost = 0 ∧ (s.ctr 0).raw = true ∧
       (s.ctr 0).cmp < (s.ctr 0).per ∧ (s.toCount 0 (s.ctr 0).cmp).isSome = true ∧ s.lowPower = false ∧
       t.up ∧ (t.ctr 0).xc0 < (t.ctr 0).per ∧ (t.ctr 0).xm0 = false ∧ (t.toCount 0 (t.ctr 0).xc0).isSome = true ∧
       bit (t.reg (Reg.PWMn_XROUTE 0)) 16 = true ∧ t.ctrEn 0 = true ∧ t.lowPower = false ∧
       (s.ctr 0).xc1 < (s.ctr 0).per ∧ (s.ctr 0).xm1 = false ∧ (s.toCount 0 (s.ctr 0).xc1).isSome = true ∧
       bit (s.reg (Reg.PWMn_XROUTE 0)) 17 = false) ∧
    (let s := Tests.ctr0 (fun c => { c with per := 1000 })
     s.up ∧ s.ctrEn 0 = true ∧ (s.toCount 0 (s.ctr 0).per).isSome = true) ∧
    (let s := Tests.ctr0 (fun c => { c with riseA := some 10, riseB := some 10 })
     s.up ∧ s.running = true ∧ 10 + s.fld (Reg.PWMn_DT 0) 0 12 - s.sys.clk < s.toBoundary ∧ (s.ctr 0).riseA = some 10 ∧
       (s.ctr 0).riseB = some 10) := by unfold State.up; decide +kernel

theorem test_meets_PwmCommands_array :
    (let s := Tests.ctr0 id
     s.up ∧ s.ctrEn 0 = true ∧ s.ctrEn 1 = false ∧ s.isMain 0 = false ∧ s.isMain 1 = false ∧
       ((s.updCtr 1 (fun c => { c with pend := true })).ctr 1).pend = true) ∧
    (let s := (Tests.turn.setReg Reg.PWM_MAIN_CFG 1).setReg (Reg.PWM_MAINx 0) 2
     s.up ∧ s.isMain 2 = true) ∧
    (let s := Tests.turn.setReg (Reg.TRIPi_CFG 0) 1
     s.up ∧ s.flag (Reg.TRIPi_CFG 0) 0 = true ∧ s.blanked 0 = false ∧ (s.trip 0).latch = false) ∧
    (let s := Tests.turn.updTrip 0 (fun t => { t with blankEnd := some 1 })
     let t := Tests.turn.updTrip 0 (fun t => { t with blankEnd := some 0 })
     s.up ∧ s.blanked 0 = true ∧ t.up ∧ (t.trip 0).blankEnd = some 0 ∧ 0 ≤ t.sys.clk ∧ (t.trip 0).active = false) := by
  unfold State.up; decide +kernel

/-- With a converter core changed, and a register. -/
def Tests.core (c : Nat) (f : AdcCore → AdcCore) (a : Nat := 0) (v : Word := 0) : State := (Tests.turn.setReg a v).updCore c f

theorem test_meets_ScanCommands :
    (Tests.turn.up ∧ Tests.turn.lowPower = false ∧ false = Tests.turn.adc.trigPin) ∧
    (let s := Tests.turn.setReg Reg.ADC_STAT 0x400
     s.up ∧ s.lowPower = true) ∧
    (let s := Tests.turn.setReg Reg.ADC_TRIGIN 0x101
     s.up ∧ true = !s.adc.trigPin ∧ s.flag Reg.ADC_TRIGIN 8 = true ∧ s.flag Reg.ADC_TRIGIN 9 = !true) ∧
    (let s := Tests.turn.setReg (Reg.GRPg_SCAN 0) 1
     (s.acore 0).conv = .idle ∧ s.spareServes 0 = false ∧ s.groupDown 0 = false ∧ s.fld (Reg.GRPg_SCAN 0) 0 8 ≠ 0 ∧
       s.up ∧ (s.acore (s.server 0)).conv = .idle) ∧
    (let s := Tests.core 0 (fun x => { x with conv := .entry 2, trigClk := 1 }) (Reg.GRPg_SCAN 0) 0x100
     s.up ∧ (s.acore 0).conv = .entry 2 ∧ (s.acore 0).trigClk ≠ s.sys.clk ∧ s.groupDown 0 = false ∧
       (s.acore (s.server 0)).conv = .entry 2 ∧ s.flag (Reg.GRPg_SCAN 0) (8 + 0) = true ∧ (s.acore (s.server 0)).preempts < 2 ∧
       s.flag (Reg.GRPg_SCAN 0) (8 + 1) = false) := by unfold State.up; decide +kernel

/-- With the spare core in a state, in MAINTAIN. -/
def Tests.spare (x : SpareSt) : State :=
  { Tests.inMode Tests.turn .active .maintain with adc := { Tests.turn.adc with spare := x } }

theorem test_meets_ConverterCommands :
    (let s := Tests.core 0 (fun x => { x with conv := .entry 2 })
     let u := s.toSysClk ((s.acore 0).sampled + s.convClk + 20)
     s.up ∧ s.clk.apllAt = none ∧ (s.acore 0).conv = .entry 2 ∧ u.groupOf 0 = some 0 ∧ (s.acore 0).angle = none) ∧
    (let s := Tests.core 0 (fun x => { x with conv := .check 1 })
     s.up ∧ s.clk.apllAt = none ∧ (s.acore 0).conv = .check 1 ∧ (s.acore 0).chkBad = false ∧ (s.acore 0).chkVoid = false ∧
       (s.acore 0).nbrNext = false ∧ (s.acore 0).clampEnd ≤ (s.acore 0).sampled ∧ ((-16448 : Int) + 16384).natAbs ≤ 64) ∧
    (let s := Tests.core 0 (fun x => { x with conv := .urgent 1 true true, fails := 2 })
     s.up ∧ s.clk.apllAt = none ∧ (s.acore 0).conv = .urgent 1 true true ∧ (s.acore 0).fails = 2) ∧
    ((Tests.spare .free).up ∧ (Tests.spare .free).patchBusy = false ∧ (Tests.spare .free).mode = .maintain) ∧
    ((Tests.spare (.wanted 1)).up ∧ (Tests.spare (.wanted 1)).adc.spare = .wanted 1) ∧
    (let s : State := Tests.later (Tests.spare (.cal 1 9))
     s.up ∧ s.adc.spare = .cal 1 9 ∧ 9 ≤ (s.toSysClk 9).sys.clk) ∧
    (let s := Tests.spare (.serving 1)
     s.up ∧ s.adc.spare = .serving 1 ∧ s.flag Reg.ADC_STAT 1 = false ∧ s.mode = .maintain) := by unfold State.up; decide +kernel

theorem test_meets_ConverterCommands_refs :
    (Tests.turn.up ∧ Tests.turn.flag Reg.ADC_CLAMP_STAT 31 = false ∧ Tests.turn.adc.src.getD 0 0 ≠ 2) ∧
    (let s : State := { Tests.turn with sys := { Tests.turn.sys with clk := 80000 } }
     s.up ∧ s.adc.settleEnd.getD 0 none = some 80000 ∧ 80000 ≤ s.sys.clk) ∧
    (let s := Tests.turn.setReg Reg.ADC_CFG 2
     let t := Tests.turn.setReg Reg.ADC_CFG 0
     s.flag Reg.ADC_CFG 1 = true ∧ t.flag Reg.ADC_CFG 1 = false ∧ s.up ∧ t.up) ∧
    (let s : State := { Tests.turn with adc := { Tests.turn.adc with src := [2, 0, 0, 0] } }
     s.up ∧ s.adc.src.getD 0 0 = 2) := by unfold State.up; decide +kernel

theorem test_meets_FilterCommands :
    (let s := (Tests.turn.setReg (Reg.FLTn_CFG 0) 1).setReg Reg.ADC_ANGLE 1
     s.up ∧ s.fedLocked 0 = true ∧ s.running = true ∧ (s.chan 0).next < (s.stepNo + 1) * 8 ∧
       (upto 32).any (fun n => (1 : Word).toNat.testBit n && s.alock n) = true ∧
       (upto 32).any (fun n => (0 : Word).toNat.testBit n && s.alock n) = false) ∧
    (let s := Tests.live.updChan 0 (fun c => { c with outs := [⟨0, 1, 2, 3⟩] })
     s.up ∧ (s.chan 0).outs = ⟨0, 1, 2, 3⟩ :: [] ∧ 0 ≤ s.sys.clk ∧ s.running = false) := by unfold State.up; decide +kernel

theorem test_meets_MeterRegisters :
    (let x : MtrReg := { count := 1, res := 2, errN := 1, errD := 2 }
     (0 : Int) ≤ 3 ∧ 0 < 7 ∧ 0 < x.errD ∧ 2 * x.errN.natAbs ≤ x.errD ∧ x.res < 2 ^ 32 ∧ 0 < x.count * 2 ^ 32 + x.res ∧
       (x.add 3 7).count < 2 ^ 64 - 1) ∧
    (let e : Energy := { p := 1, q := 1, den := 1 }
     MtrCore.zero.regs.length = 54 ∧ 1 ≤ 8 ∧ 8 ≤ 8 ∧ ∀ q ∈ e.quantities, 0 ≠ q.1 ∧ 0 ≠ 6 * 8 + q.1) ∧
    (let c : MtrCore := { MtrCore.zero with opn := some ⟨0, 1, 0, 1, 0, 0, []⟩ }
     c.opn = some ⟨0, 1, 0, 1, 0, 0, []⟩ ∧ c.prof.length < 40960) := by decide +kernel

/-- A remote record of submodule 3 under a tag, of a number of frames, with those received. -/
def Tests.record (total : Nat) (got : List (Nat × List Word)) (last : Option Nat) : AcqRec :=
  { num := 1, slot := 2, kind := 2, nmem := 1, preLen := 0, preSet := 0, total := total, extra := 0, short := false,
    partial_ := false, gapFull := false, gaps := [], members := [], gd := [], trigs := [], tf := none, frames := [], smn := 3,
    tag := 4, got := got, lastClk := last, startClk := 0 }

theorem test_meets_AcquisitionCommands :
    (let s := (Tests.turn.setReg (Reg.SLOTk_SIZE 2) 1).updSlot 2 (fun x => { x with st := 4 })
     s.up ∧ (s.slotK 2).st = 4 ∧ s.slotRoom 2 = true ∧ s.flag (Reg.SLOTk_CFG 2) 3 = false ∧ (s.slotK 1).st ≠ 4 ∧
       s.remOpen 3 (4 : BitVec 16).toNat = none) ∧
    (let s := Tests.turn.updSlot 2 (fun x => { x with cur := some (Tests.record 1 [] (some 0)) })
     s.up ∧ s.remOpen 3 (4 : BitVec 16).toNat = some 2 ∧ (1 : Byte).toNat ≠ 2 ∧
       (s.slotK 2).cur = some (Tests.record 1 [] (some 0)) ∧ (Tests.record 1 [] (some 0)).lastClk = some 0 ∧
       (s.toSysClk (0 + 40000000)).sys.clk < 0 + 40000000) ∧
    (let t := Tests.turn.updSlot 2 (fun x => { x with cur := some (Tests.record 1 [] (some 0)) })
     let s : State := { t with sys := { t.sys with clk := 40000000 } }
     s.up ∧ (s.slotK 2).cur = some (Tests.record 1 [] (some 0)) ∧ 0 + 40000000 ≤ (s.toSysClk (0 + 40000000)).sys.clk) ∧
    (let r := Tests.record 1 [(0, [])] none
     let s := Tests.turn.updSlot 2 (fun x => { x with cur := some r })
     2 < 16 ∧ s.acq.slots.length = 16 ∧ (s.slotK 2).cur = some r ∧ r.kind = 2 ∧
       ∀ i, i < r.total → r.got.any (fun g => g.1 == i) = true) := by unfold State.up; decide +kernel

/-- Trigger unit 0 armed on rising slopes (TRGu_CFG at reset), its priming given. -/
def Tests.trg (p : Bool) : State := Tests.turn.updUnit 0 (fun u => { u with armed := true, primR := p })

theorem test_meets_AcquisitionCommands_trigger :
    let s := Tests.trg false; let t := Tests.trg true; let c := s.reg (Reg.TRGu_CFG 0); let lvl := sx (s.reg (Reg.TRGu_LVL 0))
    s.acq.units.length = 8 ∧ (s.unitOf 0).wait = none ∧ (s.unitOf 0).armed = true ∧ bits c 8 2 = 0 ∧ bit c 10 = false ∧
      bit c 12 = false ∧ bit c 13 = false ∧ (s.unitOf 0).since ≤ 0 ∧ (s.unitOf 0).primR = false ∧ (s.unitOf 0).primF = false ∧
      (t.unitOf 0).wait = none ∧ (t.unitOf 0).armed = true ∧ (t.unitOf 0).primR = true ∧ (t.unitOf 0).primF = false ∧ lvl ≤ 0 ∧
      -1 < lvl ∧ t.sound = true ∧ bits (t.reg (Reg.TRGu_STAT 0)) 16 16 < 0xFFFF := by decide +kernel

theorem test_meets_AcquisitionCommands_snap :
    (let s := Tests.turn.setReg Reg.SNAP_CFG 1
     s.up ∧ s.snap.busy = none ∧ s.flag Reg.SNAP_CFG 4 = false ∧ true = !s.snap.pinIn ∧ s.flag Reg.SNAP_CFG 0 = true ∧
       s.flag Reg.SNAP_CFG 1 = !true ∧ false = s.snap.pinIn) ∧
    (let s : State := { Tests.turn with snap := { Tests.turn.snap with busy := some 0, latchClk := 1 } }
     s.up ∧ s.snap.busy = some 0 ∧ s.snap.latchClk ≠ s.sys.clk) := by unfold State.up; decide +kernel

/-- A unit of a pair (PAIR_EN and further bits of PAIR_CFG) in a role, both paths of the pair link up. -/
def Tests.pair (r : Role) (cfg : Word := 1) (f : Pair → Pair := id) : State :=
  let s := (((Tests.inMode Tests.turn r .ready).setReg Reg.PAIR_CFG cfg).updPort 20 (fun p => { p with ts := .linkUp })).updPort 21
    (fun p => { p with ts := .linkUp })
  { s with pair := f s.pair }

/-- A heartbeat of a partner that is ready. -/
def Tests.hb : Heartbeat :=
  { unitB := true, role := .standby, qual := true, hoOk := true, hoAck := false, pwarn := false, iso := false, epoch := 0,
    mode := .ready, step := 0, hseq := 0, ver := 1 }

/-- Both paths of the pair heard at clock 0. -/
def Tests.heard (p : Pair) : Pair := { p with paths := List.replicate 2 ⟨some 0, false, none⟩, hb := some Tests.hb }

theorem test_meets_PairBlocks :
    (let s := Tests.pair .standby
     s.up ∧ s.paired = true ∧ s.pair.silence = false ∧ s.pathUp false = true ∧ s.pathUp true = true ∧ s.shadowing = true ∧
       (0 : Fin 1024).val = s.step10 ∧ (0 : BitVec 22).toNat = s.ang.row.toNat % 2 ^ 22 ∧
       (List.replicate 6 (0 : Word)).length = s.mapInputs.length ∧ s.gfe.done = false ∧ s.sys.clk ≤ s.sys.bclk + 640 ∧
       true = bit s.sys.order 1) ∧
    (let s := Tests.pair .syncing
     s.up ∧ s.paired = true ∧ s.role = .syncing ∧ s.pair.ho = none ∧ (s.port 20).ts ≠ .confirm ∧ epochNewer Tests.hb.epoch s.pair.epochMax = false ∧
       s.pair.oldVer ≤ Tests.hb.ver.toNat ∧ s.pair.version = false) ∧
    (let s : State := { Tests.pair .standby with sys := { (Tests.pair .standby).sys with clk := 641 } }
     s.up ∧ s.sys.bclk + 640 < s.sys.clk) := by unfold State.up; decide +kernel

/-- One clock before the next boundary. -/
def Tests.atEdge (s : State) : State := { s with ang := { s.ang with acc := BitVec.ofNat 64 (2 ^ 54 - 1) } }

/-- A standby with one primary lane and the witness of its concentrator. -/
def Tests.witnessed (presB : Bool) : State :=
  ((Tests.pair .standby 1 (fun p => { p with detect := some 0, qualHb := true })).setReg (Reg.LNK_CFG 0) 1).updLane 0 (fun l =>
    { l with wit := some ⟨true, presB, false, true, 0, 0, 0, 0⟩ })

theorem test_meets_PartnerLost :
    (let s := Tests.pair .active 1 Tests.heard
     let u := s.silentPath false
     s.up ∧ s.pair.paths.getD (b2n false) ⟨none, true, none⟩ = ⟨some 0, false, none⟩ ∧
       0 + 2400 ≤ (s.toSysClk (0 + 2400)).sys.clk ∧
       (s.pair.paths.getD (b2n (!false)) ⟨none, true, none⟩).silent = false ∧ u.mirrored = true) ∧
    (let s := Tests.pair .standby
     let w : Wit := ⟨true, false, false, true, 0, 7, 1023, 0⟩
     s.up ∧ s.isActive = false ∧ (s.port 0).ts ≠ .confirm ∧ w.clk = s.sys.clk ∧ epochNewer w.epoch s.pair.epochMax = false ∧ w.win < 8 ∧ w.step < 1024) ∧
    (let s := Tests.atEdge ((Tests.pair .standby 1 (fun p => { p with detect := some 0 })).setReg (Reg.LNK_CFG 0) 1)
     s.up ∧ s.role = .standby ∧ s.pair.detect = some 0 ∧ s.pair.decided = false ∧ s.pair.hoCommit = none ∧
       (s.primaries.map s.witnessOf).any (·.isNone) = true ∧ (s.toSysClk (0 + 1600)).sys.clk < 0 + 1600) ∧
    (let s := Tests.witnessed false
     let l := s.primaries.map s.witnessOf
     s.up ∧ s.role = .standby ∧ s.pair.detect = some 0 ∧ s.pair.decided = false ∧ s.pair.hoCommit = none ∧
       l.any (·.isNone) = false ∧ s.pair.qualHb = true ∧ l.length < 2 * (l.filter (fun o => o == some false)).length) ∧
    (let s := Tests.witnessed true
     let l := s.primaries.map s.witnessOf
     s.up ∧ s.role = .standby ∧ s.pair.detect = some 0 ∧ s.pair.decided = false ∧ s.pair.hoCommit = none ∧
       l.any (·.isNone) = false ∧ 2 * (l.filter (fun o => o == some false)).length ≤ l.length) := by
  unfold State.up; decide +kernel

/-- A standby that has computed its step and waits for the record. -/
def Tests.awaits : State :=
  let s := Tests.pair .standby 1 (fun p => { p with usedSample := true })
  { s with gfe := { s.gfe with done := true }, ang := { s.ang with row := 1 } }

/-- The record of that step as the other unit would send it. -/
def Tests.srec : StepRec :=
  let s := Tests.awaits
  { row := 1, step := 0, epoch := 0, gfe := s.gfe, carry := s.arm.carry, pci := s.arm.pci, sets := [], incs := [], formed := false, mo := s.mo,
    rt := s.rt, cmd := none, mtr := s.mtr.core, decs := [], regs := [], cmds := none }

theorem test_meets_PairRecords :
    (let s := Tests.awaits
     let r := Tests.srec
     s.up ∧ s.shadowing = true ∧ r.step = s.step10 ∧ r.row = s.ang.row ∧ s.ac ≤ 1000 ∧ s.pair.recGot = false ∧ s.pair.record = none ∧
       s.pair.adopted < s.stepNo ∧ s.role = .standby ∧
       s.pair.usedSample = true ∧ s.gfe.done = true ∧ s.gfe.ref1 = r.gfe.ref1 ∧ s.gfe.ref2 = r.gfe.ref2 ∧ s.ang.cmd = r.cmd ∧
       s.paired = true) ∧
    (let s := Tests.pair .standby 1 (fun p => { p with measCnt := 8 })
     let t := Tests.pair .standby 1 (fun p => { p with measCnt := 7 })
     s.up ∧ s.role = .standby ∧ 8 ≤ s.pair.measCnt ∧ t.up ∧ t.role = .standby ∧ t.pair.measCnt < 8) ∧
    (let s := Tests.pair .syncing 1 Tests.heard
     let t := Tests.pair .syncing 1 (fun p => { Tests.heard p with
       coreSeen := true, xferRecs := [(3, Tests.rec9)], record := some Tests.srec })
     s.up ∧ s.role = .syncing ∧ s.hbCurrent false = true ∧ s.pair.coreSeen = false ∧ s.pair.xferRecs = [] ∧ s.pair.record = none ∧
       t.up ∧ t.role = .syncing ∧ t.hbCurrent false = true ∧ t.pair.coreSeen = true ∧ t.pair.xferRecs = [(3, Tests.rec9)] ∧
       t.pair.record = some Tests.srec) ∧
    (let r : Reply := Tests.act.mkReply ⟨1, 1, .s0⟩ 1 0 []
     let w : Wait := { q := ⟨1, 1, .s0⟩, reply := r, run := none, read := none, ack := true, tag := none, since := 0 }
     let s : State := { Tests.pair .active with cmd := { Tests.act.cmd with waits := [w] } }
     let t := Tests.later s
     s.up ∧ s.cmd.waits.find? (·.ack) = some w ∧ (s.toSysClk (w.since + 8000)).sys.clk < w.since + 8000 ∧
       t.up ∧ t.cmd.waits.find? (·.ack) = some w ∧ w.since + 8000 ≤ (t.toSysClk (w.since + 8000)).sys.clk ∧
       Tests.act.cmd.waits = []) := by unfold State.up; decide +kernel

/-- The record's digest may be the unit's own, and may be another. -/
theorem test_meets_PairRecords_digest :
    Tests.awaits.ownDigest = Tests.awaits.ownDigest ∧ Tests.awaits.ownDigest ≠ ~~~Tests.awaits.ownDigest := by
  refine ⟨rfl, fun h => ?_⟩
  have h1 := congrArg (fun v : Word => v.getLsbD 0) h
  simp at h1

theorem test_meets_PairRoles :
    (let s := Tests.pair .standby 1 (fun p => { p with qual := true })
     s.up ∧ s.role = .standby ∧ s.pair.hoCommit = none ∧ (if (2 : BitVec 3).toNat ≤ 2 then s.hoOk else s.pair.qual) = true ∧
       (if (3 : BitVec 3).toNat ≤ 2 then s.hoOk else s.pair.qual) = true ∧ (0 : BitVec 22).toNat = s.ang.row.toNat % 2 ^ 22) ∧
    (let s := (Tests.pair .active 7 (fun p => { Tests.heard p with okT := 1 })).setReg Reg.PAIR_REVERT_T 0
     s.up ∧ s.flag Reg.PAIR_CFG 2 = true ∧ s.unitB = true ∧ s.isActive = true ∧ s.pair.okT ≠ 0 ∧ s.paired = true ∧
       (let c := s.pair.okT - 1 + s.regN Reg.PAIR_REVERT_T * 400000000
        (s.toSysClk c).partnerBit 1 = true ∧ c ≤ (s.toSysClk c).sys.clk) ∧ s.pair.ho = none) ∧
    (let s := Tests.pair .isolated 3 (fun p => { p with waitLone := true })
     let t := s.setReg Reg.PAIR_START_T 0
     let c (s : State) := s.pair.startT + s.regN Reg.PAIR_START_T * 400000000
     s.up ∧ s.pair.waitLone = true ∧ s.unitB = true ∧ s.role = .isolated ∧ s.heldOut = false ∧ (s.toSysClk (c s)).sys.clk < c s ∧
       t.up ∧ t.pair.waitLone = true ∧ t.unitB = true ∧ t.role = .isolated ∧ t.heldOut = false ∧ c t ≤ (t.toSysClk (c t)).sys.clk) ∧
    (let s := Tests.pair .active 1 (fun p => { p with silence := true })
     let t := Tests.later s
     let c := s.pair.silenceAt + 40000
     s.up ∧ s.pair.silence = true ∧ s.mo.role = .active ∧ (s.toSysClk c).sys.clk < c ∧ t.up ∧ t.pair.silence = true ∧
       t.mo.role = .active ∧ c ≤ (t.toSysClk c).sys.clk) ∧
    (let s := Tests.pair .active 1 (fun p => { p with proofSteps := some 7 })
     let t := Tests.pair .active 1 (fun p => { p with proofSteps := some 8 })
     s.up ∧ s.pair.proofSteps = some 7 ∧ 7 < 8 ∧ t.up ∧ t.pair.proofSteps = some 8 ∧ 8 ≤ 8) := by unfold State.up; decide +kernel

/-- A write of one register with no mask. -/
def Tests.wr (a : Nat) (v : Word) : List RegEntry := [⟨word (a + 1), v, 0⟩]

theorem test_meets_PairRoles_writes :
    let s := Tests.inMode Tests.live .active .ready
    s.up ∧ s.running = false ∧ s.accessVerdict (Tests.wr Reg.SNAP_CFG 1) s.cmdTarget 0 false = none ∧
      writesStore (Tests.wr Reg.SNAP_CFG 1) = true ∧ s.accessVerdict (Tests.wr Reg.MODE_HOST_P 1) s.cmdTarget 0 false = none ∧
      writesStore (Tests.wr Reg.MODE_HOST_P 1) = false ∧
      (Tests.wr Reg.SNAP_CMD 1).all (fun e => Tests.act.fwAtOnce (entryAt e)) = true ∧
      (Tests.wr Reg.MODE_HOST_P 1).all (fun e => Tests.act.fwAtOnce (entryAt e)) = false ∧ Tests.act.running = true := by unfold State.up; decide +kernel

theorem test_meets_PairRoles_commands :
    (let s := Tests.pair .active 1 Tests.heard
     s.up ∧ s.running = true ∧ s.accessVerdict (Tests.wr Reg.PIPE_CFG 1) s.cmdTarget 0 false ≠ none ∧
       s.accessVerdict (Tests.wr Reg.SNAP_CFG 1) s.cmdTarget 0 false = none ∧ (Tests.wr Reg.SNAP_CFG 1).length = 1 ∧
       s.pwr.booted = true ∧ s.isActive = true ∧ s.paired = true ∧ s.partnerBit 0 = true ∧ s.pair.ho = none ∧ s.mode ≠ .maintain ∧
       s.role ≠ .isolated) ∧
    (let s := Tests.inMode (Tests.pair .active) .active .maintain
     s.up ∧ s.pwr.booted = true ∧ s.isActive = true ∧ s.mode = .maintain) ∧
    (let s := Tests.pair .isolated
     let u : State := { s with pair := { s.pair with out := false } }
     s.up ∧ s.pwr.booted = true ∧ s.role = .isolated ∧ u.heldOut = false) := by unfold State.up; decide +kernel

/-- With the safety channels changed. -/
def Tests.saf (s : State) (f : Saf → Saf) : State := { s with saf := f s.saf }

theorem test_meets_SafePulseBlock : Tests.act.sound = true ∧ Tests.act.saf.spb = false := by decide +kernel

theorem test_meets_SafetyArchitecture :
    (let s := Tests.lanes Tests.act
     s.up ∧ s.saf.arch = .start ∧ s.laneMode = true ∧ s.saf.fbHigh = false) ∧
    (let s := Tests.saf Tests.act (fun x => { x with arch := .xchk, shTest := true, agree := 1024 })
     s.up ∧ s.saf.arch = .xchk ∧ s.saf.shTest = true ∧ 1024 ≤ s.saf.agree) ∧
    (let s := Tests.saf Tests.act (fun x => { x with arch := .xchk, shTest := true, agree := 1023 })
     s.up ∧ s.saf.arch = .xchk ∧ s.saf.shTest = true ∧ s.saf.agree < 1024) ∧
    (let s := Tests.saf Tests.turn (fun x => { x with arch := .diverse })
     s.up ∧ s.safActs = true ∧ s.saf.arch = .diverse ∧ s.isActive = false) := by unfold State.up; decide +kernel

/-- Safety input 7 enabled with a function; the architecture DIVERSE. -/
def Tests.sin7 (func : Nat) : State :=
  Tests.saf (Tests.turn.setReg (Reg.SPS_SINk 7) (word (1 + 4 * func))) (fun x => { x with arch := .diverse })

theorem test_meets_SafetyInputs :
    (let s := Tests.sin7 0
     s.up ∧ s.atRest 7 = true ∧ s.sinEn 7 = true ∧ s.safActs = true ∧ s.sinFunc 7 = 0 ∧
       (s.updSin 7 (fun i => { i with a := false })).atRest 7 = false ∧ (s.updSin 7 (fun i => { i with b := false })).atRest 7 = false) ∧
    (let s := Tests.sin7 1
     s.up ∧ s.atRest 7 = true ∧ s.sinEn 7 = true ∧ s.safActs = true ∧ s.sinFunc 7 = 1) ∧
    (let s := ((Tests.sin7 0).setReg (Reg.SPS_SINk 7) 0xA1).updSin 7 (fun i => { i with b := false, apart := some 0 })
     let t := Tests.later s
     let c := 0 + (s.sinDisc 7 - 1) * 400000 + 1
     (s.sin 7).apart = some 0 ∧ (s.toSysClk c).sys.clk < c ∧ 7 < s.saf.sins.length ∧ s.restA 7 ≠ s.restB 7 ∧
       (let u : State := { t with sys := { t.sys with clk := c } }
        u.up ∧ (u.sin 7).apart = some 0 ∧ (u.sin 7).fault = false ∧ c ≤ (u.toSysClk c).sys.clk) ∧
       s.up ∧ s.sinEn 7 = true ∧ s.safActs = true ∧ (s.sin 7).fault = false ∧ s.restA 7 = true ∧ s.restB 7 = false ∧
       s.saf.proof = none ∧ s.sinFunc 7 = 0) ∧
    (let s := Tests.sin7 0
     s.restA 7 = s.restB 7 ∧ (s.sin 7).apart = none ∧ (1 : BitVec 16) ≠ s.saf.sw1 ∧ s.laneMode = false) ∧
    (let s := Tests.lanes (Tests.sin7 0)
     s.up ∧ (1 : BitVec 16) ≠ s.saf.sw1 ∧ s.laneMode = true) := by unfold State.up; decide +kernel

/-- An island with a word in SPS_CFG, the architecture DIVERSE and the functions' times over. -/
def Tests.sfun (cfg : Word) : State :=
  Tests.saf ((Tests.inMode Tests.turn .active .island).setReg Reg.SPS_CFG cfg) (fun x => { x with
    arch := .diverse, slfT := msFs 0xFFFFFFFF, sdpT := msFs 0xFFFFFFFF })

theorem test_meets_SafetyInputs_functions :
    (let s := Tests.sfun 0x15
     s.up ∧ s.slfActs = true ∧ msFs (s.regN Reg.SPS_SLF_T) ≤ s.saf.slfT ∧ s.flag Reg.SPS_CFG 1 = false ∧ s.slaActs = true ∧
       s.saf.arch = .diverse ∧ s.flag Reg.SPS_CFG 3 = false ∧ s.sdpActs = true ∧ msFs (s.regN Reg.SPS_SDP_T) ≤ s.saf.sdpT ∧
       s.flag Reg.SPS_CFG 5 = false ∧ s.loopOn = false ∧ s.safActs = true) ∧
    (let s := Tests.sfun 0x0F
     s.up ∧ s.slfActs = true ∧ s.flag Reg.SPS_CFG 1 = true ∧ s.slaActs = true ∧ s.flag Reg.SPS_CFG 3 = true) ∧
    (let s := Tests.saf Tests.act (fun x => { x with swA := true, swH := true })
     s.up ∧ s.loopOn = true) ∧
    (let s := Tests.saf (Tests.inMode Tests.turn .active .bindOff) (fun x => { x with ssrT := some 3 })
     let e := s.sys.bclk + (msFs (s.regN Reg.SPS_SSR_T) - 3 + 2499999) / 2500000
     let t : State := { s with sys := { s.sys with clk := e } }
     s.up ∧ s.saf.ssrT = some 3 ∧ s.mode = .bindOff ∧ (s.toSysClk e).sys.clk < e ∧ t.up ∧ e ≤ (t.toSysClk e).sys.clk) ∧
    (let s := Tests.later (Tests.saf Tests.act (fun x => { x with offAt := some 0 }))
     s.up ∧ s.saf.offAt = some 0 ∧ 0 + 40000 ≤ (s.toSysClk (0 + 40000)).sys.clk ∧ Tests.act.saf.offAt = none) ∧
    (Tests.act.saf.sout = List.replicate 8 false) ∧
    (let s := Tests.saf Tests.act (fun x => { x with sout := [true, false, false, false, false, false, false, false] })
     s.up ∧ s.saf.sout = [true, false, false, false, false, false, false, false]) ∧
    (let a : Accepted := { q := ⟨1, 1, .h0⟩, op := .safProof 5, target := 0, fate := 0, vmode := 0, vtime := 0, serial := [], fw := false }
     let p : Proof := { test := 5, cmd := a, start := 0, outs := [], chB := false, held := 0, await := false }
     let v := Tests.saf Tests.act (fun x => { x with proof := some p })
     let w : State := { v with sys := { v.sys with clk := 240000000000 } }
     let s := Tests.saf Tests.act (fun x => { x with proof := some p })
     let t := Tests.saf Tests.act (fun x => { x with proof := some { p with test := 1 } })
     s.up ∧ s.saf.proof = some p ∧ p.test = 5 ∧ p.await = false ∧ p.chB = false ∧ t.up ∧ t.saf.proof = some { p with test := 1 } ∧
       w.up ∧ w.saf.proof = some p ∧ p.start + 240000000000 ≤ (w.toSysClk (p.start + 240000000000)).sys.clk ∧
       p.held + 40000000 ≤ (w.toSysClk (p.held + 40000000)).sys.clk) := by
  unfold State.up; decide +kernel

/-- With the memory changed. -/
def Tests.mem (f : Mem → Mem) (a : Nat := 0) (v : Word := 0) : State :=
  let s := Tests.turn.setReg a v
  { s with mem := f s.mem }

theorem test_meets_MemoryCommands :
    (let s := Tests.mem id Reg.MEM_REMAP_CE 16
     s.up ∧ s.physBank (0xFFFFF : BitVec 20).toNat < 68 ∧ (s.bank (s.physBank (0xFFFFF : BitVec 20).toNat)).ce + 1 < s.fld Reg.MEM_REMAP_CE 0 8) ∧
    (let s := Tests.mem (fun m => { m with scrubPos := 0xFFFFF })
     s.up ∧ s.mem.scrubPos ≠ 0) ∧
    (let s := Tests.mem (fun m => { m with copy := some (0, 64) })
     let p := s.mem.remap.getD 0 0
     s.up ∧ s.mem.copy = some (0, 64) ∧ 0 < 64 ∧ s.mem.remap.length = 64 ∧ 64 < 68 ∧ p < 68 ∧ 64 ≠ p ∧
       s.dueBanks.filter (fun k => decide (k ≠ 0)) = [] ∧
       (∀ k, k < 64 → k ≠ 0 → s.mem.remap.getD k k ≠ p ∧ s.mem.remap.getD k k ≠ 64) ∧ (s.bank 64).due = false) ∧
    (let s := Tests.mem (fun m => { m with mtPos := 32767 }) Reg.MEM_CFG 2
     s.up ∧ s.flag Reg.MEM_CFG 1 = true ∧ s.mem.slice = none ∧ s.mem.retv = false ∧ s.mem.skipped = [] ∧ s.mem.copy = none ∧
       s.mem.wakeEnd ≤ s.sys.clk) ∧
    (let s := Tests.mem (fun m => { m with slice := some 5 })
     s.up ∧ s.mem.slice = some 5 ∧ (0x3FFFFFFF : Word).toNat < 0x4000_0000) := by unfold State.up; decide +kernel

/-- With every clock in order, and the clocks changed from there. -/
def Tests.clk (s : State) (f : Clk → Clk := id) : State :=
  { s with clk := f { s.clk with refOk := true, bkOk := true, lock := List.replicate 10 true } }

theorem test_meets_ClockCommands :
    (let s := Tests.clk Tests.turn
     s.up ∧ s.clk.refOk = true ∧ s.clk.bkOk = true ∧ s.pll 1 = true ∧ s.clk.sysOnBk = false ∧ s.pll (4 + 5) = true ∧
       (∀ n, n < 22 → n / 4 = 5 → s.linkUp n = false) ∧ s.pll 0 = true ∧ s.isActive = false ∧ s.pll 3 = true ∧ s.pll 2 = true ∧
       s.mode ≠ .commission ∧ s.clk.go = false) ∧
    (let s := Tests.turn.setReg (Reg.CLK_BANDOVRn 9) 0x80
     s.up ∧ s.flag (Reg.CLK_BANDOVRn 9) 7 = true) ∧
    (let s := Tests.clk (Tests.inMode Tests.turn .active .commission) (fun c => { c with go := true })
     s.up ∧ s.mode = .commission ∧ s.clk.go = true) ∧
    (let s := Tests.clk Tests.turn (fun c => { c with bkOk := false })
     s.up ∧ s.pll 0 = true ∧ s.isActive = false ∧ s.clk.bkOk = false) ∧
    (let s := Tests.clk Tests.turn (fun c => { c with apllAt := some 0 })
     let t := Tests.clk Tests.act (fun c => { c with apllAt := some 0 })
     s.up ∧ s.clk.apllAt = some 0 ∧ s.clk.apllLate = false ∧ s.isActive = false ∧ (s.toSysClk (0 + 400000)).sys.clk < 0 + 400000 ∧
       (Tests.at_ 400000 s).up ∧ (Tests.at_ 400000 s).isActive = false ∧
       0 + 400000 ≤ ((Tests.at_ 400000 s).toSysClk (0 + 400000)).sys.clk ∧
       (Tests.at_ 400000 t).up ∧ (Tests.at_ 400000 t).clk.apllAt = some 0 ∧ (Tests.at_ 400000 t).isActive = true ∧
       (Tests.at_ 400000 t).paired = false ∧ 0 + 400000 ≤ ((Tests.at_ 400000 t).toSysClk (0 + 400000)).sys.clk) := by
  unfold State.up; decide +kernel

/-- With the supply changed. -/
def Tests.pwr (s : State) (f : Pwr → Pwr) : State := { s with pwr := f s.pwr }

/-- A unit in INIT whose start test has passed, every parameter without a default written, or not. -/
def Tests.ready (w : Bool) : State :=
  let s := Tests.saf Tests.live (fun x => { x with arch := .xchk, sw1 := 0xF0, sw1Start := 0xF0 })
  { s with sys := { s.sys with marks := if w then s.mustWrite else [] } }

theorem test_meets_PowerAndReset :
    (let s := Tests.pwr Tests.turn (fun p => { p with okA := true, okB := true })
     s.up ∧ (32999 : Word).toNat < 33000 ∧ (if true then s.pwr.okA else s.pwr.okB) = true ∧ 33000 ≤ (33000 : Word).toNat ∧
       s.pwr.warn = false ∧ s.pwr.stuck = false ∧ s.isActive = false) ∧
    (let s := Tests.pwr Tests.turn (fun p => { p with warn := true })
     s.up ∧ s.pwr.warn = true ∧ 34000 < (34001 : Word).toNat) ∧
    (let l : Lifeline := Tests.turn.checkpoint
     let s := Tests.pwr Tests.turn (fun p => { p with saving := true, llCap := some l })
     s.up ∧ s.pwr.saving = true ∧ s.pwr.llCap = some l ∧ s.pwr.llA = none ∧ s.pwr.llB = none) ∧
    (let s := Tests.pwr Tests.turn (fun p => { p with handoverLeft := some (1, 3) })
     s.sound = true ∧ s.pwr.on = true ∧ s.pwr.handoverLeft = some (1, 3)) ∧
    State.reset.pwr.booted = false := by unfold State.up; decide +kernel

theorem test_meets_PowerAndReset_init :
    (let s := Tests.ready true
     let u := s.angStart.minverRaise.unmappedCheck
     s.up ∧ s.mode = .init ∧ s.pwr.booted = true ∧ s.sec.loaderOnly = false ∧ s.saf.arch = .xchk ∧ u.saf.arch ≠ .fault ∧
       u.row1.all id = true) ∧
    (let s := Tests.ready false
     let u := s.angStart.minverRaise.unmappedCheck
     s.up ∧ s.mode = .init ∧ s.pwr.booted = true ∧ s.sec.loaderOnly = false ∧ s.saf.arch = .xchk ∧ u.saf.arch ≠ .fault ∧
       u.row1.all id = false) := by unfold State.up; decide +kernel

/-- With the calendar changed, under a source. -/
def Tests.cal (src : Word) (f : Cal → Cal) : State :=
  let s := Tests.turn.setReg Reg.CAL_CFG src
  { s with cal := f s.cal }

theorem test_meets_CalendarAndCover :
    (let s := Tests.cal 3 id
     let m : PtpMsg := { port := false, domain := 0, offset := 0, utc := none, leap := none }
     s.up ∧ s.calSrc = 3 ∧ m.domain.toNat = s.fld Reg.CAL_CFG 8 8 ∧ m.utc = none ∧ m.leap = none ∧ s.calSrc ≠ 4) ∧
    (let s := Tests.cal 4 id
     s.up ∧ s.calSrc = 4 ∧ s.taiNs % 1000000000 < 500000000 ∧ s.sound = true ∧
       s.regN Reg.CAL_STEP_LIM * 1000 < (10 ^ 18 : Int).natAbs) ∧
    (let s := Tests.cal 3 (fun c => { c with st := .acquire, since := some 0 })
     let t := Tests.at_ 4000000000 s
     s.up ∧ s.cal.st = .acquire ∧ s.cal.since = some 0 ∧ (s.toSysClk (0 + 4000000000)).sys.clk < 0 + 4000000000 ∧ t.up ∧
       t.cal.st = .acquire ∧ t.cal.since = some 0 ∧ 0 + 4000000000 ≤ (t.toSysClk (0 + 4000000000)).sys.clk) ∧
    (let s := Tests.at_ 1200000000 ((Tests.cal 3 (fun c => { c with st := .locked, last := some 0 })).setReg Reg.CAL_HOLDOVER 0)
     s.up ∧ s.cal.st = .locked ∧ s.regN Reg.CAL_HOLDOVER = 0 ∧ s.cal.last = some 0 ∧
       0 + 1200000000 ≤ (s.toSysClk (0 + 1200000000)).sys.clk) ∧
    (let s := Tests.cal 0x23 (fun c => { c with st := .holdover, scap := true, holdSince := some 0 })
     let e := 0 + s.regN Reg.CAL_HOLDOVER * 400000000
     s.cal.holdSince = some 0 ∧ (Tests.at_ e s).up ∧ (Tests.at_ e s).cal.holdSince = some 0 ∧ e ≤ ((Tests.at_ e s).toSysClk e).sys.clk ∧ s.up ∧ s.cal.st = .holdover ∧ s.flag Reg.CAL_CFG 5 = true ∧ s.cal.st ≠ .invalid ∧ s.cal.batAbsent = false ∧
       2700 ≤ (2700 : Word).toNat ∧ s.cal.scap = true) ∧
    (let s := Tests.cal 0 id
     s.up ∧ s.calSrc = 0 ∧ s.sec.latch = false) ∧
    (let s : State := { Tests.turn with sec := { Tests.turn.sec with coverOpen := true } }
     s.sec.coverOpen = true) := by unfold State.up; decide +kernel

/-- An open session of every role on the service port. -/
def Tests.sess1 : Sess :=
  { num := 1, fin := true, roles := 0x3F, serial := [], certKey := [], keyIn := [], keyOut := [], saltIn := [], saltOut := [],
    transcript := [], last := 0, port := .s0, lastClk := 0, held := [], heldClk := none, cache := [] }

/-- With that session, the service port open. -/
def Tests.host (s : State) (x : Sess := Tests.sess1) : State := (s.setReg Reg.NET_CFG 16).updCmds (fun c => { c with sess := [x] })

/-- Its first command. -/
def Tests.q : Req := ⟨1, 1, .s0⟩

/-- A HELLO of the right form without a certificate. -/
def Tests.helloMsg : List Byte := 1 :: List.replicate 131 0

theorem test_meets_SessionCommands :
    (let s := Tests.host Tests.stby
     s.up ∧ s.pwr.booted = true ∧ s.portOpen .s0 = true ∧ s.asleep = false ∧ s.sec.loaderOnly = false ∧ s.shadowing = true) ∧
    (let s := (Tests.host Tests.act).updCmds (fun c => { c with sess := (upto 8).map (fun n => { Tests.sess1 with num := n + 1 }) })
     s.up ∧ s.portOpen .s0 = true ∧ s.shadowing = false ∧ s.freeSess = none) ∧
    (let s := Tests.host Tests.act
     s.up ∧ s.pwr.booted = true ∧ s.portOpen .s0 = true ∧ s.asleep = false ∧ s.shadowing = false ∧ s.freeSess = some 2 ∧
       helloOk [] = false ∧ helloOk Tests.helloMsg = true ∧ s.flag Reg.CAL_STAT 3 = false) ∧
    (let x := { Tests.sess1 with fin := false }
     let s := Tests.host Tests.act x
     s.sess (1 : Fin 9).val = some x ∧ x.fin = false ∧ (List.replicate 96 (0 : Byte)).length = 96) ∧
    (let s := Tests.host Tests.act
     let d : List Byte := [1, 0, 2] ++ List.replicate 45 0
     let d1 : List Byte := [1, 0, 1] ++ List.replicate 45 0
     (List.replicate 47 (0 : Byte)).length < 48 ∧ 48 ≤ d.length ∧ par d 10 2 ≤ 1400 ∧ d.length = 48 + par d 10 2 ∧ par d 0 1 = 1 ∧
       0 < par d 2 1 ∧ par d 2 1 < 9 ∧ s.sess (par d 2 1) = none ∧ par d1 0 1 = 1 ∧ s.sess (par d1 2 1) = some Tests.sess1 ∧
       Tests.sess1.fin = true) ∧
    (let x := { Tests.sess1 with held := [(3, .ping, .s0)], heldClk := some 0 }
     let s := Tests.host Tests.act x
     let e := x.lastClk + s.fld Reg.CMD_SESS_TMO 0 10 * 400000000
     let t : State := { s with sys := { s.sys with clk := e + 8000000 } }
     s.up ∧ s.sess (1 : Fin 9).val = some x ∧ x.held ≠ [] ∧ x.heldClk = some 0 ∧ (1 : Fin 9).val ≠ 0 ∧
       (s.toSysClk (0 + 8000000)).sys.clk < 0 + 8000000 ∧ (s.toSysClk e).sys.clk < e ∧ t.up ∧ t.sess (1 : Fin 9).val = some x ∧
       0 + 8000000 ≤ (t.toSysClk (0 + 8000000)).sys.clk ∧ e ≤ (t.toSysClk e).sys.clk) := by unfold State.up; decide +kernel

/-- The other condition of a HELLO that is answered: its chain verifies, before TIME_OK. -/
theorem test_meets_SessionCommands_hello (pub serial : List Byte) (roles nb na : Nat)
    (h : Config.certChain ((Tests.host Tests.act).sec.anchor.getD []) (helloChain Tests.helloMsg) = some (pub, roles, serial, nb, na)) :
    (Tests.host Tests.act).helloCert Tests.helloMsg = some (pub, roles, serial) := by
  have k : (Tests.host Tests.act).flag Reg.CAL_STAT 3 = false := by decide +kernel
  simp [State.helloCert, h, k]

/-- A signature verifies or does not; a tag is right or is not. -/
theorem test_meets_SessionCommands_crypto (x : Sess) (sig d : List Byte) :
    (Config.ecdsaVerify x.certKey (Config.sha384 x.transcript) sig = true ∨
      Config.ecdsaVerify x.certKey (Config.sha384 x.transcript) sig = false) ∧
    (Config.gcmTag x.keyIn (cmdNonce x (par d 4 4)) (d.take 32) (slice d 32 (par d 10 2)) ≠ slice d (32 + par d 10 2) 16 ∨
      Config.gcmTag x.keyIn (cmdNonce x (par d 4 4)) (d.take 32) (slice d 32 (par d 10 2)) = slice d (32 + par d 10 2) 16) :=
  ⟨Bool.eq_false_or_eq_true _, (Decidable.em _).symm⟩

/-- A management request waits. -/
def Tests.waiting : State :=
  let s := Tests.host Tests.act
  let r : Reply :=
    { session := 1, seq := 1, opcode := 0x0106, completion := false, last := true, part := 0, status := 0,
      port := .s0, unit := false, role := 0, mode := 0, trow := 0, tstep := 0, time := 0, resend := 0, data := [] }
  { s with cmd := { s.cmd with waits := [{ q := Tests.q, reply := r, run := none, read := none, ack := false, tag := some 7, since := 0 }] } }

theorem test_meets_SessionCommands_mgmt :
    Tests.waiting.up ∧ Tests.waiting.cmd.waits.map (·.tag) = [some (7 : Word).toNat] ∧
      Tests.waiting.cmd.waits.map (·.tag) ≠ [some (8 : Word).toNat] ∧
      (Tests.waiting.toSysClk (0 + 40000000)).sys.clk < 0 + 40000000 ∧
      (let t : State := { Tests.waiting with sys := { Tests.waiting.sys with clk := 40000000 } }
       t.up ∧ t.cmd.waits = Tests.waiting.cmd.waits ∧ 0 + 40000000 ≤ (t.toSysClk (0 + 40000000)).sys.clk) := by unfold State.up; decide +kernel

theorem test_meets_HostRefused :
    let x := { Tests.sess1 with roles := 0 }
    let s := Tests.host Tests.act x
    (Instr.ownClaim Tests.q 2).hostCmd = some (Tests.q, .ownClaim 2) ∧ s.admits Tests.q (.ownClaim 2) x ∧
      ((s.took Tests.q).verdict (x.took Tests.q s.sys.clk) Tests.q (.ownClaim 2)).isSome = true := by
  unfold State.admits State.up; decide +kernel

theorem test_meets_HostAccepted :
    let x := Tests.sess1
    let s := Tests.host Tests.act x
    (Instr.setP Tests.q 0).hostCmd = some (Tests.q, .setP 0) ∧ s.admits Tests.q (.setP 0) x ∧ opBoundary (.setP 0) = true ∧
      opReads (.setP 0) = false ∧ (s.took Tests.q).verdict (x.took Tests.q s.sys.clk) Tests.q (.setP 0) = none := by
  unfold State.admits State.up; decide +kernel

/-- A unit whose step's result is there. -/
def Tests.done : State := { Tests.host Tests.act with gfe := { Tests.act.gfe with done := true } }

theorem test_meets_HostExecuted_read :
    let x := Tests.sess1
    let s := Tests.done
    let op : HostOp := .regReadRange 0x0004_0000 4
    let u := s.took Tests.q
    let w := (u.readRegs op).2.journal (x.took Tests.q s.sys.clk) Tests.q op false
    (Instr.regReadRange Tests.q 0x0004_0000 4).hostCmd = some (Tests.q, op) ∧ s.admits Tests.q op x ∧ opBoundary op = false ∧
      u.verdict (x.took Tests.q s.sys.clk) Tests.q op = none ∧ opReads op = true ∧ s.gfe.done = true ∧ w.cmd.waits = [] ∧
      w.cmd.core.sess = u.cmd.core.sess ∧ w.mirrored = false := by unfold State.admits State.up; decide +kernel

theorem test_meets_HostExecuted :
    let x := Tests.sess1
    let s := Tests.done
    let op : HostOp := .ownClaim 2
    let u := s.took Tests.q
    let v := u.journal (x.took Tests.q s.sys.clk) Tests.q op false
    (Instr.ownClaim Tests.q 2).hostCmd = some (Tests.q, op) ∧ s.admits Tests.q op x ∧ opBoundary op = false ∧
      u.verdict (x.took Tests.q s.sys.clk) Tests.q op = none ∧ opReads op = false ∧ lateOp op = false ∧ (u.immOp Tests.q op).1 = 0 ∧
      (v.immOp Tests.q op).2.2.cmd.waits = [] ∧ (v.immOp Tests.q op).2.2.cmd.core.sess = u.cmd.core.sess ∧
      (v.immOp Tests.q op).2.2.mirrored = false := by unfold State.admits State.up; decide +kernel

theorem test_meets_HostLate :
    let x := Tests.sess1
    let s := Tests.host Tests.act
    let t := Tests.host Tests.turn
    let u := s.took Tests.q
    s.admits Tests.q .close x ∧ u.verdict (x.took Tests.q s.sys.clk) Tests.q .close = none ∧
    t.admits Tests.q .reset x ∧ (t.took Tests.q).verdict (x.took Tests.q t.sys.clk) Tests.q .reset = none ∧ t.isActive = false ∧
    s.admits Tests.q (.mgmtSend true 0 0 []) x ∧
      (Tests.lane0 s).admits Tests.q (.mgmtSend false 0 0 []) x ∧
      ((Tests.lane0 s).took Tests.q).verdict (x.took Tests.q s.sys.clk) Tests.q (.mgmtSend false 0 0 []) = none := by
  unfold State.admits State.up; decide +kernel

/-- An upload of two bytes of which none has come. -/
def Tests.upload : State :=
  { Tests.act with sec := { Tests.act.sec with up := some { img := true, len := 2, ver := 0, data := [], ended := none } } }

theorem test_meets_HostEffects :
    (let s := Tests.host Tests.act
     s.classOwner 2 = 0 ∧ s.classOwner 3 = 0 ∧ s.sec.up = none ∧ s.activateBad (decide ((0 : Byte).toNat = 1)) = false) ∧
    (let s := (Tests.host Tests.act).setOwner 2 5
     s.classOwner (2 : Byte).toNat ≠ 0 ∧ s.classOwner (2 : Byte).toNat ≠ Tests.q.session.val) ∧
    (let s := (Tests.host Tests.act).setOwner 2 1
     s.classOwner (2 : Byte).toNat = Tests.q.session.val) ∧
    (let r := Tests.record 1 [] none
     let s : State := { Tests.act with acq := { Tests.act.acq with done := [r] } }
     s.acqHeadRec = some r ∧ r.num = 1) ∧
    (Tests.upload.sec.up.map (fun u => decide (u.data.length ≠ u.len)) = some true) ∧
    (let s := Tests.saf Tests.act (fun x => { x with arch := .xchk })
     s.resetAccepts = true ∧ Tests.act.resetAccepts = false) ∧
    (let a : Accepted := { q := Tests.q, op := .spsConfirm Tests.act.safChk, target := 0, fate := 0, vmode := 0, vtime := 0, serial := [], fw := false }
     a.op = .spsConfirm Tests.act.safChk) := by decide +kernel

theorem test_meets_HighErrorRate :
    let s := Tests.port0 (fun p => { p with ts := .linkUp })
    s.up ∧ (s.port 0).present = true ∧ s.linkUp 0 = true ∧ (1 : Nat) ≠ 0 := by unfold State.up; decide +kernel

theorem test_meets_IsolateAndRejoin :
    (let s := Tests.pair .standby
     s.up ∧ s.pwr.booted = true ∧ s.role = .standby) ∧
    (let s := Tests.pair .syncing
     s.up ∧ s.pwr.booted = true ∧ s.role = .syncing) ∧
    (let s := Tests.pair .active
     s.up ∧ s.pwr.booted = true ∧ s.isActive = true) ∧
    (let s := Tests.pair .isolated
     s.up ∧ s.pwr.booted = true ∧ s.role = .isolated ∧
       ({ s with pair := { s.pair with out := false } } : State).heldOut = false) := by unfold State.up; decide +kernel

theorem test_meets_ConfirmRefused :
    let x := Tests.sess1
    let s := Tests.host (Tests.inMode Tests.act .active .commission)
    let c := s.safChk + 1
    s.admits Tests.q (.spsConfirm c) x ∧ c ≠ (s.took Tests.q).safChk ∧ x.roles.testBit (opRole (.spsConfirm c)) = true ∧
      (s.took Tests.q).modeForbids (.spsConfirm c) = false ∧ s.sound = true := by unfold State.admits State.up; decide +kernel

theorem test_meets_RailReset : Tests.act.up := by unfold State.up; decide +kernel

/-- What DEBUG_UNLOCK needs to pass validation. -/
theorem test_debug_verdict (s : State) (x : Sess) (q : Req) (k : List Byte) (a : k.length = 160) (b : s.tokenOk k = true)
    (c : s.modeForbids (.debugUnlock k) = false) (d : s.conflicts q (.debugUnlock k) = false) (e : x.roles.testBit 5 = true) :
    s.verdict x q (.debugUnlock k) = none := by
  have f : opClass (.debugUnlock k) = 11 := by simp [opClass, opCode]
  have g : opRole (.debugUnlock k) = 5 := rfl
  have i : opBadLen (.debugUnlock k) = false := by show decide (k.length ≠ 160) = false; rw [a]; rfl
  have j : s.valueBad (.debugUnlock k) = false := by show (!s.tokenOk k) = false; rw [b]; rfl
  have l : s.safetyRefuses (.debugUnlock k) = false := rfl
  have m : opBoundary (.debugUnlock k) = false := rfl
  unfold State.verdict
  rw [f, g, i, j, l, m, c, d, e]
  rfl

/-- A token of 160 bytes: where it verifies, DEBUG_UNLOCK passes. -/
theorem test_meets_HostLate_debug (h : ((Tests.host Tests.turn).took Tests.q).tokenOk (List.replicate 160 0) = true) :
    (Tests.host Tests.turn).admits Tests.q (.debugUnlock (List.replicate 160 0)) Tests.sess1 ∧
    ((Tests.host Tests.turn).took Tests.q).verdict (Tests.sess1.took Tests.q (Tests.host Tests.turn).sys.clk) Tests.q
      (.debugUnlock (List.replicate 160 0)) = none := by
  refine ⟨?_, test_debug_verdict _ _ _ _ List.length_replicate h (by decide +kernel) (by decide +kernel) (by decide +kernel)⟩
  unfold State.admits State.up; decide +kernel

/-! ### Numbers of the worked examples of the specification -/

/-- Chapter 2: at 4 Hz/s a step changes the rate by at most 1,310 codes at 50 Hz and 1,312 at 49.950 Hz; a command that falls
by 1,966 codes is held to 1,310. -/
theorem test_rate_clamp :
    dmaxOf 400 0x32000000 = 1310 ∧ dmaxOf 400 (49950 * 2 ^ 24 / 1000) = 1312 ∧
      nextRate 400 0x32000000 (0x32000000 - 1966) = 0x32000000 - 1310 := by decide +kernel

/-- Chapters 2 and 19: the increment of θ at 50 Hz, on the reference and on a backup clock of +31.20 ppm. -/
theorem test_increment :
    Tests.turn.inc = 2305843009214 ∧
      (let s := Tests.turn.setReg Reg.CLK_BK_PPM 0xC30
       ({ s with ang := { s.ang with backup := true } } : State).inc = 2305771069156) := by decide +kernel

/-- Chapter 2: a mark 198.5 ns after the boundary, d = 134.0 ns, TXOFS = 96: e = +2.5 ns. -/
theorem test_phase_error : phaseErr4 198500 134000 96 = 4 * 2500 := by decide

/-- Chapter 1: the control sample falls on ac 62.7 at 49.8 Hz, and the last slot is released at 10.20 µs. -/
theorem test_step_times :
    (let s : State := { Tests.turn with ang := { Tests.turn.ang with rate := word (498 * 2 ^ 24 / 10) } }
     (s.toClk 480).ac = 62 ∧ (s.toClk 2880).ac = 375 ∧ (s.toClk 4080).ac = 532) ∧ paceClk 255 256 = 4080 := by decide +kernel

/-- The ranking of chapter 6 around the cut: rank 64 and the sum to it in one candidate, then 212, 77, 590, 301 and 164. -/
def Tests.ranked : List Cand :=
  let c (n v lam : Nat) : Cand := { n := n, v := Int.ofNat v * 2 ^ 40 / 10, w := 0, lam := lam * 65536 / 100, inc := false, p := 0 }
  [c 45 199124 26, c 212 3058 31, c 77 3058 45, c 590 3058 30, c 301 3058 22, c 164 3058 33]

/-- Chapter 6: 19,938.9 V over 19,912.4 V leave 26.5 V, which submodule 301 gives with a pulse from ac 468 to ac 556: PAT1 is
0x275_18B0, and the pattern of 77 is zero. -/
theorem test_pattern_of_arm :
    let s := (Tests.act.setReg Reg.ARM_PWM_POOL 4).setReg Reg.ARM_MINPULSE 32
    let x := s.buildPat Tests.ranked 1 false (199389 * 2 ^ 40 / 10) 0 none
    x.n0 = 1 ∧ x.pwm = some 301 ∧ x.h = 44 ∧ x.code 301 = 0x27518B0 ∧ x.code 77 = 0 ∧
      patTime (x.code 301) = 88 := by decide +kernel

/-- Chapter 7: one increment of C3 beyond 5, 43, 16 is refused, and PHY_FAR_TXEQ reads 0x0010_2B05. -/
theorem test_taps :
    (⟨5, 43, 16⟩ : Taps).ok = true ∧ (⟨5, 43, 17⟩ : Taps).ok = false ∧ (⟨5, 43, 16⟩ : Taps).encode = 0x00102B05 := by decide

/-- Chapter 8: blocks 200 to 204 kept with CONSUMED = 3,117; the partner's AUDIT has NEXT_SEQ = 202, USED = 3,114 and LIMIT =
3,178. 200 and 201 are dropped, CONSUMED stands, and 61 credits are left. -/
theorem test_audit :
    let s := Tests.bulk (fun x => { x with
      kept := [Tests.blk 200, Tests.blk 201, Tests.blk 202, Tests.blk 203, Tests.blk 204], consumed := [3117, 0, 0], next := 205,
      audit := true })
    let a (v : Fin 4) (l u : BitVec 16) : Audit := { vc := v, limit := l, used := u, nextSeq := 202, done := true }
    (match exec (.auditRx 0 [a 1 3178 3114, a 2 0 0, a 3 0 0]) s with
     | .next t => decide ((t.assoc 0).kept.map (·.seq) = [202, 203, 204] ∧ (t.assoc 0).consumed = [3117, 0, 0] ∧
         (t.assoc 0).limit.getD 0 0 - (t.assoc 0).consumed.getD 0 0 = 61)
     | _ => false) = true := by decide +kernel

/-- Chapter 9: 372,000,000 of 1,200,000,000 switchings (0x0047_868C) give λ = 20,316 (0x4F5C). -/
theorem test_wear :
    let s := (Tests.act.setReg (Reg.LDG_LSs_NSW 1) 0x0047868C).setReg (Reg.LDG_LSs_CFG 1) 0x10000
    (Tests.withRec s 8193 { Tests.rec9 with limset := 1, nsw := 372000000 }).lambdaOf 1 = 0x4F5C := by decide +kernel

/-- Chapter 11: the result words of group 3 under tag 0x4C: privileged, resumed, over-range, and the neighbour after it. -/
theorem test_result_words :
    let s := (Tests.turn.setReg (Reg.GRPg_SEQ 3) 0x4C).setReg Reg.ADC_STAT 0xF0000
    s.resultWord 3 3 3 0x0A3E true false = 0x0A3E324C ∧ s.resultWord 3 3 2 0x1C40 false true = 0x1C40214C ∧
      s.resultWord 3 3 4 35840 false false = 0x7FFF484C ∧
      (s.updCore 3 (fun x => { x with nbrNext := true })).resultWord 3 3 5 0x2F01 false false = 0x2F01544C := by decide +kernel

/-- Chapter 16: SW1 with preset 0 and its complement is valid, without the complement it is not. -/
theorem test_sw1 : sw1Valid 0x00F0 = true ∧ sw1Valid 0x0000 = false := by decide

/-- Chapter 8: epoch a is newer than b when a - b is 1 to 32,767. -/
theorem test_epochs : epochNewer 0 0xFFFF = true ∧ epochNewer 0x7FFF 0 = true ∧ epochNewer 0x8000 0 = false ∧ epochNewer 5 5 = false := by
  decide

/-- The conditions that stand before the commands of ports and lanes. -/
theorem test_meets_CommandsComplete_ports :
    (let s (f : Port → Port) := Tests.port0 f
     ((s (fun p => { p with los := true })).port 0).present = true ∧ ((s (fun p => { p with los := true })).port 0).los = true ∧
     ((s id).port 0).present = true ∧ ((s id).port 0).los = false ∧ ((s id).port 0).refused = false ∧
     ((s (fun p => { p with attempt := true })).port 0).attempt = true ∧
     ((s (fun p => { p with attempt := true })).port 0).blockLock = false ∧
     (let p := (s (fun p => { p with ts := .adapt, reqSet := 1 })).port 0
      p.ts = .adapt ∧ (p.reqs.any (· != 0) || decide (p.reqSet ≠ 0)) = true) ∧
     ((s (fun p => { p with ts := .failed })).port 0).ts = .failed) ∧
    (let s := Tests.bulk id
     let t := Tests.pair .standby
     s.linkUp 0 = true ∧ (s.linkBlock 0).assocOf 0 = some 0 ∧ (s.linkBlock 0).bulkPort 0 = some 0 ∧ (s.linkBlock 0).ac ≤ 256 ∧
       (t.linkBlock 20).paired = true ∧ (t.linkBlock 20).pathUp false = true ∧ (19 : Fin 22).val < 20 ∧ 20 ≤ (20 : Fin 22).val ∧
       1 ≤ (1 : Fin 4).val) := by decide +kernel

/-- The conditions that stand before the other commands. -/
theorem test_meets_CommandsComplete :
    (Tests.turn.pwr.on = true ∧ (Tests.ready true).running = false ∧ ((Tests.ready true).initComplete true).running = true ∧
      Tests.turn.running = true ∧ (Tests.act.silentPath false).mirrored = false ∧
      ((Tests.pair .active 1 Tests.heard).silentPath false).mirrored = true) ∧
    (let s : State := { Tests.host Tests.act with sys := { Tests.act.sys with clk := 10 ^ 12 } }
     s.sess 1 = some Tests.sess1 ∧ s.idleEnd Tests.sess1 ≤ (s.toSysClk (s.idleEnd Tests.sess1)).sys.clk) ∧
    (let s : State := { Tests.waiting with sys := { Tests.waiting.sys with clk := 40000000 } }
     (s.cmd.waits.find? (fun w => decide (w.tag = some 7))).map (·.since) = some 0 ∧
       0 + 40000000 ≤ (s.toSysClk (0 + 40000000)).sys.clk) ∧
    (let x := { Tests.sess1 with held := [(3, .ping, .s0)], heldClk := some 0 }
     let s : State := { Tests.host Tests.act x with sys := { Tests.act.sys with clk := 8000000 } }
     (s.sess 1).bind Sess.gapEnd = some 8000000 ∧ 8000000 ≤ (s.toSysClk 8000000).sys.clk) ∧
    (let s := Tests.stby.updPort 20 (fun p => { p with ts := .linkUp, present := true })
     (s.linkBlock 20).assocOf 20 = some 20 ∧ (s.linkBlock 20).delivers 20 { Tests.blk 0 with vc := 2 } true = true ∧
       (s.linkBlock 20).delivers 20 (Tests.blk 0) false = false) ∧
    (Tests.act.asleep = false ∧ (Tests.mem (fun m => { m with retv := true })).asleep = true) ∧
    (let s := Tests.ctr0 (fun c => { c with per := 1000 })
     s.ctrEn 0 = true ∧ (s.toCount 0 (s.ctr 0).per).isSome = true ∧ s.isMain 0 = false) ∧
    (let s := Tests.turn.setReg (Reg.TRIPi_CFG 0) 1
     (true && s.flag (Reg.TRIPi_CFG 0) 0 && !s.blanked 0 && !(s.trip 0).latch) = true ∧
       (false && s.flag (Reg.TRIPi_CFG 0) 0 && !s.blanked 0 && !(s.trip 0).latch) = false) ∧
    (Tests.turn.adc.settleEnd.getD 0 none).isSome = true ∧
    (let s := Tests.turn.setReg Reg.SNAP_CFG 1
     (true != s.snap.pinIn && s.flag Reg.SNAP_CFG 0 && (true != s.flag Reg.SNAP_CFG 1)) = true) ∧
    (let s := Tests.sin7 0
     let t : State := { s with saf := { s.saf with sw1 := 1 } }
     (1 : BitVec 16) ≠ s.saf.sw1 ∧ (t.safActs && !t.laneMode) = true ∧ s.saf.arch = .diverse ∧ s.loopOn = false ∧ s.safActs = true) ∧
    (let s := Tests.saf (Tests.inMode Tests.turn .active .bindOff) (fun x => { x with
       ssrT := some (msFs (Tests.turn.regN Reg.SPS_SSR_T)), swA := true, swH := true })
     s.ssrLimit = some 0 ∧ 0 ≤ (s.toSysClk 0).sys.clk ∧ s.loopOn = true) ∧
    (let s := Tests.later (Tests.saf Tests.act (fun x => { x with offAt := some 0 }))
     s.saf.offAt = some 0 ∧ 0 + 40000 ≤ (s.toSysClk (0 + 40000)).sys.clk) ∧
    (let a : Accepted :=
       { q := Tests.q, op := .safProof 5, target := 0, fate := 0, vmode := 0, vtime := 0, serial := [], fw := false }
     let p : Proof := { test := 5, cmd := a, start := 0, outs := [], chB := false, held := 0, await := false }
     let s := Tests.saf Tests.act (fun x => { x with proof := some p })
     let t : State := { s with sys := { s.sys with clk := 240000000000 } }
     t.proofLimit = some 240000000000 ∧ 240000000000 ≤ (t.toSysClk 240000000000).sys.clk) ∧
    (let s := Tests.later (Tests.spare (.cal 1 9))
     s.calEnd = some 9 ∧ 9 ≤ (s.toSysClk 9).sys.clk) ∧
    ((Tests.turn.setReg (Reg.CLK_BANDOVRn 9) 0x80).flag (Reg.CLK_BANDOVRn 9) 7 = true ∧
      (Tests.clk Tests.turn (fun c => { c with apllAt := some 0 })).clk.apllAt.isSome = true ∧
      (let s : State := { Tests.clk Tests.turn (fun c => { c with apllAt := some 0 }) with sys := { Tests.turn.sys with clk := 400000 } }
       s.apllEnd = some 400000 ∧ 400000 ≤ (s.toSysClk 400000).sys.clk) ∧
      (Tests.pwr Tests.turn (fun p => { p with handoverLeft := some (1, 3) })).pwr.handoverLeft = some (1, 3) ∧
      Tests.turn.pwr.stuck = false) ∧
    (let s (f : Cal → Cal) : State := Tests.at_ 4000000000 ((Tests.cal 3 f).setReg Reg.CAL_HOLDOVER 1)
     let a := s (fun c => { c with st := .acquire, since := some 0 })
     let b := s (fun c => { c with st := .locked, last := some 0 })
     let d := s (fun c => { c with st := .holdover, holdSince := some 0 })
     a.lockEnd = some 4000000000 ∧ 4000000000 ≤ (a.toSysClk 4000000000).sys.clk ∧ b.sourceEnd = some 1200000000 ∧
       1200000000 ≤ (b.toSysClk 1200000000).sys.clk ∧ d.holdEndClk = some 400000000 ∧ 400000000 ≤ (d.toSysClk 400000000).sys.clk) ∧
    (let s := Tests.cal 0x23 (fun c => { c with st := .holdover })
     s.flag Reg.CAL_CFG 5 = true ∧ s.cal.st ≠ .invalid ∧ s.cal.st = .holdover) ∧
    (let s : State := { Tests.disc .locked with ang := { (Tests.disc .locked).ang with outCnt := 4, err := 80001 } }
     s.disciplined = true ∧ s.lockBad = true) ∧
    (let s := Tests.act.updConc 0 (fun x => { x with owner := some (1, false) })
     s.loopAt 0 = false ∧ (s.conc 0).owner = some (1, false) ∧ (s.conc 0).owner.isSome = true ∧ 33000 ≤ (33000 : Word).toNat ∧
       (s.pwr.on || s.pwr.booted) = true) := by
  refine ⟨?_, ?_, ?_, ?_, ?_⟩ <;> decide +kernel

/-- Chapter 8: the CRC-8 of polynomial 0x07 over a payload whose only byte is 0x1E is 0x5A (its table's entry 30), at [63:56];
what parses is the TYPE and the fields. Chapter 7: PRBS-31 from all ones gives 28 zeros, three ones and a zero first. -/
theorem test_blocks :
    ctlBlock 0x1E [] = 2 * 2 ^ 64 + 0x5A * 2 ^ 56 + 0x1E ∧
      parseCtl (BitVec.ofNat 64 (ctlBlock 0x1E [(8, 1, 1), (10, 16, 7)])) = some (0x1E, 1 + 7 * 4) ∧
      (prbsWord (2 ^ 31 - 1)).2 % 2 ^ 32 = 0x70000000 ∧ packWords 96 [1, 2] = [dataBlock 0, dataBlock (2 ^ 32), dataBlock 2] := by
  decide +kernel

/-- Chapter 9: an item whose counters an endpoint holds larger keeps them, takes STATE and LIMSET of the RECONCILE. -/
theorem test_reconcile :
    let o := { Tests.item9 with state := 1, limset := 0 }
    let r := { Tests.item9 with nsw := 5, nth := 4, state := 2, limset := 3 }
    (LdgItem.reconcile o r).nsw = 7 ∧ (LdgItem.reconcile o r).nth = 4 ∧ (LdgItem.reconcile o r).state = 2 ∧ (LdgItem.reconcile o r).limset = 3 := by decide +kernel

/-- Chapter 19: two writes of one word in one clock leave port A's value and count; a read with them returns the old value. -/
theorem test_sram_ports :
    let s := Tests.turn.sramWrite 65 3
    let t := s.sramClock (some ⟨65, some 1⟩) (some ⟨65, some 2⟩)
    let u := s.sramClock (some ⟨65, some 1⟩) (some ⟨65, none⟩)
    t.sramRead 65 = 1 ∧ t.regN Reg.MEM_WW_CNT = s.regN Reg.MEM_WW_CNT + 1 ∧ u.sramRead 65 = 1 ∧
      u.sys.out.getLast? = some (.sram false 65 3) := by decide +kernel

end
end

section
/-! PROOFS. The state after reset, and item 1 of a boundary (the statements of chapter 0's family). -/
namespace Sys2Proof.Machine

/-! ### The state after reset -/

theorem State.safe_iff (s : State) : s.safe = true ↔ s.sound = true ∧ s.queueOk = true := Bool.and_eq_true_iff

/-- Nothing is listed in the register file after reset, so that every address holds its Reset value (R14). -/
theorem State.reg_reset (a : Nat) : State.reset.reg a = regReset a := rfl

theorem State.reset_sound : State.reset.sound = true := by
  have rate : rateOk State.reset.ang.rate = true := by decide
  have log : State.reset.sys.ev.ok = true := (Evlog.ok_iff _).mpr ⟨by decide, by decide, rfl, rfl⟩
  exact (soundOf_iff _ _ _ _).mpr ⟨rate, rfl, log, rfl⟩

/-- Settles O3: every field is read off the reset state, and no command waits that could be malformed. -/
theorem resetState : Obligations.ResetState := by
  have safe : State.reset.safe = true := (State.safe_iff _).mpr ⟨State.reset_sound, rfl⟩
  exact ⟨⟨rfl, rfl, rfl, State.reg_reset, rfl, rfl, rfl⟩, safe⟩

/-! ### The increment -/

/-- The rate of a sound state is a code of 40 to 70 Hz (R40). -/
theorem State.sound_rate {s : State} (h : s.sound = true) :
    0x28000000 ≤ s.ang.rate.toNat ∧ s.ang.rate.toNat ≤ 0x46000000 := by
  have hr : rateOk s.ang.rate = true := (State.sound_of_steady h).1
  simp only [rateOk, Bool.and_eq_true, decide_eq_true_eq] at hr
  exact hr

/-- On the system's own clock and with the trim within 2 ppm (R56), one increment is positive and less than a step. -/
theorem State.inc_bounds {s : State} (h : s.sound = true) (hb : s.ang.backup = false)
    (ht : s.ang.trim.natAbs ≤ 2 * s.ang.rate.toNat / 1000000) : 0 < s.inc ∧ s.inc < 2 ^ 54 := by
  obtain ⟨hlo, hhi⟩ := State.sound_rate h
  have hinc : s.inc = incOf s.trimRate := by simp [State.inc, hb]
  have htrim : 1 ≤ s.trimRate ∧ s.trimRate ≤ 2 ^ 32 := by
    rw [State.trimRate, Int.ofNat_eq_natCast]
    omega
  rw [hinc, incOf]
  omega

/-- The clocks to a target beyond θ bring θ to it, and less than one increment past it. -/
theorem State.clocksTo_reaches {s : State} {target : Nat} (hi : 0 < s.inc) (ht : s.ang.acc.toNat < target) :
    target ≤ s.ang.acc.toNat + s.clocksTo target * s.inc ∧
      s.ang.acc.toNat + s.clocksTo target * s.inc < target + s.inc := by
  have hk : s.clocksTo target = (target - s.ang.acc.toNat + s.inc - 1) / s.inc := by
    simp only [State.clocksTo, Nat.not_le.mpr ht, if_false, Nat.max_eq_right hi]
  have hle := Nat.div_mul_le_self (target - s.ang.acc.toNat + s.inc - 1) s.inc
  have hlt := Nat.lt_div_mul_add (a := target - s.ang.acc.toNat + s.inc - 1) hi
  rw [hk]
  omega

/-! ### What the rate of the new step leaves of the angle and of the time -/

/-- θ, ROW, the latched module time of the boundary, the clock, the boundary's clock and module time. -/
def State.timing (s : State) : BitVec 64 × BitVec 64 × Nat × Nat × Nat × Nat :=
  (s.ang.acc, s.ang.row, s.ang.boundTai, s.sys.clk, s.sys.bclk, s.sys.tai)

theorem State.setFlag_timing (s : State) (a b q : Nat) (c : Option Nat) : (s.setFlag a b q c).timing = s.timing := by
  simp only [State.timing, State.setFlag_ang, State.setFlag_sys_clk, State.setFlag_sys_bclk, State.setFlag_sys_tai]

theorem State.when_timing (s : State) (c : Bool) (f : State → State) (h : ∀ u : State, (f u).timing = u.timing) :
    (s.when c f).timing = s.timing := by
  unfold State.when
  split
  · exact h s
  · rfl

theorem State.cmdShow_timing (s : State) : s.cmdShow.timing = s.timing := by
  unfold State.cmdShow
  split <;> rfl

theorem State.rateApply_timing (s : State) (cmd : Nat) : (s.rateApply cmd).timing = s.timing := by
  have hbump (u : State) : (u.bump Reg.ANG_CLAMP_CNT).timing = u.timing := rfl
  have hflag (b : Nat) (u : State) : (u.setFlag Reg.ANG_FLAGS b).timing = u.timing := u.setFlag_timing _ b _ _
  unfold State.rateApply
  dsimp only
  rw [State.when_timing _ _ _ (hflag 1), State.when_timing _ _ _ (hflag 0), State.when_timing _ _ _ hbump]
  rfl

/-- A new rate or trim moves neither the angle nor the time (R38, R44): the accumulator goes on from where it stands. -/
theorem State.rateUpdate_timing (s : State) : s.rateUpdate.timing = s.timing := by
  unfold State.rateUpdate
  split
  case h_2 | h_3 => exact s.rateApply_timing s.rateCmd
  case h_1 | h_4 | h_5 | h_6 => rfl

/-! ### Item 1 of a boundary -/

@[simp] theorem State.pass_row (s : State) (k : Nat) : (s.pass k).ang.row = s.ang.row := rfl

theorem State.pass_acc (s : State) (k : Nat) :
    (s.pass k).ang.acc.toNat = (s.ang.acc.toNat + k * s.inc) % 2 ^ 64 := by
  simp only [State.pass, BitVec.toNat_add, BitVec.toNat_ofNat, Nat.add_mod_mod]

/-- `k` clocks pass, ROW counts a wrap, and the clock and module time reached are latched as the boundary's (R36, R45). -/
def State.latchAfter (s : State) (k : Nat) : State :=
  let p := s.pass k
  { p with
    ang := { p.ang with row := if decide (s.step10 = 1023) then p.ang.row + 1 else p.ang.row, boundTai := p.taiNs }
    sys := { p.sys with bclk := p.sys.clk } }

/-- Item 1 latches the boundary at the first position of the next step; what follows of it leaves angle and time alone. -/
theorem State.angBoundary_timing (s : State) :
    s.angBoundary.timing = (s.latchAfter (s.clocksTo ((s.step10 + 1) * 2 ^ 54))).timing := by
  generalize hk : s.clocksTo ((s.step10 + 1) * 2 ^ 54) = k
  have hlatch : s.angBoundary.timing = (s.latchAfter k).cmdShow.rateUpdate.timing := by
    rw [← hk]
    rfl
  rw [hlatch, State.rateUpdate_timing, State.cmdShow_timing]

/-- The fields of angle and time after item 1, `k` clocks on. -/
theorem State.angBoundary_fields {s : State} {k : Nat} (hk : s.clocksTo ((s.step10 + 1) * 2 ^ 54) = k) :
    s.angBoundary.ang.acc = (s.pass k).ang.acc ∧
    s.angBoundary.ang.row = (if s.step10 = 1023 then s.ang.row + 1 else s.ang.row) ∧
    s.angBoundary.ang.boundTai = (s.pass k).taiNs ∧ s.angBoundary.sys.clk = (s.pass k).sys.clk ∧
    s.angBoundary.sys.bclk = (s.pass k).sys.clk ∧ s.angBoundary.sys.tai = (s.pass k).sys.tai := by
  have h := s.angBoundary_timing
  rw [hk] at h
  simpa only [State.timing, State.latchAfter, State.pass_row, Prod.mk.injEq, decide_eq_true_eq] using h

/-- An accumulator less than `inc`, itself less than a step, past the first position of step `n` + 1 stands, modulo a row, in
that step and less than `inc` into it. -/
theorem acc_enters_next_step {n r inc : Nat} (hlo : (n + 1) * 2 ^ 54 ≤ r) (hhi : r < (n + 1) * 2 ^ 54 + inc)
    (hinc : inc < 2 ^ 54) : r % 2 ^ 64 / 2 ^ 54 = (n + 1) % 1024 ∧ r % 2 ^ 64 % 2 ^ 54 < inc := by
  omega

/-- Settles O10: θ passes the boundary by less than one increment, which is shorter than a step, and the rate of the new
step leaves θ, ROW and the time as they are. -/
theorem boundaryAdvances : Obligations.BoundaryAdvances := by
  intro s hs _ hb ht
  obtain ⟨hpos, hshort⟩ := State.inc_bounds hs hb ht
  have hnext : s.ang.acc.toNat < (s.step10 + 1) * 2 ^ 54 := by
    rw [State.step10]
    omega
  obtain ⟨hlo, hhi⟩ := State.clocksTo_reaches hpos hnext
  generalize hk : s.clocksTo ((s.step10 + 1) * 2 ^ 54) = k at hlo hhi
  obtain ⟨hacc, hrow, hbound, hclk, hbclk, htai⟩ := State.angBoundary_fields hk
  obtain ⟨hstep, hpast⟩ := acc_enters_next_step hlo hhi hshort
  refine ⟨?_, ?_, hrow, hbclk.trans hclk.symm, ?_⟩
  · rw [State.step10, hacc, State.pass_acc, hstep]
  · rw [hacc, State.pass_acc]
    exact hpast
  · rw [hbound, State.taiNs, State.taiNs, htai]

end Sys2Proof.Machine
end

section
/-! PROOFS. The order of a boundary, what a command of a session comes to, and that every command completes. -/
namespace Sys2Proof.Machine

/-! ### The order of a boundary -/

/-- Settles O9: the boundary of a running unit, its parts composed as `boundary` and `boundaryRest` compose them. -/
theorem boundaryOrder : Obligations.BoundaryOrder := by
  intro s on running
  have hexec : exec .stepBoundary s = .next s.boundary := live_on on
  have hboundary : s.boundary = s.endStep.item1.boundaryRest := if_pos running
  simp only [hexec, hboundary, State.boundaryRest, State.items345]

/-! ### A session's command arrives -/

/-- Each row of a host command with its request goes through `hostIn` (R397, R409). -/
theorem exec_of_hostCmd {i : Instr} {q : Req} {op : HostOp} (h : i.hostCmd = some (q, op)) (s : State) :
    exec i s = s.live (s.hostIn q op) := by
  unfold Instr.hostCmd at h
  split at h <;> cases h
  all_goals rfl

theorem State.sess_num {s : State} {n : Nat} {x : Sess} (h : s.sess n = some x) : x.num = n := by
  simpa using List.find?_some h

/-- An update of a session that leaves its number is what that session reads as. -/
theorem State.sess_updSess {s : State} {n : Nat} {x : Sess} {f : Sess → Sess} (h : s.sess n = some x)
    (hf : ∀ y, (f y).num = y.num) : (s.updSess n f).sess n = some (f x) := by
  have hkey : ((fun y : Sess => y.num == n) ∘ fun y => if y.num = n then f y else y) = fun y => y.num == n := by
    funext y
    by_cases hy : y.num = n <;> simp [hy, hf]
  calc (s.updSess n f).sess n
      = (s.sess n).map fun y => if y.num = n then f y else y := by
        simp only [State.sess, State.updSess, State.updCmds, List.find?_map, hkey]
    _ = some (f x) := by rw [h, Option.map_some, if_pos (State.sess_num h)]

theorem State.took_sess {s : State} {q : Req} {x : Sess} (h : s.sess q.session.val = some x) (hheld : x.held = []) :
    (s.took q).sess q.session.val = some (x.took q s.sys.clk) := by
  have hport := State.sess_updSess (f := fun y => { y with port := q.port, lastClk := s.sys.clk }) h fun _ => rfl
  have hlast := State.sess_updSess
    (f := fun y => { y with last := q.seq, held := y.held.filter (fun h => h.1 != q.seq) }) hport fun _ => rfl
  rw [Sess.took, State.took, hlast, hheld]
  rfl

/-- A session that holds no command and is not at its last number has nothing to drain. -/
theorem State.drain_of_held_nil {t : State} {n : Fin 9} {x : Sess} (k : Nat) (h : t.sess n.val = some x)
    (hlast : x.last ≠ 0xFFFFFFFF#32) (hheld : x.held = []) : State.drain k n t = t := by
  cases k with
  | zero => rfl
  | succ k => simp [State.drain, h, hlast, hheld]

/-- A unit that takes the command at once validates it after its session has taken it, and then drains the session. -/
theorem State.hostIn_of_admits {s : State} {q : Req} {op : HostOp} {x : Sess} (h : s.admits q op x) :
    s.hostIn q op = State.drain 17 q.session ((s.took q).hostExec q op) := by
  obtain ⟨-, hboot, hopen, hawake, hsess, hfin, hserved, -, hseq, -⟩ := h
  simp [State.hostIn, State.sortSeq, State.took, hboot, hopen, hawake, hsess, hfin, hserved, hseq, State.sess_num hsess]

/-! ### A reply leaves -/

/-- Acceptance leaves the waiting replies, the sessions and what decides whether a standby has to acknowledge. -/
theorem State.accept_frame (s : State) (q : Req) (op : HostOp) (serial : List Byte) (t : Nat) :
    (s.accept q op serial t).cmd.waits = s.cmd.waits ∧ (s.accept q op serial t).mirrored = s.mirrored ∧
      ∀ n, (s.accept q op serial t).sess n = s.sess n := by
  unfold State.accept
  dsimp only
  split <;> exact ⟨rfl, rfl, fun _ => rfl⟩

/-- A first reply joins those that wait; of the commands nothing else changes, whatever goes to the partner. -/
theorem State.pushWait_cmd (s : State) (w : Wait) :
    (s.pushWait w).cmd = { s.cmd with waits := s.cmd.waits ++ [{ w with ack := s.mirrored, since := s.sys.clk }] } := by
  unfold State.pushWait
  dsimp only
  split <;> rfl

/-- With no other reply waiting and no standby to acknowledge, a complete reply leaves at once (R399). -/
theorem State.flush_pushWait {s : State} {q : Req} {x : Sess} (r : Reply) (since : Nat) (hwaits : s.cmd.waits = [])
    (hmir : s.mirrored = false) (hsess : s.sess q.session.val = some x) :
    (s.pushWait { q := q, reply := r, run := none, read := none, ack := false, tag := none, since := since }).flush =
      s.answers q none r := by
  let w : Wait := { q := q, reply := r, run := none, read := none, ack := false, tag := none, since := s.sys.clk }
  change (s.pushWait w).flush = (s.pushWait w).noWaits.deliver1 r
  have hcmd := s.pushWait_cmd w
  have hw : (s.pushWait w).cmd.waits = [w] := by rw [hcmd, hwaits, hmir]; rfl
  have hx : (s.pushWait w).noWaits.sess q.session.val = some x := by
    rw [State.sess, State.noWaits, hcmd]
    exact hsess
  simp only [State.flush, hw, List.foldl_cons, List.foldl_nil, w, hx, Option.isNone_some, Wait.ready, State.sendWait]
  rfl

/-- A session remembers a reply without any other change but in its cache. -/
theorem State.deliver1_sess {s : State} {r : Reply} {x : Sess} (h : s.sess r.session = some x) :
    (s.deliver1 r).sess r.session = some (x.remember r) := by
  unfold State.deliver1
  dsimp only
  split
  · exact State.sess_updSess (f := fun y => y.remember r) h fun _ => rfl
  · exact State.sess_updSess (s := s.outcome r.session r.seq r.status) (f := fun y => y.remember r) h fun _ => rfl

theorem State.answers_sess {s : State} {q : Req} {r : Reply} {x : Sess} (run : Option HostOp)
    (hr : r.session = q.session.val) (h : s.sess q.session.val = some x) :
    (s.answers q run r).sess q.session.val = some (x.remember r) := by
  have hcmd := s.pushWait_cmd { q := q, reply := r, run := run, read := none, ack := false, tag := none, since := s.sys.clk }
  rw [← hr]
  refine State.deliver1_sess ?_
  rw [State.sess, State.noWaits, hcmd, hr]
  exact h

/-- After an answer at once, a session that held nothing has nothing to drain. -/
theorem State.drain_answers {s : State} {q : Req} {r : Reply} {x : Sess} (hr : r.session = q.session.val)
    (h : s.sess q.session.val = some x) (hlast : x.last ≠ 0xFFFFFFFF#32) (hheld : x.held = []) :
    State.drain 17 q.session (s.answers q none r) = s.answers q none r :=
  State.drain_of_held_nil 17 (State.answers_sess none hr h) hlast hheld

/-! ### A boundary command is accepted -/

/-- A boundary command that reads nothing and passes validation is accepted, journalled and answered (R402, R424). -/
theorem State.hostExec_of_boundary {u : State} {q : Req} {op : HostOp} {x : Sess} (hsess : u.sess q.session.val = some x)
    (hwaits : u.cmd.waits = []) (hmir : u.mirrored = false) (hb : opBoundary op = true) (hreads : opReads op = false)
    (hv : u.verdict x q op = none) :
    u.hostExec q op = ((u.accept q op x.serial u.cmdTarget).journal x q op true).answers q none
      { u.mkReply q (opCode op) 0 [] with status := 1, trow := word (u.cmdTarget / 1024), tstep := u.cmdTarget % 1024 } := by
  obtain ⟨hw, hm, hs⟩ := u.accept_frame q op x.serial u.cmdTarget
  simp only [State.hostExec, hsess, hv, hb, hreads]
  exact State.flush_pushWait _ _ (hw.trans hwaits) (hm.trans hmir) ((hs _).trans hsess)

/-- Settles O51: the command is validated once its session has taken it, its answer leaves at once, and the session holds no
further command that could follow it. -/
theorem hostAccepted : Obligations.HostAccepted := by
  intro s i q op x hi hadm hb hreads u hu hv
  have hin := State.hostIn_of_admits hadm
  obtain ⟨hup, -, -, -, hsess, -, -, hheld, -, hseq, hwaits, hmir⟩ := hadm
  have htook : u.sess q.session.val = some (x.took q s.sys.clk) := hu ▸ State.took_sess hsess hheld
  have hanswer := State.hostExec_of_boundary htook (hu ▸ hwaits) (hu ▸ hmir) hb hreads hv
  rw [exec_of_hostCmd hi, live_on hup.on, hin, ← hu, hanswer]
  obtain ⟨-, -, hs⟩ := u.accept_frame q op x.serial u.cmdTarget
  exact congrArg Host.Outcome.next (State.drain_answers rfl ((hs _).trans htook) hseq rfl)

/-! ### Every command completes -/

/-- The answer of a powered unit, its effect worked out. -/
theorem live_of_eq {s t u : State} (on : s.pwr.on = true) (h : t = u) : s.live t = .next u :=
  (live_on on).trans (congrArg _ h)

/-- A row whose condition holds has its effect. -/
theorem live_pos {s t u : State} {c : Prop} [Decidable c] (on : s.pwr.on = true) (h : c) :
    s.live (if c then t else u) = .next t := live_of_eq on (if_pos h)

/-- A row that asks first for what does not hold has its other effect. -/
theorem live_neg {s t u : State} {c : Prop} [Decidable c] (on : s.pwr.on = true) (h : ¬ c) :
    s.live (if c then t else u) = .next u := live_of_eq on (if_neg h)

/-- A time limit that lies in the present step has its effect there. -/
theorem State.atDue_of_le {s : State} {f : State → State} {k : Nat} (h : k ≤ (s.toSysClk k).sys.clk) :
    s.atDue k f = f (s.toSysClk k) := if_pos h

/-- Settles O60, group by group in the order of the statement: a row without a condition is its effect on a powered unit; a row
with one, named here as its command, takes the branch that the condition selects. -/
theorem commandsComplete : Obligations.CommandsComplete := by
  intro s
  refine ⟨fun on => ⟨?step, ?writes, ?sessions, ?arms, ?pair, ?ports, ?lanes, ?ledger, ?pwm, ?converters, ?filters,
    ?acquisition, ?hostCommands, ?safety, ?supply, ?memory, ?calendar, ?pipeline, ?angle, ?modes, ?rideThrough, ?cover⟩,
    ?farEnd, ?unpowered, ?resets⟩
  case writes | ledger | filters | hostCommands | pipeline | modes | rideThrough | cover =>
    and_intros <;> intros <;> exact live_on on
  case step =>
    refine ⟨?_, ?angleStarts, ?angleAsBefore, ?_⟩
    case angleStarts => exact fun _ hs ht => live_pos on (by simp [hs, ht])
    case angleAsBefore => exact fun _ h => live_neg on (by rcases h with h | h <;> simp [h])
    all_goals (intros; exact live_on on)
  case sessions =>
    refine ⟨?_, ?bulkBlock, ?bulkMirror, ?_, ?pathMirrored, ?pathReleases, ?_, ?_, ?_, ?reorder, ?session, ?_, ?mgmtTimeout, ?_,
      ?hello, ?helloParked, ?finish, ?finishParked, ?_, ?_, ?proofTimeout⟩
    case bulkBlock => exact fun _ _ _ _ ha h => live_of_eq on (by simp only [ha, if_neg h])
    case bulkMirror => exact fun _ _ _ ha h => live_of_eq on (by simp only [ha, h, and_self, if_true])
    case pathMirrored => exact fun _ h => live_pos on h
    case pathReleases => exact fun _ h => live_neg on (ne_true_of_eq_false h)
    case reorder | session | mgmtTimeout => exact fun _ _ hw hd => live_of_eq on (by simp only [hw, State.atDue_of_le hd])
    case hello => exact fun _ _ h => live_neg on (ne_true_of_eq_false h)
    case helloParked => exact fun _ _ h => live_pos on h
    case finish => exact fun _ _ _ h => live_neg on (ne_true_of_eq_false h)
    case finishParked => exact fun _ _ _ h => live_pos on h
    case proofTimeout => exact fun _ ht hd => live_of_eq on (by simp only [ht, State.atDue_of_le hd])
    all_goals (intros; exact live_on on)
  case arms =>
    refine ⟨?_, ?_, ?_, ?responseWord, ?_, ?_, ?_, ?_, ?_, ?_, ?_⟩
    case responseWord => exact fun _ _ _ _ h => live_pos on h
    all_goals (intros; exact live_on on)
  case pair =>
    refine ⟨?_, ?_, ?_, ?_, ?_, ?_, ?_, ?_, ?echoReq, ?_, ?_, ?_, ?_, ?_, ?_, ?_, ?_, ?_⟩
    case echoReq => exact fun _ _ _ hp hu => live_pos on (by simp [hp, hu])
    all_goals (intros; exact live_on on)
  case ports =>
    refine ⟨?_, ?_, ?_, ?losClear, ?_, ?blockLock, ?polarity, ?hiBer, ?hiBerHeld, ?trainingBlock, ?request, ?adapt, ?attempt,
      ?failed, ?_, ?_, ?_⟩
    case losClear => exact fun _ hp hl => live_pos on (by simp [hp, hl])
    case blockLock => exact fun _ _ hp hl => live_pos on (by simp [hp, hl])
    case polarity => exact fun _ ha hb => live_pos on (by simp [ha, hb])
    case hiBer => exact fun _ _ _ hp hh => live_of_eq on ((if_pos hp).trans (if_neg (ne_true_of_eq_false hh)))
    case hiBerHeld => exact fun _ _ _ hp hh => live_of_eq on ((if_pos hp).trans (if_pos hh))
    case trainingBlock => exact fun _ _ hp hr => live_pos on (by simp [hp, hr])
    case request => exact fun _ ha hr => live_pos on (Bool.and_eq_true_iff.mpr ⟨decide_eq_true ha, hr⟩)
    case adapt => exact fun _ ha => live_pos on (by simp [ha])
    case attempt | failed => exact fun _ h => live_pos on h
    all_goals (intros; exact live_on on)
  case lanes =>
    refine ⟨?ctlLane, ?ctlPair, ?_, ?idleUnit, ?_, ?_, ?creditRx, ?creditSend, ?_, ?audit, ?_, ?echoLane, ?echoPair, ?_, ?echoNow,
      ?_⟩
    case ctlLane => exact fun _ h => live_pos on h
    case ctlPair => exact fun _ h => live_neg on (Nat.not_lt.mpr h)
    case idleUnit => exact fun _ _ _ _ _ h => (if_neg (ne_true_of_eq_false h)).trans (live_on on)
    case creditRx => exact fun _ _ _ hvc _ ha => live_of_eq on (by simp only [ha, if_neg (Fin.pos_iff_ne_zero.mp hvc)])
    case creditSend => exact fun _ _ hvc => live_neg on (Fin.pos_iff_ne_zero.mp hvc)
    case audit => exact fun _ _ _ ha hp => live_of_eq on (by simp only [ha, if_pos hp])
    case echoLane => exact fun _ _ _ _ h => live_pos on h
    case echoPair => exact fun _ _ _ _ h => live_neg on (Nat.not_lt.mpr h)
    case echoNow => exact fun _ h => live_pos on h
    all_goals (intros; exact live_on on)
  case pwm =>
    refine ⟨?periodStart, ?_, ?_, ?enable, ?tripLatches, ?tripInput, ?_, ?_, ?_⟩
    case periodStart => exact fun _ hen _ ht => live_of_eq on (by simp only [hen, ht, if_true])
    case enable | tripInput => exact fun _ _ h => live_neg on (ne_true_of_eq_false h)
    case tripLatches => exact fun _ _ h => live_pos on h
    all_goals (intros; exact live_on on)
  case converters =>
    refine ⟨?_, ?_, ?_, ?_, ?_, ?_, ?_, ?_, ?_, ?refSettled, ?_, ?_, ?spareCal, ?_⟩
    case refSettled => exact fun _ _ ht => live_of_eq on (by simp only [ht])
    case spareCal => exact fun _ ht hd => live_of_eq on (by simp only [ht, State.atDue_of_le hd])
    all_goals (intros; exact live_on on)
  case acquisition =>
    refine ⟨?_, ?_, ?_, ?_, ?snapIn, ?_, ?_⟩
    case snapIn => exact fun _ h => live_pos on h
    all_goals (intros; exact live_on on)
  case safety =>
    refine ⟨?_, ?_, ?_, ?_, ?_, ?sw1, ?_, ?discrepancy, ?ssrTimeout, ?reversal, ?loopOpen, ?stuck, ?_⟩
    case sw1 => exact fun _ hne h => live_of_eq on ((if_neg hne).trans (if_pos h))
    case discrepancy | reversal | loopOpen => exact fun h => live_pos on h
    case ssrTimeout => exact fun _ ht hd => live_of_eq on (by simp only [ht, State.atDue_of_le hd])
    case stuck =>
      rintro t u ht rfl hd
      exact live_of_eq on (by simp only [State.stuckAct, ht, State.atDue_of_le hd])
    all_goals (intros; exact live_on on)
  case supply =>
    refine ⟨?_, ?_, ?_, ?qpllRelock, ?_, ?_, ?_, ?_, ?_, ?_, ?apllTimeout, ?_, ?_, ?handover, ?rstStuck, ?_, ?apllRelock⟩
    case qpllRelock => exact fun _ _ h => live_pos on h
    case apllTimeout => exact fun _ ht hd => live_of_eq on (by simp only [ht, State.atDue_of_le hd])
    case handover => exact fun _ _ h => live_of_eq on (by simp only [h])
    case rstStuck => exact fun h => live_neg on (ne_true_of_eq_false h)
    case apllRelock => exact fun h => live_pos on h
    all_goals (intros; exact live_on on)
  case memory =>
    refine ⟨?_, ?_, ?_, ?_, ?bandRej, ?_, ?_, ?_, ?_⟩
    case bandRej => exact fun _ h => live_pos on h
    all_goals (intros; exact live_on on)
  case calendar =>
    refine ⟨?_, ?_, ?_, ?_, ?_, ?locked, ?holdover, ?_, ?ppsOut, ?expire⟩
    case locked | holdover | expire => exact fun _ ht hd => live_of_eq on (by simp only [ht, State.atDue_of_le hd])
    case ppsOut => exact fun hen hst => live_pos on (by simp [hen, hst])
    all_goals (intros; exact live_on on)
  case angle =>
    exact ⟨live_on on, fun h => live_pos on h, fun hd hb => live_pos on (by simp [hd, hb]), live_on on⟩
  case farEnd =>
    refine ⟨?_, ?_, ?pblLost, ?_, ?_, ?_, ?_, ?_, ?restrict, ?_, ?_, ?_, ?audit, ?_, ?_, ?_, ?loopRestored⟩
    case pblLost => exact fun _ h => congrArg _ (if_neg (ne_true_of_eq_false h))
    case restrict => exact fun _ _ _ _ _ _ _ _ _ ho => congrArg Host.Outcome.next (by simp only [ho, if_true])
    case audit => exact fun _ unitB _ => by cases unitB <;> rfl
    case loopRestored => exact fun _ h => congrArg _ (if_pos h)
    all_goals (intros; rfl)
  case unpowered => exact ⟨fun _ _ => rfl, fun _ _ h => congrArg _ (if_pos h), rfl, rfl⟩
  case resets =>
    intro powered
    and_intros <;> intros <;> exact congrArg Host.Outcome.next (if_pos powered)

end Sys2Proof.Machine
end

section
/-! PROOFS. Every command and every step keeps what is steady, and a safe state safe. -/
namespace Sys2Proof.Machine

/-- Every command keeps what is steady, as the lemma about its own meaning says: one arm per command, as `exec` has them. -/
theorem exec_steady {s t : State} : ∀ i : Instr, exec i s = .next t → s.steady.1 = true → t.steady = s.steady
  | .stitchFire n => execStitchFire_steady n s t
  | .registerWrite es => execRegisterWrite_steady es s t
  | .gfeComplete fault => execGfeComplete_steady fault s t
  | .slotRelease lane j => execSlotRelease_steady lane j s t
  | .hwcTrip line n neg => execHwcTrip_steady line n neg s t
  | .hwcRelease line n => execHwcRelease_steady line n s t
  | .pairMarkRx path m arrivalPs => execPairMarkRx_steady path m arrivalPs s t
  | .responseWordRx lane slot step w => execResponseWordRx_steady lane slot step w s t
  | .smRetire n => execSmRetire_steady n s t
  | .sparePromote n => execSparePromote_steady n s t
  | .smCmdRx n w => execSmCmdRx_steady n w s t
  | .smLocalAc0 n x => execSmLocalAc0_steady n x s t
  | .smPblLost n => execSmPblLost_steady n s t
  | .smRestrict n set neg ac => execSmRestrict_steady n set neg ac s t
  | .smOwnProtection n bypass => execSmOwnProtection_steady n bypass s t
  | .sfpInsert port id tech pins => execSfpInsert_steady port id tech pins s t
  | .sfpWithdraw port => execSfpWithdraw_steady port s t
  | .losAssert port => execLosAssert_steady port s t
  | .losClear port => execLosClear_steady port s t
  | .lol ev => execLol_steady ev s t
  | .blockLock ev => execBlockLock_steady ev s t
  | .rxPolarityInvert port => execRxPolarityInvert_steady port s t
  | .hiBer ev held => execHiBer_steady ev held s t
  | .trainingBlockRx port b => execTrainingBlockRx_steady port b s t
  | .requestTimeout port => execRequestTimeout_steady port s t
  | .adaptTimeout port => execAdaptTimeout_steady port s t
  | .attemptTimeout port => execAttemptTimeout_steady port s t
  | .failedExpire port => execFailedExpire_steady port s t
  | .fallbackPresetWindow port pass => execFallbackPresetWindow_steady port pass s t
  | .confirmDone port => execConfirmDone_steady port s t
  | .phyRetrain port => execPhyRetrain_steady port s t
  | .ctlBlockDiscard port => execCtlBlockDiscard_steady port s t
  | .orphanBlock lane => execOrphanBlock_steady lane s t
  | .idleRx conc n disp unitB epoch => execIdleRx_steady conc n disp unitB epoch s t
  | .cycUpRx lane first count step words => execCycUpRx_steady lane first count step words s t
  | .bulkBlockRx lane b crcOk => execBulkBlockRx_steady lane b crcOk s t
  | .bulkBlockSend assoc => execBulkBlockSend_steady assoc s t
  | .ackRx lane seq nak => execAckRx_steady lane seq nak s t
  | .ackSend assoc => execAckSend_steady assoc s t
  | .creditRx lane vc limit => execCreditRx_steady lane vc limit s t
  | .creditSend assoc vc => execCreditSend_steady assoc vc s t
  | .retryTimeout assoc => execRetryTimeout_steady assoc s t
  | .auditRx lane audits => execAuditRx_steady lane audits s t
  | .auditRepeat assoc => execAuditRepeat_steady assoc s t
  | .echoRspRx lane tag turn rttPs => execEchoRspRx_steady lane tag turn rttPs s t
  | .echoTimeout lane => execEchoTimeout_steady lane s t
  | .echoNow lane => execEchoNow_steady lane s t
  | .declareRx lane dDn dUp conc cport alt => execDeclareRx_steady lane dDn dUp conc cport alt s t
  | .witnessRx lane presA presB owner ownValid epoch win step =>
    execWitnessRx_steady lane presA presB owner ownValid epoch win step s t
  | .routeWrite lane => execRouteWrite_steady lane s t
  | .concMarkRx c lane m tPs => execConcMarkRx_steady c lane m tPs s t
  | .concCycDnRx c unitB epoch step first words => execConcCycDnRx_steady c unitB epoch step first words s t
  | .concOosRunRx c unitB epoch step first words => execConcOosRunRx_steady c unitB epoch step first words s t
  | .concRestrictRx c unitB set neg arm first last rseq => execConcRestrictRx_steady c unitB set neg arm first last rseq s t
  | .concWitnessWindow c leftA leftB => execConcWitnessWindow_steady c leftA leftB s t
  | .concEchoReply c lane tag turn => execConcEchoReply_steady c lane tag turn s t
  | .concDeclare c lane dDn dUp cport alt => execConcDeclare_steady c lane dDn dUp cport alt s t
  | .concAuditRx c unitB lane => execConcAuditRx_steady c unitB lane s t
  | .concLoopLost c => execConcLoopLost_steady c s t
  | .sweepVisit lane => execSweepVisit_steady lane s t
  | .reportRx smn first tag items => execReportRx_steady smn first tag items s t
  | .reportTimeout smn first => execReportTimeout_steady smn first s t
  | .identRx smn b => execIdentRx_steady smn b s t
  | .identTimeout smn => execIdentTimeout_steady smn s t
  | .wearRelease smn => execWearRelease_steady smn s t
  | .ldgImageDone ok => execLdgImageDone_steady ok s t
  | .periodStart n => execPeriodStart_steady n s t
  | .cmpMatch n => execCmpMatch_steady n s t
  | .deadTimeExpire n outB => execDeadTimeExpire_steady n outB s t
  | .xcMatch n k => execXcMatch_steady n k s t
  | .pwmEnable n en => execPwmEnable_steady n en s t
  | .tripInput k active => execTripInput_steady k active s t
  | .blankClose k => execBlankClose_steady k s t
  | .tripClr mask => execTripClr_steady mask s t
  | .scanTrigger groups => execScanTrigger_steady groups s t
  | .trigInEdge level => execTrigInEdge_steady level s t
  | .adcSwtrig mask => execAdcSwtrig_steady mask s t
  | .conversionDone core code => execConversionDone_steady core code s t
  | .conversionTimeout core => execConversionTimeout_steady core s t
  | .urgentRequest g pos => execUrgentRequest_steady g pos s t
  | .adcPatchGo g => execAdcPatchGo_steady g s t
  | .clampOverdrive input active => execClampOverdrive_steady input active s t
  | .refSelect g src => execRefSelect_steady g src s t
  | .refSettled g => execRefSettled_steady g s t
  | .refFault g => execRefFault_steady g s t
  | .missingSample n => execMissingSample_steady n s t
  | .filterOutput n => execFilterOutput_steady n s t
  | .fltSyncSoft mask => execFltSyncSoft_steady mask s t
  | .fltSyncHard mask => execFltSyncHard_steady mask s t
  | .recordClose k => execRecordClose_steady k s t
  | .acqTrgArm mask => execAcqTrgArm_steady mask s t
  | .capDataRx smn tag n first data => execCapDataRx_steady smn tag n first data s t
  | .capEndRx smn tag status sent => execCapEndRx_steady smn tag status sent s t
  | .remoteTimeout k => execRemoteTimeout_steady k s t
  | .snapInEdge level => execSnapInEdge_steady level s t
  | .heartbeatRx path h => execHeartbeatRx_steady path h s t
  | .pathSilent path => execPathSilent_steady path s t
  | .sampleRx unitB row step inputs => execSampleRx_steady unitB row step inputs s t
  | .reachRx unitB meterM reach linked => execReachRx_steady unitB meterM reach linked s t
  | .stepRecordRx r digest => execStepRecordRx_steady r digest s t
  | .handoverRx unitB reason row step => execHandoverRx_steady unitB reason row step s t
  | .stateTransferDone x => execStateTransferDone_steady x s t
  | .pairHandover q => execPairHandover_steady q s t
  | .pairProof q => execPairProof_steady q s t
  | .pairIsolate q => execPairIsolate_steady q s t
  | .pairRejoin q => execPairRejoin_steady q s t
  | .safStartTest pass sw1 => execSafStartTest_steady pass sw1 s t
  | .shLost why => execShLost_steady why s t
  | .sinChange k chB level => execSinChange_steady k chB level s t
  | .sinFault k => execSinFault_steady k s t
  | .slfViolation sh => execSlfViolation_steady sh s t
  | .slaViolation sh => execSlaViolation_steady sh s t
  | .sdpViolation sh => execSdpViolation_steady sh s t
  | .sw1Read sw1 => execSw1Read_steady sw1 s t
  | .packetRx port d => execPacketRx_steady port d s t
  | .reorderTimeout session => execReorderTimeout_steady session s t
  | .sessionTimeout session => execSessionTimeout_steady session s t
  | .ping q => execPing_steady q s t
  | .ident q => execIdent_steady q s t
  | .ownClaim q cls => execOwnClaim_steady q cls s t
  | .ownRelease q cls => execOwnRelease_steady q cls s t
  | .evlogRead q first n => execEvlogRead_steady q first n s t
  | .mgmtSend q conc id code body => execMgmtSend_steady q conc id code body s t
  | .mgmtAnswerRx tag code body => execMgmtAnswerRx_steady tag code body s t
  | .mgmtTimeout tag => execMgmtTimeout_steady tag s t
  | .mgmtEventRx smn code body => execMgmtEventRx_steady smn code body s t
  | .reset q => execReset_steady q s t
  | .modeSet q code => execModeSet_steady q code s t
  | .brkReport q conv tie => execBrkReport_steady q conv tie s t
  | .setP q v => execSetP_steady q v s t
  | .setQ q v => execSetQ_steady q v s t
  | .setV q v => execSetV_steady q v s t
  | .setF q v => execSetF_steady q v s t
  | .setMulti q mask p qq v f => execSetMulti_steady q mask p qq v f s t
  | .regAccess q es => execRegAccess_steady q es s t
  | .regReadRange q first n => execRegReadRange_steady q first n s t
  | .ldgRead q addr n => execLdgRead_steady q addr n s t
  | .ldgArchRead q first n => execLdgArchRead_steady q first n s t
  | .ldgRetire q smn => execLdgRetire_steady q smn s t
  | .ldgReplace q smn => execLdgReplace_steady q smn s t
  | .ldgKeySet q key => execLdgKeySet_steady q key s t
  | .acqHead q => execAcqHead_steady q s t
  | .acqRead q num off n => execAcqRead_steady q num off n s t
  | .acqFree q num => execAcqFree_steady q num s t
  | .acqStream q slot first n => execAcqStream_steady q slot first n s t
  | .mtrReadout q => execMtrReadout_steady q s t
  | .mtrProfile q first n => execMtrProfile_steady q first n s t
  | .mtrAuditRead q first n => execMtrAuditRead_steady q first n s t
  | .mtrSeal q => execMtrSeal_steady q s t
  | .mtrFwhash q => execMtrFwhash_steady q s t
  | .spsWrite q off vals => execSpsWrite_steady q off vals s t
  | .spsConfirm q chk => execSpsConfirm_steady q chk s t
  | .safReset q => execSafReset_steady q s t
  | .safSpb q => execSafSpb_steady q s t
  | .safProof q test => execSafProof_steady q test s t
  | .safProofOut q out seen => execSafProofOut_steady q out seen s t
  | .fwBegin q len ver => execFwBegin_steady q len ver s t
  | .fwData q off data => execFwData_steady q off data s t
  | .fwEnd q => execFwEnd_steady q s t
  | .fwActivate q img => execFwActivate_steady q img s t
  | .hello port p => execHello_steady port p s t
  | .finish port session sig => execFinish_steady port session sig s t
  | .close q => execClose_steady q s t
  | .trustSet q anchor => execTrustSet_steady q anchor s t
  | .keyGen q kind => execKeyGen_steady q kind s t
  | .certSet q cert => execCertSet_steady q cert s t
  | .debugUnlock q token => execDebugUnlock_steady q token s t
  | .sramEccError addr corrected user => execSramEccError_steady addr corrected user s t
  | .scrubStep err => execScrubStep_steady err s t
  | .mtSliceReturn fails => execMtSliceReturn_steady fails s t
  | .dramPatrol addr err => execDramPatrol_steady addr err s t
  | .emmcLifeCheck a b eol => execEmmcLifeCheck_steady a b eol s t
  | .bkMeasure ppm => execBkMeasure_steady ppm s t
  | .bandRej n => execBandRej_steady n s t
  | .qpllLoss q => execQpllLoss_steady q s t
  | .qpllRelock q ok => execQpllRelock_steady q ok s t
  | .inputLost b mv => execInputLost_steady b mv s t
  | .powerWarn mvA mvB => execPowerWarn_steady mvA mvB s t
  | .powerWarnClear mvA mvB => execPowerWarnClear_steady mvA mvB s t
  | .lifelineDone ok => execLifelineDone_steady ok s t
  | .railFault rail => execRailFault_steady rail s t
  | .initComplete pass => execInitComplete_steady pass s t
  | .batMeasure mv => execBatMeasure_steady mv s t
  | .ptpMessageRx m => execPtpMessageRx_steady m s t
  | .smBulkRequestRx n r => execSmBulkRequestRx_steady n r s t
  | .concLatRx c lane d tag => execConcLatRx_steady c lane d tag s t
  | .pairEchoReqRx path tag turn => execPairEchoReqRx_steady path tag turn s t
  | .proofTestDecided pass => execProofTestDecided_steady pass s t
  | .concLoopRestored c => execConcLoopRestored_steady c s t
  | .inputRestored b mv => execInputRestored_steady b mv s t
  | .stepBoundary => execStepBoundary_steady s t
  | .controlSampleDelivery => execControlSampleDelivery_steady s t
  | .responseDeadline => execResponseDeadline_steady s t
  | .armComplete => execArmComplete_steady s t
  | .dispatchDeadline => execDispatchDeadline_steady s t
  | .pipeMarginRst => execPipeMarginRst_steady s t
  | .angThetaRead => execAngThetaRead_steady s t
  | .angleLocked => execAngleLocked_steady s t
  | .lockLost => execLockLost_steady s t
  | .angleHold => execAngleHold_steady s t
  | .busQualified => execBusQualified_steady s t
  | .brkDisagree => execBrkDisagree_steady s t
  | .castonComplete => execCastonComplete_steady s t
  | .castonFail => execCastonFail_steady s t
  | .syncOk => execSyncOk_steady s t
  | .syncTimeout => execSyncTimeout_steady s t
  | .bindOffComplete => execBindOffComplete_steady s t
  | .boTimeout => execBoTimeout_steady s t
  | .rideThroughEntry => execRideThroughEntry_steady s t
  | .rideThroughExit => execRideThroughExit_steady s t
  | .excursionEnd => execExcursionEnd_steady s t
  | .holdExpired => execHoldExpired_steady s t
  | .rejoin => execRejoin_steady s t
  | .kzTermEnd => execKzTermEnd_steady s t
  | .prechOk => execPrechOk_steady s t
  | .ldgDecisionApply => execLdgDecisionApply_steady s t
  | .ldgMirrorTimeout => execLdgMirrorTimeout_steady s t
  | .ldgImageStart => execLdgImageStart_steady s t
  | .pwmLoadAll => execPwmLoadAll_steady s t
  | .sparePatch => execSparePatch_steady s t
  | .spareCalDone => execSpareCalDone_steady s t
  | .adcPatchRelease => execAdcPatchRelease_steady s t
  | .acqMfifoPop => execAcqMfifoPop_steady s t
  | .snapCmd => execSnapCmd_steady s t
  | .snapCopyDone => execSnapCopyDone_steady s t
  | .heartbeatSend => execHeartbeatSend_steady s t
  | .witnessDecision => execWitnessDecision_steady s t
  | .reachSend => execReachSend_steady s t
  | .recMiss => execRecMiss_steady s t
  | .measDiv => execMeasDiv_steady s t
  | .ackLate => execAckLate_steady s t
  | .revert => execRevert_steady s t
  | .loneStart => execLoneStart_steady s t
  | .proofResult => execProofResult_steady s t
  | .shQualify => execShQualify_steady s t
  | .chDisc => execChDisc_steady s t
  | .ssrTimeout => execSsrTimeout_steady s t
  | .pblReversal => execPblReversal_steady s t
  | .pblOpen => execPblOpen_steady s t
  | .pblStuck => execPblStuck_steady s t
  | .soutTestPulse => execSoutTestPulse_steady s t
  | .proofTimeout => execProofTimeout_steady s t
  | .remapDone => execRemapDone_steady s t
  | .mtSliceBorrow => execMtSliceBorrow_steady s t
  | .clkGo => execClkGo_steady s t
  | .dividerTransfer => execDividerTransfer_steady s t
  | .spllLoss => execSpllLoss_steady s t
  | .refLost => execRefLost_steady s t
  | .apllLoss => execApllLoss_steady s t
  | .apllRelockTimeout => execApllRelockTimeout_steady s t
  | .dpllLoss => execDpllLoss_steady s t
  | .bpllLoss => execBpllLoss_steady s t
  | .supplyReset => execSupplyReset_steady s t
  | .unitStart => execUnitStart_steady s t
  | .resetInPress => execResetInPress_steady s t
  | .resetInHandoverTimeout => execResetInHandoverTimeout_steady s t
  | .rstStuck => execRstStuck_steady s t
  | .rstStuckClear => execRstStuckClear_steady s t
  | .watchdogReset => execWatchdogReset_steady s t
  | .timeRecord => execTimeRecord_steady s t
  | .calTimeRead => execCalTimeRead_steady s t
  | .ppsInEdge => execPpsInEdge_steady s t
  | .calLocked => execCalLocked_steady s t
  | .calHoldover => execCalHoldover_steady s t
  | .calSet => execCalSet_steady s t
  | .ppsOutPulse => execPpsOutPulse_steady s t
  | .tamperOpen => execTamperOpen_steady s t
  | .tamperClr => execTamperClr_steady s t
  | .proofSilenceEnd => execProofSilenceEnd_steady s t
  | .apllRelock => execApllRelock_steady s t
  | .calHoldoverExpire => execCalHoldoverExpire_steady s t

/-- A step takes the front command from the queue, if one waits, and otherwise keeps what is steady. -/
theorem step_steady {s t : State} (h : step s = .next t) (hs : s.sound = true) :
    t.steady = ({ s with pending := s.pending.tail } : State).steady := by
  unfold step at h
  split at h
  next hp =>
    rw [State.next_steady h (s.clockEdge_steady hs)]
    simp only [hp, List.tail_nil, State.steady, State.sound, State.shape]
  next c q hp =>
    rw [hp]
    exact exec_steady c h hs

/-- The queue stays well-formed as its front leaves. -/
theorem State.queueOk_of_tail {s t : State} (h : t.pending = s.pending.tail) (hs : s.queueOk = true) : t.queueOk = true := by
  rw [State.queueOk, List.all_eq_true] at hs ⊢
  exact fun c hc => hs c (List.mem_of_mem_tail (h ▸ hc))

/-- Settles O4: soundness, the queue and the identity are what `step_steady` keeps, and a queue without its front is
well-formed where the queue was. -/
theorem stepKeepsSafe : Obligations.StepKeepsSafe := by
  intro s t hsafe h
  obtain ⟨hsound, hqueue⟩ := (State.safe_iff s).mp hsafe
  have hsteady := step_steady h hsound
  have ht : t.sound = true := State.sound_of_eq hsteady hsound
  simp only [State.steady, Prod.mk.injEq] at hsteady
  obtain ⟨-, hpending, horder, hserial, hhwrev⟩ := hsteady
  exact ⟨(State.safe_iff t).mpr ⟨ht, State.queueOk_of_tail hpending hqueue⟩, hpending, horder, hserial, hhwrev⟩

end Sys2Proof.Machine
end

section
/-! PROOFS. The angle base (chapter 02): the rate of the next step, module time and angle apart, the discipline, marks and
stitches. -/
namespace Sys2Proof.Machine

/-! ### The rate of the next step -/

/-- What the ROCOF clamp makes of any command lies within `d` of the present rate. -/
theorem rocofClamp_near (rate d cmd : Nat) :
    rocofClamp rate d cmd ≤ rate + d ∧ rate ≤ rocofClamp rate d cmd + d := by
  unfold rocofClamp
  omega

theorem rocofClamp_of_near {rate d cmd : Nat} (hlo : rate ≤ cmd + d) (hhi : cmd ≤ rate + d) : rocofClamp rate d cmd = cmd := by
  unfold rocofClamp
  omega

theorem absClamp_bounds (f : Nat) : rateMin ≤ absClamp f ∧ absClamp f ≤ rateMax := by
  unfold absClamp rateMin rateMax
  omega

theorem absClamp_of_bounds {f : Nat} (hlo : rateMin ≤ f) (hhi : f ≤ rateMax) : absClamp f = f := by
  unfold absClamp
  omega

/-- Around a rate within 40 and 70 Hz, the clamp at 40 and 70 Hz takes nothing further from that rate. -/
theorem absClamp_near {rate d f : Nat} (hmin : rateMin ≤ rate) (hmax : rate ≤ rateMax) (hhi : f ≤ rate + d)
    (hlo : rate ≤ f + d) : absClamp f ≤ rate + d ∧ rate ≤ absClamp f + d := by
  unfold absClamp
  omega

/-- Settles O11: the clamp at 40 and 70 Hz, applied last, gives the bounds and keeps the rate near the present one, where the
ROCOF clamp has brought it; neither clamp moves a command that lies inside both. -/
theorem rateStaysInBounds : Obligations.RateStaysInBounds := by
  intro rocof rate cmd hmin hmax
  generalize hd : dmaxOf rocof rate = d
  have hnext : nextRate rocof rate cmd = absClamp (rocofClamp rate d cmd) := by rw [nextRate, hd]
  rw [hnext]
  obtain ⟨hhi, hlo⟩ := rocofClamp_near rate d cmd
  obtain ⟨hmin', hmax'⟩ := absClamp_bounds (rocofClamp rate d cmd)
  obtain ⟨hhi', hlo'⟩ := absClamp_near hmin hmax hhi hlo
  refine ⟨hmin', hmax', hhi', hlo', fun hcmin hcmax hchi hclo => ?_⟩
  rw [rocofClamp_of_near hclo hchi, absClamp_of_bounds hcmin hcmax]

/-! ### Module time and the angle -/

@[simp] theorem State.calShow_ang (s : State) : s.calShow.ang = s.ang := rfl

@[simp] theorem State.timeStepped_ang (s : State) : s.timeStepped.ang = s.ang := rfl

@[simp] theorem State.cfgWrite_ang (s : State) : s.cfgWrite.ang = s.ang := by
  unfold State.cfgWrite
  extract_lets _ _ toB
  split <;> rfl

theorem State.when_ang (s : State) (c : Bool) {f : State → State} (h : ∀ u : State, (f u).ang = u.ang) :
    (s.when c f).ang = s.ang := by
  unfold State.when
  split
  · exact h s
  · rfl

@[simp] theorem State.utcTake_ang (s : State) (o : Nat) : (s.utcTake o).ang = s.ang :=
  (State.when_ang _ _ State.cfgWrite_ang).trans rfl

/-- The offset waits for the boundary, or the servo slews: a correction of module time leaves θ, ROW and the rate. -/
@[simp] theorem State.calOffset_ang (s : State) (off : Int) : (s.calOffset off).ang = s.ang := by
  unfold State.calOffset
  dsimp only
  rw [State.calShow_ang]
  dsimp only
  split <;> rfl

theorem State.ptpRx_ang (s : State) (m : PtpMsg) : (s.ptpRx m).ang = s.ang := by
  unfold State.ptpRx
  dsimp only
  split
  · rfl
  · rw [State.calOffset_ang]
    cases m.utc with
    | none => rfl
    | some o => exact State.utcTake_ang _ _

theorem State.ppsIn_ang (s : State) : s.ppsIn.ang = s.ang := by
  unfold State.ppsIn
  split
  · rfl
  · exact s.calOffset_ang _

theorem State.calSetAct_ang (s : State) : s.calSetAct.ang = s.ang := by
  unfold State.calSetAct
  split <;> rfl

/-- The boundary's step of module time. -/
theorem State.calBoundary_ang (s : State) : s.calBoundary.ang = s.ang := by
  unfold State.calBoundary
  extract_lets _ _ t
  have ht : t.ang = s.ang := by
    simp only [t]
    split <;> rfl
  split
  · split
    · exact (State.utcTake_ang _ _).trans ht
    · exact ht
  · exact ht

/-- A new rate leaves module time (R44). -/
theorem State.rateUpdate_tai (s : State) : s.rateUpdate.sys.tai = s.sys.tai := by
  have h := s.rateUpdate_timing
  simp only [State.timing, Prod.mk.injEq] at h
  obtain ⟨-, -, -, -, -, htai⟩ := h
  exact htai

theorem State.oncePast_tai (s : State) (lim n : Nat) : (s.oncePast lim n).sys.tai = s.sys.tai := by
  unfold State.oncePast
  dsimp only
  split
  · rw [State.setFlag_sys_tai, State.bump_sys_tai, State.setReg_sys_tai]
  · rfl

theorem State.oncePassed_tai (s : State) : s.oncePassed.sys.tai = s.sys.tai := by
  have hfold (l : List Nat) : ∀ u : State,
      (l.foldl (fun v n => v.oncePast (v.acRow + 1) n) u).sys.tai = u.sys.tai := by
    induction l with
    | nil => exact fun u => rfl
    | cons n l ih => exact fun u => (ih _).trans (u.oncePast_tai _ n)
  exact hfold _ s

/-- The acquisition load takes θ, ROW and the rate from the mark, and no time (R44, R58). -/
theorem State.angLoad_tai (s : State) : s.angLoad.sys.tai = s.sys.tai := by
  unfold State.angLoad
  split
  · split
    · dsimp only
      rw [State.oncePassed_tai, State.setFlagEach_sys_tai]
    · rfl
  · rfl

theorem State.lockLostAct_tai (s : State) : s.lockLostAct.sys.tai = s.sys.tai := by
  unfold State.lockLostAct
  split
  · rw [State.setFlag_sys_tai, State.bump_sys_tai]
  · rfl

theorem State.lockGain_tai (s : State) : s.lockGain.sys.tai = s.sys.tai := by
  unfold State.lockGain
  split <;> rfl

theorem State.holdAct_tai (s : State) : s.holdAct.sys.tai = s.sys.tai := by
  unfold State.holdAct
  split <;> rfl

/-- The correction of a disciplined standby leaves module time. -/
theorem State.angDiscBoundary_tai (s : State) (seen eSeen : Bool) : (s.angDiscBoundary seen eSeen).sys.tai = s.sys.tai := by
  unfold State.angDiscBoundary
  split
  · extract_lets _ u v w
    have hw : w.sys.tai = v.sys.tai := by
      simp only [w]
      split
      · exact v.lockLostAct_tai
      · rfl
    calc w.lockGain.angLoad.pathChoose.sys.tai
        = w.lockGain.angLoad.sys.tai := rfl
      _ = w.sys.tai := by rw [State.angLoad_tai, State.lockGain_tai]
      _ = v.sys.tai := hw
      _ = u.sys.tai := u.holdAct_tai
  · rfl

/-- Settles O55: each correction of module time is read off its lemma about the angle, each change of the angle off its lemma
about module time; item 1 adds the ticks of the clocks that pass. -/
theorem timeAndAngleApart : Obligations.TimeAndAngleApart := by
  refine ⟨fun s hup => ⟨?ptp, ?pps, ?set, s.calBoundary_ang⟩,
    fun s => ⟨s.rateUpdate_tai, s.angDiscBoundary_tai, s.angLoad_tai, ?item1⟩⟩
  case ptp => exact fun m => ⟨_, live_on hup.on, s.ptpRx_ang m⟩
  case pps => exact ⟨_, live_on hup.on, s.ppsIn_ang⟩
  case set => exact ⟨_, live_on hup.on, s.calSetAct_ang⟩
  case item1 =>
    obtain ⟨-, -, -, -, -, htai⟩ := State.angBoundary_fields (s := s) rfl
    exact htai

/-! ### The discipline of a standby's angle -/

theorem State.lockGain_of_count {s : State} (hst : s.ang.st = .track) (hcnt : 1024 ≤ s.ang.lockCnt) :
    s.lockGain = { s with ang := { s.ang with st := .locked, outCnt := 0 } } := if_pos (by simp [hst, hcnt])

theorem State.lockBad_iff (s : State) : s.lockBad = true ↔ 4 ≤ s.ang.outCnt ∨ 80000 < s.ang.err.natAbs := by
  simp [State.lockBad]

theorem State.holdAct_of_noMark {s : State} (hd : s.disciplined = true) (hn : 2 ≤ s.ang.noMark) (hst : s.ang.st ≠ .hold) :
    s.holdAct = { s with ang := { s.ang with st := .hold, lockCnt := 0 } } := if_pos (by simp [hd, hn, hst])

/-! ### A mark of the partner -/

/-- A port that is not in CONFIRM takes a link block without a change of its state (R176). -/
theorem State.linkBlock_of_ne_confirm {s : State} {n : Nat} (h : (s.port n).ts ≠ .confirm) : s.linkBlock n = s := if_neg h

theorem State.sawEpoch_of_not_newer {s : State} {e : BitVec 16} (h : epochNewer e s.pair.epochMax = false) :
    s.sawEpoch e = s := if_neg (ne_true_of_eq_false h)

/-- A mark gives the mode only while it is due (R89). -/
theorem State.markMode_of_not_due {s : State} (m : Mark) (h : s.pair.modeDue = false) : s.markMode m = s :=
  if_neg (by simp [h])

/-- An error within 5 ns asks for no load, and a state that tracks or is locked goes on. -/
theorem State.errJudge_of_near {s : State} (qual : Bool) {e : Int} (hst : s.ang.st = .track ∨ s.ang.st = .locked)
    (he : e.natAbs ≤ 20000) : s.errJudge qual e = s := by
  have hnear : ¬ 4000000 < e.natAbs := by omega
  have hload : s.loadWanted qual e = false := by simp [State.loadWanted, hnear]
  rcases hst with hst | hst <;> simp [State.errJudge, hload, hst]

/-- An error within 5 ns counts towards the lock and ends a run of boundaries beyond it (R57). -/
theorem State.errCount_of_near {s : State} {e : Int} (hst : s.ang.st = .track ∨ s.ang.st = .locked)
    (he : e.natAbs ≤ 20000) :
    s.errCount e = { s with ang := { s.ang with lockCnt := min 1024 (s.ang.lockCnt + 1), outCnt := 0 } } := by
  rcases hst with hst | hst <;> simp [State.errCount, hst, he]

/-- The rate of a mark is taken on either path (R42). -/
def State.rateSeen (s : State) (m : Mark) : State :=
  { s with ang := { s.ang with markRate := some m.rate, markSeen := true, noMark := 0 } }

/-- The error of a mark on the path in use, with its registers (R54, R60). -/
def State.errSeen (s : State) (m : Mark) (a : Nat) : State :=
  let d := s.pathDelay s.ang.path
  let e := s.phaseErrOf m a d
  (({ s.rateSeen m with ang := { (s.rateSeen m).ang with
      err := e, eSeen := true,
      lastMark := some { row := m.row, step := m.step, bclk := s.sys.bclk, err := phaseErr4 a d m.txofs } } } : State).setReg
    Reg.ANG_PHASE_ERR (satWord (divRound e 4))).setReg Reg.ANG_PAIR_LAT (word d)

/-- A mark that a tracking or locked standby takes: the rate on either path, the error on the path in use. -/
theorem State.markRx_cases {s : State} (path : Bool) (m : Mark) (a : Nat) (qual : Bool) (hshadow : s.shadowing = true)
    (hst : s.ang.st = .track ∨ s.ang.st = .locked) (hlo : rateMin ≤ m.rate.toNat) (hhi : m.rate.toNat ≤ rateMax) :
    (path ≠ s.ang.path → s.markRx path m a qual = s.rateSeen m) ∧
    (path = s.ang.path → s.markRx path m a qual =
      ((s.errSeen m a).errJudge qual (s.phaseErrOf m a (s.pathDelay path))).errCount
        (s.phaseErrOf m a (s.pathDelay path))) := by
  have hstop : s.ang.st ≠ .stopped ∧ s.ang.st ≠ .hold := by rcases hst with h | h <;> simp [h]
  have hvalid : ¬ (!s.shadowing || decide (s.ang.st = .stopped) || decide (m.rate.toNat < rateMin) ||
      decide (m.rate.toNat > rateMax)) = true := by
    simp [hshadow, hstop.1, Nat.not_lt.mpr hlo, hhi]
  refine ⟨fun hpath => ?_, fun hpath => ?_⟩
  · rw [State.markRx, if_neg hvalid]
    exact (if_pos hpath).trans (if_neg hstop.2)
  · subst hpath
    rw [State.markRx, if_neg hvalid]
    exact if_neg (not_not_intro rfl)

/-- A mark that is not the first link block of its port, of no newer epoch, and whose mode is not due, is `markRx` alone. -/
theorem exec_pairMarkRx {s : State} {path : Bool} {m : Mark} (a : Nat) (hup : s.up) (hp : s.paired = true)
    (hport : (s.port (20 + b2n path)).ts ≠ .confirm) (hepoch : epochNewer m.epoch s.pair.epochMax = false)
    (hmode : (s.markRx path m a s.pair.qual).pair.modeDue = false) :
    exec (.pairMarkRx path m a) s = .next (s.markRx path m a s.pair.qual) := by
  have hmark : s.pairMark path m a = s.markRx path m a s.pair.qual := by
    rw [State.pairMark, hp, State.sawEpoch_of_not_newer hepoch]
    exact State.markMode_of_not_due m hmode
  calc exec (.pairMarkRx path m a) s
      = .next ((s.linkBlock (20 + b2n path)).pairMark path m a) := live_on hup.on
    _ = .next (s.markRx path m a s.pair.qual) := by rw [State.linkBlock_of_ne_confirm hport, hmark]

/-! ### Stitches -/

/-- θ runs to the position of an entry that has not been passed (R49). -/
theorem State.stitchReach_of_ahead {s : State} {n p : Nat} (hrun : s.running = true) (hp : s.entryAc n = some p)
    (hf : s.ang.fired ≤ s.stepNo * 1024 + p) : s.stitchReach n = s.fireTo p := by
  simp [State.stitchReach, hrun, hp, Nat.not_lt.mpr hf]

/-- After θ has reached ac `p`, no entry up to there fires again in the step. -/
theorem State.fireTo_fired (s : State) (p : Nat) : s.stepNo * 1024 + p < (s.fireTo p).ang.fired :=
  Nat.lt_of_lt_of_le (Nat.lt_succ_self _) (Nat.le_max_right _ _)

theorem State.fireTo_of_one {s : State} {n p : Nat} (h : s.entriesDue p = [(p, n)]) :
    s.fireTo p = { s.stitchFire n p with
      ang := { (s.stitchFire n p).ang with fired := max (s.stitchFire n p).ang.fired (s.stepNo * 1024 + p + 1) } } := by
  simp only [State.fireTo, h, List.foldl_cons, List.foldl_nil]

theorem State.setTrig_trigOut (s : State) (b : Bool) : (s.setTrig b).ang.trigOut = b := by
  unfold State.setTrig
  split
  · assumption
  · rfl

/-- A change of TRIG_OUT is put out. -/
theorem State.setTrig_out {s : State} {b : Bool} (h : s.ang.trigOut ≠ b) :
    (s.setTrig b).sys.out = s.sys.out ++ [.pin "TRIG_OUT" b] := by
  rw [State.setTrig, if_neg h]
  rfl

/-! What the run of the clock to an ac leaves. -/

@[simp] theorem State.toAc_fld (s : State) (p a lo n : Nat) : (s.toAc p).fld a lo n = s.fld a lo n := by
  obtain ⟨acc, clk, tai, h⟩ := s.toAc_form p
  rw [h]
  rfl

@[simp] theorem State.toAc_trigClaim (s : State) (p : Nat) : (s.toAc p).trigClaim = s.trigClaim := by
  obtain ⟨acc, clk, tai, h⟩ := s.toAc_form p
  rw [h]
  rfl

@[simp] theorem State.toAc_trigOut (s : State) (p : Nat) : (s.toAc p).ang.trigOut = s.ang.trigOut := by
  obtain ⟨acc, clk, tai, h⟩ := s.toAc_form p
  rw [h]

@[simp] theorem State.toAc_sys_out (s : State) (p : Nat) : (s.toAc p).sys.out = s.sys.out := by
  obtain ⟨acc, clk, tai, h⟩ := s.toAc_form p
  rw [h]

/-- Only a ONCE entry is marked done as it fires (R48). -/
theorem State.onceDone_of_not_once {s : State} {n : Nat} (h : s.fld (Reg.STn_CTL n) 1 2 ≠ 2) : s.onceDone n = s :=
  if_neg (fun hc => h hc.2)

theorem State.entryAction_of_ge {s : State} {n : Nat} (hn : 9 ≤ n) : s.entryAction n = s.fld (Reg.STn_CTL n) 4 3 := by
  rw [State.entryAction, if_neg (by omega), if_neg (by omega)]

theorem State.stitchAct_dout {s : State} {n : Nat} (p : Nat) (h : s.entryAction n = 5) :
    s.stitchAct n p = s.doutAct (s.fld (Reg.STn_TGT n) 0 2) := by
  simp only [State.stitchAct, h, State.fld]

theorem State.doutAct_rising {s : State} (h : s.trigClaim = none) : s.doutAct 0 = s.setTrig true := by
  rw [State.doutAct, h]
  rfl

/-- A DOUT entry that fires once per row, for the rising edge, drives TRIG_OUT, which nothing else claims (R50). -/
theorem State.stitchFire_dout {s : State} {n : Nat} (p : Nat) (hn : 9 ≤ n) (hact : s.fld (Reg.STn_CTL n) 4 3 = 5)
    (hform : s.fld (Reg.STn_CTL n) 1 2 = 1) (hclaim : s.trigClaim = none) (htgt : s.fld (Reg.STn_TGT n) 0 2 = 0) :
    s.stitchFire n p = (s.toAc p).setTrig true := by
  have honce : (s.toAc p).onceDone n = s.toAc p := State.onceDone_of_not_once (by rw [State.toAc_fld]; omega)
  have haction : (s.toAc p).entryAction n = 5 := by rw [State.entryAction_of_ge hn, State.toAc_fld, hact]
  rw [State.stitchFire, honce, State.stitchAct_dout p haction, State.toAc_fld, htgt,
    State.doutAct_rising (by rw [State.toAc_trigClaim, hclaim])]

/-- Settles O14: each command by the lemma about its act, its guard discharged by the hypotheses of its clause; the last clause
reads TRIG_OUT and the output off the act of a DOUT entry, which is the only one due. -/
theorem angleCommands : Obligations.AngleCommands := by
  refine ⟨⟨?theta, ?locked, ?lost, ?hold, ?markUsed, ?markOther⟩, ?stitch⟩
  case theta => exact fun s hup => live_on hup.on
  case locked =>
    exact fun s hup hd hst hcnt => (live_pos hup.on hd).trans (congrArg _ (State.lockGain_of_count hst hcnt))
  case lost =>
    intro s hup hd hst hbad
    have hact := live_pos (t := s.lockLostAct) (u := s) hup.on
      (Bool.and_eq_true_iff.mpr ⟨hd, s.lockBad_iff.mpr hbad⟩)
    exact hact.trans (congrArg _ (if_pos hst))
  case hold => exact fun s hup hd hn hst => live_of_eq hup.on (State.holdAct_of_noMark hd hn hst)
  case markUsed =>
    intro s path m a hup hpair hshadow hport hmode hst hpath hlo hhi hepoch d e he
    have hmark := (State.markRx_cases path m a s.pair.qual hshadow hst hlo hhi).2 hpath
    rw [State.errJudge_of_near (s := s.errSeen m a) _ hst he, State.errCount_of_near (s := s.errSeen m a) hst he] at hmark
    rw [exec_pairMarkRx a hup hpair hport hepoch (by rw [hmark]; exact hmode), hmark]
    subst hpath
    rfl
  case markOther =>
    intro s path m a hup hpair hshadow hport hmode hst hpath hlo hhi hepoch
    have hmark := (State.markRx_cases path m a s.pair.qual hshadow hst hlo hhi).1 hpath
    rw [exec_pairMarkRx a hup hpair hport hepoch (by rw [hmark]; exact hmode), hmark]
    rfl
  case stitch =>
    intro s n p hup hrun hp hf
    have hexec : exec (.stitchFire n) s = .next (s.fireTo p) :=
      live_of_eq hup.on (State.stitchReach_of_ahead hrun hp hf)
    refine ⟨⟨_, hexec, rfl, s.fireTo_fired p⟩, fun hone => hexec.trans (congrArg _ (State.fireTo_of_one hone)), ?_⟩
    intro hone hn hact hform hclaim htgt
    refine ⟨_, hexec, ?_⟩
    rw [State.fireTo_of_one hone, State.stitchFire_dout p hn hact hform hclaim htgt]
    refine ⟨State.setTrig_trigOut _ true, fun hlow => ?_⟩
    have hpin : ((s.toAc p).setTrig true).sys.out = (s.toAc p).sys.out ++ [.pin "TRIG_OUT" true] :=
      State.setTrig_out (by simp [hlow])
    rwa [State.toAc_sys_out] at hpin

end Sys2Proof.Machine
end

section
/-! PROOFS. The choice of a transition (chapter 04): the table of R95 and the ranks of R96. -/
namespace Sys2Proof.Machine

/-! ### The stable sort -/

section
variable {α : Type} {le : α → α → Bool}

theorem insSorted_perm (x : α) (l : List α) : (insSorted le x l).Perm (x :: l) := by
  induction l with
  | nil => exact .refl _
  | cons y t ih =>
    rw [insSorted]
    split
    · exact (ih.cons y).trans (.swap x y t)
    · exact .refl _

theorem sortBy_perm (l : List α) : (sortBy le l).Perm l := by
  have hfold (l : List α) : ∀ acc, (l.foldl (fun acc x => insSorted le x acc) acc).Perm (l ++ acc) := by
    induction l with
    | nil => exact fun acc => .refl _
    | cons x t ih => exact fun acc => (ih _).trans (((insSorted_perm x acc).append_left t).trans List.perm_middle)
  exact (hfold l []).trans (.of_eq l.append_nil)

/-- An insertion keeps a list ascending in a key that the order follows. -/
theorem insSorted_ascending {key : α → Nat} (hle : ∀ a b, le a b → key a ≤ key b) (hnot : ∀ a b, ¬ le a b → key b ≤ key a)
    (x : α) {l : List α} (h : l.Pairwise (key · ≤ key ·)) : (insSorted le x l).Pairwise (key · ≤ key ·) := by
  induction l with
  | nil => exact List.pairwise_singleton _ x
  | cons y t ih =>
    obtain ⟨hy, ht⟩ := List.pairwise_cons.mp h
    rw [insSorted]
    split
    case isTrue hyx =>
      refine List.pairwise_cons.mpr ⟨fun z hz => ?_, ih ht⟩
      rcases List.mem_cons.mp ((insSorted_perm x t).mem_iff.mp hz) with rfl | hzt
      · exact hle y z hyx
      · exact hy z hzt
    case isFalse hyx =>
      have hxy : key x ≤ key y := hnot y x hyx
      refine List.pairwise_cons.mpr ⟨fun z hz => ?_, h⟩
      rcases List.mem_cons.mp hz with rfl | hzt
      · exact hxy
      · exact hxy.trans (hy z hzt)

theorem sortBy_ascending {key : α → Nat} (hle : ∀ a b, le a b → key a ≤ key b) (hnot : ∀ a b, ¬ le a b → key b ≤ key a)
    (l : List α) : (sortBy le l).Pairwise (key · ≤ key ·) := by
  have hfold (l : List α) : ∀ acc : List α, acc.Pairwise (key · ≤ key ·) →
      (l.foldl (fun acc x => insSorted le x acc) acc).Pairwise (key · ≤ key ·) := by
    induction l with
    | nil => exact fun acc h => h
    | cons x t ih => exact fun acc h => ih _ (insSorted_ascending hle hnot x h)
  exact hfold l [] .nil

/-- The first of a sorted list has the least key. -/
theorem sortBy_head_key_le {key : α → Nat} (hle : ∀ a b, le a b → key a ≤ key b) (hnot : ∀ a b, ¬ le a b → key b ≤ key a)
    {l : List α} {x y : α} (h : (sortBy le l).head? = some x) (hy : y ∈ l) : key x ≤ key y := by
  obtain ⟨t, ht⟩ := List.head?_eq_some_iff.mp h
  have hsorted := ht ▸ sortBy_ascending hle hnot l
  rcases List.mem_cons.mp (ht ▸ (sortBy_perm l).mem_iff.mpr hy) with rfl | hyt
  · exact le_rfl
  · exact (List.pairwise_cons.mp hsorted).1 y hyt

end

/-! ### The choice by rank (R96) -/

/-- Core's order of lists is Mathlib's: the model's own text can mean either, by what it is compiled with. -/
theorem list_le_core_iff (a b : List Nat) : @LE.le (List Nat) List.instLE a b ↔ a ≤ b := not_lt

theorem head_le_of_list_le {a c : Nat} {l m : List Nat} (h : a :: l ≤ c :: m) : a ≤ c :=
  not_lt.mp fun hlt => not_lt.mpr h (List.Lex.rel hlt)

theorem bestRow_mem {l : List (Nat × Nat × Mode)} {x : Nat × Nat × Mode} (h : bestRow l = some x) : x ∈ l :=
  (sortBy_perm l).mem_iff.mp (List.mem_of_mem_head? h)

/-- The rank comes first in the order of R96, before the row. -/
theorem bestRow_rank_le {l : List (Nat × Nat × Mode)} {x y : Nat × Nat × Mode} (h : bestRow l = some x) (hy : y ∈ l) :
    x.2.1 ≤ y.2.1 := by
  refine sortBy_head_key_le (key := fun a => a.2.1) (fun a b hab => ?_) (fun a b hab => ?_) h hy
  · have hle : [a.2.1, a.1] ≤ [b.2.1, b.1] := by simpa only [decide_eq_true_eq, list_le_core_iff] using hab
    exact head_le_of_list_le hle
  · have hnot : ¬ [a.2.1, a.1] ≤ [b.2.1, b.1] := by simpa only [decide_eq_true_eq, list_le_core_iff] using hab
    exact head_le_of_list_le (le_of_not_ge hnot)

theorem exists_bestRow {l : List (Nat × Nat × Mode)} {y : Nat × Nat × Mode} (hy : y ∈ l) : ∃ x, bestRow l = some x := by
  unfold bestRow
  refine ⟨_, List.head?_eq_some_head fun hnil => ?_⟩
  exact List.not_mem_nil (hnil ▸ (sortBy_perm l).mem_iff.mpr hy)

/-! ### The table of R95 -/

/-- A transition (row, rank, destination) from the present mode that the table of R95 lists. -/
def State.InTable (s : State) (x : Nat × Nat × Mode) : Prop :=
  ∃ y ∈ modeTable (s.mo.origin.getD .island), y.1 = x.1 ∧ x.2.1 ∈ y.2.1 ∧ s.mode ∈ y.2.2.1 ∧ x.2.2 ∈ y.2.2.2

/-- A row listed where its condition holds. -/
theorem forall_mem_guard {α : Type} {p : Prop} [Decidable p] {a : α} {P : α → Prop} :
    (∀ x ∈ (if p then [a] else []), P x) ↔ (p → P a) := by
  by_cases hp : p <;> simp [hp]

theorem State.inTable_spb {s : State} (h : (s.saf.spb && decide (s.mode ≠ .init) && decide (s.mode ≠ .safeStop)) = true) :
    s.InTable (25, 1, .safeStop) := by
  simp only [Bool.and_eq_true, decide_eq_true_eq] at h
  obtain ⟨⟨-, hinit⟩, hstop⟩ := h
  cases hm : s.mode <;> simp_all [State.InTable, modeTable]

theorem State.inTable_ssr {s : State} (h : (s.saf.ssrPend && s.mode.machine && decide (s.mode ≠ .bindOff)) = true) :
    s.InTable (22, 2, .bindOff) := by
  simp only [Bool.and_eq_true, decide_eq_true_eq] at h
  obtain ⟨⟨-, hmachine⟩, hbind⟩ := h
  cases hm : s.mode <;> simp_all [State.InTable, modeTable, Mode.machine]

/-- Row 20 leads to SYNC or READY (R95). -/
theorem State.inTable_reopen {s : State} (conv0 : Bool) {sync : Prop} [Decidable sync]
    (hm : s.mode = .connected ∨ s.mode = .island ∨ s.mode = .rideThrough) :
    ∀ x ∈ if conv0 = true then [] else [(20, 5, if sync then Mode.sync else Mode.ready)], s.InTable x := by
  have hd : (if sync then Mode.sync else Mode.ready) ∈ [Mode.sync, .ready] := by split <;> simp
  cases conv0 with
  | false =>
    refine List.forall_mem_singleton.mpr
      ⟨(20, [5], [.connected, .island, .rideThrough], [.sync, .ready]),
        by simp [modeTable], rfl, by simp, by simpa using hm, hd⟩
  | true => exact List.forall_mem_nil _

theorem State.byTie_cases (s : State) : s.byTie = .connected ∨ s.byTie = .island := by
  unfold State.byTie
  split <;> simp

/-- Every automatic transition is one of the table, mode by mode. -/
theorem State.autoRows_inTable (s : State) (conv0 tie0 : Bool) : ∀ x ∈ s.autoRows conv0 tie0, s.InTable x := by
  unfold State.autoRows
  simp only [List.forall_mem_append, forall_mem_guard]
  refine ⟨⟨State.inTable_spb, State.inTable_ssr⟩, ?_⟩
  split
  case h_8 => exact List.forall_mem_nil _
  all_goals simp only [List.forall_mem_append, forall_mem_guard]
  case h_1 hm | h_2 hm => rcases s.byTie_cases with h | h <;> simp [State.InTable, modeTable, hm, h]
  case h_3 hm =>
    refine ⟨?_, s.inTable_reopen conv0 (.inl hm)⟩
    simp [State.InTable, modeTable, hm]
  case h_4 hm =>
    refine ⟨?_, s.inTable_reopen conv0 (.inr (.inl hm))⟩
    simp [State.InTable, modeTable, hm]
  case h_5 hm =>
    refine ⟨?_, s.inTable_reopen conv0 (.inr (.inr hm))⟩
    simp [State.InTable, modeTable, hm]
  case h_6 hm =>
    refine ⟨?_, fun _ => ?_⟩
    · split
      · split <;> simp [State.InTable, modeTable, hm]
      · exact List.forall_mem_nil _
    · split <;> simp [State.InTable, modeTable, hm]
  case h_7 hm =>
    intro _
    split <;> simp [State.InTable, modeTable, hm]

/-- Every commanded transition is one of the table at rank 7. -/
theorem State.cmdRow_inTable {s : State} {dest : Mode} {row : Nat} {cs : List (Bool × Bool)}
    (h : s.cmdRow dest = some (row, cs)) : s.InTable (row, 7, dest) := by
  unfold State.cmdRow at h
  dsimp only at h
  split at h
  case h_13 => cases h
  all_goals
    next hm =>
      cases h
      simp [State.InTable, modeTable, hm]

theorem State.cmdCandidate_inTable {s : State} {want dest : Mode} {row : Nat}
    (h : s.cmdCandidate want = some (row, dest)) : s.InTable (row, 7, dest) := by
  unfold State.cmdCandidate at h
  split at h
  case h_1 row' cs hrow =>
    obtain ⟨-, hx⟩ := Option.ite_none_right_eq_some.mp h
    cases hx
    exact State.cmdRow_inTable hrow
  case h_2 => cases h

/-! ### The transition of a boundary -/

theorem State.chooseRow_of_shadowing {s : State} (conv0 tie0 : Bool) (cmd : Option (Nat × Mode)) (h : s.shadowing = true) :
    s.chooseRow conv0 tie0 cmd = none := if_pos h

/-- A unit with its own mode logic chooses among the automatic transitions and the one commanded, at rank 7 (R96). -/
theorem State.chooseRow_of_own {s : State} (conv0 tie0 : Bool) (cmd : Option (Nat × Mode)) (h : s.shadowing = false) :
    s.chooseRow conv0 tie0 cmd = bestRow (s.autoRows conv0 tie0 ++ (cmd.map fun c => (c.1, 7, c.2)).toList) := by
  unfold State.chooseRow
  rw [if_neg (ne_true_of_eq_false h)]
  cases cmd <;> rfl

/-- What is chosen is an automatic transition or the one commanded. -/
theorem State.chooseRow_mem {s : State} {conv0 tie0 : Bool} {cmd : Option (Nat × Mode)} {x : Nat × Nat × Mode}
    (h : s.chooseRow conv0 tie0 cmd = some x) :
    x ∈ s.autoRows conv0 tie0 ∨ ∃ c, cmd = some c ∧ (c.1, 7, c.2) = x := by
  cases hsh : s.shadowing with
  | true => simp [State.chooseRow_of_shadowing conv0 tie0 cmd hsh] at h
  | false =>
    rw [State.chooseRow_of_own conv0 tie0 cmd hsh] at h
    simpa using bestRow_mem h

/-- Where an automatic transition can be made, the one chosen has its rank or one before it. -/
theorem State.exists_chooseRow_rank_le {s : State} {conv0 tie0 : Bool} (cmd : Option (Nat × Mode)) {y : Nat × Nat × Mode}
    (hsh : s.shadowing = false) (hy : y ∈ s.autoRows conv0 tie0) :
    ∃ x, s.chooseRow conv0 tie0 cmd = some x ∧ x.2.1 ≤ y.2.1 := by
  have hmem := List.mem_append_left (cmd.map fun c => (c.1, 7, c.2)).toList hy
  obtain ⟨x, hx⟩ := exists_bestRow hmem
  exact ⟨x, (State.chooseRow_of_own conv0 tie0 cmd hsh).trans hx, bestRow_rank_le hx hmem⟩

/-- Settles O15: what is chosen is an automatic transition or the commanded one, and either list keeps to the table. -/
theorem transitionsOfTheTable : Obligations.TransitionsOfTheTable := by
  intro s conv0 tie0 want row rank dest h
  rcases State.chooseRow_mem h with hauto | ⟨c, hcmd, hc⟩
  · exact s.autoRows_inTable conv0 tie0 _ hauto
  · cases hc
    obtain ⟨m, -, hm⟩ := Option.bind_eq_some_iff.mp hcmd
    exact State.cmdCandidate_inTable hm

theorem State.InTable.rank_pos {s : State} {x : Nat × Nat × Mode} (h : s.InTable x) : 0 < x.2.1 := by
  obtain ⟨y, hy, -, hrank, -, -⟩ := h
  have hall : ∀ y ∈ modeTable (s.mo.origin.getD .island), ∀ r ∈ y.2.1, 0 < r := by simp [modeTable]
  exact hall y hy _ hrank

/-- Rank 1 is that of the rows to SAFE_STOP alone. -/
theorem State.InTable.safeStop_of_rank_one {s : State} {x : Nat × Nat × Mode} (h : s.InTable x) (hx : x.2.1 = 1) :
    x.2.2 = .safeStop := by
  obtain ⟨y, hy, -, hrank, -, hdest⟩ := h
  have hall : ∀ y ∈ modeTable (s.mo.origin.getD .island), 1 ∈ y.2.1 → ∀ d ∈ y.2.2.2, d = .safeStop := by
    simp [modeTable]
  exact hall y hy (hx ▸ hrank) _ hdest

theorem State.mem_autoRows_spb {s : State} (conv0 tie0 : Bool) (hspb : s.saf.spb = true) (hinit : s.mode ≠ .init)
    (hstop : s.mode ≠ .safeStop) : (25, 1, Mode.safeStop) ∈ s.autoRows conv0 tie0 := by
  refine List.mem_append_left _ (List.mem_append_left _ ?_)
  rw [if_pos (by simp [hspb, hinit, hstop])]
  exact List.mem_singleton_self _

/-- Settles O16: row 25 stands among the automatic transitions, so what is chosen has rank 1, which a command has not, and every
row of the table with rank 1 leads to SAFE_STOP. -/
theorem safeStopWins : Obligations.SafeStopWins := by
  refine fun s conv0 tie0 cmd => ⟨State.chooseRow_of_shadowing conv0 tie0 cmd, fun hsh hspb hinit hstop _ => ?_⟩
  obtain ⟨⟨row, rank, dest⟩, hx, hrank⟩ :=
    State.exists_chooseRow_rank_le cmd hsh (State.mem_autoRows_spb conv0 tie0 hspb hinit hstop)
  have hle : rank ≤ 1 := hrank
  rcases State.chooseRow_mem hx with hauto | ⟨_, -, h7⟩
  · have htable := s.autoRows_inTable conv0 tie0 _ hauto
    have hone : rank = 1 := le_antisymm hle htable.rank_pos
    obtain rfl : dest = .safeStop := htable.safeStop_of_rank_one hone
    exact ⟨row, hone ▸ hx⟩
  · cases h7
    omega

end Sys2Proof.Machine
end

section
/-! PROOFS. The commands of the mode logic and the entry to a mode (chapter 04). -/
namespace Sys2Proof.Machine

/-! ### Entering a mode -/

theorem State.rtTrans_ang (s : State) (frm dest : Mode) : (s.rtTrans frm dest).ang = s.ang := by
  unfold State.rtTrans
  dsimp only
  split
  · rfl
  · split
    · rfl
    · split
      · rfl
      · rw [State.setReg_ang]
        dsimp only
        split <;> rfl

/-- RIDE_THROUGH and COAST keep the mode they were entered from (R98). -/
theorem originOf_fault {o : Option Mode} {frm dest : Mode} (hdest : dest = .rideThrough ∨ dest = .coast)
    (hfrm : frm = .connected ∨ frm = .island) : originOf o frm dest = some frm := by
  rw [originOf, if_pos hdest]
  rcases hfrm with rfl | rfl <;> rfl

theorem originOf_other {o : Option Mode} {frm dest : Mode} (hrt : dest ≠ .rideThrough) (hcoast : dest ≠ .coast) :
    originOf o frm dest = none := if_neg (by simp [hrt, hcoast])

/-- GFE_KV starts at 0 in CAST_ON (R99); what ride-through and GFE_WSY take stands in other registers. -/
theorem State.enterTargets_castOn_kv {s : State} (frm : Mode) (hs : s.sound = true) :
    (s.enterTargets frm .castOn).reg Reg.GFE_KV = 0 := by
  have hsound : (s.rtTrans frm .castOn).sound = true := State.sound_of_eq (State.rtTrans_steady s frm .castOn hs) hs
  calc (s.enterTargets frm .castOn).reg Reg.GFE_KV
      = (((s.rtTrans frm .castOn).setReg Reg.GFE_KV 0).setReg Reg.GFE_WSY 0).reg Reg.GFE_KV := rfl
    _ = ((s.rtTrans frm .castOn).setReg Reg.GFE_KV 0).reg Reg.GFE_KV := State.reg_setReg_ne _ _ _ _ (by decide)
    _ = 0 := State.reg_setReg_self _ _ _ hsound

theorem State.enterTargets_castOn_row (s : State) (frm : Mode) :
    (s.enterTargets frm .castOn).ang.castonRow = s.ang.row :=
  congrArg Ang.row (s.rtTrans_ang frm .castOn)

/-! ### Causes and their flags -/

/-- A flag is set alike before and after a change of the causes. -/
theorem State.setFlag_cause (s : State) (f : Causes → Causes) (a b : Nat) : (s.setFlag a b).cause f = (s.cause f).setFlag a b := by
  unfold State.setFlag
  split
  · exact (if_pos ‹_›).symm
  · exact (if_neg ‹_›).symm

/-! ### TRIG_OUT in SYNC -/

/-- SYNC_OUT holds TRIG_OUT high while the closing conditions hold in SYNC (R104). -/
theorem State.trigClaim_of_syncOk {s : State} (hcfg : s.flag Reg.MODE_CFG 0 = true) (hm : s.mode = .sync)
    (hok : s.mo.syncOk = true) : s.trigClaim = some true := by
  rw [State.trigClaim, if_pos hcfg, hm, hok]
  rfl

theorem State.trigUpdate_of_claim {s : State} {b : Bool} (h : s.trigClaim = some b) : s.trigUpdate = s.setTrig b := by
  rw [State.trigUpdate, h]

/-- Settles O17: each command takes the branch that its condition selects; SYNC_OK then brings TRIG_OUT to the level claimed. -/
theorem modeCommands : Obligations.ModeCommands := by
  refine ⟨⟨?busQualified, ?brkDisagree, ?castonComplete, ?castonFail, ?syncOk, ?syncTimeout, ?bindOffComplete, ?boTimeout⟩,
    fun s frm dest ssr => ⟨rfl, rfl, originOf_fault, originOf_other,
      fun hs => ⟨State.enterTargets_castOn_kv frm hs, s.enterTargets_castOn_row frm⟩, rfl⟩⟩
  case busQualified => exact fun s hup => live_on hup.on
  case brkDisagree => exact fun s hup hcnt hconv hm => live_pos hup.on (by rcases hm with hm | hm <;> simp [hcnt, hconv, hm])
  case castonComplete => exact fun s hup hm hkv => live_pos hup.on (by simp [hm, hkv])
  case castonFail =>
    exact fun s hup hm hkv ht => (live_pos hup.on (by simp [hm, hkv, ht])).trans (congrArg _ (State.setFlag_cause s _ _ _))
  case syncTimeout => exact fun s hup hm ht => live_pos hup.on (by simp [hm, ht])
  case bindOffComplete => exact fun s hup hm hcnt => live_pos hup.on (by simp [hm, hcnt])
  case boTimeout =>
    exact fun s hup hm ht => (live_pos hup.on (by simp [hm, ht])).trans (congrArg _ (State.setFlag_cause s _ _ _))
  case syncOk =>
    intro s hup hm ht hcfg hlow
    have hok : s.syncOkAct = ({ s with mo := { s.mo with syncOk := true } } : State).trigUpdate := by
      simp [State.syncOkAct, hm, ht]
    have hclaim := State.trigClaim_of_syncOk (s := { s with mo := { s.mo with syncOk := true } }) hcfg hm rfl
    refine live_of_eq hup.on ?_
    rw [hok, State.trigUpdate_of_claim hclaim]
    exact if_neg (by simp [hlow])

end Sys2Proof.Machine
end

section
/-! PROOFS. The end of INIT (chapters 04 and 19): it begins step 0. -/
namespace Sys2Proof.Machine

/-- A powered unit in INIT that has started, with the angle base at rest as at every end of INIT (R37, R458). -/
def State.started : State := { State.reset with pwr := { State.reset.pwr with booted := true } }

theorem State.started_up : State.started.up := ⟨rfl, State.reset_sound⟩

/-- The end of INIT begins step 0 (R37, log entry 13): once its items 3 to 5 are done, ac 0 lies behind (R26, R49). -/
theorem State.started_initComplete : ∃ t, exec (.initComplete false) State.started = .next t ∧ t.ang.fired = 1 :=
  ⟨_, live_pos State.started_up.on (by decide +kernel), by decide +kernel⟩

/-- The transition out of INIT, the role and the relay alone leave every stitch of step 0 still to fire. -/
theorem State.started_safeStop :
    ((State.started.angStart.minverRaise.unmappedCheck.enterMode 3 1 .safeStop).startRole).relayUpdate.ang.fired = 0 := by
  decide +kernel

/-- Refutes O47: its clauses about the end of INIT give the state without the begin of step 0. A unit leaves INIT with the angle
base at rest, so that INIT_COMPLETE also starts it and performs step 0's targets and items 3 to 5. -/
theorem not_powerAndReset : ¬ Obligations.PowerAndReset := by
  rintro ⟨-, -, -, -, -, -, -, -, -, hinit⟩
  obtain ⟨hclaim, -⟩ := hinit State.started State.started_up rfl rfl rfl _ rfl
  obtain ⟨t, hexec, hfired⟩ := State.started_initComplete
  have ht : t = _ := Host.Outcome.next.inj (hexec.symm.trans hclaim)
  exact absurd (hfired.symm.trans ((congrArg (·.ang.fired) ht).trans State.started_safeStop)) (by decide)

end Sys2Proof.Machine
end

section
/-! PROOFS. The commands of ride-through, coast and holdover (chapter 05). -/
namespace Sys2Proof.Machine

/-! ### The exit condition and the terms of the impedance gain -/

/-- In RIDE_THROUGH the set of the mode it was entered from is in force (R120), and its exit time is the limit (R121). -/
theorem State.rtExitHolds_of_rideThrough {s : State} (hm : s.mode = .rideThrough)
    (ht : s.tExit (if s.mo.origin = some .island then 1 else 0) ≤ s.rt.exitT) : s.rtExitHolds = true := by
  have hset : s.rtSet = some (if s.mo.origin = some .island then 1 else 0) := by rw [State.rtSet, hm]
  rw [State.rtExitHolds, hset]
  exact decide_eq_true ht

/-- A decaying term is 1.0 once its time is over (R124). -/
theorem kzTerm_of_over {k0 : Int} {t td : Nat} (h : msFs td ≤ t) : kzTerm k0 t td = one := if_pos h

theorem State.kzPj_of_over {s : State} (hrun : s.rt.pjRun = true) (ht : msFs (s.regN Reg.RT_PJ_TDEC) ≤ s.rt.pjT) :
    s.kzPj = one := (if_pos hrun).trans (kzTerm_of_over ht)

theorem State.kzRec_of_over {s : State} (hrun : s.rt.recRun = true) (ht : msFs (s.regN Reg.RT_T_REC) ≤ s.rt.recT) :
    s.kzRec = one := (if_pos hrun).trans (kzTerm_of_over ht)

theorem State.kzEnd_of_one {s : State} (hpj : s.kzPj = one) (hrec : s.kzRec = one) :
    s.kzEnd = { s with rt := { s.rt with pjRun := false, recRun := false } } := by
  simp [State.kzEnd, hpj, hrec]

/-! ### Excursions and the pin -/

theorem Exc.finish_of_over {x : Exc} {tx : Nat} (hrun : x.run = true) (ht : tx ≤ x.exitT) : x.finish tx = Exc.none0 :=
  if_pos (by simp [hrun, ht])

theorem Exc.finish_of_not_run {x : Exc} (tx : Nat) (hrun : x.run = false) : x.finish tx = x := if_neg (by simp [hrun])

/-- Of one running excursion its end alone shows (R126). -/
theorem State.excEnd_of_lv {s : State} {n : Nat} (hset : s.rtSet = some n) (hrun : s.rt.lv.run = true)
    (ht : s.tExit n ≤ s.rt.lv.exitT) (hhv : s.rt.hv.run = false) (hf : s.rt.f.run = false) :
    s.excEnd = { s with rt := { s.rt with lv := Exc.none0 } } := by
  simp only [State.excEnd, hset, Exc.finish_of_over hrun ht, Exc.finish_of_not_run _ hhv, Exc.finish_of_not_run _ hf]

theorem State.trigUpdate_of_no_claim {s : State} (hsync : s.flag Reg.MODE_CFG 0 = false) (htrip : s.flag Reg.RT_CFG 0 = false) :
    s.trigUpdate = s := by
  simp [State.trigUpdate, State.trigClaim, hsync, htrip]

/-- Settles O18: each command takes the branch that its condition selects; an excursion's end moves TRIG_OUT only where the pin
is claimed, and a term of the impedance gain ends because it has come to 1.0. -/
theorem rideThroughCommands : Obligations.RideThroughCommands := by
  refine ⟨?entry, ?exit, ?holdExpired, ?rejoin, ?excursionEnd, ?kzTermEnd⟩
  case entry => exact fun s hup hcnt hm => live_pos hup.on (by simpa [hcnt] using hm)
  case exit => exact fun s hup hm ht => live_pos hup.on (by simp [hm, State.rtExitHolds_of_rideThrough hm ht])
  case holdExpired =>
    exact fun s hup hm ht => (live_pos hup.on (by simp [hm, ht])).trans (congrArg _ (State.setFlag_cause s _ _ _))
  case rejoin => exact fun s hup hm hcnt => live_pos hup.on (by simp [hm, hcnt])
  case excursionEnd =>
    intro s n hup hset hrun ht hhv hf hsync htrip
    refine live_of_eq hup.on ?_
    rw [State.excEnd_of_lv hset hrun ht hhv hf]
    exact State.trigUpdate_of_no_claim hsync htrip
  case kzTermEnd =>
    exact fun s hup hpj hpjT hrec hrecT =>
      live_of_eq hup.on (State.kzEnd_of_one (State.kzPj_of_over hpj hpjT) (State.kzRec_of_over hrec hrecT))

end Sys2Proof.Machine
end

section
/-! PROOFS. What the engine and the control path hand over within a step (chapters 02, 03 and 12). -/
namespace Sys2Proof.Machine

/-! ### The control samples -/

/-- What goes out on a line leaves the engine as it is. -/
@[simp] theorem State.line_gfe (s : State) (n : Nat) (l : List Nat) : (s.line n l).gfe = s.gfe := by
  unfold State.line
  split <;> rfl

/-- SAMPLE, where it is sent, leaves the engine as it is (R341). -/
theorem State.sampleSend_gfe (s : State) : s.sampleSend.gfe = s.gfe := by
  unfold State.sampleSend
  split
  · rfl
  · dsimp only
    split
    · rfl
    · exact State.line_gfe ..

theorem State.ctlDeliver_inputs_length (s : State) : s.ctlDeliver.gfe.inputs.length = 32 := by
  simp [State.ctlDeliver, upto]

theorem State.deliver_of_delivered {s : State} (h : s.gfe.delivered = true) : s.deliver = s := if_pos (by simp [h])

/-! ### GFE_COMPLETE -/

theorem State.modeSettle_of_not_due {s : State} (h : s.pair.modeDue = false) : s.modeSettle = s := if_neg (by simp [h])

/-- Without a waiting reply no read is taken and no reply leaves (R408). -/
theorem State.takeReads_flush_of_no_waits {s : State} (h : s.cmd.waits = []) : s.takeReads.flush = s := by
  have hnone : s.noWaits = s := by rw [State.noWaits, ← h]
  have hreads : s.takeReads = s := by rw [State.takeReads, h, List.foldl_nil, hnone]
  rw [hreads, State.flush, h, List.foldl_nil, hnone]

/-- A step without a result of the engine (R66): a unit that does not shadow counts its time (R132). -/
def State.gfeMissed (s : State) : State := if s.shadowing then s.gfeFault else s.gfeFault.stepMissed

/-- The engine's result of a step whose inputs were delivered, at the instant of the unit's role (R66). -/
theorem State.gfeDone_of_delivered {s u : State} (fault : Bool) (hrun : s.running = true) (hdel : s.gfe.delivered = true)
    (hdone : s.gfe.done = false) (hu : u = (s.toClk (if s.pair.shadowStep then 3040 else 2880)).modeSettle) :
    s.gfeDone fault = if fault then u.gfeMissed else u.shadowInputs.gfeStep.gfeObserve := by
  subst hu
  simp only [State.gfeDone, State.gfeMissed, hdone, hrun, State.deliver_of_delivered hdel, Bool.not_true, Bool.or_self,
    Bool.false_eq_true, if_false]

/-- GFE FAULT leaves no references, no rate command and the bit FAULT in the status (R66). -/
theorem State.gfeFault_form (s : State) : ∃ (r : List (Nat × Word)) (ev : Evlog), s.gfeFault = { s with
    sys := { s.sys with regs := r, ev := ev },
    gfe := { s.gfe with done := true, refsValid := false, stat := putBit s.gfe.stat 9 true },
    ang := { s.ang with cmd := none } } := State.setFlag_form _ _ _ _ _

theorem State.gfeFault_flag {s : State} (h : s.sound = true) : s.gfeFault.flag Reg.GFE_FLAGS 9 = true :=
  State.flag_setFlag _ _ _ _ _ h (by decide) (by decide)

theorem State.gfeMissed_flag {s : State} (h : s.sound = true) : s.gfeMissed.flag Reg.GFE_FLAGS 9 = true := by
  unfold State.gfeMissed
  split <;> exact State.gfeFault_flag h

/-- The time of a missed step is counted in ride-through and in the mode logic alone; in COAST the holdover goes on by it (R132),
and a shadow unit counts nothing. -/
theorem State.gfeMissed_form (s : State) : ∃ (r : List (Nat × Word)) (ev : Evlog) (rt : Rt) (mo : ModeSt),
    s.gfeMissed = { s with
    sys := { s.sys with regs := r, ev := ev }, rt := rt, mo := mo,
    gfe := { s.gfe with done := true, refsValid := false, stat := putBit s.gfe.stat 9 true },
    ang := { s.ang with cmd := none } } ∧
    (s.shadowing = true → rt = s.rt ∧ mo = s.mo) ∧
    (s.shadowing = false → s.mode = .coast → rt.coastT = s.rt.coastT + dtFs s.ang.rate.toNat) := by
  obtain ⟨r, ev, hfault⟩ := s.gfeFault_form
  rw [State.gfeMissed]
  cases hshadow : s.shadowing
  case true => exact ⟨r, ev, s.rt, s.mo, hfault, fun _ => ⟨rfl, rfl⟩, nofun⟩
  case false =>
    rw [hfault]
    exact ⟨r, ev, _, _, rfl, nofun, fun _ hm => if_pos hm⟩

/-- With the mode settled and no reply waiting, GFE_COMPLETE with a fault leaves what a missed step does at its instant. -/
theorem State.gfeComplete_of_fault {s u : State} (hrun : s.running = true) (hdel : s.gfe.delivered = true)
    (hdone : s.gfe.done = false) (hwaits : s.cmd.waits = []) (hdue : s.pair.modeDue = false)
    (hu : u = s.toClk (if s.pair.shadowStep then 3040 else 2880)) : s.gfeComplete true = u.gfeMissed := by
  obtain ⟨acc, clk, tai, hclk⟩ := s.toClk_form (if s.pair.shadowStep then 3040 else 2880)
  rw [← hu] at hclk
  obtain ⟨r, ev, rt, mo, hmissed, -⟩ := u.gfeMissed_form
  have hsettle : u.modeSettle = u := State.modeSettle_of_not_due (by rw [hclk]; exact hdue)
  have hwaits' : u.gfeMissed.cmd.waits = [] := by rw [hmissed, hclk]; exact hwaits
  rw [State.gfeComplete, State.gfeDone_of_delivered true hrun hdel hdone rfl, ← hu, hsettle, if_pos rfl,
    State.takeReads_flush_of_no_waits hwaits']

/-! ### The engine with pulses blocked -/

theorem State.setFlags_gfe (s : State) (l : List (Nat × Nat)) : (s.setFlags l).gfe = s.gfe := by
  obtain ⟨r, ev, h⟩ := s.setFlags_form l
  rw [h]

theorem State.setFlags_ang (s : State) (l : List (Nat × Nat)) : (s.setFlags l).ang = s.ang := by
  obtain ⟨r, ev, h⟩ := s.setFlags_form l
  rw [h]

/-- Counting an invalid measurement moves neither the clock nor the dispatch deadline (R69). -/
theorem State.inTime_when_bump (s : State) (b : Bool) (a : Nat) (c : Word) :
    (s.when b (fun u => u.bump a)).inTime c = s.inTime c := by
  unfold State.when
  split <;> rfl

theorem State.inTime_of_before_deadline {s : State} (c : Word) (hjudged : s.pipe.judged = false) (hac : s.acUp ≤ 800) :
    s.inTime c = some c := if_neg (by simp [State.pastDeadline, hjudged, hac])

/-- CLAMPED, KZ_RAISED and MEAS_INV of the status leave bit 0, MACHINE, alone. -/
theorem blockedStat_machine (clamped raised invalid : Prop) [Decidable clamped] [Decidable raised] [Decidable invalid] :
    bit (word ((if clamped then 0x40 else 0) + (if raised then 0x80 else 0) + (if invalid then 0x100 else 0))) 0 = false := by
  split <;> split <;> split <;> decide

/-- The engine's step outside the machine modes publishes the measurement alone: 18 signals and 46 zeros (R83), no references,
and the nominal frequency as rate command (R41). -/
theorem State.gfeStep_of_blocked {s : State} (h : s.released = false) :
    ∃ (u : State) (g : Gfe) (stat id : Word) (l : List (Nat × Nat)),
    s.gfeStep = ({ u with
      gfe := { g with stat := stat, sigStep := id, done := true, refsValid := false, ref1 := [], ref2 := [],
                      sig := sigMeas s.measure g ++ List.replicate 46 0 },
      ang := { u.ang with cmd := s.inTime (word s.fnom) } } : State).setFlags l ∧ bit stat 0 = false := by
  have hm : s.mode.machine = false := h
  unfold State.gfeStep
  dsimp only
  rw [hm, if_pos (by rfl), State.inTime_when_bump]
  exact ⟨_, _, _, _, _, rfl, blockedStat_machine _ _ _⟩

/-- Settles O12: the delivery carries one sample per input; a fault leaves the state that a missed step has, and otherwise the
engine's step follows; with pulses blocked that step is the measurement alone. -/
theorem engineCommands : Obligations.EngineCommands := by
  refine ⟨⟨?delivery, ?fault, ?result⟩, ?blocked⟩
  case delivery =>
    intro s hup hrun hdel
    have hgfe := s.ctlDeliver.sampleSend_gfe
    refine ⟨_, live_neg hup.on (by simp [hdel, hrun]), rfl, congrArg Gfe.delivered hgfe, ?_⟩
    rw [hgfe]
    exact s.ctlDeliver_inputs_length
  case fault =>
    intro s hup hrun hdel hdone hwaits hdue
    generalize hk : (if s.pair.shadowStep then 3040 else 2880) = k
    obtain ⟨acc, clk, tai, hclk⟩ := s.toClk_form k
    obtain ⟨r, ev, rt, mo, hmissed, hshadow, hcoast⟩ := (s.toClk k).gfeMissed_form
    have hflag := State.gfeMissed_flag (State.sound_of_eq (s.toClk_steady k hup.2) hup.2)
    refine ⟨_, live_of_eq hup.on (State.gfeComplete_of_fault hrun hdel hdone hwaits hdue (congrArg s.toClk hk.symm)), ?_⟩
    rw [hmissed] at hflag ⊢
    rw [hclk] at hflag hshadow hcoast ⊢
    exact ⟨rfl, rfl, bit_putBit_self _ _ _ (by decide), rfl, hflag, rfl, hshadow, hcoast⟩
  case result =>
    intro s hup hrun hdel hdone hstep
    refine live_of_eq hup.on ?_
    simp only [State.gfeComplete, State.gfeDone_of_delivered false hrun hdel hdone rfl, hstep, Bool.false_eq_true, if_false]
  case blocked =>
    intro s h
    obtain ⟨u, g, stat, id, l, hstep, hstat⟩ := State.gfeStep_of_blocked h
    rw [hstep, State.setFlags_gfe, State.setFlags_ang]
    exact ⟨rfl, rfl, rfl, rfl, hstat, rfl, fun hjudged hac => State.inTime_of_before_deadline _ hjudged hac, rfl⟩

end Sys2Proof.Machine
end

section
/-! PROOFS. Spares and retirement (chapter 06), and the hardware comparators (chapter 05). -/
namespace Sys2Proof.Machine

/-! ### Retirement and spares -/

/-- A submodule of the ACTIVE set asked to retire, other than for wear, leaves it and is counted; then its arm promotes (R151). -/
theorem State.retireAct_of_asked {s : State} {n a : Nat} (ha : s.armOf n = some a) (hset : (s.sm n).set = 1)
    (hask : (s.sm n).retire ≠ 0) (hwear : (s.sm n).retire ≠ 3) :
    s.retireAct n = (((s.updSm n (fun m => { m with
      set := 3, retire := 0, wearReq := false, usable := false, fail := 0 })).bump Reg.ARM_RETIRE_CNT).setFlagEach
      Reg.ARM_FLAGS 2 n).promote a := by
  simp only [State.retireAct, ha, if_pos (And.intro hset hask), if_neg hwear]

/-- The best ready spare joins at once (R151). -/
theorem State.promote_of_bestSpare {s : State} {a k : Nat} (h : s.bestSpare a = some k) : s.promote a = s.joinActive k := by
  simp only [State.promote, h]

/-- Without any spare the arm shows NOSPARE, and the event is flagged (R151, R161). -/
theorem State.promote_of_no_spare {s : State} {a : Nat} (hbest : s.bestSpare a = none) (hfull : s.fullestSpare a = none) :
    s.promote a = ({ s with arm := { s.arm with noSpare := s.arm.noSpare.set a true } } : State).setFlagEach
      Reg.ARM_FLAGS 1 a := by
  simp only [State.promote, hbest, hfull]

theorem State.sparePromoteAct_of_ready {s : State} {n : Nat} (hjoin : (s.sm n).joining = true) (hready : (s.sm n).ready = true)
    (hset : (s.sm n).set = 2) : s.sparePromoteAct n = s.joinActive n :=
  if_pos (by simp [hjoin, hready, hset])

/-- NOSPARE arm by arm (R161). -/
theorem State.noSpareShow_getD (s : State) {a : Nat} (ha : a < 6) : s.noSpareShow.arm.noSpare.getD a false =
    (s.arm.setsFormed && s.arms.contains a && !(s.armSms a).any (fun n => (s.sm n).set == 2)) := by
  simp [State.noSpareShow, upto, List.getD_eq_getElem?_getD, ha]

/-! ### Comparators -/

/-- A trip moves no register that the conversion is read from. -/
theorem State.laneMode_trip (s : State) (b n : Nat) :
    ((s.bump Reg.RT_HWC_CNT).setFlag Reg.RT_FLAGS b n).laneMode = s.laneMode := by
  have hreg : ((s.bump Reg.RT_HWC_CNT).setFlag Reg.RT_FLAGS b n).reg Reg.PIPE_CFG = s.reg Reg.PIPE_CFG :=
    (State.reg_setFlag_ne _ _ _ _ _ _ (by decide) (by decide)).trans (State.reg_setReg_ne _ _ _ _ (by decide))
  exact congrArg (bit · 0) hreg

/-- With pulses blocked a line comparator's trip is counted alone (R117). -/
theorem State.hwcTripAct_line_of_blocked {s : State} {n : Nat} (neg : Bool) (hn : n < 3) (hrel : s.released = false) :
    s.hwcTripAct true n neg = s.bump Reg.RT_HWC_CNT := by
  have hrel' : (s.bump Reg.RT_HWC_CNT).released = false := hrel
  simp [State.hwcTripAct, hn, hrel']

/-- In lane mode an arm comparator's trip restricts its arm, with the sign of the trip (R118). -/
theorem State.hwcTripAct_arm_of_lanes {s u : State} {n : Nat} (neg : Bool) (hrel : s.released = true)
    (hmap : s.flag Reg.GFE_MAP 24 = true) (hlane : s.laneMode = true)
    (hu : u = (s.bump Reg.RT_HWC_CNT).setFlag Reg.RT_FLAGS 4 n) :
    s.hwcTripAct false n neg = ({ u with rt := { s.rt with
      armTrip := s.rt.armTrip.set n (some neg), restr := s.rt.restr.set n (some neg), lastNeg := neg } } : State).sendRestrict
      true neg n := by
  have hrel' : (s.bump Reg.RT_HWC_CNT).released = true := hrel
  have hlane' (rt : Rt) : ({ u with rt := rt } : State).laneMode = true :=
    (congrArg State.laneMode hu).trans ((s.laneMode_trip _ _).trans hlane)
  have hrt : u.rt = s.rt := by rw [hu, State.setFlag_rt, State.bump_rt]
  simp [State.hwcTripAct, State.hwcArms, hmap, hrel', ← hu, hlane', hrt]

/-- In direct mode a line comparator's trip forces the main outputs (R119). -/
theorem State.hwcTripAct_line_of_direct {s u : State} {n : Nat} (neg : Bool) (hn : n < 3) (hrel : s.released = true)
    (hlane : s.laneMode = false) (hu : u = (s.bump Reg.RT_HWC_CNT).setFlag Reg.RT_FLAGS 5 n) :
    s.hwcTripAct true n neg =
      ({ u with rt := { s.rt with lineTrip := s.rt.lineTrip.set n (some neg) } } : State).pwmRefresh := by
  have hrel' : (s.bump Reg.RT_HWC_CNT).released = true := hrel
  have hlane' (rt : Rt) : ({ u with rt := rt } : State).laneMode = false :=
    (congrArg State.laneMode hu).trans ((s.laneMode_trip _ _).trans hlane)
  have hrt : u.rt = s.rt := by rw [hu, State.setFlag_rt, State.bump_rt]
  simp [State.hwcTripAct, hn, hrel', ← hu, hlane', hrt]

/-- An entry set to `none` reads as `none`, within the list or beyond it. -/
theorem getD_set_none {α : Type} (l : List (Option α)) (n : Nat) : (l.set n none).getD n none = none := by
  rw [List.getD_eq_getElem?_getD, List.getElem?_set_self']
  cases l[n]? <;> rfl

/-- An arm is held by nothing once its own comparator and every line comparator have released. -/
theorem State.armHeld_of_released {s : State} {a : Nat} (harm : s.rt.armTrip.getD a none = none)
    (hline : s.rt.lineTrip = List.replicate 3 none) : s.armHeld a = false := by
  have hnone (x : Nat) (hx : x < 3) : s.rt.lineTrip.getD x none = none :=
    hline ▸ List.getD_replicate none hx
  simp only [State.armHeld, harm, Option.isSome_none, Bool.false_or, List.any_eq_false, upto, List.mem_range]
  intro x hx
  rw [hnone x hx, Option.isSome_none, Bool.false_and]
  exact Bool.false_ne_true

/-- The release of an arm comparator ends the restriction of an arm that no line comparator holds (R117, R118). -/
theorem State.hwcReleaseAct_arm {s : State} {n : Nat} {d : Bool} (hrestr : s.rt.restr.getD n none = some d)
    (hline : s.rt.lineTrip = List.replicate 3 none) :
    s.hwcReleaseAct false n = ({ s with rt := { s.rt with
      armTrip := s.rt.armTrip.set n none, restr := s.rt.restr.set n none } } : State).sendRestrict false d n := by
  have hfree : ({ s with rt := { s.rt with armTrip := s.rt.armTrip.set n none } } : State).armHeld n = false :=
    State.armHeld_of_released (getD_set_none _ _) hline
  simp only [State.hwcReleaseAct, State.hwcArms, Bool.not_false, if_true, Bool.false_eq_true, if_false, List.foldl_cons,
    List.foldl_nil, hrestr, hfree]

/-- Settles O20: each command takes the branch that its hypotheses select; a retirement goes on to its arm's promotion, and a
released arm comparator leaves its arm held by nothing. -/
theorem sparesAndComparators : Obligations.SparesAndComparators := by
  refine ⟨⟨?retire, ?promote, ?noSpare, ?prechOk⟩, ?blocked, ?lanes, ?direct, ?release⟩
  case retire =>
    rintro s n a hup ha hset hask hwear u rfl
    exact ⟨fun k hbest => live_of_eq hup.on
        ((State.retireAct_of_asked ha hset hask hwear).trans (State.promote_of_bestSpare hbest)),
      fun hbest hfull => live_of_eq hup.on
        ((State.retireAct_of_asked ha hset hask hwear).trans (State.promote_of_no_spare hbest hfull))⟩
  case promote =>
    exact fun s n hup hjoin hready hset => live_of_eq hup.on (State.sparePromoteAct_of_ready hjoin hready hset)
  case noSpare =>
    intro s a ha
    rw [State.noSpareShow_getD s ha]
    simp [and_assoc]
  case prechOk => exact fun s hup => live_on hup.on
  case blocked =>
    exact fun s n neg hup hrel hn => live_of_eq hup.on (State.hwcTripAct_line_of_blocked neg hn hrel)
  case lanes =>
    exact fun s n neg hup hrel hmap hlane =>
      ⟨_, rfl, live_of_eq hup.on (State.hwcTripAct_arm_of_lanes neg hrel hmap hlane rfl)⟩
  case direct =>
    exact fun s n neg hup hrel hn hlane =>
      ⟨_, rfl, live_of_eq hup.on (State.hwcTripAct_line_of_direct neg hn hrel hlane rfl)⟩
  case release => exact fun s n d hup hrestr hline => live_of_eq hup.on (State.hwcReleaseAct_arm hrestr hline)

end Sys2Proof.Machine
end

section
/-! PROOFS. What a submodule takes in and answers, and its edges under a restriction (chapters 06, 08 and 09). -/
namespace Sys2Proof.Machine

/-! ### Commands, restrictions and requests -/

/-- Only the submodule as it stands counts for its update. -/
theorem State.updFar_congr {s : State} {n : Nat} {f g : FarSm → FarSm} (h : f (s.farSm n) = g (s.farSm n)) :
    s.updFar n f = s.updFar n g := by
  rw [State.updFar, h, State.updFar]

/-- The first valid command word of a step is kept (R157). -/
theorem State.smCmd_of_first {s : State} {n : Nat} {w : BitVec 128} (hvalid : s.cmdValid n w = true)
    (hrx : (s.farSm n).rx = none) : s.smCmd n w = s.updFar n (fun x => { x with rx := some (parseCmd w) }) :=
  (if_pos hvalid).trans (State.updFar_congr (by rw [hrx]))

/-- Of two valid command words of a step the one of the higher epoch is kept (R157). -/
theorem State.smCmd_of_second {s : State} {n : Nat} {w : BitVec 128} {o : SmWord} (hvalid : s.cmdValid n w = true)
    (hrx : (s.farSm n).rx = some o) : s.smCmd n w = s.updFar n (fun x =>
      if epochNewer (parseCmd w).epoch o.epoch then { x with rx := some (parseCmd w) } else x) :=
  (if_pos hvalid).trans (State.updFar_congr (by rw [hrx]))

/-- Edges alone do not block a submodule, nor end its block (R159). -/
@[simp] theorem FarSm.run_blocked (x : FarSm) (fb : Bool) (ac : Nat) : (x.run fb ac).blocked = x.blocked := rfl

@[simp] theorem FarSm.run_pat (x : FarSm) (fb : Bool) (ac : Nat) : (x.run fb ac).pat = x.pat := rfl

theorem FarSm.blocked_eq_false {x : FarSm} (hloop : x.pblLost = false) (hbyp : x.byp = false) (hown : x.localBlk = false) :
    x.blocked = false := by
  simp [FarSm.blocked, hloop, hbyp, hown]

theorem State.smRequest_of_no_slot {s : State} {n : Nat} (r : SmRequest) (h : s.slotOf n = none) :
    s.smRequest n r = s.smAnswer n r := by
  simp only [State.smRequest, h]

/-- A request that is answered is taken from the concentrator, and its answer goes up through it (R204, R210). -/
theorem State.smRequest_of_answered {s : State} {n p j : Nat} {r : SmRequest} {body : List Byte}
    (hslot : s.slotOf n = some (p, j)) (hbody : reqAnswered r = some body) :
    s.smRequest n r = ((s.concAccept p (reqVc r - 1)).smAnswer n r).concUp p j (reqVc r) body := by
  simp only [State.smRequest, hslot, hbody]

theorem State.smRequest_of_not_answered {s : State} {n p j : Nat} {r : SmRequest}
    (hslot : s.slotOf n = some (p, j)) (hnone : reqAnswered r = none) :
    s.smRequest n r = (s.concAccept p (reqVc r - 1)).smAnswer n r := by
  simp only [State.smRequest, hslot, hnone]

/-! ### Edges under a restriction -/

/-- BLOCK is carried out under either restriction (R159). -/
theorem edgeTo_block (fb neg : Bool) (cur : Nat) : edgeTo fb (some neg) cur 3 = 3 := rfl

/-- What an edge under a restriction comes to (R159): the state stays, or the target is taken where its contribution lies on the
allowed side of the state's. -/
theorem edgeTo_cases (fb neg : Bool) (cur : Nat) {target : Nat} (h : target ≠ 3) :
    edgeTo fb (some neg) cur target = cur ∨
    edgeTo fb (some neg) cur target = target ∧
      (if neg then stRank fb neg target ≤ stRank fb neg cur else stRank fb neg cur ≤ stRank fb neg target) := by
  simp only [edgeTo, if_neg h]
  generalize hok : (if cur = 3 then _ else _ : Bool) = ok
  cases ok with
  | false => exact .inl rfl
  | true =>
    refine .inr ⟨rfl, ?_⟩
    by_cases hcur : cur = 3
    · rw [if_pos hcur] at hok
      cases neg <;> exact of_decide_eq_true hok
    · rw [if_neg hcur] at hok
      cases neg <;> exact (of_decide_eq_true hok).le

theorem edgeTo_eq_or (fb neg : Bool) (cur target : Nat) :
    edgeTo fb (some neg) cur target = target ∨ edgeTo fb (some neg) cur target = cur := by
  by_cases h : target = 3
  · exact .inl (h ▸ edgeTo_block fb neg cur)
  · exact (edgeTo_cases fb neg cur h).symm.imp_left And.left

/-- Under a negative restriction the contribution never rises (R159). -/
theorem stRank_edgeTo_neg (fb : Bool) (cur : Nat) {target : Nat} (h : target ≠ 3) :
    stRank fb true (edgeTo fb (some true) cur target) ≤ stRank fb true cur := by
  obtain hkept | ⟨htaken, hrank⟩ := edgeTo_cases fb true cur h
  · rw [hkept]
  · rwa [htaken]

/-- Under a positive restriction the contribution never falls (R159). -/
theorem stRank_edgeTo_pos (fb : Bool) (cur : Nat) {target : Nat} (h : target ≠ 3) :
    stRank fb false cur ≤ stRank fb false (edgeTo fb (some false) cur target) := by
  obtain hkept | ⟨htaken, hrank⟩ := edgeTo_cases fb false cur h
  · rw [hkept]
  · rwa [htaken]

/-- Settles O21, group by group: what a submodule takes in by its own condition, a request by the place of the submodule, and an
edge by the two outcomes that a restriction leaves it. -/
theorem submoduleInputs : Obligations.SubmoduleInputs := by
  refine ⟨⟨?first, ?second, ?invalid, ?loop, ?restrict, ?release, fun s n => ⟨rfl, rfl⟩⟩, ⟨?request, ?answer⟩, ?edge⟩
  case first => exact fun s n w hvalid hrx => congrArg _ (State.smCmd_of_first hvalid hrx)
  case second => exact fun s n w o hvalid hrx => congrArg _ (State.smCmd_of_second hvalid hrx)
  case invalid => exact fun s n w hvalid => congrArg _ (if_neg (by simp [hvalid]))
  case loop => exact fun s n hloop => congrArg _ (if_neg (by simp [hloop]))
  case restrict => exact fun s n neg ac => rfl
  case release =>
    intro s n neg ac hloop hbyp hown
    have hfree := FarSm.blocked_eq_false hloop hbyp hown
    exact congrArg _ (State.updFar_congr (by simp [hfree]))
  case request =>
    refine fun s n r => ⟨fun hslot => congrArg _ (State.smRequest_of_no_slot r hslot), ?_⟩
    rintro p j hslot t rfl
    exact ⟨fun body hbody => congrArg _ (State.smRequest_of_answered hslot hbody),
      fun hnone => congrArg _ (State.smRequest_of_not_answered hslot hnone)⟩
  case answer =>
    refine fun s n => ⟨rfl, fun first k tag => ?_, if_pos rfl, fun code tag body => rfl⟩
    simp only [State.smAnswer, State.farOut, State.emit, upto, List.flatMap_map]
  case edge =>
    rintro fb neg cur target - -
    refine ⟨rfl, edgeTo_block fb neg cur, edgeTo_eq_or fb neg cur target, ?_, ?_⟩
    · rintro h rfl
      exact stRank_edgeTo_neg fb cur h
    · rintro h rfl
      exact stRank_edgeTo_pos fb cur h

end Sys2Proof.Machine
end

section
/-! PROOFS. The lane ports (chapter 07): what their operations leave of a port, and how ports are plugged and trained. -/
namespace Sys2Proof.Machine

/-! ### What a port is left with -/

/-- Registers, flags and counters leave the ports. -/
theorem State.port_of_lnk {s t : State} (h : t.lnk = s.lnk) (n : Nat) : t.port n = s.port n :=
  congrArg (fun l : Lnk => l.ports.getD n Port.fresh0) h

theorem State.linkUp_of_ts {s t : State} {n : Nat} (h : (t.port n).ts = (s.port n).ts) : t.linkUp n = s.linkUp n :=
  congrArg (fun x : TState => decide (x = .linkUp)) h

theorem State.linkUp_iff (s : State) (n : Nat) : s.linkUp n = true ↔ (s.port n).ts = .linkUp := decide_eq_true_iff

@[simp] theorem State.updPort_ports_length (s : State) (n : Nat) (f : Port → Port) :
    (s.updPort n f).lnk.ports.length = s.lnk.ports.length := List.length_modify ..

/-- Every port of a sound unit is there. -/
theorem State.up.port_lt {s : State} (h : s.up) (n : Fin 22) : n.val < s.lnk.ports.length :=
  n.isLt.trans_eq (State.sound_lens h.2).1.symm

/-- What goes out on a line moves the scrambler of its port, and no other port. -/
theorem State.port_line (s : State) {n : Nat} (l : List Nat) (hn : n < s.lnk.ports.length) :
    ∃ scr, (s.line n l).port n = { s.port n with scr := scr } := by
  unfold State.line
  split
  · exact ⟨(s.port n).scr, rfl⟩
  · exact ⟨_, upd_getD _ _ _ _ hn⟩

theorem State.port_line_ne (s : State) {n k : Nat} (l : List Nat) (h : k ≠ n) : (s.line n l).port k = s.port k := by
  unfold State.line
  split
  · rfl
  · exact upd_getD_ne _ _ _ _ _ h

/-- A training frame moves the scrambler, the PRBS and the frame count of its port, and no other port (R171). -/
theorem State.port_frameOut (s : State) {n : Nat} (hn : n < s.lnk.ports.length) :
    ∃ scr prbs fcnt, (s.frameOut n).port n = { s.port n with scr := scr, prbs := prbs, fcnt := fcnt } := by
  obtain ⟨scr, hline⟩ := State.port_line (s.updPort n _) _ (by simpa using hn)
  exact ⟨scr, _, _, hline.trans (by rw [State.port_updPort _ _ _ hn])⟩

theorem State.port_frameOut_ne (s : State) {n k : Nat} (h : k ≠ n) : (s.frameOut n).port k = s.port k :=
  (State.port_line_ne _ _ h).trans (s.port_updPort_ne n k _ h)

theorem State.port_trainOut (s : State) {n : Nat} (hn : n < s.lnk.ports.length) :
    ∃ scr prbs fcnt, (s.trainOut n).port n = { s.port n with scr := scr, prbs := prbs, fcnt := fcnt } := by
  unfold State.trainOut State.when
  split
  · exact s.port_frameOut hn
  · exact ⟨_, _, _, rfl⟩

theorem State.port_trainOut_ne (s : State) {n k : Nat} (h : k ≠ n) : (s.trainOut n).port k = s.port k := by
  unfold State.trainOut State.when
  split
  · exact s.port_frameOut_ne h
  · rfl

/-- An attempt begins in LOCK (R177). -/
theorem State.startAttempt_ts (s : State) {n : Nat} (hn : n < s.lnk.ports.length) : ((s.startAttempt n).port n).ts = .lock := by
  obtain ⟨scr, prbs, fcnt, h⟩ := State.port_trainOut (n := n) ((s.updPort n _).bump (Reg.PHY_TRN_CNT n)) (by simpa using hn)
  refine (congrArg Port.ts h).trans ?_
  rw [State.port_of_lnk (State.bump_lnk _ _), State.port_updPort _ _ _ hn]
  dsimp only
  split <;> rfl

/-- A port whose state is LINK_UP leaves it, and the lane hub is told (R186). -/
theorem State.leaveUp_of_linkUp {s : State} {n : Nat} (f : State → State) (h : s.linkUp n = true) :
    s.leaveUp n f = (f s).laneDown n := if_pos h

theorem State.retrain_of_linkUp {s : State} {n : Nat} (h : s.linkUp n = true) :
    s.retrain n = (s.startAttempt n).laneDown n := if_pos h

theorem State.retrain_of_not_linkUp {s : State} {n : Nat} (h : s.linkUp n = false) : s.retrain n = s :=
  if_neg (ne_true_of_eq_false h)

/-! ### A module is plugged and pulled -/

theorem State.cageUse_of_refused {s : State} {n : Nat} {bad : Bool} (h : bad = true) :
    s.cageUse n bad = s.setFlagEach (Reg.PHY_FLAGS n) 5 n := if_pos h

/-- The cage of an accepted module is powered, and its port starts where it is enabled (R164). -/
theorem State.cageUse_of_accepted {s : State} {n : Nat} {bad : Bool} (h : bad = false) :
    s.cageUse n bad = if (s.cagePower n true).phyEn n then (s.cagePower n true).toDetect n else s.cagePower n true :=
  if_neg (ne_true_of_eq_false h)

/-- The light of port `n` has gone, with count and flag (R183). -/
def State.lightLost (s : State) (n : Nat) : State :=
  ((s.updPort n (fun p => { p with los := true, blockLock := false, cdr := false })).bump (Reg.PHY_LOS_CNT n)).setFlag
    (Reg.PHY_FLAGS n) 0 n

theorem State.lightLost_ts (s : State) {n : Nat} (hn : n < s.lnk.ports.length) :
    ((s.lightLost n).port n).ts = (s.port n).ts := by
  have hlnk : (s.lightLost n).lnk = (s.updPort n _).lnk := (State.setFlag_lnk _ _ _ _ _).trans (State.bump_lnk _ _)
  rw [State.port_of_lnk hlnk, State.port_updPort _ _ _ hn]

theorem State.lightLost_linkUp (s : State) {n : Nat} (hn : n < s.lnk.ports.length) :
    (s.lightLost n).linkUp n = s.linkUp n := State.linkUp_of_ts (s.lightLost_ts hn)

section
variable {s : State} {n : Nat} (hn : n < s.lnk.ports.length) (hpres : (s.port n).present = true)
  (hlight : (s.port n).los = false)
include hn hpres hlight

theorem State.losAct_of_linkUp (hts : (s.port n).ts = .linkUp) : s.losAct n = ((s.lightLost n).toDetect n).laneDown n := by
  have hup : (s.lightLost n).linkUp n = true := (s.lightLost_linkUp hn).trans ((s.linkUp_iff n).mpr hts)
  calc s.losAct n
      = (s.lightLost n).leaveUp n (fun s => s.toDetect n) := (if_neg (by simp [hpres, hlight])).trans (if_pos hup)
    _ = _ := State.leaveUp_of_linkUp _ hup

/-- An attempt in progress ends without light (R177). -/
theorem State.losAct_of_attempt (hts : (s.port n).ts = .lock ∨ (s.port n).ts = .adapt ∨ (s.port n).ts = .confirm ∨
    (s.port n).ts = .fallback) : s.losAct n = (s.lightLost n).toDetect n := by
  have hdown : (s.lightLost n).linkUp n = false := by
    rw [s.lightLost_linkUp hn, State.linkUp]
    rcases hts with h | h | h | h <;> simp [h]
  refine (if_neg (by simp [hpres, hlight])).trans ((if_neg (ne_true_of_eq_false hdown)).trans ?_)
  rw [← State.lightLost, s.lightLost_ts hn]
  rcases hts with h | h | h | h <;> rw [h]

theorem State.losAct_of_idle (hts : (s.port n).ts = .off ∨ (s.port n).ts = .detect ∨ (s.port n).ts = .failed) :
    s.losAct n = s.lightLost n := by
  have hdown : (s.lightLost n).linkUp n = false := by
    rw [s.lightLost_linkUp hn, State.linkUp]
    rcases hts with h | h | h <;> simp [h]
  refine (if_neg (by simp [hpres, hlight])).trans ((if_neg (ne_true_of_eq_false hdown)).trans ?_)
  rw [← State.lightLost, s.lightLost_ts hn]
  rcases hts with h | h | h <;> rw [h]

end

theorem State.losClearAct_eq (s : State) {n : Nat} (hn : n < s.lnk.ports.length) {u : State}
    (hu : u = s.updPort n (fun p => { p with los := false, cdr := true })) :
    s.losClearAct n = if (s.port n).ts = .detect then u.startAttempt n else u := by
  subst hu
  have hts : ((s.updPort n (fun p => { p with los := false, cdr := true })).port n).ts = (s.port n).ts := by
    rw [State.port_updPort _ _ _ hn]
  rw [State.losClearAct, hts]

theorem State.shErr_of_present {s : State} {n : Nat} (k : Word) (h : (s.port n).present = true) :
    s.shErr n k = s.bumpBy (Reg.PHY_SH_ERR n) k.toNat := if_pos h

/-- The receiver of port `n` has lost lock, with count and flag (R184). -/
def State.lockLost (s : State) (n : Nat) : State :=
  ((s.updPort n (fun p => { p with cdr := false, blockLock := false })).bump (Reg.PHY_LOL_CNT n)).setFlag (Reg.PHY_FLAGS n) 1 n

theorem State.lockLost_linkUp (s : State) {n : Nat} (hn : n < s.lnk.ports.length) : (s.lockLost n).linkUp n = s.linkUp n := by
  refine State.linkUp_of_ts ?_
  have hlnk : (s.lockLost n).lnk = (s.updPort n _).lnk := (State.setFlag_lnk _ _ _ _ _).trans (State.bump_lnk _ _)
  rw [State.port_of_lnk hlnk, State.port_updPort _ _ _ hn]

theorem State.lolAct_of_present {s : State} {n : Nat} (hn : n < s.lnk.ports.length) (hpres : (s.port n).present = true) :
    s.lolAct n = if s.linkUp n then ((s.lockLost n).startAttempt n).laneDown n else s.lockLost n := by
  rw [← s.lockLost_linkUp hn]
  exact if_neg (by simp [hpres])

/-- Settles O24: a module's insertion by its refusal, a loss of light by the state it finds the port in, a loss of lock by
whether the port was in LINK_UP; what a loss counts and flags leaves that state as it was. -/
theorem portPlugged : Obligations.PortPlugged := by
  intro s n hup
  have hn := hup.port_lt n
  refine ⟨?insert, ?withdraw, ?los, ?light, ?lol⟩
  case insert =>
    intro id tech hp tf habsent u hu
    have hact : s.sfpInsertAct n id tech hp tf = u.cageUse n (moduleRefused id tech hp) :=
      hu ▸ if_neg (ne_true_of_eq_false habsent)
    exact ⟨fun hbad => live_of_eq hup.on (hact.trans (State.cageUse_of_refused hbad)),
      fun hgood => live_of_eq hup.on (hact.trans (State.cageUse_of_accepted hgood))⟩
  case withdraw =>
    rintro u rfl
    exact live_on hup.on
  case los =>
    rintro hpres hlight u rfl
    exact ⟨fun hts => live_of_eq hup.on (State.losAct_of_attempt hn hpres hlight hts),
      fun hts => live_of_eq hup.on (State.losAct_of_linkUp hn hpres hlight hts),
      fun hts => live_of_eq hup.on (State.losAct_of_idle hn hpres hlight hts)⟩
  case light =>
    intro hpres hdark u hu
    exact live_of_eq hup.on ((if_pos (by simp [hpres, hdark])).trans (s.losClearAct_eq hn hu))
  case lol =>
    rintro k hpres u rfl
    refine live_of_eq hup.on ?_
    rw [State.shErr_of_present k hpres]
    exact State.lolAct_of_present (s := s.bumpBy (Reg.PHY_SH_ERR n) k.toNat) hn hpres


/-! ### Training -/

theorem State.lockCheck_of_ready {s : State} {n : Nat} (hts : (s.port n).ts = .lock) (hlock : (s.port n).blockLock = true)
    (hvalid : 3 ≤ (s.port n).valid) : s.lockCheck n = s.toAdapt n := if_pos (by simp [hts, hlock, hvalid])

/-- LOCK is left by nothing else, and no other state is (R176). -/
theorem State.lockCheck_of_not_ready {s : State} {n : Nat} (h : (s.port n).ts ≠ .lock ∨ (s.port n).valid < 3) :
    s.lockCheck n = s := by
  refine if_neg ?_
  rcases h with h | h <;> simp [h]

/-- Where a port stands in its training: its state, its receiver, and the run of ready blocks. -/
def Port.progress (p : Port) : TState × Bool × Nat := (p.ts, p.rxReady, p.readyCnt)

theorem Port.transmitter_progress (p : Port) (b : TrnBlk) : (p.transmitter b).progress = p.progress := by
  unfold Port.transmitter
  split
  · split <;> rfl
  · rfl

theorem Port.replies_progress (p : Port) (b : TrnBlk) : (p.replies b).progress = p.progress := by
  unfold Port.replies
  split
  · split <;> rfl
  · refine List.foldlRecOn (motive := fun q : Port => q.progress = p.progress) _ _ rfl fun q hq i _ => ?_
    dsimp only
    split <;> exact hq

/-- A receiver that is ready asks for nothing more (R175). -/
theorem Port.choose_of_ready {p : Port} (b : TrnBlk) (v : Nat) (h : p.rxReady = true) : p.choose b v = p :=
  if_neg (by simp [h])

/-- The port after a valid training block, by its own transmitter and receiver and the free value drawn for them. -/
def Port.trained (p : Port) (t : TrnBlk) (v : BitVec 64) : Port :=
  let p := if t.lin && !p.linMode then p.linear else p
  let p := { p with valid := p.valid + 1, readyCnt := if t.ready then p.readyCnt + 1 else 0,
                    eye := word (v.toNat / 2 ^ 32) &&& 0x03FF_03FF }
  ((p.transmitter t).replies t).choose t v.toNat

/-- A ready block adds to the run of a port whose receiver is ready. -/
theorem Port.trained_progress {p : Port} {t : TrnBlk} (v : BitVec 64) (hown : p.rxReady = true) (hready : t.ready = true) :
    (p.trained t v).progress = (p.ts, true, p.readyCnt + 1) := by
  unfold Port.trained
  generalize hq : (if t.lin && !p.linMode then p.linear else p) = q
  have hlin : q.progress = p.progress := by
    rw [← hq]
    split <;> rfl
  dsimp only
  generalize hr : ({ q with valid := _, readyCnt := _, eye := _ } : Port) = r
  have hcount : r.progress = (p.ts, true, p.readyCnt + 1) := by
    simp only [Port.progress, Prod.mk.injEq] at hlin
    obtain ⟨hts, hrx, hcnt⟩ := hlin
    rw [← hr]
    simp only [Port.progress, hts, hrx, hcnt, hown, hready, if_true]
  have hreplied : ((r.transmitter t).replies t).progress = (p.ts, true, p.readyCnt + 1) :=
    (Port.replies_progress _ t).trans ((r.transmitter_progress t).trans hcount)
  rwa [Port.choose_of_ready t _ (congrArg (fun x => x.2.1) hreplied)]

/-- A valid training block taken by a port in training: LOCK may end, and a port that adapts or falls back confirms with a ready
receiver and three ready blocks in a row (R176). -/
def State.blockTaken (s : State) (n : Nat) (t : TrnBlk) : State :=
  let u := (s.draw.2.updPort n (fun p => p.trained t s.draw.1)).lockCheck n
  let p := u.port n
  (u.when ((decide (p.ts = .adapt) || decide (p.ts = .fallback)) && p.rxReady && decide (p.readyCnt ≥ 3))
    (fun s => s.updPort n (fun p => { p with ts := .confirm, adapted := decide (p.ts = .adapt) }))).trainOut n

theorem State.trainAct_of_adapt {s : State} {n : Nat} {b : BitVec 64} {t : TrnBlk} (hparse : parseTrn b = some t)
    (hlane : n < 20) (hts : (s.port n).ts = .adapt) : s.trainAct n b = s.blockTaken n t := by
  have hdown : s.linkUp n = false := by simp [State.linkUp, hts]
  have hpair : (decide (n ≥ 20) && s.paired && decide (t.role = b2n s.unitB)) = false := by simp [hlane]
  simp only [State.trainAct, hparse, State.retrain_of_not_linkUp hdown, hpair, Bool.false_eq_true, if_false, hts]
  rfl

/-- What the third ready block in a row leaves of a port that adapts with a ready receiver, and of the others. -/
theorem State.blockTaken_confirms {s : State} {n : Nat} {t : TrnBlk} (hn : n < s.lnk.ports.length)
    (hts : (s.port n).ts = .adapt) (hown : (s.port n).rxReady = true) (hcnt : (s.port n).readyCnt = 2)
    (hready : t.ready = true) : ((s.blockTaken n t).port n).ts = .confirm ∧ ((s.blockTaken n t).port n).adapted = true ∧
      ∀ k, k ≠ n → (s.blockTaken n t).port k = s.port k := by
  have hport : (s.draw.2.updPort n (fun p => p.trained t s.draw.1)).port n = (s.port n).trained t s.draw.1 :=
    State.port_updPort _ _ _ hn
  have hothers (k : Nat) (hk : k ≠ n) : (s.draw.2.updPort n (fun p => p.trained t s.draw.1)).port k = s.port k :=
    State.port_updPort_ne _ _ _ _ hk
  have hlen : n < (s.draw.2.updPort n (fun p => p.trained t s.draw.1)).lnk.ports.length := by simpa using hn
  have hprog := Port.trained_progress s.draw.1 hown hready
  rw [hts, hcnt, ← hport] at hprog
  unfold State.blockTaken
  generalize s.draw.2.updPort n (fun p => p.trained t s.draw.1) = u at hprog hothers hlen
  simp only [Port.progress, Prod.mk.injEq] at hprog
  obtain ⟨huts, hurx, hucnt⟩ := hprog
  have hstay : u.lockCheck n = u := State.lockCheck_of_not_ready (.inl (by simp [huts]))
  simp only [hstay, huts, hurx, hucnt, State.when]
  obtain ⟨scr, prbs, fcnt, hframe⟩ := State.port_trainOut (n := n) (u.updPort n
    (fun p => { p with ts := .confirm, adapted := decide (p.ts = .adapt) })) (by simpa using hlen)
  refine ⟨(congrArg Port.ts hframe).trans ?_, (congrArg Port.adapted hframe).trans ?_, fun k hk => ?_⟩
  · rw [State.port_updPort _ _ _ hlen]
  · rw [State.port_updPort _ _ _ hlen]
    exact decide_eq_true huts
  · exact (State.port_trainOut_ne _ hk).trans ((State.port_updPort_ne _ _ _ _ hk).trans (hothers k hk))

/-! ### Fallback, and the end of an attempt -/

section
variable {s : State} {n : Nat} (hts : (s.port n).ts = .fallback) (hrx : (s.port n).rxReady = false)
include hts hrx

/-- The preset in use has passed (R178). -/
theorem State.presetWindow_of_pass (hlock : (s.port n).blockLock = true) (hpreset : (s.port n).preset < 3) :
    s.presetWindow n true = (s.updPort n (fun p => { p with rxReady := true, reqSet := 0 })).trainOut n := by
  simp [State.presetWindow, hts, hrx, hlock, hpreset]

/-- The preset in use has failed, and the next is asked for (R178). -/
theorem State.presetWindow_of_next {k : Nat} (hlin : (s.port n).linMode = false) (hpreset : (s.port n).preset = k) (hk : k < 2) :
    s.presetWindow n false = (s.updPort n (fun p => { p with
      preset := k + 1, reqSet := 1, psel := if k + 1 = 1 then 2 else 0 })).trainOut n := by
  have hmore : ¬ 2 ≤ k := by omega
  simp [State.presetWindow, hts, hrx, hlin, hpreset, hmore, Nat.lt_succ_of_lt hk]

/-- The last preset has failed, and none is left (R178). -/
theorem State.presetWindow_of_last (hpreset : (s.port n).preset = 2) :
    s.presetWindow n false = (s.updPort n (fun p => { p with preset := 3, reqSet := 0 })).trainOut n := by
  simp [State.presetWindow, hts, hrx, hpreset]

end

/-- A port in CONFIRM enters LINK_UP (R176, R177). -/
theorem State.enterUp_of_confirm {s : State} {n : Nat} (h : (s.port n).ts = .confirm) :
    s.enterUp n = ((s.updPort n (fun p => { p with ts := .linkUp, attempt := false })).setReg (Reg.PHY_TRN_MS n)
      (word ((s.sys.clk - (s.port n).began) / 400000))).laneUp n := if_pos h

/-- Settles O25, row by row: each takes the branch that the state of its port selects; the third ready block of three goes by what
the port's transmitter and receiver leave of its progress. -/
theorem portTraining : Obligations.PortTraining := by
  intro s n hup
  have hn := hup.port_lt n
  refine ⟨?lock, ?noLock, ?polarity, ?badCrc, ?ready, ?request, ?adapt, ?attempt, ?failed, ?fallback, ?confirm, ?retrain⟩
  case lock =>
    intro k hpres hlight hts hvalid
    refine live_of_eq hup.on ((if_pos (by simp [hpres, hlight])).trans ?_)
    have hport := State.port_updPort (s.bumpBy (Reg.PHY_SH_ERR n) k.toNat) n
      (fun p => { p with blockLock := true, cdr := true }) hn
    rw [State.shErr_of_present k hpres]
    exact State.lockCheck_of_ready (by rw [hport]; exact hts) (by rw [hport]) (by rw [hport]; exact hvalid)
  case noLock =>
    intro k hpres hlight hstay
    refine live_of_eq hup.on ((if_pos (by simp [hpres, hlight])).trans ?_)
    have hport := State.port_updPort (s.bumpBy (Reg.PHY_SH_ERR n) k.toNat) n
      (fun p => { p with blockLock := true, cdr := true }) hn
    rw [State.shErr_of_present k hpres]
    exact State.lockCheck_of_not_ready (by rw [hport]; exact hstay)
  case polarity => exact fun hatt hlock => live_pos hup.on (by simp [hatt, hlock])
  case badCrc =>
    intro b hpres href hparse
    refine live_of_eq hup.on ((if_pos (by simp [hpres, href])).trans ?_)
    simp only [State.trainAct, hparse]
  case ready =>
    intro b t hpres href hparse hlane hts hown hcnt hready
    exact ⟨s.blockTaken n t,
      live_of_eq hup.on ((if_pos (by simp [hpres, href])).trans (State.trainAct_of_adapt hparse hlane hts)),
      State.blockTaken_confirms hn hts hown hcnt hready⟩
  case request => exact fun hts hreq => live_pos hup.on (by simpa [hts] using hreq)
  case adapt => exact fun h => live_pos hup.on (by simpa using h)
  case attempt | failed => exact fun h => live_pos hup.on h
  case fallback =>
    intro hts hrx
    exact ⟨fun hlock hpreset => live_of_eq hup.on (State.presetWindow_of_pass hts hrx hlock hpreset),
      fun hlin hpreset => live_of_eq hup.on (State.presetWindow_of_next (k := 0) hts hrx hlin hpreset (by decide)),
      fun hlin hpreset => live_of_eq hup.on (State.presetWindow_of_next (k := 1) hts hrx hlin hpreset (by decide)),
      fun hpreset => live_of_eq hup.on (State.presetWindow_of_last hts hrx hpreset)⟩
  case confirm =>
    exact fun hts => ⟨live_pos hup.on hts, fun d b e => live_of_eq hup.on (State.enterUp_of_confirm hts)⟩
  case retrain => exact fun h => live_of_eq hup.on (State.retrain_of_linkUp h)

end Sys2Proof.Machine
end

section
/-! PROOFS. A high error rate (chapter 07): what PHY_STAT shows of it, and the flag that outlasts the retraining. -/
namespace Sys2Proof.Machine

/-! ### PHY_STAT -/

theorem testBit_bitsOf (l : List Bool) (i : Nat) : (bitsOf l).testBit i = l.getD i false := by
  induction l generalizing i with
  | nil => simp [bitsOf]
  | cons b l ih =>
    have hbit : bitsOf (b :: l) = Nat.bit b (bitsOf l) := by
      cases b <;> simp [bitsOf, b2n, Nat.bit_val, Nat.add_comm]
    cases i with
    | zero => rw [hbit, Nat.testBit_bit_zero, List.getD_cons_zero]
    | succ i => rw [hbit, Nat.testBit_bit_succ, ih, List.getD_cons_succ]

/-- A bit above a field of `k` bits. -/
theorem bit_word_above {c k i : Nat} (m : Nat) (hc : c < 2 ^ k) (hi : k + i < 32) :
    bit (word (c + 2 ^ k * m)) (k + i) = m.testBit i := by
  rw [bit, word, BitVec.getLsbD_ofNat, Nat.add_comm c, Nat.testBit_two_pow_mul_add _ hc]
  simp [hi]

theorem TState.code_lt (x : TState) : x.code < 2 ^ 4 := by cases x <;> decide

/-- A port's PHY_STAT lies in the lane hub's window and is live (R187). -/
theorem State.readReg_phyStat (s : State) {n : Nat} (hn : n < 22) : s.readReg (Reg.PHY_STAT n) = s.readPhy n := by
  have hblock : Reg.PHY_STAT n / 0x10000 = 4 := by unfold Reg.PHY_STAT; omega
  have hwindow : Reg.PHY_STAT n - 0x40000 < 0x5800 := by unfold Reg.PHY_STAT; omega
  have hport : (Reg.PHY_STAT n - 0x40000) / 0x400 = n := by unfold Reg.PHY_STAT; omega
  have hoffset : (Reg.PHY_STAT n - 0x40000) % 0x400 = 0x304 := by unfold Reg.PHY_STAT; omega
  have hlive : s.live? (Reg.PHY_STAT n) = some (s.readPhy n) := by
    simp only [State.live?, hblock, State.readLnh, hwindow, hport, hoffset, if_true]
  rw [State.readReg, hlive]

/-- PHY_STAT.HI_BER shows a report for 125 µs (R168). -/
theorem State.readPhy_hiBer (s : State) (n : Nat) :
    bit (s.readPhy n) 7 = ((s.port n).hiBer && decide (s.sys.clk < (s.port n).hiBerClk + 50000)) :=
  (bit_word_above (i := 3) _ (TState.code_lt _) (by decide)).trans (testBit_bitsOf _ 3)

/-! ### What the lane hub leaves of the registers -/

/-- One of two states with the same registers. -/
theorem State.regs_ite {c : Prop} [Decidable c] {s t u : State} (ht : t.sys.regs = s.sys.regs) (hu : u.sys.regs = s.sys.regs) :
    (if c then t else u).sys.regs = s.sys.regs := by
  split <;> assumption

@[simp] theorem State.updLane_regs (s : State) (n : Nat) (f : Lane → Lane) : (s.updLane n f).sys.regs = s.sys.regs := rfl

@[simp] theorem State.marginAt_regs (s : State) (k : Nat) : (s.marginAt k).sys.regs = s.sys.regs := rfl

theorem State.foldl_regs {α : Type} {f : State → α → State} (h : ∀ t a, (f t a).sys.regs = t.sys.regs) (s : State)
    (l : List α) : (l.foldl f s).sys.regs = s.sys.regs :=
  List.foldlRecOn (motive := fun t : State => t.sys.regs = s.sys.regs) l f rfl fun t ht a _ => (h t a).trans ht

@[simp] theorem State.line_regs (s : State) (n : Nat) (l : List Nat) : (s.line n l).sys.regs = s.sys.regs := by
  unfold State.line
  split <;> rfl

@[simp] theorem State.tx_regs (s : State) (n : Nat) (name : String) (l : List Nat) : (s.tx n name l).sys.regs = s.sys.regs :=
  State.line_regs _ _ _

@[simp] theorem State.trainOut_regs (s : State) (n : Nat) : (s.trainOut n).sys.regs = s.sys.regs := by
  unfold State.trainOut State.when
  split
  · exact State.line_regs _ _ _
  · rfl

@[simp] theorem State.startAudit_regs (s : State) (a : Nat) : (s.startAudit a).sys.regs = s.sys.regs := by
  unfold State.startAudit State.sendAudits
  split
  · rfl
  · exact State.foldl_regs (fun t v => State.tx_regs t _ _ _) _ _

@[simp] theorem State.sendRegion_regs (s : State) (n p : Nat) (oos : Bool) : (s.sendRegion n p oos).sys.regs = s.sys.regs := by
  unfold State.sendRegion State.when
  extract_lets k ws t
  have ht : t.sys.regs = s.sys.regs := State.regs_ite (State.marginAt_regs _ _) rfl
  exact (State.tx_regs _ _ _ _).trans ((State.updLane_regs _ _ _).trans ht)

@[simp] theorem State.identAll_regs (s : State) (p : Nat) : (s.identAll p).sys.regs = s.sys.regs := by
  unfold State.identAll
  refine State.foldl_regs (fun t j => ?_) s _
  rfl

@[simp] theorem State.requal_regs (s : State) (n : Nat) : (s.requal n).sys.regs = s.sys.regs := by
  unfold State.requal
  split
  · rfl
  next p =>
    extract_lets ok t
    have ht : t.sys.regs = s.sys.regs := State.regs_ite (State.startAudit_regs _ _) rfl
    exact State.regs_ite ((State.identAll_regs _ _).trans ht) ht

/-- The registers that a port's leaving LINK_UP may change: the moves and events of the lane hub. -/
def downRegs : List Nat := [Reg.LNH_MOVE_CNT, Reg.LNH_FLAGS, Reg.EVLOG_FLAGS]

section
variable (s : State) {a : Nat} (ha : a ∉ downRegs)
include ha

theorem State.reg_lnhFlag (b q : Nat) : (s.setFlagEach Reg.LNH_FLAGS b q).reg a = s.reg a := by
  simp only [downRegs, List.mem_cons, List.not_mem_nil, or_false, not_or] at ha
  obtain ⟨-, hflags, hlog⟩ := ha
  exact State.reg_setFlagEach_ne _ _ _ _ _ _ hflags hlog

/-- A move of an association counts and flags it (R210). -/
theorem State.reg_moveTo (p n : Nat) : (s.moveTo p n).reg a = s.reg a := by
  have hcnt : a ≠ Reg.LNH_MOVE_CNT := fun h => ha (h ▸ List.mem_cons_self ..)
  unfold State.moveTo
  extract_lets t u v
  have hv : v.sys.regs = u.sys.regs := State.regs_ite (State.sendRegion_regs _ _ _ _) rfl
  calc ((v.startAudit p).requal n).reg a
      = u.reg a := State.reg_of_regs ((State.requal_regs _ _).trans ((State.startAudit_regs _ _).trans hv)) a
    _ = (t.bump Reg.LNH_MOVE_CNT).reg a := State.reg_lnhFlag _ ha _ _
    _ = s.reg a := State.reg_setReg_ne t _ _ _ hcnt

theorem State.reg_routeLost (p : Nat) : (s.routeLost p).reg a = s.reg a := by
  unfold State.routeLost
  split
  · exact s.reg_moveTo ha _ _
  · dsimp only
    split
    · exact State.reg_lnhFlag _ ha _ _
    · rfl

/-- A port's leaving LINK_UP loses its lane, and the route where it was one (R186, R210). -/
theorem State.reg_laneDown (n : Nat) : (s.laneDown n).reg a = s.reg a := by
  unfold State.laneDown
  split
  · rfl
  · extract_lets was t
    split
    · split
      · exact State.reg_routeLost t ha _
      · rfl
    · rfl

end

/-! ### HI_BER -/

/-- No flag of a port is among the registers of moves and events. -/
theorem phyFlags_not_mem_downRegs (n : Nat) : Reg.PHY_FLAGS n ∉ downRegs := by
  simp only [downRegs, List.mem_cons, List.not_mem_nil, or_false, not_or, Reg.PHY_FLAGS, Reg.LNH_MOVE_CNT, Reg.LNH_FLAGS,
    Reg.EVLOG_FLAGS]
  omega

theorem State.reg_startAttempt (s : State) (n : Nat) {a : Nat} (ha : a ≠ Reg.PHY_TRN_CNT n) :
    (s.startAttempt n).reg a = s.reg a := by
  unfold State.startAttempt
  exact (State.reg_of_regs (State.trainOut_regs _ _) a).trans (State.reg_setReg_ne _ _ _ _ ha)

/-- A flag of a port outlasts the retraining of its port. -/
theorem State.flag_retrained (s : State) (n b : Nat) :
    ((s.startAttempt n).laneDown n).flag (Reg.PHY_FLAGS n) b = s.flag (Reg.PHY_FLAGS n) b := by
  have hcnt : Reg.PHY_FLAGS n ≠ Reg.PHY_TRN_CNT n := by
    unfold Reg.PHY_FLAGS Reg.PHY_TRN_CNT
    omega
  rw [State.flag, State.reg_laneDown _ (phyFlags_not_mem_downRegs n), State.reg_startAttempt _ _ hcnt, State.flag]

/-- A report of HI_BER: its invalid headers, the status and its clock, and the flag (R168, R185). -/
def State.hiBerSeen (s : State) (n : Nat) (k : Word) : State :=
  ((s.bumpBy (Reg.PHY_SH_ERR n) k.toNat).updPort n (fun p => { p with hiBer := true, hiBerClk := s.sys.clk })).setFlag
    (Reg.PHY_FLAGS n) 2 n

theorem State.port_hiBerSeen (s : State) {n : Nat} (k : Word) (hn : n < s.lnk.ports.length) :
    (s.hiBerSeen n k).port n = { s.port n with hiBer := true, hiBerClk := s.sys.clk } :=
  (State.port_of_lnk (State.setFlag_lnk ..) n).trans (State.port_updPort (s.bumpBy _ _) n _ hn)

theorem State.port_hiBerSeen_ne (s : State) {n j : Nat} (k : Word) (h : j ≠ n) : (s.hiBerSeen n k).port j = s.port j :=
  (State.port_of_lnk (State.setFlag_lnk ..) j).trans (State.port_updPort_ne (s.bumpBy _ _) n j _ h)

theorem State.hiBerSeen_flag {s : State} (n : Nat) (k : Word) (h : s.sound = true) :
    (s.hiBerSeen n k).flag (Reg.PHY_FLAGS n) 2 = true := by
  have hlog : Reg.PHY_FLAGS n ≠ Reg.EVLOG_FLAGS := by
    unfold Reg.PHY_FLAGS Reg.EVLOG_FLAGS
    omega
  have hbump := State.bumpBy_steady s (Reg.PHY_SH_ERR n) k.toNat h
  exact State.flag_setFlag _ _ _ _ _
    (State.sound_of_eq (State.updPort_steady _ n _ (State.sound_of_eq hbump h)) (State.sound_of_eq hbump h)) hlog (by decide)

/-- Settles O56: a report sets the status of its port and the flag, and changes no other port; held in LINK_UP it retrains the
port, and the flag stays. -/
theorem highErrorRate : Obligations.HighErrorRate := by
  rintro s n k hup hpres u rfl
  rw [← State.hiBerSeen]
  have hn := hup.port_lt n
  have hport := s.port_hiBerSeen k hn
  have hflag := State.hiBerSeen_flag n k hup.2
  have hexec (held : Bool) : exec (.hiBer ⟨n, k⟩ held) s =
      .next (if held then (s.hiBerSeen n k).retrain n else s.hiBerSeen n k) := by
    refine live_of_eq hup.on ((if_pos hpres).trans ?_)
    rw [State.shErr_of_present k hpres]
    rfl
  refine ⟨⟨hexec false, hport, ?status, hflag, fun j hj => s.port_hiBerSeen_ne k hj⟩, ?held⟩
  case status =>
    have hclk : (s.hiBerSeen n k).sys.clk = s.sys.clk := State.setFlag_sys_clk ..
    rw [State.readReg_phyStat _ n.isLt, State.readPhy_hiBer, hport, hclk]
    simp
  case held =>
    intro hlink
    have hlink' : (s.hiBerSeen n k).linkUp n = true :=
      (State.linkUp_of_ts (by rw [hport])).trans hlink
    have hlen : n < (s.hiBerSeen n k).lnk.ports.length := by
      rw [State.hiBerSeen, State.setFlag_lnk]
      simpa using hn
    exact ⟨_, (hexec true).trans (congrArg _ (State.retrain_of_linkUp hlink')), rfl, State.startAttempt_ts _ hlen,
      (State.flag_retrained _ _ _).trans hflag⟩

end Sys2Proof.Machine
end

section
/-! PROOFS. Bulk blocks that come in (chapter 08), and what the far end says of those that went out: credits, acknowledgements,
audits. -/
namespace Sys2Proof.Machine

/-! ### What a block sent leaves -/

/-- A block on the line moves its port's scrambler and adds to the record of outputs, and nothing else. -/
theorem State.line_form (s : State) (n : Nat) (l : List Nat) : ∃ (ports : List Port) (out : List Out),
    s.line n l = { s with lnk := { s.lnk with ports := ports }, sys := { s.sys with out := out } } := by
  unfold State.line
  split
  · exact ⟨s.lnk.ports, s.sys.out, rfl⟩
  · exact ⟨_, _, rfl⟩

theorem State.tx_form (s : State) (n : Nat) (name : String) (f : List Nat) : ∃ (ports : List Port) (out : List Out),
    s.tx n name f = { s with lnk := { s.lnk with ports := ports }, sys := { s.sys with out := out } } := by
  obtain ⟨ports, out, h⟩ := State.line_form (s.emit (.lane n name f)) n (laneWire name f)
  exact ⟨ports, out, h⟩

@[simp] theorem State.tx_mo (s : State) (n : Nat) (name : String) (f : List Nat) : (s.tx n name f).mo = s.mo := by
  obtain ⟨_, _, h⟩ := s.tx_form n name f
  rw [h]

@[simp] theorem State.tx_assocs (s : State) (n : Nat) (name : String) (f : List Nat) :
    (s.tx n name f).lnk.assocs = s.lnk.assocs := by
  obtain ⟨_, _, h⟩ := s.tx_form n name f
  rw [h]

theorem State.foldl_assocs {α : Type} {f : State → α → State} (h : ∀ t x, (f t x).lnk.assocs = t.lnk.assocs) (s : State)
    (l : List α) : (l.foldl f s).lnk.assocs = s.lnk.assocs :=
  List.foldlRecOn (motive := fun t : State => t.lnk.assocs = s.lnk.assocs) l f rfl fun t ht x _ => (h t x).trans ht

@[simp] theorem State.bumpLane_lnk (s : State) (n a k : Nat) : (s.bumpLane n a k).lnk = s.lnk := by
  unfold State.bumpLane
  split <;> rfl

/-! ### Link blocks and associations -/

/-- A port in LINK_UP takes a link block without a change of its state (R176). -/
theorem State.linkBlock_of_linkUp {s : State} {n : Nat} (h : s.linkUp n = true) : s.linkBlock n = s :=
  State.linkBlock_of_ne_confirm (by rw [(s.linkUp_iff n).mp h]; decide)

theorem State.sound_linkBlock {s : State} (h : s.sound = true) (n : Nat) : (s.linkBlock n).sound = true :=
  State.sound_of_eq (s.linkBlock_steady n h) h

/-- Every association of a sound unit is there. -/
theorem State.assoc_lt_of_sound {s : State} (h : s.sound = true) {a : Nat} (ha : a < 21) : a < s.lnk.assocs.length :=
  ha.trans_eq (State.sound_lens h).2.2.symm

theorem State.assoc_of_assocs {s t : State} (h : t.lnk.assocs = s.lnk.assocs) (a : Nat) : t.assoc a = s.assoc a :=
  congrArg (fun l : List Assoc => l.getD a Assoc.fresh) h

/-- An update that keeps a part of every association keeps it of each. -/
theorem State.updAssoc_keeps {α : Type} {f : Assoc → Assoc} (g : Assoc → α) (s : State) (p a : Nat)
    (hf : ∀ x, g (f x) = g x := by exact fun _ => rfl) : g ((s.updAssoc p f).assoc a) = g (s.assoc a) := by
  by_cases hap : a = p
  · subst hap
    rcases lt_or_ge a s.lnk.assocs.length with hlt | hge
    · rw [State.assoc_updAssoc s a f hlt, hf]
    · refine congrArg g (State.assoc_of_assocs ?_ a)
      exact List.modify_eq_self hge
  · rw [State.assoc_updAssoc_ne s p a f hap]

/-! ### Bulk blocks that come in -/

theorem bulkBroken_eq_false {b : BulkBlk} (hsome : b.payload.length ≠ 0) (hmax : b.payload.length ≤ 256)
    (hwhole : b.payload.length % 8 = 0) : bulkBroken b true = false := by
  simp [bulkBroken, hmax, hwhole, List.length_eq_zero_iff.not.mp hsome]

/-- An association that has accepted a block of VC `v` + 1: its place used, the acknowledgement and the advance of LIMIT owed. -/
def Assoc.accepted (x : Assoc) (v clk : Nat) : Assoc :=
  { x with
    used := x.used.set v (x.used.getD v 0 + 1), expect := x.expect + 1, nakSent := false,
    ackSince := if x.ackPend = 0 then clk else x.ackSince, ackPend := x.ackPend + 1,
    limSince := x.limSince.set v (some ((x.limSince.getD v none).getD clk)) }

/-- The KIND of a block is one that its channel has (R227, R305, R411). -/
def kindOk (b : BulkBlk) : Bool :=
  !(decide ((b.payload.headD 0).toNat = 0) || decide ((b.payload.headD 0).toNat > if b.vc.val = 1 then 6 else 3))

theorem kindOk_eq_false_iff {b : BulkBlk} : kindOk b = false ↔
    (b.payload.headD 0).toNat = 0 ∨ (if b.vc.val = 1 then 6 else 3) < (b.payload.headD 0).toNat := by
  simp only [kindOk, Bool.not_eq_false', Bool.or_eq_true, decide_eq_true_eq, gt_iff_lt]

section
variable {s : State} {n a : Nat} {b : BulkBlk} (hvc : b.vc ≠ 0)
include hvc

/-- A block that fails asks for a NAK (R203, R205). -/
theorem State.bulkRx_of_broken {crcOk : Bool} (hbroken : bulkBroken b crcOk = true) : s.bulkRx n a b crcOk = s.nakOut a :=
  (if_neg hvc).trans (if_pos hbroken)

variable {crcOk : Bool} (hgood : bulkBroken b crcOk = false)
include hgood

theorem State.bulkRx_of_repeated (hseq : b.seq ≠ (s.assoc a).expect) (hnear : ((s.assoc a).expect - b.seq).toNat ≤ 64) :
    s.bulkRx n a b crcOk = s.ackOut a false :=
  (if_neg hvc).trans ((if_neg (ne_true_of_eq_false hgood)).trans ((if_neg hseq).trans (if_pos hnear)))

/-- A block that is neither the one expected nor one of the 64 before it is out of order (R205). -/
theorem State.bulkRx_of_gap (hseq : b.seq ≠ (s.assoc a).expect) (hfar : 64 < ((s.assoc a).expect - b.seq).toNat) :
    s.bulkRx n a b crcOk = s.nakOut a :=
  (if_neg hvc).trans ((if_neg (ne_true_of_eq_false hgood)).trans ((if_neg hseq).trans (if_neg hfar.not_ge)))

/-- The block expected, while neither the eighth acknowledgement nor a fourth place of credit is owed (R204, R206). -/
theorem State.bulkRx_of_expected (hseq : b.seq = (s.assoc a).expect) (ha : a < s.lnk.assocs.length)
    (hack : (s.assoc a).ackPend < 7) {u : State} (hu : u = s.updAssoc a (fun x => x.accepted (b.vc.val - 1) s.sys.clk))
    (hlim : (u.rxLimit a (b.vc.val - 1) - (u.assoc a).limitTx.getD (b.vc.val - 1) 0).toNat < 4) :
    s.bulkRx n a b crcOk =
      if a < 20 ∧ kindOk b = false then u.badKind b.vc.val else u.tx n "DELIVERED" (b.vc.val :: b.payload.map (·.toNat)) := by
  have hpend : ¬ (u.assoc a).ackPend ≥ 8 := by
    rw [hu, State.assoc_updAssoc _ _ _ ha]
    exact (Nat.succ_lt_succ hack).not_ge
  have hbulk : s.bulkRx n a b crcOk =
      let s := if (u.assoc a).ackPend ≥ 8 then (u.ackOut a false).concAcked a else u
      let s := if (s.rxLimit a (b.vc.val - 1) - (s.assoc a).limitTx.getD (b.vc.val - 1) 0).toNat ≥ 4 then
        s.creditOut a (b.vc.val - 1) else s
      if (decide (a < 20) && !kindOk b) = true then s.badKind b.vc.val
      else s.tx n "DELIVERED" (b.vc.val :: b.payload.map (·.toNat)) := by
    rw [hu, kindOk, Bool.not_not]
    exact (if_neg hvc).trans ((if_neg (ne_true_of_eq_false hgood)).trans (if_pos hseq))
  rw [hbulk, if_neg hpend]
  dsimp only
  rw [if_neg hlim.not_ge]
  simp

end

/-- A bulk block of association `a` comes in; one that the pair link delivers may bring a shadow unit mirrored state. -/
theorem exec_bulkBlockRx {s0 s : State} {lane : Fin 22} {a : Nat} (hup : s0.up) (hs : s = s0.linkBlock lane)
    (ha : s.assocOf lane = some a) (b : BulkBlk) (crcOk : Bool) : exec (.bulkBlockRx lane b crcOk) s0 =
      .next (if a = 20 ∧ s.delivers a b crcOk = true then (s.bulkRx lane a b crcOk).mirrorIn b
        else s.bulkRx lane a b crcOk) := by
  subst hs
  exact live_of_eq hup.on (by simp only [ha])

theorem State.delivers_iff {s : State} {a : Nat} {b : BulkBlk} {crcOk : Bool} :
    s.delivers a b crcOk = true ↔ b.vc ≠ 0 ∧ bulkBroken b crcOk = false ∧ b.seq = (s.assoc a).expect := by
  simp [State.delivers, and_assoc]

theorem State.mirrorIn_of_not_shadowing {s : State} {b : BulkBlk} (h : s.shadowing = false) : s.mirrorIn b = s :=
  if_pos (by simp [h])

theorem State.mirrorIn_of_none (s : State) {b : BulkBlk} (h : b.mir = none) : s.mirrorIn b = s := by
  simp only [State.mirrorIn, h, ite_self]

theorem State.mirrorIn_entry {s : State} {b : BulkBlk} {c : CmdCore} (hshadow : s.shadowing = true)
    (h : b.mir = some (.entry c)) : s.mirrorIn b =
      { s with cmd := { s.cmd with core := c }, pair := { s.pair with entryNew := true, coreSeen := true } } := by
  simp only [State.mirrorIn, hshadow, h, Bool.not_true, Bool.false_eq_true, if_false]

/-- What goes out on a lane leaves the role. -/
@[simp] theorem State.shadowing_tx (s : State) (n : Nat) (name : String) (f : List Nat) :
    (s.tx n name f).shadowing = s.shadowing := by
  rw [State.shadowing, State.tx_mo, State.shadowing]

/-! ### What the far end says of bulk blocks -/

theorem ackedBy_of_head {kept : List BulkBlk} {b : BulkBlk} (seq : Byte) (h : kept.head? = some b) :
    ackedBy kept seq = if (seq - b.seq).toNat < kept.length then (seq - b.seq).toNat + 1 else 0 := by
  obtain ⟨tl, rfl⟩ := List.head?_eq_some_iff.mp h
  rfl

/-- An acknowledgement that covers kept blocks drops them, and the count of replays begins anew (R205, R206). -/
theorem State.ackAct_of_advance {s : State} {n a : Nat} {seq : Byte} (h : 0 < ackedBy (s.assoc a).kept seq) :
    s.ackAct n a seq false = s.updAssoc a (fun x => { x with
      kept := x.kept.drop (ackedBy (s.assoc a).kept seq), replays := 0, advClk := s.sys.clk }) := by
  simp only [State.ackAct, h, if_true, Bool.false_eq_true, if_false]

/-- Off the pair link no reply waits for an acknowledgement. -/
theorem State.ackSeen_of_lane {s : State} {n a : Nat} (seq : Byte) (nak : Bool) (h : s.assocOf n = some a) (ha : a < 20) :
    s.ackSeen n seq nak = s.ackAct n a seq nak := by
  simp only [State.ackSeen, h]
  exact if_pos ha.ne

/-! ### Audits -/

/-- What an audit settles of an association, and the route it stands on (R208). -/
def Assoc.audited (x : Assoc) : Option Nat × List (BitVec 16) × Bool × Bool × Bool :=
  (x.route, x.limit, x.audit, x.auditDone, x.auditRx)

theorem State.audited_of_assocs {s t : State} (h : t.lnk.assocs = s.lnk.assocs) (a : Nat) :
    (t.assoc a).audited = (s.assoc a).audited := congrArg Assoc.audited (State.assoc_of_assocs h a)

theorem State.sendAudits_audited (s : State) (p a : Nat) : ((s.sendAudits p).assoc a).audited = (s.assoc a).audited := by
  unfold State.sendAudits
  split
  · rfl
  · refine (State.audited_of_assocs (State.foldl_assocs (fun t _ => State.tx_assocs t _ _ _) _ _) a).trans ?_
    exact State.updAssoc_keeps Assoc.audited s p a

/-- A replay that the number of replays still allows sends kept blocks, now or later, and settles nothing. -/
theorem State.replay_audited {s : State} {a : Nat} (h : (s.assoc a).replays < s.fld Reg.LNH_CFG 0 4) :
    ((s.replay a).assoc a).audited = (s.assoc a).audited := by
  unfold State.replay
  split
  · rfl
  next n _ =>
    dsimp only
    split
    · rfl
    · rw [if_neg h.not_ge]
      split
      · exact State.updAssoc_keeps Assoc.audited s a a
      · refine (State.audited_of_assocs (State.foldl_assocs (fun t _ => State.tx_assocs t _ _ _) _ _) a).trans ?_
        rw [State.audited_of_assocs (congrArg Lnk.assocs (State.bumpLane_lnk _ _ _ _))]
        exact State.updAssoc_keeps Assoc.audited s a a

/-- Requests for identity only wait in the queue (R228). -/
theorem State.identAll_audited (s : State) (p a : Nat) : ((s.identAll p).assoc a).audited = (s.assoc a).audited := by
  unfold State.identAll
  refine List.foldlRecOn (motive := fun t : State => (t.assoc a).audited = (s.assoc a).audited) _ _ rfl fun t ht j _ => ?_
  exact Eq.trans (State.updAssoc_keeps Assoc.audited (t.updSm _ _) p a) ht

/-- Qualification begins an audit only for an association without a route (R201, R210). -/
theorem State.requal_audited {s : State} {a : Nat} (n : Nat) (h : (s.assoc a).route ≠ none) :
    ((s.requal n).assoc a).audited = (s.assoc a).audited := by
  unfold State.requal
  split
  · rfl
  next p _ =>
    extract_lets ok t q first u
    have ht : (t.assoc a).audited = (s.assoc a).audited := by
      simp only [t]
      split
      next hbegin =>
        have hap : a ≠ p := by
          rintro rfl
          simp [h] at hbegin
        refine (State.sendAudits_audited _ p a).trans ?_
        rw [State.assoc_updAssoc_ne _ _ _ _ hap, State.assoc_updAssoc_ne _ _ _ _ hap]
      · rfl
    split
    · exact (State.identAll_audited _ p a).trans
        ((State.updAssoc_keeps Assoc.audited u p a).trans ht)
    · exact ht

/-- An association that has taken what an AUDIT says of its VC (R208). -/
def Assoc.limitTaken (y : Assoc) (x : Audit) : Assoc :=
  { y with
    limit := y.limit.set (x.vc.val - 1) x.limit,
    consumed := y.consumed.set (x.vc.val - 1) (x.used + BitVec.ofNat 16 ((y.kept.filter (fun b => b.vc == x.vc)).length)) }

theorem State.assoc_auditVc {s : State} {a : Nat} (ha : a < s.lnk.assocs.length) (n : Nat) (x : Audit) :
    (s.auditVc n a x).assoc a = (s.assoc a).limitTaken x := by
  have hassocs : (s.auditVc n a x).lnk.assocs = (s.updAssoc a (fun y => { y with
      limit := y.limit.set (x.vc.val - 1) x.limit,
      consumed := y.consumed.set (x.vc.val - 1)
        (x.used + BitVec.ofNat 16 (((s.assoc a).kept.filter (fun b => b.vc == x.vc)).length)) })).lnk.assocs := by
    unfold State.auditVc
    dsimp only
    split <;> rfl
  rw [State.assoc_of_assocs hassocs, State.assoc_updAssoc _ _ _ ha, Assoc.limitTaken]

/-- A correction of credits is counted and flagged in registers of its lane (R208). -/
theorem State.auditVc_lnhCfg (s : State) (n a : Nat) (x : Audit) : (s.auditVc n a x).reg Reg.LNH_CFG = s.reg Reg.LNH_CFG := by
  unfold State.auditVc
  dsimp only
  split
  next hfix =>
    have hn : n < 20 := by simpa using (Bool.and_eq_true_iff.mp hfix).2
    rw [State.reg_setFlagEach_ne _ _ _ _ _ _ (by unfold Reg.LNH_CFG Reg.LNK_FLAGS; omega) (by decide)]
    exact State.reg_setReg_ne _ _ _ _ (by unfold Reg.LNH_CFG Reg.LNK_CREDIT_FIX; omega)
  · rfl

/-- The three AUDITs are taken in turn. -/
theorem State.foldl_auditVc {a : Nat} (n : Nat) (l : List Audit) {s : State} (h : s.sound = true) (ha : a < 21) :
    (l.foldl (fun t x => t.auditVc n a x) s).assoc a = l.foldl Assoc.limitTaken (s.assoc a) ∧
      (l.foldl (fun t x => t.auditVc n a x) s).reg Reg.LNH_CFG = s.reg Reg.LNH_CFG := by
  induction l generalizing s with
  | nil => exact ⟨rfl, rfl⟩
  | cons x l ih =>
    obtain ⟨hassoc, hreg⟩ := ih (State.sound_of_eq (s.auditVc_steady n a x h) h)
    exact ⟨hassoc.trans (congrArg (l.foldl Assoc.limitTaken) (State.assoc_auditVc (State.assoc_lt_of_sound h ha) n x)),
      hreg.trans (s.auditVc_lnhCfg n a x)⟩

/-- An association whose audit is complete: what the partner has received is dropped, and the limits are taken (R208). -/
def Assoc.auditEnd (x : Assoc) (k clk : Nat) (l : List Audit) : Assoc :=
  l.foldl Assoc.limitTaken
    { x with kept := x.kept.drop k, auditDone := true, audit := false, advClk := clk, replays := if k > 0 then 0 else x.replays }

theorem Assoc.foldl_limitTaken_replays (l : List Audit) (x : Assoc) : (l.foldl Assoc.limitTaken x).replays = x.replays :=
  List.foldlRecOn (motive := fun y : Assoc => y.replays = x.replays) l _ rfl fun _ hy _ _ => hy

theorem Assoc.auditEnd_replays_le (x : Assoc) (k clk : Nat) (l : List Audit) : (x.auditEnd k clk l).replays ≤ x.replays := by
  rw [Assoc.auditEnd, Assoc.foldl_limitTaken_replays]
  dsimp only
  split
  · exact Nat.zero_le _
  · exact le_rfl

theorem Assoc.auditEnd_audited {x : Assoc} {x1 x2 x3 : Audit} (k clk : Nat) (hlen : x.limit.length = 3)
    (h1 : x1.vc = 1) (h2 : x2.vc = 2) (h3 : x3.vc = 3) :
    (x.auditEnd k clk [x1, x2, x3]).audited = (x.route, [x1.limit, x2.limit, x3.limit], false, true, x.auditRx) := by
  obtain ⟨l1, l2, l3, hl⟩ := List.length_eq_three.mp hlen
  simp [Assoc.audited, Assoc.auditEnd, Assoc.limitTaken, hl, h1, h2, h3]

section
variable {s : State} {a : Nat} (h : s.sound = true) (ha : a < 21) (n : Nat) (next : Byte) (l : List Audit)
include h ha

theorem State.assoc_auditTake : (s.auditTake n a next l).assoc a =
    (s.assoc a).auditEnd (ackedBy (s.assoc a).kept (next - 1)) s.sys.clk l := by
  refine (State.foldl_auditVc n l (State.sound_of_eq (s.updAssoc_steady a _ h) h) ha).1.trans ?_
  rw [State.assoc_updAssoc _ _ _ (State.assoc_lt_of_sound h ha), Assoc.auditEnd]

theorem State.auditTake_lnhCfg : (s.auditTake n a next l).reg Reg.LNH_CFG = s.reg Reg.LNH_CFG :=
  (State.foldl_auditVc n l (State.sound_of_eq (s.updAssoc_steady a _ h) h) ha).2

end

/-- The first three AUDITs taken, and with DONE seen in all of them no own AUDIT owed any longer (R208). -/
def State.auditSettled (s : State) (n a : Nat) (next : Byte) (l : List Audit) (seen : Bool) : State :=
  (s.auditTake n a next l).when seen (fun s => s.updAssoc a (fun x => { x with auditRx := false }))

section
variable {s : State} {a : Nat} (h : s.sound = true) (ha : a < 21) (n : Nat) (next : Byte) (l : List Audit) (seen : Bool)
include h ha

theorem State.assoc_auditSettled : ∃ k, (s.auditSettled n a next l seen).assoc a =
    { (s.assoc a).auditEnd k s.sys.clk l with auditRx := ((s.assoc a).auditEnd k s.sys.clk l).auditRx && !seen } := by
  refine ⟨ackedBy (s.assoc a).kept (next - 1), ?_⟩
  rw [← State.assoc_auditTake h ha n next l]
  have hlt := State.assoc_lt_of_sound (State.sound_of_eq (s.auditTake_steady n a next l h) h) ha
  cases seen with
  | false => simp [State.auditSettled, State.when]
  | true => simp [State.auditSettled, State.when, State.assoc_updAssoc _ _ _ hlt]

theorem State.auditSettled_lnhCfg : (s.auditSettled n a next l seen).reg Reg.LNH_CFG = s.reg Reg.LNH_CFG := by
  refine Eq.trans ?_ (State.auditTake_lnhCfg h ha n next l)
  cases seen <;> rfl

/-- Settling an audit adds no replay to those that LNH_CFG.RETRY_MAX allows. -/
theorem State.auditSettled_replays (hreplays : (s.assoc a).replays < s.fld Reg.LNH_CFG 0 4) :
    ((s.auditSettled n a next l seen).assoc a).replays < (s.auditSettled n a next l seen).fld Reg.LNH_CFG 0 4 := by
  obtain ⟨k, hassoc⟩ := State.assoc_auditSettled h ha n next l seen
  rw [State.fld, State.auditSettled_lnhCfg h ha, hassoc]
  exact ((s.assoc a).auditEnd_replays_le k s.sys.clk l).trans_lt hreplays

end

section
variable {s : State} {n a : Nat} {x1 x2 x3 : Audit} (h1 : x1.vc = 1) (h2 : x2.vc = 2) (h3 : x3.vc = 3)
include h1 h2 h3

theorem State.auditSettled_audited (h : s.sound = true) (ha : a < 21) (hlen : (s.assoc a).limit.length = 3) (next : Byte)
    (seen : Bool) : ((s.auditSettled n a next [x1, x2, x3] seen).assoc a).audited =
      ((s.assoc a).route, [x1.limit, x2.limit, x3.limit], false, true, (s.assoc a).auditRx && !seen) := by
  obtain ⟨k, hassoc⟩ := State.assoc_auditSettled h ha n next [x1, x2, x3] seen
  have hend := Assoc.auditEnd_audited k s.sys.clk hlen h1 h2 h3
  rw [hassoc]
  simp only [Assoc.audited, Prod.mk.injEq] at hend ⊢
  obtain ⟨hroute, hlimit, haudit, hdone, hrx⟩ := hend
  exact ⟨hroute, hlimit, haudit, hdone, by rw [hrx]⟩

variable (h12 : x2.nextSeq = x1.nextSeq) (h13 : x3.nextSeq = x1.nextSeq)
include h12 h13

/-- AUDITs that come again, from a partner that has not seen DONE, are answered (R208). -/
theorem State.auditAct_of_again (haudit : (s.assoc a).audit = false) (hdone : x1.done = false) (hn : 20 ≤ n) :
    s.auditAct n a [x1, x2, x3] = s.sendAudits a := by
  simp [State.auditAct, State.when, h1, h2, h3, h12, h13, haudit, hdone, hn]

/-- The first three AUDITs complete the audit of the own direction: limits as the partner says, and of the own AUDITs only those
that it has not seen DONE to are still owed (R208). -/
theorem State.auditAct_of_first (h : s.sound = true) (ha : a < 21) (haudit : (s.assoc a).audit = true)
    (hlen : (s.assoc a).limit.length = 3) (hreplays : (s.assoc a).replays < s.fld Reg.LNH_CFG 0 4)
    (hroute : n < 20 → (s.assoc a).route ≠ none) :
    ((s.auditAct n a [x1, x2, x3]).assoc a).audited = ((s.assoc a).route, [x1.limit, x2.limit, x3.limit], false, true,
      (s.assoc a).auditRx && !(x1.done && x2.done && x3.done)) := by
  generalize hseen : (x1.done && x2.done && x3.done) = seen
  have hact : s.auditAct n a [x1, x2, x3] =
      let u := ((s.auditSettled n a x1.nextSeq [x1, x2, x3] seen).replay a).sendAudits a
      if n < 20 then u.requal n else u := by
    simp [State.auditAct, State.auditSettled, State.when, h1, h2, h3, h12, h13, haudit, ← hseen]
  have hview := State.auditSettled_audited (n := n) h1 h2 h3 h ha hlen x1.nextSeq seen
  rw [← State.replay_audited (State.auditSettled_replays h ha n _ _ seen hreplays), ← State.sendAudits_audited _ a] at hview
  rw [hact]
  dsimp only
  split
  next hn => exact (State.requal_audited n fun hnone => hroute hn ((congrArg Prod.fst hview).symm.trans hnone)).trans hview
  · exact hview

end

/-- A lane that carries the bulk blocks of an association is its route (R209). -/
theorem State.route_of_bulkPort {s : State} {a n : Nat} (h : s.bulkPort a = some n) (hn : n < 20) :
    (s.assoc a).route = some n := by
  unfold State.bulkPort at h
  split at h
  · split at h
    · exact absurd (Option.some.inj h) (by omega)
    · split at h
      · exact absurd (Option.some.inj h) (by omega)
      · exact absurd h.symm (Option.some_ne_none n)
  · exact h

/-- Settles O26: a bulk block by what it brings and whether it is the one expected; an acknowledgement by the blocks it covers; an
audit by what its first and its later AUDITs settle of the association. -/
theorem bulkRx : Obligations.BulkRx := by
  refine ⟨?blocks, ?credit, ?ack, ?covered, ?audit, ?repeatAudits⟩
  case blocks =>
    intro s0 s lane a b hup hs ha hlt hvc
    have hsound : s.sound = true := hs ▸ State.sound_linkBlock hup.2 lane
    have hexec := exec_bulkBlockRx hup hs ha b
    refine ⟨?expected, ?broken, ?repeated, ?gap⟩
    case expected =>
      intro hsome hmax hwhole hseq hack u hu hlim
      have hgood := bulkBroken_eq_false hsome hmax hwhole
      have hrx := State.bulkRx_of_expected (n := lane) hvc hgood hseq (State.assoc_lt_of_sound hsound hlt) hack hu hlim
      have hdel : s.delivers a b true = true := State.delivers_iff.mpr ⟨hvc, hgood, hseq⟩
      have hshadow : u.shadowing = s.shadowing := by rw [hu]; rfl
      have hpair (h20 : a = 20) : exec (.bulkBlockRx lane b true) s0 =
          .next ((u.tx lane "DELIVERED" (b.vc.val :: b.payload.map (·.toNat))).mirrorIn b) := by
        rw [hexec, if_pos ⟨h20, hdel⟩, hrx, if_neg (by simp [h20])]
      have hlane (h20 : a < 20) : exec (.bulkBlockRx lane b true) s0 = .next (s.bulkRx lane a b true) := by
        rw [hexec, if_neg (fun h => h20.ne h.1)]
      refine ⟨?delivered, ?entry, ?badKind⟩
      case delivered =>
        rintro k rfl (⟨h20, hplain⟩ | ⟨h20, hk0, hkmax⟩)
        · rw [hpair h20]
          rcases hplain with h | h
          · rw [State.mirrorIn_of_not_shadowing (by rw [State.shadowing_tx, hshadow, h])]
          · rw [State.mirrorIn_of_none _ h]
        · rw [hlane h20, hrx, if_neg (fun h => (kindOk_eq_false_iff.mp h.2).elim hk0 hkmax.not_gt)]
      case entry =>
        rintro c h20 hsh hmir t rfl
        rw [hpair h20, State.mirrorIn_entry (by rw [State.shadowing_tx, hshadow, hsh]) hmir]
      case badKind =>
        rintro k rfl h20 hbad
        rw [hlane h20, hrx, if_pos ⟨h20, kindOk_eq_false_iff.mpr hbad⟩, State.badKind]
    case broken =>
      rw [hexec, if_neg (by simp [State.delivers_iff, bulkBroken]), State.bulkRx_of_broken hvc rfl]
    case repeated =>
      intro hsome hmax hwhole hseq hnear
      rw [hexec, if_neg (by simp [State.delivers_iff, hseq]),
        State.bulkRx_of_repeated hvc (bulkBroken_eq_false hsome hmax hwhole) hseq hnear]
    case gap =>
      intro hsome hmax hwhole hseq hfar
      rw [hexec, if_neg (by simp [State.delivers_iff, hseq]),
        State.bulkRx_of_gap hvc (bulkBroken_eq_false hsome hmax hwhole) hseq hfar]
  case credit =>
    exact fun s lane v l a hup ha hv => live_of_eq hup.on (by simp only [ha, if_neg hv])
  case ack =>
    rintro s u lane seq a hup rfl ha hlt hk
    exact live_of_eq hup.on ((State.ackSeen_of_lane seq false ha hlt).trans (State.ackAct_of_advance hk))
  case covered => exact fun kept seq b => ackedBy_of_head seq
  case audit =>
    intro s lane a x1 x2 x3 hup hconf ha hport hlt h1 h2 h3 h12 h13 hlen
    have hexec : exec (.auditRx lane [x1, x2, x3]) s = .next (s.auditAct lane a [x1, x2, x3]) :=
      live_of_eq hup.on (by simp only [State.linkBlock_of_ne_confirm hconf, ha, hport, if_true])
    refine ⟨fun haudit hreplays => ?_, fun haudit hdone hlane => ?_⟩
    · refine ⟨_, hexec, ?_⟩
      have hroute (hlane : lane.val < 20) : (s.assoc a).route ≠ none :=
        Option.ne_none_iff_exists'.mpr ⟨_, State.route_of_bulkPort hport hlane⟩
      have hview := State.auditAct_of_first (n := lane) h1 h2 h3 h12 h13 hup.2 hlt haudit hlen hreplays hroute
      simp only [Assoc.audited, Prod.mk.injEq] at hview
      obtain ⟨-, hlimit, hau, hdone, hrx⟩ := hview
      exact ⟨hlimit, hau, hdone, hrx⟩
    · rw [hexec, State.auditAct_of_again h1 h2 h3 h12 h13 haudit hdone hlane]
  case repeatAudits =>
    rintro s u a hup hrx rfl hdue
    exact live_of_eq hup.on ((if_pos hrx).trans (State.atDue_of_le hdue))

end Sys2Proof.Machine
end

section
/-! PROOFS. Bulk blocks that go out (chapter 08): the next of the queue, acknowledgements, credits and replays. -/
namespace Sys2Proof.Machine

/-! ### The queue -/

section
variable {s : State} {a : Nat} (hdue : (s.assoc a).replayDue = false)
include hdue

/-- The first block of the queue whose VC has a credit goes out on an open lane, and is kept (R205). -/
theorem State.bulkSend_of_credit {n i : Nat} {b : BulkBlk} (hport : s.bulkPort a = some n)
    (hfind : (s.assoc a).queue.findIdx? (fun b => (s.assoc a).canSend (b.vc.val - 1)) = some i)
    (hget : (s.assoc a).queue[i]? = some b) (hopen : s.bulkOpen a n = true) :
    s.bulkSend a = (s.updAssoc a (fun x => { x with
        queue := x.queue.eraseIdx i, next := x.next + 1,
        consumed := x.consumed.set (b.vc.val - 1) (x.consumed.getD (b.vc.val - 1) 0 + 1),
        kept := x.kept ++ [{ b with seq := (s.assoc a).next }], advClk := if x.kept = [] then s.sys.clk else x.advClk })).tx n
      "BULK" (bulkFields { b with seq := (s.assoc a).next }) := by
  simp only [State.bulkSend, State.when, hdue, Bool.false_eq_true, if_false, hport, hfind, hopen, Bool.not_true, hget]

/-- Without any credit nothing is sent (R204). -/
theorem State.bulkSend_of_no_credit (hnone : ∀ b ∈ (s.assoc a).queue, (s.assoc a).canSend (b.vc.val - 1) = false) :
    s.bulkSend a = s := by
  have hfind : (s.assoc a).queue.findIdx? (fun b => (s.assoc a).canSend (b.vc.val - 1)) = none :=
    List.findIdx?_eq_none_iff.mpr hnone
  simp only [State.bulkSend, State.when, hdue, Bool.false_eq_true, if_false, hfind]
  split <;> rfl

end

/-! ### Acknowledgements and credits -/

theorem State.ackOut_of_port {s : State} {a n : Nat} (nak : Bool) (h : s.bulkPort a = some n) : s.ackOut a nak =
    (s.updAssoc a (fun x => { x with ackPend := 0 })).tx n "ACK" [((s.assoc a).expect - 1).toNat, b2n nak] := by
  simp only [State.ackOut, h]

/-- An awake unit sends the limit of its receiver (R204, R435). -/
theorem State.creditOut_of_awake {s : State} {a n : Nat} (v : Nat) (h : s.bulkPort a = some n) (hawake : s.mem.retv = false) :
    s.creditOut a v = (s.updAssoc a (fun x => { x with
      limitTx := x.limitTx.set v (s.rxLimit a v), creditClk := x.creditClk.set v s.sys.clk,
      limSince := x.limSince.set v none })).tx n "CREDIT" [v + 1, (s.rxLimit a v).toNat] := by
  simp only [State.creditOut, h, hawake, Bool.false_eq_true, if_false]

/-! ### Replays -/

/-- Kept blocks are replayed outside an audit (R205, R208). -/
theorem Assoc.replayable {x : Assoc} (hkept : x.kept ≠ []) (haudit : x.audit = false) :
    (x.kept.isEmpty || x.audit) = false := by
  simp [hkept, haudit]

section
variable {s : State} {a n : Nat} (hport : s.bulkPort a = some n) (hkept : (s.assoc a).kept ≠ [])
  (haudit : (s.assoc a).audit = false)
include hport hkept haudit

/-- After the replays that LNH_CFG.RETRY_MAX allows the port retrains (R205). -/
theorem State.replay_of_spent (hspent : s.fld Reg.LNH_CFG 0 4 ≤ (s.assoc a).replays) (hn : n < 20) :
    s.replay a = ((s.updAssoc a (fun x => { x with
      replays := 0, replayDue := false })).setFlag (Reg.LNK_FLAGS n) 5 n).retrain n := by
  simp only [State.replay, hport, Assoc.replayable hkept haudit, Bool.false_eq_true, if_false, ge_iff_le, hspent, if_true, hn]

variable (hleft : (s.assoc a).replays < s.fld Reg.LNH_CFG 0 4)
include hleft

/-- A replay waits until bulk blocks may begin (R31, R192). -/
theorem State.replay_of_closed (hopen : s.bulkOpen a n = false) :
    s.replay a = s.updAssoc a (fun x => { x with replayDue := true }) := by
  simp only [State.replay, hport, Assoc.replayable hkept haudit, Bool.false_eq_true, if_false, ge_iff_le,
    hleft.not_ge, hopen, Bool.not_false, if_true]

theorem State.replay_of_open (hopen : s.bulkOpen a n = true) :
    s.replay a = (s.assoc a).kept.foldl (fun t b => t.tx n "BULK_REPLAY" (bulkFields b))
      ((s.updAssoc a (fun x => { x with replays := x.replays + 1, replayDue := false, advClk := s.sys.clk })).bumpLane n
        (Reg.LNK_RETRY_CNT n) (s.assoc a).kept.length) := by
  simp only [State.replay, hport, Assoc.replayable hkept haudit, Bool.false_eq_true, if_false, ge_iff_le,
    hleft.not_ge, hopen, Bool.not_true]

end

/-- The time-out of the acknowledgement replays what is kept (R205, R206). -/
theorem State.retryAct_of_due {s u : State} {a : Nat} (hkept : (s.assoc a).kept ≠ []) (haudit : (s.assoc a).audit = false)
    (hu : u = s.toSysClk ((s.assoc a).advClk + 40 * s.fld Reg.LNH_CFG 8 8))
    (hdue : (s.assoc a).advClk + 40 * s.fld Reg.LNH_CFG 8 8 ≤ u.sys.clk) : s.retryAct a = u.replay a := by
  subst hu
  exact (if_neg (ne_true_of_eq_false (Assoc.replayable hkept haudit))).trans (State.atDue_of_le hdue)

/-- Settles O27: the queue by its first block with a credit, acknowledgement and credit once their time has come, and the time-out
by the replays still allowed and by whether the lane is open. -/
theorem bulkOut : Obligations.BulkOut := by
  intro s a hup
  refine ⟨?send, ?noCredit, ?ack, ?credit, ?retry⟩
  case send =>
    exact fun n i b hdue hport hfind hget hopen => live_of_eq hup.on (State.bulkSend_of_credit hdue hport hfind hget hopen)
  case noCredit => exact fun hdue hnone => live_of_eq hup.on (State.bulkSend_of_no_credit hdue hnone)
  case ack =>
    rintro n u hpend rfl hdue hport
    refine live_of_eq hup.on ((if_pos hpend).trans ((State.atDue_of_le hdue).trans ?_))
    rw [State.ackOut_of_port false hport]
    rfl
  case credit =>
    rintro v n u hv rfl hdue hport hawake
    exact live_of_eq hup.on ((if_neg hv).trans ((State.atDue_of_le hdue).trans (State.creditOut_of_awake _ hport hawake)))
  case retry =>
    intro hkept haudit n u hu hdue hport hsame
    have hexec : exec (.retryTimeout a) s = .next (u.replay a) := live_of_eq hup.on (State.retryAct_of_due hkept haudit hu hdue)
    rw [← hsame] at hkept haudit ⊢
    rw [hexec]
    exact ⟨fun hspent hn => congrArg _ (State.replay_of_spent hport hkept haudit hspent hn),
      fun hleft hopen => congrArg _ (State.replay_of_closed hport hkept haudit hleft hopen),
      fun hleft hopen => congrArg _ (State.replay_of_open hport hkept haudit hleft hopen)⟩

end Sys2Proof.Machine
end

section
/-! PROOFS. What a lane measures, learns and routes (chapter 08). -/
namespace Sys2Proof.Machine

/-! ### The delay of a lane -/

section
variable {s : State} {n tag k : Nat} (turn rtt : Nat) (hecho : (s.lane n).echo = some (tag, k)) (hlink : s.linkUp n = true)
include hecho hlink

/-- A reply within 10 µs gives half the time beyond the far end's own, which LAT carries while it has room (R197, R198). -/
theorem State.echoLane_of_inTime (hclk : s.sys.clk ≤ k + 4000) (hroom : (rtt - turn) / 2 ≤ 250000) {u : State}
    (hu : u = (((s.updLane n (fun l => { l with d := some ((rtt - turn) / 2), echo := none })).setReg
      (Reg.LNK_DLY n) (word ((rtt - turn) / 2))).setReg (Reg.LNK_RTT n) (word rtt))) :
    s.echoLane n tag turn rtt =
      (((u.updLane n (fun l => { l with latSent := true })).tx n "LAT" [(rtt - turn) / 2, tag]).assess n).qualCheck n := by
  subst hu
  simp only [State.echoLane, hecho, hlink, hclk.not_gt, hroom.not_gt, decide_true, decide_false, Bool.and_self, Bool.and_false,
    Bool.false_eq_true, if_false, if_true]

/-- A reply later than 10 µs is a lost one (R197). -/
theorem State.echoLane_of_late (hclk : k + 4000 < s.sys.clk) : s.echoLane n tag turn rtt = s.echoLost n := by
  simp only [State.echoLane, hecho, hlink, hclk, decide_true, Bool.and_self, if_true]

end

theorem State.echoTimeoutAct_of_due {s : State} {n : Nat} {x : Nat × Nat} (hn : n < 20) (hecho : (s.lane n).echo = some x)
    (hdue : x.2 + 4000 ≤ (s.toSysClk (x.2 + 4000)).sys.clk) : s.echoTimeoutAct n = (s.toSysClk (x.2 + 4000)).echoLost n := by
  refine (if_pos hn).trans ?_
  simp only [hecho]
  exact State.atDue_of_le hdue

/-! ### Declarations -/

/-- A declaration held, and shown in its registers (R199). -/
def State.declared (s : State) (n : Nat) (x : Decl) : State :=
  ((s.updLane n (fun l => { l with decl := some x, lastDecl := some x })).setReg
    (Reg.LNK_DECL n) (word (x.dDn + x.dUp * 2 ^ 16))).setReg (Reg.LNK_CONC n)
      (word (x.conc + x.cport * 2 ^ 16 + b2n x.alt * 2 ^ 20))

section
variable {s : State} {n : Nat} {x : Decl} (hlink : s.linkUp n = true) (hheld : (s.lane n).decl = none)
include hlink hheld

/-- The first declaration of a lane, or the one before it again (R199). -/
theorem State.declareAct_of_same (hold : (s.lane n).lastDecl = none ∨ (s.lane n).lastDecl = some x) :
    s.declareAct n x = ((s.declared n x).assess n).qualCheck n := by
  rcases hold with hold | hold <;> simp [State.declareAct, State.declared, hlink, hheld, hold]

/-- One that differs from the one before, also across a loss of LINK_UP, is flagged (R199). -/
theorem State.declareAct_of_other {y : Decl} (hold : (s.lane n).lastDecl = some y) (hne : y ≠ x) :
    s.declareAct n x = (((s.declared n x).setFlag (Reg.LNK_FLAGS n) 3 n).assess n).qualCheck n := by
  simp [State.declareAct, State.declared, hlink, hheld, hold, hne]

end

/-! ### Routes -/

section
variable {s : State} {n p : Nat} (hp : s.primaryOf n = some p)
include hp

theorem State.routeTo_of_route (hroute : (s.assoc p).route = some n) : s.routeTo n = (true, s) := by
  simp only [State.routeTo, hp, hroute, if_true]

/-- A lane that is not the route becomes it where it is usable (R211). -/
theorem State.routeTo_of_other (hroute : (s.assoc p).route ≠ some n) :
    s.routeTo n = if s.qualApart n then (true, s.moveTo p n) else (false, s) := by
  simp only [State.routeTo, hp, hroute, if_false]

end

/-- Settles O28: an echo by the time of its reply, a declaration by the one before it, a route by the lane's being usable, and a
data block by the run it may belong to. -/
theorem laneCommands : Obligations.LaneCommands := by
  intro s n hup
  refine ⟨?reply, ?timeout, ?echo, ?declare, ?routeWrite, ?move, ?stay, ?unusable, ?orphan, ?ofRun, ?discard, ?pairDiscard⟩
  case reply =>
    intro tag turn rtt k hecho hlink
    have hexec : exec (.echoRspRx ⟨n, by omega⟩ tag turn rtt) s = .next (s.echoLane n tag.toNat turn.toNat rtt) :=
      live_of_eq hup.on ((if_pos n.isLt).trans (by rw [State.linkBlock_of_linkUp hlink]))
    rw [hexec]
    exact ⟨fun hclk hroom u hu => congrArg _ (State.echoLane_of_inTime _ _ hecho hlink hclk hroom hu),
      fun hclk => congrArg _ (State.echoLane_of_late _ _ hecho hlink hclk)⟩
  case timeout =>
    rintro x u hecho rfl hdue
    exact live_of_eq hup.on (State.echoTimeoutAct_of_due n.isLt hecho hdue)
  case echo => exact fun hlink => live_pos hup.on hlink
  case declare =>
    rintro dDn dUp conc cport alt hlink hheld x u hx rfl
    have hexec : exec (.declareRx n dDn dUp conc cport alt) s = .next (s.declareAct n x) :=
      live_of_eq hup.on (by rw [State.linkBlock_of_linkUp hlink, hx])
    rw [hexec]
    subst hx
    exact ⟨fun hold => congrArg _ (State.declareAct_of_same hlink hheld hold),
      fun y hold hne => congrArg _ (State.declareAct_of_other hlink hheld hold hne)⟩
  case routeWrite => rfl
  case move => exact fun p hp hroute hqual => (State.routeTo_of_other hp hroute).trans (if_pos hqual)
  case stay => exact fun p hp hroute => State.routeTo_of_route hp hroute
  case unusable => exact fun p hp hroute hqual => (State.routeTo_of_other hp hroute).trans (if_neg (ne_true_of_eq_false hqual))
  case orphan => exact fun hrun => live_neg hup.on hrun.not_gt
  case ofRun => exact fun hrun => live_pos hup.on hrun
  case discard => exact live_pos hup.on n.isLt
  case pairDiscard => exact live_on hup.on

end Sys2Proof.Machine
end

section
/-! PROOFS. What the units of a pair send each other and take in (chapter 15). -/
namespace Sys2Proof.Machine

/-! ### Blocks on the two paths -/

theorem State.txPair_form (s : State) (b : Bool) (name : String) (f : List Nat) : ∃ (ports : List Port) (out : List Out),
    s.txPair b name f = { s with lnk := { s.lnk with ports := ports }, sys := { s.sys with out := out } } := by
  obtain ⟨ports, out, h⟩ := State.line_form (s.emit (.pair name (b2n b :: f))) (20 + b2n b) (pairWire name (b2n b :: f))
  exact ⟨ports, out, h⟩

@[simp] theorem State.txPair_pair (s : State) (b : Bool) (name : String) (f : List Nat) : (s.txPair b name f).pair = s.pair := by
  obtain ⟨_, _, h⟩ := s.txPair_form b name f
  rw [h]

/-- A block on one path leaves the other path's port. -/
theorem State.pathUp_txPair_not (s : State) (b : Bool) (name : String) (f : List Nat) :
    (s.txPair b name f).pathUp (!b) = s.pathUp (!b) :=
  State.linkUp_of_ts (congrArg Port.ts (State.port_line_ne _ _ (by cases b <;> decide)))

theorem State.pairBoth_of_up {s : State} (name : String) (f : List Nat) (h0 : s.pathUp false = true) (h1 : s.pathUp true = true) :
    s.pairBoth name f = (s.txPair false name f).txPair true name f := by
  have h1' : (s.txPair false name f).pathUp true = true := (s.pathUp_txPair_not false name f).trans h1
  simp only [State.pairBoth, List.foldl_cons, List.foldl_nil, h0, h1', if_true]

/-! ### Heartbeats -/

theorem State.hbSend_of_up {s : State} (hp : s.paired = true) (hsil : s.pair.silence = false) (h0 : s.pathUp false = true)
    (h1 : s.pathUp true = true) : s.hbSend =
      { (s.txPair false "HEARTBEAT" s.hbFields).txPair true "HEARTBEAT" s.hbFields with
        pair := { s.pair with hseq := (s.pair.hseq + 1) % 64 } } := by
  simp [State.hbSend, hp, hsil, State.pairBoth_of_up "HEARTBEAT" s.hbFields h0 h1]

/-- A heartbeat of a version that suits the unit changes nothing of a unit that suited it before (R338). -/
theorem State.hbVersion_of_ok {s : State} {v : Nat} (hver : s.pair.oldVer ≤ v) (h : s.pair.version = false) :
    s.hbVersion v = s := by
  refine (if_pos (decide_eq_true hver)).trans ?_
  rw [← h]

/-- A heartbeat taken in: the path it came on and the silence it ends (R340, R348). -/
def State.hbTaken (s : State) (path : Bool) (h : Heartbeat) : State :=
  { s with pair := { s.pair with
    paths := upd s.pair.paths (b2n path) (fun p => { p with last := some s.sys.clk, silent := false }),
    hb := some h, lastHb := s.sys.clk, detect := none, decided := false, qualHb := s.pair.qual, startT := s.sys.clk,
    okT := if h.hoOk then (if s.pair.okT = 0 then s.sys.clk + 1 else s.pair.okT) else 0 } }

/-- A SYNCING unit only takes a heartbeat in (R359). -/
theorem State.hbRx_of_syncing {s : State} (path : Bool) {h : Heartbeat} (hp : s.paired = true) (hrole : s.role = .syncing)
    (hho : s.pair.ho = none) (hepoch : epochNewer h.epoch s.pair.epochMax = false) (hver : s.pair.oldVer ≤ h.ver.toNat)
    (hsuits : s.pair.version = false) : s.hbRx path h = s.hbTaken path h := by
  have hseen : (s.hbTaken path h).sawEpoch h.epoch = s.hbTaken path h := State.sawEpoch_of_not_newer hepoch
  have hversion : (s.hbTaken path h).hbVersion h.ver.toNat = s.hbTaken path h := State.hbVersion_of_ok hver hsuits
  have hkeep : (s.hbTaken path h).hbRole h = s.hbTaken path h := by
    have hrole' : (s.hbTaken path h).role = .syncing := hrole
    simp only [State.hbRole, hrole']
  have hack : (s.hbTaken path h).hbAck h = s.hbTaken path h := by
    have hho' : (s.hbTaken path h).pair.ho = none := hho
    simp only [State.hbAck, hho']
  calc s.hbRx path h
      = ((((s.hbTaken path h).sawEpoch h.epoch).hbVersion h.ver.toNat).hbRole h).hbAck h := if_neg (by simp [hp])
    _ = s.hbTaken path h := by rw [hseen, hversion, hkeep, hack]

/-! ### Reach and samples -/

/-- The run of the clock to an ac leaves the registers. -/
@[simp] theorem State.toAc_flag (s : State) (k a i : Nat) : (s.toAc k).flag a i = s.flag a i := by
  obtain ⟨_, _, _, h⟩ := s.toAc_form k
  rw [h]
  rfl

@[simp] theorem State.toAc_order (s : State) (k : Nat) : (s.toAc k).sys.order = s.sys.order := by
  obtain ⟨_, _, _, h⟩ := s.toAc_form k
  rw [h]

theorem State.reachOut_of_paired {s : State} (h : s.paired = true) : s.reachOut = (s.toAc 128).pairBoth "REACH"
    [(s.toAc 128).reachBits, b2n s.unitB, b2n (bit s.sys.order 1), (s.toAc 128).linkedBits] := by
  have hpaired : (s.toAc 128).paired = true := (s.toAc_flag 128 _ _).trans h
  have hunit : (s.toAc 128).unitB = s.unitB := s.toAc_flag 128 _ _
  simp only [State.reachOut, hpaired, hunit, State.toAc_order, Bool.not_true, Bool.false_eq_true, if_false]

/-- The reach of a partner with the same metering option is taken in, with its age (R336, R341). -/
theorem State.reachSeen_of_same {s : State} {m : Bool} (reach linked : Nat) (hp : s.paired = true) (hm : m = bit s.sys.order 1) :
    s.reachSeen m reach linked = ({ s with pair := { s.pair with
      preach := reach, plinked := linked, reachAge := some 0, meterClash := false } } : State).singleHomed :=
  (if_neg (by simp [hp])).trans (congrArg State.singleHomed (if_pos hm))

section
variable {s : State} {row step : Nat} {l : List Word}

/-- A sample of the own step that is complete by 1.60 µs after the boundary, before the engine computes, is kept (R344). -/
theorem State.sampleSeen_of_inTime (hshadow : s.shadowing = true) (hstep : step = s.step10)
    (hrow : row = s.ang.row.toNat % 2 ^ 22) (hlen : l.length = s.mapInputs.length) (hdone : s.gfe.done = false)
    (hclk : s.sys.clk ≤ s.sys.bclk + 640) : s.sampleSeen row step l = { s with pair := { s.pair with
      sample := some (s.stepNo, l.map (fun w => (val24 w, bit w 7 || bit w 5))) } } :=
  if_pos (by simp only [hshadow, hstep, hrow, hlen, hclk, hdone, decide_true, Bool.and_self, Bool.not_false])

theorem State.sampleSeen_of_late (hclk : s.sys.bclk + 640 < s.sys.clk) : s.sampleSeen row step l = s :=
  if_neg (by simp [hclk.not_ge])

end

/-- Settles O38: what is sent goes on the paths in LINK_UP, and what comes in is taken where its conditions hold. -/
theorem pairBlocks : Obligations.PairBlocks := by
  refine ⟨?send, ?heartbeat, ?reachSend, ?reach, ?sample, ?echo⟩
  case send => exact fun s hup hp hsil h0 h1 => live_of_eq hup.on (State.hbSend_of_up hp hsil h0 h1)
  case heartbeat =>
    intro s path h hup hp hrole hho hport hepoch hver hsuits
    refine live_of_eq hup.on ?_
    rw [State.linkBlock_of_ne_confirm hport]
    exact State.hbRx_of_syncing path hp hrole hho hepoch hver hsuits
  case reachSend => exact fun s hup hp => live_of_eq hup.on (State.reachOut_of_paired hp)
  case reach => exact fun s u m r l hup hp hm => live_of_eq hup.on (State.reachSeen_of_same _ _ hp hm)
  case sample =>
    intro s u row step l hup hshadow hstep hrow hlen hdone
    exact ⟨fun hclk => live_of_eq hup.on (State.sampleSeen_of_inTime hshadow hstep hrow hlen hdone hclk),
      fun hclk => live_of_eq hup.on (State.sampleSeen_of_late hclk)⟩
  case echo =>
    intro s path tag turn hup hp hpath
    refine live_of_eq hup.on ?_
    rw [State.linkBlock_of_linkUp hpath]
    exact if_pos (by simp [hp, hpath])

end Sys2Proof.Machine
end

section
/-! PROOFS. The records of the endpoint ledger (chapter 09): what a change of one leaves, the merge and the reconciliation. -/
namespace Sys2Proof.Machine

/-! ### What a decision leaves -/

/-- `t` is `s` with other decisions, submodules, queues and events (R222, R223, R232): the ledger but for its decisions, the
mode logic, the pair and every register but the ledger's and the log's flags are those of `s`. -/
structure State.Decides (s t : State) : Prop where
  ldg : t.ldg = { s.ldg with decs := t.ldg.decs }
  mo : t.mo = s.mo
  pair : t.pair = s.pair
  reg : ∀ a, a ≠ Reg.LDG_FLAGS → a ≠ Reg.EVLOG_FLAGS → t.reg a = s.reg a

namespace State.Decides

variable {s t u : State}

theorem refl (s : State) : s.Decides s := ⟨rfl, rfl, rfl, fun _ _ _ => rfl⟩

theorem trans (h : s.Decides t) (h' : t.Decides u) : s.Decides u where
  ldg := by rw [h'.ldg, h.ldg]
  mo := h'.mo.trans h.mo
  pair := h'.pair.trans h.pair
  reg a ha he := (h'.reg a ha he).trans (h.reg a ha he)

theorem ite (c : Prop) [Decidable c] (h : s.Decides t) (h' : s.Decides u) : s.Decides (if c then t else u) := by
  split <;> assumption

theorem recs (h : s.Decides t) : t.ldg.recs = s.ldg.recs := by rw [h.ldg]

theorem mirror (h : s.Decides t) : t.ldg.mirror = s.ldg.mirror := by rw [h.ldg]

theorem sweeps (h : s.Decides t) : t.ldg.sweeps = s.ldg.sweeps := by rw [h.ldg]

/-- Whether changes go to the standby first is a matter of the role and of the pair alone. -/
theorem mirrored (h : s.Decides t) : t.mirrored = s.mirrored := by
  have hpaired : t.paired = s.paired := congrArg (bit · 0) (h.reg Reg.PAIR_CFG (by decide) (by decide))
  simp only [State.mirrored, State.isActive, h.mo, h.pair, hpaired]

end State.Decides

theorem State.decides_updSm (s : State) (n : Nat) (f : Sm → Sm) : s.Decides (s.updSm n f) :=
  ⟨rfl, rfl, rfl, fun _ _ _ => rfl⟩

theorem State.decides_decide4 (s : State) (d : LdgDec) : s.Decides (s.decide4 d) := ⟨rfl, rfl, rfl, fun _ _ _ => rfl⟩

theorem State.decides_setFlag (s : State) (b q : Nat) : s.Decides (s.setFlag Reg.LDG_FLAGS b q) where
  ldg := by rw [State.setFlag_ldg]
  mo := State.setFlag_mo ..
  pair := State.setFlag_pair ..
  reg a ha he := State.reg_setFlag_ne _ _ _ _ _ a ha he

/-- A wear retirement decided, and the request with it no longer held (R232). -/
theorem State.decides_retire (s : State) (n : Nat) (f : Sm → Sm) (d : LdgDec) : s.Decides ((s.updSm n f).decide4 d) :=
  (s.decides_updSm n f).trans (State.decides_decide4 _ d)

theorem State.decides_wearReleaseAct (s : State) (n : Nat) : s.Decides (s.wearReleaseAct n) := by
  unfold State.wearReleaseAct
  split
  · exact .ite _ (s.decides_retire ..) (.refl s)
  · exact .refl s

theorem State.decides_wearRequest (s : State) (n : Nat) : s.Decides (s.wearRequest n) := by
  have hreq := (s.decides_updSm n fun m => { m with wearReq := true }).trans (State.decides_wearReleaseAct _ n)
  exact .ite _ (.refl s) (.ite _ (hreq.trans (State.decides_setFlag ..)) hreq)

theorem State.decides_changeOut (s : State) (a : Nat) (r : Rec) : s.Decides (s.changeOut a r) :=
  ⟨rfl, rfl, rfl, fun _ _ _ => rfl⟩

/-! ### A record changes -/

/-- The ledger with a record at an address, the decisions that follow from it not yet made. -/
def State.withRec (s : State) (a : Nat) (r : Rec) : State :=
  { s with ldg := { s.ldg with recs := mset Rec.empty s.ldg.recs a r } }

/-- A record that becomes visible brings decisions about its submodule, and nothing else (R222, R232). -/
theorem State.decides_putRec (s : State) (a : Nat) (r : Rec) : (s.withRec a r).Decides (s.putRec a r) := by
  have hlam (l : Nat) : (s.withRec a r).Decides (if l = ((s.withRec a r).sm (a / 8192)).lamNew then s.withRec a r
      else ((s.withRec a r).updSm (a / 8192) (fun m => { m with lamNew := l })).decide4 (.lambda (a / 8192) l)) :=
    .ite _ (.refl _) (State.decides_retire ..)
  have hlam := hlam ((s.withRec a r).lambdaOf (a / 8192))
  exact .ite _ (hlam.trans (State.decides_decide4 ..)) (.ite _ (hlam.trans (State.decides_wearRequest ..)) hlam)

theorem State.changeRec_of_mirrored {s : State} (h : s.mirrored = true) (a : Nat) (r : Rec) : s.changeRec a r =
    ({ s with ldg := { s.ldg with mirror := s.ldg.mirror ++ [{ addr := a, r := r, since := s.sys.clk }] } } : State).changeOut a r :=
  if_pos h

/-- Without a qualified standby a change is visible at once (R235). -/
theorem State.decides_changeRec {s : State} (h : s.mirrored = false) (a : Nat) (r : Rec) :
    (s.withRec a r).Decides (s.changeRec a r) := by
  have hput : s.changeRec a r = (s.when s.pair.xferOn (fun s => s.changeOut a r)).putRec a r := if_neg (ne_true_of_eq_false h)
  rw [hput, State.when]
  split
  · exact .trans (t := (s.changeOut a r).withRec a r) ⟨rfl, rfl, rfl, fun _ _ _ => rfl⟩ (State.decides_putRec ..)
  · exact s.decides_putRec a r

/-- A change of a record leaves the sweep. -/
theorem State.changeRec_sweeps (s : State) (a : Nat) (r : Rec) : (s.changeRec a r).ldg.sweeps = s.ldg.sweeps := by
  cases h : s.mirrored with
  | true => rw [State.changeRec_of_mirrored h]; rfl
  | false => exact (State.decides_changeRec h a r).sweeps

theorem State.reg_changeRec (s : State) (a : Nat) (r : Rec) {x : Nat} (hx : x ≠ Reg.LDG_FLAGS) (he : x ≠ Reg.EVLOG_FLAGS) :
    (s.changeRec a r).reg x = s.reg x := by
  cases h : s.mirrored with
  | true => rw [State.changeRec_of_mirrored h]; rfl
  | false => exact (State.decides_changeRec h a r).reg x hx he

/-- Changes to the ledger are visible at once: no standby has to acknowledge them and none waits; the records are in canonical
form (R235). -/
structure State.Direct (s : State) : Prop where
  mirrored : s.mirrored = false
  mirror : s.ldg.mirror = []
  recs : mwf (fun _ => Rec.empty) s.ldg.recs = true

section
variable {s : State} (h : s.Direct)
include h

theorem State.Direct.recLatest (a : Nat) : s.recLatest a = s.recAt a := by
  simp [State.recLatest, h.mirror]

theorem State.Direct.changeRec (a : Nat) (r : Rec) : (s.changeRec a r).Direct where
  mirrored := (State.decides_changeRec h.mirrored a r).mirrored.trans h.mirrored
  mirror := (State.decides_changeRec h.mirrored a r).mirror.trans h.mirror
  recs := by
    rw [(State.decides_changeRec h.mirrored a r).recs]
    exact mset_mwf _ _ a r h.recs

theorem State.Direct.recAt_changeRec_self (a : Nat) (r : Rec) : (s.changeRec a r).recAt a = r := by
  rw [State.recAt, (State.decides_changeRec h.mirrored a r).recs]
  exact mget_mset_self (fun _ => Rec.empty) _ a r h.recs

theorem State.Direct.recAt_changeRec_ne {a b : Nat} (r : Rec) (hb : b ≠ a) : (s.changeRec a r).recAt b = s.recAt b := by
  rw [State.recAt, (State.decides_changeRec h.mirrored a r).recs]
  exact mget_mset_ne _ _ _ a b r hb

end

/-! ### The merge and the reconciliation -/

/-- The record of an endpoint after an item of its own is merged (R225). -/
def State.mergedRec (s : State) (d : Rec) (i : LdgItem) : Rec :=
  let m : Rec := { d.maxed { d with nsw := i.nsw.toNat, nth := i.nth.toNat, qah := i.qah.toNat, hrs := i.hrs.toNat } with
    last := i.last, stale := false, missed := false, limset := s.limsetOf i.typ.toNat }
  { m with state := s.stateRule m i.state.toNat }

section
variable {s : State} (h : s.Direct) {a : Nat} {i : LdgItem}
include h

/-- An endpoint new to the ledger is taken as it reports itself (R225). -/
theorem State.Direct.mergeOne_of_new (hnew : (s.recAt a).state = 0) : s.mergeOne a i = s.changeRec a (s.recOf i) :=
  if_pos (by rw [h.recLatest, hnew])

/-- Of an item of the endpoint on record the merge changes that record alone; what the ledger held more is counted (R225). -/
theorem State.Direct.mergeOne_recs_of_same (hlive : (s.recAt a).state ≠ 0) (hid : (s.recAt a).id = i.id) :
    (s.mergeOne a i).ldg.recs = (s.changeRec a (s.mergedRec (s.recAt a) i)).ldg.recs := by
  simp only [State.mergeOne, h.recLatest, if_neg hlive, if_neg (not_not_intro hid)]
  split
  · rw [State.setFlag_ldg, State.bump_ldg]
    rfl
  · rfl

theorem State.Direct.recAt_mergeOne_same (hlive : (s.recAt a).state ≠ 0) (hid : (s.recAt a).id = i.id) :
    (s.mergeOne a i).recAt a = s.mergedRec (s.recAt a) i := by
  rw [State.recAt, h.mergeOne_recs_of_same hlive hid]
  exact h.recAt_changeRec_self a _

/-- Merging an item of an endpoint on record, or of one new to the ledger, leaves every other record. -/
theorem State.Direct.recAt_mergeOne_ne {b : Nat} (hb : b ≠ a)
    (hitem : (s.recAt a).state ≠ 0 ∧ (s.recAt a).id = i.id ∨ (s.recAt a).state = 0) : (s.mergeOne a i).recAt b = s.recAt b := by
  obtain ⟨hlive, hid⟩ | hnew := hitem
  · rw [State.recAt, h.mergeOne_recs_of_same hlive hid]
    exact h.recAt_changeRec_ne _ hb
  · rw [h.mergeOne_of_new hnew]
    exact h.recAt_changeRec_ne _ hb

end

/-- The larger of two counters, taken as the rule's code takes it. -/
theorem toNat_ite_lt {w : Nat} (x y : BitVec w) : (if x.toNat < y.toNat then y else x).toNat = max x.toNat y.toNat := by
  rw [apply_ite BitVec.toNat, max_def_lt]

/-- Settles O29: the record of an endpoint that the ledger knows is the merged one, that of a new one what it reports. -/
theorem countersNeverFall : Obligations.CountersNeverFall := by
  refine ⟨fun s a i hmirrored hmirror hrecs => ?merge, fun o r =>
    ⟨toNat_ite_lt .., toNat_ite_lt .., toNat_ite_lt .., toNat_ite_lt .., rfl, rfl, rfl⟩⟩
  have h : s.Direct := ⟨hmirrored, hmirror, hrecs⟩
  refine ⟨fun hlive hid => ?_, fun hnew => ?_, fun b hb => h.recAt_mergeOne_ne hb⟩
  · exact ⟨_, h.recAt_mergeOne_same hlive hid, rfl, rfl, rfl, rfl, rfl, rfl, hid⟩
  · rw [h.mergeOne_of_new hnew]
    exact h.recAt_changeRec_self a _

end Sys2Proof.Machine
end

section
/-! PROOFS. The sweep of the endpoint ledger and the reports of the submodules, the copy of the standby, the images (chapter 09). -/
namespace Sys2Proof.Machine

/-! ### The visits of a lane -/

section
variable {s : State} {p n f : Nat} (hon : s.flag Reg.LDG_CFG 2 = true) (hactive : s.isActive = true)
  (hlane : s.laneMode = true) (hvisit : (s.ldg.sweeps.getD p Sweep.fresh).visit = none)
  (hdone : (s.ldg.sweeps.getD p Sweep.fresh).done = false)
include hon hactive hlane hvisit hdone

theorem State.sweep_open : (!s.flag Reg.LDG_CFG 2 || !s.isActive || !s.laneMode ||
    (s.ldg.sweeps.getD p Sweep.fresh).visit.isSome || (s.ldg.sweeps.getD p Sweep.fresh).done) = false := by
  simp only [hon, hactive, hlane, hvisit, hdone, Bool.not_true, Option.isSome_none, Bool.or_self]

/-- A group with STALE records comes first, out of its place in the pass (R236). -/
theorem State.sweepVisitAct_of_stale (hstale : s.staleGroup p = some (n, f)) : s.sweepVisitAct p =
    ({ s with ldg := { s.ldg with sweeps := upd s.ldg.sweeps p (fun w => { w with seen := w.seen ++ [(n, f)] }) } } :
      State).sendVisit p n f false := by
  simp only [State.sweepVisitAct, State.sweep_open hon hactive hlane hvisit hdone, Bool.false_eq_true, if_false, hstale]

/-- Without one the pass goes on with its next group (R224). -/
theorem State.sweepVisitAct_of_next (hstale : s.staleGroup p = none)
    (hnext : s.nextGroup p (s.ldg.sweeps.getD p Sweep.fresh).smn (s.ldg.sweeps.getD p Sweep.fresh).ep = some (n, f)) :
    s.sweepVisitAct p =
    ({ s with ldg := { s.ldg with sweeps := upd s.ldg.sweeps p (fun w => { w with smn := n, ep := f + 5 }) } } :
      State).sendVisit p n f false := by
  simp only [State.sweepVisitAct, State.sweep_open hon hactive hlane hvisit hdone, Bool.false_eq_true, if_false, hstale,
    hnext]

end

/-- A STALE group that comes first is one the pass has not visited, neither ahead of its place nor in it (R236). -/
theorem State.staleGroup_unvisited {s : State} {p n f : Nat} (h : s.staleGroup p = some (n, f)) :
    (n, f) ∉ (s.ldg.sweeps.getD p Sweep.fresh).seen ∧
    ((s.ldg.sweeps.getD p Sweep.fresh).smn < n ∨
      ((s.ldg.sweeps.getD p Sweep.fresh).smn = n ∧ (s.ldg.sweeps.getD p Sweep.fresh).ep ≤ f)) := by
  have hfound := List.find?_some h
  simp only [Bool.and_eq_true, Bool.or_eq_true, decide_eq_true_eq, Bool.not_eq_true', List.contains_eq_mem,
    decide_eq_false_iff_not] at hfound
  exact hfound.symm

/-! ### Reports -/

/-- A lane's sweep once a report has come: the visit that it answers is over (R225). -/
def Sweep.answered (w : Sweep) (smn first : Nat) : Sweep :=
  match w.visit with
  | some v => if v.smn = smn ∧ v.first = first then { w with visit := none } else w
  | none => w

/-- The unit with a report taken in, its items not yet looked at. -/
def State.reportSeen (s : State) (lane smn first : Nat) : State :=
  { s with ldg := { s.ldg with sweeps := upd s.ldg.sweeps lane (fun w => w.answered smn first) } }

/-- The items of a report, each with the address of its endpoint. -/
def reportItems (smn first : Nat) (items : List LdgItem) : List (Nat × LdgItem) :=
  items.mapIdx (fun k i => (epAddr smn (first + k), i))

section
variable {s : State} {smn first tag : Nat} {items : List LdgItem} (hlane : s.laneMode = true)
include hlane

/-- A report of no item, or of more than a visit asks for, only counts (R227). -/
theorem State.reportAct_of_misfit (h : items = [] ∨ 5 < items.length) :
    s.reportAct smn first tag items = s.bump Reg.LDG_SWEEP_MISS := by
  have hcount : items.length = 0 ∨ items.length > 5 ∨ (items.any fun i => i.typ == 255) = true :=
    h.imp List.length_eq_zero_iff.mpr .inl
  simp only [State.reportAct, hlane, Bool.not_true, Bool.false_eq_true, if_false, if_pos hcount]

variable {lane slot : Nat} (hsome : items ≠ []) (hmax : items.length ≤ 5) (hnamed : items.any (fun i => i.typ == 255) = false)
  (hslot : s.slotOf smn = some (lane, slot))
include hsome hmax hnamed hslot

/-- What becomes of a report is a matter of its submodule's acceptance and replacement (R225, R230). -/
theorem State.reportAct_of_fit : s.reportAct smn first tag items =
    if (s.sm smn).acc = 2 then
      (reportItems smn first items).foldl (fun s p => s.mergeQuar p.1 p.2) (s.reportSeen lane smn first)
    else if (s.sm smn).acc = 3 ∨ (s.sm smn).repl = 1 then s.reportSeen lane smn first
    else ((reportItems smn first items).foldl (fun s p => s.mergeOne p.1 p.2)
      (s.reportSeen lane smn first)).sendReconcile smn first tag items.length := by
  have hfit : ¬ (items.length = 0 ∨ items.length > 5 ∨ (items.any fun i => i.typ == 255) = true) := by
    rw [hnamed, List.length_eq_zero_iff]
    simp [hsome, hmax]
  simp only [State.reportAct, hlane, Bool.not_true, Bool.false_eq_true, if_false, if_neg hfit, hslot]
  split
  case h_1 hquar => exact (if_pos hquar).symm
  case h_2 hrefused =>
    have hacc : (s.sm smn).acc = 3 := hrefused
    rw [if_neg (by omega), if_pos (.inl hacc)]
    rfl
  case h_3 hquar hrefused =>
    refine .trans ?_ (if_neg hquar).symm
    by_cases hrepl : (s.sm smn).repl = 1
    · exact (if_pos hrepl).trans (if_pos (.inr hrepl)).symm
    · exact (if_neg hrepl).trans (if_neg (not_or_intro hrefused hrepl)).symm

theorem State.reportAct_of_merged (hquar : (s.sm smn).acc ≠ 2) (hrefused : (s.sm smn).acc ≠ 3) (hrepl : (s.sm smn).repl ≠ 1) :
    s.reportAct smn first tag items = ((reportItems smn first items).foldl (fun s p => s.mergeOne p.1 p.2)
      (s.reportSeen lane smn first)).sendReconcile smn first tag items.length := by
  rw [State.reportAct_of_fit hlane hsome hmax hnamed hslot, if_neg hquar, if_neg (not_or_intro hrefused hrepl)]

theorem State.reportAct_of_quarantined (hquar : (s.sm smn).acc = 2) : s.reportAct smn first tag items =
    (reportItems smn first items).foldl (fun s p => s.mergeQuar p.1 p.2) (s.reportSeen lane smn first) := by
  rw [State.reportAct_of_fit hlane hsome hmax hnamed hslot, if_pos hquar]

theorem State.reportAct_of_refused (hrefused : (s.sm smn).acc = 3) :
    s.reportAct smn first tag items = s.reportSeen lane smn first := by
  rw [State.reportAct_of_fit hlane hsome hmax hnamed hslot, if_neg (by omega), if_pos (.inl hrefused)]

end

theorem State.archiveRec_recs (s : State) (a : Nat) (r : Rec) : (s.archiveRec a r).ldg.recs = s.ldg.recs := by
  unfold State.archiveRec
  dsimp only
  split
  · rw [State.setFlag_ldg]
  · rfl

/-- Under quarantine an item goes to the archive, never into the ledger (R230). -/
theorem State.mergeQuar_recs (s : State) (a : Nat) (i : LdgItem) : (s.mergeQuar a i).ldg.recs = s.ldg.recs := by
  unfold State.mergeQuar
  dsimp only
  split
  · rfl
  · exact s.archiveRec_recs a _

/-! ### Visits without a report -/

/-- A live record is marked MISSED (R226). -/
def State.markMissed (s : State) (a : Nat) : State :=
  let r := s.recLatest a
  if r.state = 0 then s else s.changeRec a { r with missed := true }

/-- The records of a group of `n` are marked MISSED. -/
def State.missGroup (s : State) (smn first n : Nat) : State :=
  ((upto n).map (fun k => epAddr smn (first + k))).foldl State.markMissed s

/-- A visit is over without a report: its group marked, the miss counted, and the group seen to once more at the end of the pass
(R226). -/
theorem State.reportTimeoutAct_of_visit {s : State} {smn first lane slot : Nat} {v : Visit}
    (hslot : s.slotOf smn = some (lane, slot)) (hvisit : (s.ldg.sweeps.getD lane Sweep.fresh).visit = some v)
    (hsmn : v.smn = smn) (hfirst : v.first = first) :
    s.reportTimeoutAct smn first =
      let t := (s.missGroup smn first v.n).bump Reg.LDG_SWEEP_MISS
      { t with ldg := { t.ldg with sweeps := upd t.ldg.sweeps lane (fun w =>
        { w with visit := none, miss := if v.again then w.miss else w.miss ++ [(smn, first, v.n)] }) } } := by
  simp only [State.reportTimeoutAct, hslot, hvisit, if_pos (And.intro hsmn hfirst), State.missGroup, List.foldl_map]
  rfl

theorem State.markMissed_sweeps (s : State) (a : Nat) : (s.markMissed a).ldg.sweeps = s.ldg.sweeps := by
  unfold State.markMissed
  dsimp only
  split
  · rfl
  · exact s.changeRec_sweeps a _

theorem State.reg_markMissed (s : State) (a : Nat) {x : Nat} (hx : x ≠ Reg.LDG_FLAGS) (he : x ≠ Reg.EVLOG_FLAGS) :
    (s.markMissed a).reg x = s.reg x := by
  unfold State.markMissed
  dsimp only
  split
  · rfl
  · exact s.reg_changeRec a _ hx he

theorem State.markMissed_steady (s : State) (a : Nat) (h : s.sound = true) : (s.markMissed a).steady = s.steady :=
  State.ite_steady (fun _ => rfl) (fun _ => s.changeRec_steady a _ h)

theorem State.missGroup_sweeps (s : State) (smn first n : Nat) : (s.missGroup smn first n).ldg.sweeps = s.ldg.sweeps :=
  List.foldlRecOn (motive := fun t : State => t.ldg.sweeps = s.ldg.sweeps) _ _ rfl
    fun t ht a _ => (t.markMissed_sweeps a).trans ht

theorem State.reg_missGroup (s : State) (smn first n : Nat) {x : Nat} (hx : x ≠ Reg.LDG_FLAGS) (he : x ≠ Reg.EVLOG_FLAGS) :
    (s.missGroup smn first n).reg x = s.reg x :=
  List.foldlRecOn (motive := fun t : State => t.reg x = s.reg x) _ _ rfl
    fun t ht a _ => (t.reg_markMissed a hx he).trans ht

theorem State.sound_missGroup {s : State} (h : s.sound = true) (smn first n : Nat) : (s.missGroup smn first n).sound = true :=
  State.sound_of_eq (State.foldl_steady _ _ _ h fun t a => t.markMissed_steady a) h

section
variable {s : State} (h : s.Direct)
include h

theorem State.Direct.markMissed (a : Nat) : (s.markMissed a).Direct := by
  unfold State.markMissed
  dsimp only
  split
  · exact h
  · exact h.changeRec a _

/-- Marking changes a live record of its address, to MISSED, and no other. -/
theorem State.Direct.recAt_markMissed (a b : Nat) : (s.markMissed b).recAt a =
    if a = b ∧ (s.recAt b).state ≠ 0 then { s.recAt a with missed := true } else s.recAt a := by
  simp only [State.markMissed, h.recLatest]
  by_cases hlive : (s.recAt b).state = 0
  · simp [hlive]
  · rw [if_neg hlive]
    by_cases hab : a = b
    · rw [if_pos ⟨hab, hlive⟩, hab, h.recAt_changeRec_self]
    · rw [if_neg (fun hc => hab hc.1), h.recAt_changeRec_ne _ hab]

theorem State.Direct.state_markMissed (a b : Nat) : ((s.markMissed b).recAt a).state = (s.recAt a).state := by
  rw [h.recAt_markMissed]
  split <;> rfl

theorem State.Direct.missed_markMissed {a : Nat} (b : Nat) (hm : (s.recAt a).missed = true) :
    ((s.markMissed b).recAt a).missed = true := by
  rw [h.recAt_markMissed]
  split
  · rfl
  · exact hm

end

/-- A record once MISSED stays so while others are marked. -/
theorem State.Direct.missed_foldl {s : State} (h : s.Direct) {a : Nat} (l : List Nat) (hm : (s.recAt a).missed = true) :
    ((l.foldl State.markMissed s).recAt a).missed = true := by
  induction l generalizing s with
  | nil => exact hm
  | cons b l ih => exact ih (h.markMissed b) (h.missed_markMissed b hm)

/-- Every live record of the addresses marked is MISSED after. -/
theorem State.Direct.missed_of_mem {s : State} (h : s.Direct) {a : Nat} {l : List Nat} (ha : a ∈ l)
    (hlive : (s.recAt a).state ≠ 0) : ((l.foldl State.markMissed s).recAt a).missed = true := by
  induction l generalizing s with
  | nil => exact absurd ha List.not_mem_nil
  | cons b l ih =>
    rw [List.foldl_cons]
    rcases List.mem_cons.mp ha with rfl | hl
    · refine (h.markMissed a).missed_foldl l ?_
      rw [h.recAt_markMissed, if_pos ⟨rfl, hlive⟩]
    · exact ih (h.markMissed b) hl (by rwa [h.state_markMissed])

theorem State.Direct.missed_missGroup {s : State} (h : s.Direct) (smn first : Nat) {n k : Nat} (hk : k < n)
    (hlive : (s.recAt (epAddr smn (first + k))).state ≠ 0) :
    ((s.missGroup smn first n).recAt (epAddr smn (first + k))).missed = true :=
  h.missed_of_mem (List.mem_map_of_mem (List.mem_range.mpr hk)) hlive

/-- A lane with a visit under way has its sweep. -/
theorem State.lt_sweeps_of_visit {s : State} {lane : Nat} {v : Visit}
    (h : (s.ldg.sweeps.getD lane Sweep.fresh).visit = some v) : lane < s.ldg.sweeps.length := by
  by_contra hge
  rw [List.getD_eq_default _ _ (not_lt.mp hge)] at h
  exact Option.some_ne_none v h.symm

/-! ### The copy of the standby -/

@[simp] theorem State.toSysClk_ldg (s : State) (t : Nat) : (s.toSysClk t).ldg = s.ldg := by
  unfold State.toSysClk
  split <;> rfl

/-- A change that waits alone is applied when its 20 µs are over, and not before (R235, R343). -/
theorem State.mirrorTimeout_of_due {s u : State} {m : LdgMirror} (hwait : s.ldg.mirror = [m])
    (hu : u = s.toSysClk (m.since + 8000)) (hdue : m.since + 8000 ≤ u.sys.clk) : s.mirrorTimeout =
      ((({ u with ldg := { u.ldg with mirror := [] } } : State).ackLost).putRec m.addr m.r) := by
  subst hu
  simp only [State.mirrorTimeout, hwait, State.atDue_of_le hdue, State.toSysClk_ldg]
  simp [hdue]

theorem State.mirrorTimeout_of_early {s : State} {m : LdgMirror} (hwait : s.ldg.mirror = [m])
    (hearly : (s.toSysClk (m.since + 8000)).sys.clk < m.since + 8000) : s.mirrorTimeout = s := by
  simp only [State.mirrorTimeout, hwait]
  exact if_neg hearly.not_ge

/-! ### Images -/

theorem LdgImage.sealed_valid (i : LdgImage) : i.sealed.valid = true := decide_eq_true rfl

/-- Of two valid images the older one makes room (R236). -/
theorem State.imageDone_older {s : State} {i a b : LdgImage} (hbusy : s.ldg.imgBusy = some i) (ha : s.ldg.imgA = some a)
    (hb : s.ldg.imgB = some b) (hva : a.valid = true) (hvb : b.valid = true) (hold : a.seq < b.seq) (ok : Bool) :
    s.imageDone ok =
      let t : State := { s with ldg := { s.ldg with imgBusy := none, imgA := if ok then some i.sealed else none } }
      if ok then ((t.setReg Reg.LDG_IMG_SEQ (word i.seq)).setReg Reg.LDG_IMG_TAI_LO (word s.taiNs)).setReg
        Reg.LDG_IMG_TAI_HI (word (s.taiNs / 2 ^ 32))
      else t.setFlag Reg.LDG_FLAGS 3 := by
  simp only [State.imageDone, hbusy, ha, hb, hva, hvb, if_true, decide_eq_true hold.le]
  rfl

/-- Settles O30, row by row: a visit and a report by the branch their conditions select, a visit without a report by its marks,
the store by its time limit and its slots. -/
theorem ledgerCommands : Obligations.LedgerCommands := by
  refine ⟨⟨?visit, fun s lane n f => State.staleGroup_unvisited, ?report, State.mergeQuar_recs, ?timeout⟩,
    ⟨?mirror, ?start, ?done, fun i => ⟨i.sealed_valid, rfl, rfl⟩⟩⟩
  case visit =>
    rintro s lane w n f hup rfl hon hactive hlane hvisit hdone
    exact ⟨fun hstale => live_of_eq hup.on (State.sweepVisitAct_of_stale hon hactive hlane hvisit hdone hstale),
      fun hstale hnext => live_of_eq hup.on (State.sweepVisitAct_of_next hon hactive hlane hvisit hdone hstale hnext)⟩
  case report =>
    intro s smn first tag items hup hlane
    refine ⟨fun hmisfit => live_of_eq hup.on (State.reportAct_of_misfit hlane hmisfit), ?_⟩
    rintro hsome hmax hnamed lane slot hslot u rfl
    exact ⟨fun hquar hrefused hrepl =>
        live_of_eq hup.on (State.reportAct_of_merged hlane hsome hmax hnamed hslot hquar hrefused hrepl),
      fun hquar => live_of_eq hup.on (State.reportAct_of_quarantined hlane hsome hmax hnamed hslot hquar),
      fun hrefused => live_of_eq hup.on (State.reportAct_of_refused hlane hsome hmax hnamed hslot hrefused)⟩
  case timeout =>
    intro s smn first lane slot v hup hslot hvisit hsmn hfirst hagain _
    have hlt : lane < (s.missGroup smn first.toNat v.n).ldg.sweeps.length := by
      rw [State.missGroup_sweeps]
      exact State.lt_sweeps_of_visit hvisit
    refine ⟨_, live_of_eq hup.on (State.reportTimeoutAct_of_visit hslot hvisit hsmn hfirst), ?ended, ?again, ?count, ?marked⟩
    case ended => exact congrArg Sweep.visit (upd_getD _ _ _ _ hlt)
    case again =>
      refine (congrArg Sweep.miss (upd_getD _ _ _ _ hlt)).trans ?_
      rw [hagain, State.missGroup_sweeps]
      rfl
    case count =>
      refine (State.reg_setReg_self _ _ _ (State.sound_missGroup hup.2 ..)).trans (congrArg satInc ?_)
      exact State.reg_missGroup _ _ _ _ (by decide) (by decide)
    case marked =>
      intro hmirrored hmirror hrecs k hk hlive
      exact State.Direct.missed_missGroup ⟨hmirrored, hmirror, hrecs⟩ _ _ hk hlive
  case mirror =>
    rintro s u m hup hwait rfl
    exact ⟨fun hdue => live_of_eq hup.on (State.mirrorTimeout_of_due hwait rfl hdue),
      fun hearly => live_of_eq hup.on (State.mirrorTimeout_of_early hwait hearly)⟩
  case start => exact fun s hup hbusy => live_of_eq hup.on (if_neg (by rw [hbusy]; exact Bool.false_ne_true))
  case done =>
    intro s i a b hup hbusy ha hb hva hvb hold
    exact ⟨live_of_eq hup.on (State.imageDone_older hbusy ha hb hva hvb hold true),
      live_of_eq hup.on (State.imageDone_older hbusy ha hb hva hvb hold false)⟩

end Sys2Proof.Machine
end

section
/-! PROOFS. Identity of submodules, their acceptance, and the decisions of the ledger (chapter 09). -/
namespace Sys2Proof.Machine

/-! ### Acceptance by policy -/

section
variable {s : State} {n : Nat} (id : BitVec 64)

/-- A submodule refused or under quarantine stays so while its number is not open (R230). -/
theorem State.acceptBy_of_held (hacc : 2 ≤ s.accLatest n) (hrepl : (s.sm n).repl ≠ 1) : s.acceptBy n id = s :=
  if_pos ⟨hacc, hrepl⟩

/-- Else the policy decides: as NEW where it is 2 (R230). -/
theorem State.acceptBy_of_free (h : s.accLatest n < 2 ∨ (s.sm n).repl = 1) : s.acceptBy n id =
    (s.when (decide (s.policyAcc = 1)) (fun s => s.acceptNew n id)).decide4 (.accept n s.policyAcc) :=
  if_neg fun ⟨hacc, hrepl⟩ => h.elim hacc.not_gt hrepl

end

/-! The codes of LDG_CFG.POLICY: refused, under quarantine, accepted (R230). -/

theorem State.policyAcc_of_refuse {s : State} (h : s.fld Reg.LDG_CFG 0 2 = 0) : s.policyAcc = 3 := by
  simp only [State.policyAcc, h]

theorem State.policyAcc_of_quarantine {s : State} (h : s.fld Reg.LDG_CFG 0 2 = 1) : s.policyAcc = 2 := by
  simp only [State.policyAcc, h]

theorem State.policyAcc_of_new {s : State} (h : s.fld Reg.LDG_CFG 0 2 = 2) : s.policyAcc = 1 := by
  simp only [State.policyAcc, h]

/-! ### An identity comes in -/

/-- An identity taken in: whether its signature holds, and whether it is that of another submodule than the ledger's (R229). -/
def State.identTaken (s : State) (n : Nat) (b : IdentBody) (signed isForeign : Bool) : State :=
  s.updSm n (fun m => { m with identAt := none, signed := signed, nep := b.nep.toNat % 2 ^ 14, foreign := isForeign })

/-- The ledger has the identity on record for the number of the submodule (R230). -/
def State.identKnown (s : State) (n : Nat) (b : IdentBody) : Bool :=
  decide ((s.recLatest (epAddr n 0)).state ≠ 0) && decide ((s.recLatest (epAddr n 0)).id = b.id)

section
variable {s : State} {n : Nat} {b : IdentBody} {k : List Byte} (hlane : s.laneMode = true) (hkey : s.ldg.key = some k)
include hlane hkey

/-- An identity whose signature does not hold fails the check (R230). -/
theorem State.identAct_of_unsigned (hok : Config.ecdsaVerify k (identSigned b) b.sig = false) :
    s.identAct n b = ((s.identTaken n b false false).idFail n).acceptBy n b.id := by
  simp [State.identAct, State.identTaken, hlane, hkey, hok]

variable (hsome : b.nep.toNat ≠ 0) (hmax : b.nep.toNat ≤ 8192) (hrepl : (s.sm n).repl = 0)
  (hok : Config.ecdsaVerify k (identSigned b) b.sig = true)
include hsome hmax hrepl hok

/-- A signed identity of a number that is not open goes by what the ledger has on record (R230). -/
theorem State.identAct_of_signed {known isNew : Bool} (hknown : s.identKnown n b = known)
    (hnew : (s.liveLatest n == []) = isNew) : s.identAct n b =
      let t := s.identTaken n b true (!known && !isNew)
      if known then (if 2 ≤ s.accLatest n then t else t.decide4 (.accept n 1))
      else if isNew then (if 2 ≤ s.accLatest n then t else (t.acceptNew n b.id).decide4 (.accept n 1))
      else (t.idFail n).acceptBy n b.id := by
  simp [State.identAct, State.identTaken, State.identKnown, ← hknown, ← hnew, hlane, hkey, Nat.one_le_iff_ne_zero, hsome, hmax,
    hrepl, hok]

/-- One that the ledger knows is accepted, of a submodule that is neither refused nor under quarantine (R230). -/
theorem State.identAct_of_known (hlive : (s.recLatest (epAddr n 0)).state ≠ 0) (hid : (s.recLatest (epAddr n 0)).id = b.id) :
    s.identAct n b = if 2 ≤ s.accLatest n then s.identTaken n b true false
      else (s.identTaken n b true false).decide4 (.accept n 1) := by
  have hknown : s.identKnown n b = true := by simp [State.identKnown, hlive, hid]
  exact State.identAct_of_signed hlane hkey hsome hmax hrepl hok hknown rfl

/-- So is one of a number without records, as NEW (R230). -/
theorem State.identAct_of_new (hnone : s.liveLatest n = []) (hempty : (s.recLatest (epAddr n 0)).state = 0)
    (hfree : s.accLatest n < 2) :
    s.identAct n b = ((s.identTaken n b true false).acceptNew n b.id).decide4 (.accept n 1) := by
  have hknown : s.identKnown n b = false := by simp [State.identKnown, hempty]
  have hnew : (s.liveLatest n == []) = true := beq_iff_eq.mpr hnone
  exact (State.identAct_of_signed hlane hkey hsome hmax hrepl hok hknown hnew).trans (if_neg hfree.not_ge)

/-- One that is not the one on record fails the check (R230). -/
theorem State.identAct_of_foreign (hlives : s.liveLatest n ≠ []) (hid : (s.recLatest (epAddr n 0)).id ≠ b.id) :
    s.identAct n b = ((s.identTaken n b true true).idFail n).acceptBy n b.id := by
  have hknown : s.identKnown n b = false := by simp [State.identKnown, hid]
  exact State.identAct_of_signed hlane hkey hsome hmax hrepl hok hknown (beq_false_of_ne hlives)

end

/-- No identity within 100 ms of its request fails the check (R228, R230). -/
theorem State.identTimeout_of_due {s u : State} {n t : Nat} (hasked : (s.sm n).identAt = some t)
    (hu : u = s.toSysClk (t + 40000000)) (hdue : t + 40000000 ≤ u.sys.clk) : s.identTimeout n =
      ((u.updSm n (fun m => { m with identAt := none, signed := false, foreign := false })).idFail n).acceptBy n 0 := by
  subst hu
  simp only [State.identTimeout, hasked, State.atDue_of_le hdue]

theorem State.identTimeout_of_early {s : State} {n t : Nat} (hasked : (s.sm n).identAt = some t)
    (hearly : (s.toSysClk (t + 40000000)).sys.clk < t + 40000000) : s.identTimeout n = s := by
  simp only [State.identTimeout, hasked]
  exact if_neg hearly.not_ge

/-! ### Decisions -/

/-- The held wear request that goes first is released when a spare and the gap allow it (R232). -/
theorem State.wearReleaseAct_of_free {s : State} {n a : Nat} (harm : s.armOf n = some a) (hfirst : s.firstWear a = some n)
    (hspare : s.readySpare a = true) (hgap : s.gapPassed a = true) (hout : s.wearOut a = false) :
    s.wearReleaseAct n = (s.updSm n (fun m => { m with wearReq := false })).decide4 (.retire n 3) := by
  simp only [State.wearReleaseAct, harm]
  exact if_pos (by simp [hfirst, hspare, hgap, hout])

section
variable {s : State} {d : LdgDec} {k : Nat} (h : s.ldg.decs = [(k, d)])
include h

theorem State.decisionsApply_of_due (hdue : k ≤ s.stepNo) :
    s.decisionsApply = ({ s with ldg := { s.ldg with decs := [] } } : State).applyDec d := by
  simp [State.decisionsApply, h, hdue, sortBy, insSorted]

/-- A decision is kept until its boundary (R223). -/
theorem State.decisionsApply_of_early (hearly : s.stepNo < k) : s.decisionsApply = s := by
  have hkept : ({ s with ldg := { s.ldg with decs := [(k, d)] } } : State) = s := by rw [← h]
  simp [State.decisionsApply, h, hearly, sortBy, hkept]

/-- A decision about the same value takes the place and the boundary of the earlier (R223). -/
theorem State.decide4_decs_again {e : LdgDec} (hsame : d.same e = true) : (s.decide4 e).ldg.decs = [(k, e)] := by
  simp [State.decide4, h, hsame]

end

/-- A decision about anything else takes effect four steps later (R223). -/
theorem State.decide4_decs_first {s : State} {d : LdgDec} (h : ∀ x ∈ s.ldg.decs, x.2.same d = false) :
    (s.decide4 d).ldg.decs = s.ldg.decs ++ [(s.stepNo + 4, d)] := by
  have hnone : s.ldg.decs.any (fun x => x.2.same d) = false := by
    simpa using h
  exact if_neg (ne_true_of_eq_false hnone)

/-- Settles O31, row by row: an identity by its four outcomes, the policy by its codes, a decision by its boundary. -/
theorem identityCommands : Obligations.IdentityCommands := by
  refine ⟨?ident, ?timeout, ?policy, ?release, ?apply, fun s d => ⟨State.decide4_decs_first, fun k e hdecs hsame =>
    State.decide4_decs_again hdecs hsame⟩⟩
  case ident =>
    intro s n b k hup hlane hkey hsome hmax hrepl
    refine ⟨?known, ?new, ?foreign, ?unsigned⟩
    case known =>
      rintro hok hlive hid u rfl
      have hexec := live_of_eq hup.on (State.identAct_of_known hlane hkey hsome hmax hrepl hok hlive hid)
      exact ⟨fun hfree => hexec.trans (congrArg _ (if_neg hfree.not_ge)), fun hheld => hexec.trans (congrArg _ (if_pos hheld))⟩
    case new =>
      exact fun hok hnone hempty hfree =>
        live_of_eq hup.on (State.identAct_of_new hlane hkey hsome hmax hrepl hok hnone hempty hfree)
    case foreign =>
      exact fun hok hlives hid => live_of_eq hup.on (State.identAct_of_foreign hlane hkey hsome hmax hrepl hok hlives hid)
    case unsigned => exact fun hok => live_of_eq hup.on (State.identAct_of_unsigned hlane hkey hok)
  case timeout =>
    rintro s n t u hup hasked rfl
    exact ⟨fun hdue => live_of_eq hup.on (State.identTimeout_of_due hasked rfl hdue),
      fun hearly => live_of_eq hup.on (State.identTimeout_of_early hasked hearly)⟩
  case policy =>
    refine fun s n id => ⟨State.acceptBy_of_held id, fun hfree => ?_⟩
    rw [State.acceptBy_of_free id hfree]
    exact ⟨fun h => by rw [State.policyAcc_of_refuse h]; rfl, fun h => by rw [State.policyAcc_of_quarantine h]; rfl,
      fun h => by rw [State.policyAcc_of_new h]; rfl⟩
  case release =>
    exact fun s n a hup harm hfirst hspare hgap hout =>
      live_of_eq hup.on (State.wearReleaseAct_of_free harm hfirst hspare hgap hout)
  case apply =>
    intro s d k hup hdecs
    exact ⟨fun hdue => live_of_eq hup.on (congrArg State.setsBoundary (State.decisionsApply_of_due hdecs hdue)),
      fun hearly => live_of_eq hup.on (congrArg State.setsBoundary (State.decisionsApply_of_early hdecs hearly))⟩

end Sys2Proof.Machine
end

section
/-! PROOFS. What ends a conversion, and what clamps and references do (chapter 11). -/
namespace Sys2Proof.Machine

/-! ### The cores -/

@[simp] theorem State.toSysClk_adc (s : State) (t : Nat) : (s.toSysClk t).adc = s.adc := by
  unfold State.toSysClk
  split <;> rfl

@[simp] theorem State.toSysClk_clk (s : State) (t : Nat) : (s.toSysClk t).clk = s.clk := by
  unfold State.toSysClk
  split <;> rfl

theorem State.toSysClk_sys_clk_of_le {s : State} {t : Nat} (h : t ≤ s.sys.clk) : (s.toSysClk t).sys.clk = s.sys.clk := by
  unfold State.toSysClk
  split <;> simp [State.pass, Nat.sub_eq_zero_of_le h]

@[simp] theorem State.adcBit_adc (s : State) (i : Nat) (b : Bool) : (s.adcBit i b).adc = s.adc := rfl

@[simp] theorem State.ownInc_adc (s : State) (k : Nat) : (s.ownInc k).adc = s.adc := rfl

theorem State.sound_cores {s : State} (h : s.sound = true) : s.adc.cores.length = 5 := by
  have hshape := State.sound_shape h
  simp only [State.shape, unitShape, List.cons.injEq] at hshape
  obtain ⟨-, -, -, -, -, hcores, -⟩ := hshape
  exact hcores

@[simp] theorem State.updCore_cores_length (s : State) (c : Nat) (f : AdcCore → AdcCore) :
    (s.updCore c f).adc.cores.length = s.adc.cores.length := upd_length ..

theorem State.acore_updCore {s : State} {c : Nat} (f : AdcCore → AdcCore) (hc : c < s.adc.cores.length) :
    (s.updCore c f).acore c = f (s.acore c) := upd_getD _ _ _ _ hc

theorem State.acore_of_cores {s t : State} (h : t.adc.cores = s.adc.cores) (c : Nat) : t.acore c = s.acore c := by
  unfold State.acore
  rw [h]

@[simp] theorem State.toSysClk_acore (s : State) (t c : Nat) : (s.toSysClk t).acore c = s.acore c :=
  State.acore_of_cores (by rw [State.toSysClk_adc]) c

/-! ### Conversions end -/

/-- The result of a scan entry that no fixed stitch started goes to its register and to the chain, 150 ns after its sampling
instant (R264). -/
theorem State.convDone_of_entry {s u w : State} {c p g : Nat} {code : Int} {r : Word} (hlock : s.clk.apllAt = none)
    (hconv : (s.acore c).conv = .entry p) (hu : u = s.toSysClk ((s.acore c).sampled + s.convClk + 20))
    (hgroup : u.groupOf c = some g) (hangle : (s.acore c).angle = none)
    (hr : r = u.resultWord c g p code false (s.acore c).resumed) (hw : w = (u.resultOut c g p r).nextConv c) :
    s.convDone c code = w.fltResult (8 * g + p) r none (w.stepNo * 2 ^ 22 + (w.ang.acc.toNat / 2 ^ 32) % 2 ^ 22)
      (w.taiOf (w.stepNo * 2 ^ 22 + (w.ang.acc.toNat / 2 ^ 32) % 2 ^ 22)) := by
  subst hw hr hu
  simp [State.convDone, hlock, hconv, hgroup, hangle]

theorem State.convDone_of_check {s : State} {c k : Nat} (code : Int) (hlock : s.clk.apllAt = none)
    (hconv : (s.acore c).conv = .check k) :
    s.convDone c code = (s.toSysClk ((s.acore c).sampled + s.convClk)).checkDone c k code := by
  simp [State.convDone, hlock, hconv]

/-- After the last check of a scan its core is idle (R265). -/
theorem State.nextConv_of_last_check {s : State} {c k : Nat} (h : (s.acore c).conv = .check (k + 1)) :
    s.nextConv c = s.updCore c (fun x => { x with conv := .idle }) := by
  simp [State.nextConv, h]

/-- The last check, good as the one before it, clears the failures (R272). -/
theorem State.acore_checkDone_of_good {s : State} {c : Nat} {code : Int} (hc : c < s.adc.cores.length)
    (hconv : (s.acore c).conv = .check 1) (hbad : (s.acore c).chkBad = false) (hvoid : (s.acore c).chkVoid = false)
    (hnbr : (s.acore c).nbrNext = false) (hclamp : (s.acore c).clampEnd ≤ (s.acore c).sampled)
    (hcode : (code + 16384).natAbs ≤ 64) :
    (s.checkDone c 1 code).acore c = { s.acore c with conv := .idle, fails := 0 } := by
  have hdev : ¬ 64 < (code + 16384).natAbs := hcode.not_gt
  have hclear : ¬ (s.acore c).sampled < (s.acore c).clampEnd := hclamp.not_gt
  simp [State.checkDone, State.nextConv_of_last_check, State.acore_updCore, hc, hconv, hbad, hvoid, hnbr, hclear, hdev]

/-- A core that is faulted: its scan has ended, and nothing of it waits (R272). -/
def AdcCore.fault (x : AdcCore) : AdcCore :=
  { x with faulted := true, conv := .idle, rest := [], resume := none, queued := none }

theorem State.acore_coreFault {s : State} {c : Nat} (hc : c < s.adc.cores.length) :
    (s.coreFault c).acore c = (s.acore c).fault := by
  refine (State.acore_of_cores (s := s.updCore c AdcCore.fault) ?_ c).trans (State.acore_updCore _ hc)
  unfold State.coreFault
  dsimp only
  split <;> split <;> rfl

/-- The third failed check in a row (R272). -/
theorem State.acore_checkFail_of_third {s : State} {c : Nat} (hc : c < s.adc.cores.length) (hfails : (s.acore c).fails = 2) :
    ((s.checkFail c).acore c).faulted = true ∧ ((s.checkFail c).acore c).conv = .idle := by
  have hcount := State.acore_updCore (s := s.bump Reg.ADC_CHECK_FAIL) (c := c)
    (fun x => { x with nbrSoon := true, fails := x.fails + 1 }) hc
  have hthird : s.checkFail c = _ := if_pos (by rw [hcount]; exact Nat.succ_le_succ hfails.ge)
  rw [hthird, State.acore_coreFault (by rwa [State.updCore_cores_length])]
  exact ⟨rfl, rfl⟩

/-- A stand-alone conversion that does not complete is a failed check; of a core that it leaves faulted, nothing follows (R272). -/
theorem State.convTimeout_of_urgent {s : State} {c pos : Nat} {pr b : Bool} (hlock : s.clk.apllAt = none)
    (hconv : (s.acore c).conv = .urgent pos pr b)
    (hfault : (((s.toSysClk ((s.acore c).sampled + 60)).checkFail c).acore c).faulted = true) :
    s.convTimeout c = (s.toSysClk ((s.acore c).sampled + 60)).checkFail c := by
  simp [State.convTimeout, hlock, hconv, hfault]

/-! ### The spare -/

theorem State.patchGo_of_free {s : State} (g : Nat) (hfree : s.patchBusy = false) (hmode : s.mode = .maintain) :
    s.patchGo g = { s with adc := { s.adc with spare := .wanted g } } := if_neg (by simp [hfree, hmode])

theorem State.patchRelease_of_serving {s : State} {g : Nat} (hspare : s.adc.spare = .serving g)
    (hown : s.flag Reg.ADC_STAT g = false) (hmode : s.mode = .maintain) :
    s.patchRelease = { s with adc := { s.adc with spare := .release g } } := by
  simp [State.patchRelease, hspare, hown, hmode]

/-! ### ADC_STAT -/

theorem State.adcBit_sound {s : State} (i : Nat) (b : Bool) (h : s.sound = true) : (s.adcBit i b).sound = true :=
  State.sound_of_eq (s.adcBit_steady i b h) h

theorem State.flag_adcBit_self {s : State} {i : Nat} (b : Bool) (h : s.sound = true) (hi : i < 32) :
    (s.adcBit i b).flag Reg.ADC_STAT i = b := by
  unfold State.flag State.adcBit
  rw [State.reg_setReg_self _ _ _ h, bit_putBit_self _ _ _ hi]

theorem State.flag_adcBit_ne {s : State} {i j : Nat} (b : Bool) (h : s.sound = true) (hne : j ≠ i) :
    (s.adcBit i b).flag Reg.ADC_STAT j = s.flag Reg.ADC_STAT j := by
  unfold State.flag State.adcBit
  rw [State.reg_setReg_self _ _ _ h, bit_putBit_ne _ _ _ _ hne]

/-- Two bits of ADC_STAT written in turn read what was written. -/
theorem State.flag_adcBit_adcBit {s : State} {i j : Nat} (a b : Bool) (h : s.sound = true) (hi : i < 32) (hj : j < 32)
    (hne : i ≠ j) : ((s.adcBit i a).adcBit j b).flag Reg.ADC_STAT i = a ∧
      ((s.adcBit i a).adcBit j b).flag Reg.ADC_STAT j = b :=
  have hs := State.adcBit_sound i a h
  ⟨(State.flag_adcBit_ne b hs hne).trans (State.flag_adcBit_self a h hi), State.flag_adcBit_self b hs hj⟩

/-- A core whose conversions are abandoned, with the trigger that waits (R273). -/
def AdcCore.withdrawn (x : AdcCore) : AdcCore := { x with conv := .idle, queued := none }

/-- The spare on the inputs of group `g`, for the 23.6 ms of its calibration (R273). -/
def State.spareOn (s : State) (g : Nat) : State :=
  let t := (s.updCore 4 AdcCore.withdrawn).updCore g AdcCore.withdrawn
  ({ t with adc := { t.adc with spare := .cal g (s.sys.clk + 9440000) } } : State).setReg Reg.ADC_STAT
    (setBits (s.reg Reg.ADC_STAT) 7 2 g)

theorem State.spareOn_sound {s : State} (g : Nat) (h : s.sound = true) : (s.spareOn g).sound = true := by
  have hspare := State.sound_of_eq (State.updCore_steady s 4 AdcCore.withdrawn h) h
  have hgroup := State.sound_of_eq (State.updCore_steady _ g AdcCore.withdrawn hspare) hspare
  exact State.sound_of_eq (State.setReg_steady _ _ _ hgroup) hgroup

/-- The spare that is wanted is connected; it is no longer available, and its calibration shows (R273). -/
theorem State.sparePatchAct_of_wanted {s : State} {g : Nat} (h : s.adc.spare = .wanted g) :
    s.sparePatchAct = ((s.spareOn g).adcBit 4 false).adcBit 5 true := by
  unfold State.sparePatchAct
  rw [h]
  rfl

/-! ### Clamps -/

theorem State.clampAct_of_begin {s : State} {i : Nat} (h : s.flag Reg.ADC_CLAMP_STAT i = false) : s.clampAct i true =
    ((s.setReg Reg.ADC_CLAMP_STAT (putBit (s.reg Reg.ADC_CLAMP_STAT) i true)).bump Reg.ADC_CLAMP_CNT).setFlag
      Reg.ADC_FLAGS 3 i := if_pos (by simp [h])

/-! ### References -/

/-- The settling time of a reference by its code in GRPg_REF (R271). -/
theorem refClk_eq_nth (src : Nat) : refClk src = nth 8000 [80000, 20000] src := by
  match src with
  | 0 | 1 | _ + 2 => rfl

/-- A group that passes to a reference is unsettled, and shows whether it fell back (R271). -/
theorem State.flag_refTo {s : State} {g : Nat} (src : Nat) (fb : Bool) (h : s.sound = true) (hg : g < 4) :
    (s.refTo g src fb).flag Reg.ADC_STAT (16 + g) = false ∧ (s.refTo g src fb).flag Reg.ADC_STAT (20 + g) = fb :=
  State.flag_adcBit_adcBit false fb h (by omega) (by omega) (by omega)

/-- A write of GRPg_REF that takes effect hands the group to the reference written (R271). -/
theorem State.writeHook_grpRef (s0 s : State) (g : Fin 4) (v : Word) : State.writeHook s0 s (Reg.GRPg_REF g) v =
    s.refTo g (s.fld (Reg.GRPg_REF g) 0 2) false := by
  have hg := g.isLt
  have hblock : Reg.GRPg_REF g / 0x10000 = 7 := by unfold Reg.GRPg_REF; omega
  have hoffset : Reg.GRPg_REF g % 0x10000 = 0x104 + 0x40 * g := by unfold Reg.GRPg_REF; omega
  have hgroup : (0x104 + 0x40 * g.val - 0x100) / 0x40 = g := by omega
  have hangle : Reg.GRPg_REF g ≠ Reg.ADC_ANGLE := by unfold Reg.GRPg_REF Reg.ADC_ANGLE; omega
  have href : 0x100 ≤ 0x104 + 0x40 * g.val ∧ 0x104 + 0x40 * g.val < 0x200 ∧ (0x104 + 0x40 * g.val) % 0x40 = 4 := by omega
  simp only [State.writeHook, hblock, hoffset, hgroup, if_neg hangle, if_pos href]

theorem State.refSettle_of_due {s : State} {g k : Nat} (hend : s.adc.settleEnd.getD g none = some k) (hdue : k ≤ s.sys.clk) :
    s.refSettle g =
      ({ s with adc := { s.adc with settleEnd := s.adc.settleEnd.set g none } } : State).adcBit (16 + g) true := by
  simp only [State.refSettle, hend]
  exact if_pos hdue

/-- The reference of a group fails: flagged, and with ADC_CFG.REF_FALLBACK the group passes to the supply reference (R271). -/
theorem State.refFaultAct_of_ne_supply {s : State} {g : Nat} (h : s.adc.src.getD g 0 ≠ 2) : s.refFaultAct g =
    if s.flag Reg.ADC_CFG 1 then (s.setFlagEach Reg.ADC_FLAGS 2 g).refTo g 2 true
    else s.setFlagEach Reg.ADC_FLAGS 2 g := by
  have hcfg : (s.setFlagEach Reg.ADC_FLAGS 2 g).flag Reg.ADC_CFG 1 = s.flag Reg.ADC_CFG 1 :=
    congrArg (bit · 1) (State.reg_setFlagEach_ne _ _ _ _ _ _ (by decide) (by decide))
  rw [← hcfg]
  exact if_neg h

/-- Settles O34, row by row: conversions and checks, the stages of the spare, clamps, and references. -/
theorem converterCommands : Obligations.ConverterCommands := by
  refine ⟨⟨?result, ?goodCheck, ?third, ?patch, ?connect, ?calibrated, ?release⟩, ?clampBegins, ?clampEnds, ?refSelect,
    ?refTaken, ?refSettled, ?refFails, ?refSupply⟩
  case result =>
    exact fun s c code p g hup hlock hconv u w hu hgroup hangle r hr hw =>
      live_of_eq hup.on (State.convDone_of_entry hlock hconv hu hgroup hangle hr hw)
  case goodCheck =>
    intro s c code hup hlock hconv hbad hvoid hnbr hclamp hcode
    have hc : c < s.adc.cores.length := (State.sound_cores hup.2).symm ▸ c.isLt
    have hgood := State.acore_checkDone_of_good (s := s.toSysClk ((s.acore c).sampled + s.convClk)) (c := c) (code := code)
    simp only [State.toSysClk_adc, State.toSysClk_acore] at hgood
    have hcore := hgood hc hconv hbad hvoid hnbr hclamp hcode
    exact ⟨_, live_of_eq hup.on (State.convDone_of_check code hlock hconv), by rw [hcore], by rw [hcore]⟩
  case third =>
    intro s c pos pr b hup hlock hconv hfails
    have hc : c < s.adc.cores.length := (State.sound_cores hup.2).symm ▸ c.isLt
    have hthird := State.acore_checkFail_of_third (s := s.toSysClk ((s.acore c).sampled + 60)) (c := c)
      (by rwa [State.toSysClk_adc]) (by rwa [State.toSysClk_acore])
    exact ⟨_, live_of_eq hup.on (State.convTimeout_of_urgent hlock hconv hthird.1), hthird⟩
  case patch => exact fun s g hup hfree hmode => live_of_eq hup.on (State.patchGo_of_free g hfree hmode)
  case connect =>
    intro s g hup hspare
    exact ⟨_, live_of_eq hup.on (State.sparePatchAct_of_wanted hspare), rfl,
      State.flag_adcBit_adcBit false true (State.spareOn_sound g hup.2) (by decide) (by decide) (by decide)⟩
  case calibrated =>
    rintro s u g e hup hspare rfl hdue
    exact live_of_eq hup.on (by simp [State.calEnd, State.spareCalAct, hspare, State.atDue_of_le hdue])
  case release => exact fun s g hup hspare hown hmode => live_of_eq hup.on (State.patchRelease_of_serving hspare hown hmode)
  case clampBegins => exact fun s i hup hbefore => live_of_eq hup.on (State.clampAct_of_begin hbefore)
  case clampEnds => exact fun s i hup => live_on hup.on
  case refSelect => exact fun s g src hup => live_on hup.on
  case refTaken =>
    intro s0 s g v hup
    refine ⟨_, State.writeHook_grpRef s0 s g v, rfl, ?_, State.flag_refTo _ false hup.2 g.isLt⟩
    rw [← refClk_eq_nth]
    rfl
  case refSettled =>
    intro s g k hup hend hdue
    have hsound : (s.toSysClk k).sound = true := State.sound_of_eq (State.toSysClk_steady s k hup.2) hup.2
    have hsettle := State.refSettle_of_due (s := s.toSysClk k) (g := g) (by rw [State.toSysClk_adc]; exact hend)
      (hdue.trans_eq (State.toSysClk_sys_clk_of_le hdue).symm)
    have hact : exec (.refSettled g) s = .next ((s.toSysClk k).refSettle g) := live_of_eq hup.on (by simp only [hend])
    exact ⟨_, hact.trans (congrArg _ hsettle), getD_set_none _ _, State.flag_adcBit_self true hsound (by omega)⟩
  case refFails =>
    intro s g hup hsrc
    have hfault := live_of_eq hup.on (State.refFaultAct_of_ne_supply hsrc)
    exact ⟨fun hfall => hfault.trans (congrArg _ (if_pos hfall)),
      fun hstay => hfault.trans (congrArg _ (if_neg (ne_true_of_eq_false hstay)))⟩
  case refSupply => exact fun s g hup hsrc => live_of_eq hup.on (if_pos hsrc)

end Sys2Proof.Machine
end

section
/-! PROOFS. The filter chain (chapter 12): missing samples, complete outputs, and the two synchronisations. -/
namespace Sys2Proof.Machine

/-! ### The channels -/

theorem State.sound_flt {s : State} (h : s.sound = true) : s.flt.length = 32 := by
  have hshape := State.sound_shape h
  simp only [State.shape, unitShape, List.cons.injEq] at hshape
  obtain ⟨-, -, -, -, -, -, hchans, -⟩ := hshape
  exact hchans

@[simp] theorem State.updChan_flt_length (s : State) (n : Nat) (f : Chan → Chan) :
    (s.updChan n f).flt.length = s.flt.length := upd_length ..

theorem State.chan_updChan {s : State} {n : Nat} (f : Chan → Chan) (h : n < s.flt.length) :
    (s.updChan n f).chan n = f (s.chan n) := upd_getD _ _ _ _ h

theorem State.chan_updChan_ne (s : State) {n k : Nat} (f : Chan → Chan) (h : k ≠ n) :
    (s.updChan n f).chan k = s.chan k := upd_getD_ne _ _ _ _ _ h

/-! ### A mask of channels -/

/-- Channel `n` replaced by `f` of it where the mask names it: what a synchronisation does to one channel (R287, R288). -/
def State.updNamed (s : State) (mask : Nat) (f : Chan → Chan) (n : Nat) : State :=
  if mask.testBit n then s.updChan n f else s

@[simp] theorem State.updNamed_flt_length (s : State) (mask : Nat) (f : Chan → Chan) (n : Nat) :
    (s.updNamed mask f n).flt.length = s.flt.length := by
  unfold State.updNamed
  split
  · exact s.updChan_flt_length n f
  · rfl

theorem State.chan_updNamed {s : State} {n : Nat} (mask : Nat) (f : Chan → Chan) (h : n < s.flt.length) :
    (s.updNamed mask f n).chan n = if mask.testBit n then f (s.chan n) else s.chan n := by
  unfold State.updNamed
  split
  · exact State.chan_updChan f h
  · rfl

theorem State.chan_updNamed_ne (s : State) (mask : Nat) (f : Chan → Chan) {n k : Nat} (h : k ≠ n) :
    (s.updNamed mask f n).chan k = s.chan k := by
  unfold State.updNamed
  split
  · exact s.chan_updChan_ne f h
  · rfl

theorem State.chan_foldl_updNamed_of_notMem (mask : Nat) (f : Chan → Chan) {l : List Nat} {n : Nat} (h : n ∉ l) (s : State) :
    (l.foldl (fun s m => s.updNamed mask f m) s).chan n = s.chan n := by
  induction l generalizing s with
  | nil => rfl
  | cons m l ih =>
    obtain ⟨hm, hl⟩ := not_or.mp (mt List.mem_cons.mpr h)
    exact (ih hl _).trans (s.chan_updNamed_ne mask f hm)

/-- Every channel of the list that the mask names is replaced once, by `f` of what it was. -/
theorem State.chan_foldl_updNamed (mask : Nat) (f : Chan → Chan) {l : List Nat} (hl : l.Nodup) {s : State} {n : Nat}
    (hmem : n ∈ l) (hn : n < s.flt.length) :
    (l.foldl (fun s m => s.updNamed mask f m) s).chan n = if mask.testBit n then f (s.chan n) else s.chan n := by
  induction l generalizing s with
  | nil => exact absurd hmem List.not_mem_nil
  | cons m l ih =>
    obtain ⟨hm, hnodup⟩ := List.nodup_cons.mp hl
    by_cases heq : n = m
    · subst heq
      exact (State.chan_foldl_updNamed_of_notMem mask f hm _).trans (State.chan_updNamed mask f hn)
    · rw [← s.chan_updNamed_ne mask f heq]
      exact ih hnodup (List.mem_of_ne_of_mem heq hmem) (by rwa [State.updNamed_flt_length])

/-- Over the 32 channels of a sound unit. -/
theorem State.chan_foldl_updNamed_upto {s : State} (mask : Nat) (f : Chan → Chan) (h : s.sound = true) {n : Nat} (hn : n < 32) :
    ((upto 32).foldl (fun s m => s.updNamed mask f m) s).chan n = if mask.testBit n then f (s.chan n) else s.chan n :=
  State.chan_foldl_updNamed mask f List.nodup_range (List.mem_range.mpr hn) (hn.trans_eq (State.sound_flt h).symm)

/-! ### Synchronisation -/

/-- One angle-locked channel among those named keeps a soft synchronisation from taking effect (R287). -/
theorem State.syncSoft_of_locked {s : State} {mask : Nat} (h : (upto 32).any (fun n => mask.testBit n && s.alock n) = true) :
    s.syncSoft mask = s := if_pos h

theorem State.chan_syncSoft_of_free {s : State} {mask n : Nat} (hs : s.sound = true)
    (h : (upto 32).any (fun n => mask.testBit n && s.alock n) = false) (hn : n < 32) :
    (s.syncSoft mask).chan n = if mask.testBit n then { s.chan n with soft := true } else s.chan n :=
  (congrArg (State.chan · n) (if_neg (ne_true_of_eq_false h))).trans
    (State.chan_foldl_updNamed_upto mask (fun c => { c with soft := true }) hs hn)

theorem State.chan_syncHard {s : State} {mask n : Nat} (hs : s.sound = true) (hn : n < 32) :
    (s.syncHard mask).chan n = if mask.testBit n then { s.chan n with hard := true } else s.chan n :=
  State.chan_foldl_updNamed_upto mask (fun c => { c with hard := true }) hs hn

/-- The action of a write of FLT_SYNC_SOFT, at its boundary. -/
theorem State.woAct_fltSyncSoft (s : State) (v : Word) : s.woAct Reg.FLT_SYNC_SOFT v = (true, s.syncSoft v.toNat) := rfl

/-- The action of a write of FLT_SYNC_HARD, at its boundary. -/
theorem State.woAct_fltSyncHard (s : State) (v : Word) : s.woAct Reg.FLT_SYNC_HARD v = (true, s.syncHard v.toNat) := rfl

/-! ### Samples and outputs -/

/-- A position of the present step that an angle-locked channel still expects is entered as missing once it has passed (R285). -/
theorem State.missingAct_of_expected {s : State} {n : Nat} (hfed : s.fedLocked n = true) (hrun : s.running = true)
    (hnext : (s.chan n).next < (s.stepNo + 1) * 8) :
    s.missingAct n = (s.toAc (((s.chan n).next - s.stepNo * 8) * 128)).missOne n :=
  if_pos (by simp [hfed, hrun, hnext])

/-- While θ stands still the clock does not run on for an output: the oldest one is delivered as it is (R280). -/
theorem State.filterOutputAct_of_stopped {s : State} {n : Nat} {o : FltOut} {rest : List FltOut}
    (houts : (s.chan n).outs = o :: rest) (hstop : s.running = false) : s.filterOutputAct n = s.fltDeliver n := by
  simp [State.filterOutputAct, houts, hstop]

/-- Settles O35: a missing sample and an output by the branch their hypotheses select, a synchronisation by the fold over the
channels that its mask names. -/
theorem filterCommands : Obligations.FilterCommands := by
  refine ⟨?missing, ?output, ?writes, ?takesEffect⟩
  case missing =>
    exact fun s n hup hfed hrun hnext => live_of_eq hup.on (State.missingAct_of_expected hfed hrun hnext)
  case output =>
    exact fun s n o rest hup houts _ hstop => live_of_eq hup.on (State.filterOutputAct_of_stopped houts hstop)
  case writes => exact fun s mask hup => ⟨live_on hup.on, live_on hup.on⟩
  case takesEffect =>
    intro s mask hup
    refine ⟨fun hlocked => ?_, fun hfree => ?_, ?_⟩
    · rw [State.woAct_fltSyncSoft, State.syncSoft_of_locked hlocked]
    · exact ⟨_, s.woAct_fltSyncSoft mask, fun n hn => State.chan_syncSoft_of_free hup.2 hfree hn⟩
    · exact ⟨_, s.woAct_fltSyncHard mask, fun n hn => State.chan_syncHard hup.2 hn⟩

end Sys2Proof.Machine
end

section
/-! PROOFS. One step, the stores, the event log, and what holds without power (the statements about the machine itself). -/
namespace Sys2Proof.Machine

/-! ### One step -/

/-- Settles O1: a step takes the queue apart, and runs its front. -/
theorem queueStepRunsFront : Obligations.QueueStepRunsFront := fun _ _ _ => rfl

theorem step_of_idle {s : State} (h : s.pending = []) : step s = .next s.clockEdge := by
  unfold step
  rw [h]

/-- Settles O2: an idle step is `clockEdge`, which takes the branch that power, the angle and the boundary select. -/
theorem idleStepIsClockEdge : Obligations.IdleStepIsClockEdge := by
  intro s idle
  rw [step_of_idle idle]
  refine ⟨fun off => ?_, fun on still => ⟨_, rfl, ?_⟩, fun on run near => ?_, fun on run far => ⟨_, rfl, ?_⟩⟩
  · simp only [State.clockEdge, off, Bool.not_false, if_true]
  · simp only [State.clockEdge, on, still, Bool.not_true, Bool.not_false, Bool.false_eq_true, if_true, if_false]
  · simp only [State.clockEdge, on, run, near, Bool.not_true, Bool.false_eq_true, if_true, if_false]
  · simp only [State.clockEdge, on, run, Nat.not_le.mpr far, Bool.not_true, Bool.false_eq_true, if_false]

/-! ### Every command answers -/

/-- Every arm of `exec` is a next state: that of a powered unit, of one that can be reset, or of the far end. -/
theorem exec_answers (c : Instr) (s : State) : ∃ t, exec c s = .next t := by
  cases c
  case idleRx conc n disp unitB epoch => cases conc <;> exact ⟨_, rfl⟩
  all_goals exact ⟨_, rfl⟩

/-- Settles O5: every arm answers, and what it answers keeps what is steady. -/
theorem everyCommandAnswers : Obligations.EveryCommandAnswers := by
  intro c s hs
  obtain ⟨t, ht⟩ := exec_answers c s
  have hsteady := exec_steady c ht hs
  exact ⟨t, ht, State.sound_of_eq hsteady hs, congrArg (·.2.1) hsteady⟩

/-! ### Without power -/

/-- A unit held in reset or without a clock keeps its state (R457). -/
theorem live_off {s t : State} (off : s.pwr.on = false) : s.live t = .next s :=
  congrArg Host.Outcome.next (if_neg (ne_true_of_eq_false off))

/-- Settles O6: the arms that act without power are excluded, and every other one is `live`. -/
theorem noEffectWithoutPower : Obligations.NoEffectWithoutPower := by
  intro c s off other
  cases c <;> cases other
  case idleRx n _ _ _ => exact live_off (t := s.linkBlock n) off
  all_goals exact live_off off

/-! ### The stores -/

theorem State.sm_updSm {s : State} (n : Nat) (f : Sm → Sm) (h : mwf (fun _ => Sm.fresh) s.arm.sms = true) :
    (s.updSm n f).sm n = f (s.sm n) := mget_mset_self (fun _ => Sm.fresh) _ _ _ h

theorem State.sm_updSm_ne (s : State) {n m : Nat} (f : Sm → Sm) (h : m ≠ n) : (s.updSm n f).sm m = s.sm m :=
  mget_mset_ne _ _ _ _ _ _ h

/-- Settles O7: both stores are sparse maps, of which a read after a write and the canonical form are known. -/
theorem stores : Obligations.Stores :=
  ⟨fun s a b v hs => ⟨s.reg_setReg_self a v hs, s.reg_setReg_ne a b v, regsSet_mwf _ a v (State.sound_regs hs)⟩,
    fun s _ f h => ⟨State.sm_updSm _ f h, fun _ => s.sm_updSm_ne f, mset_mwf (fun _ => Sm.fresh) _ _ _ h⟩⟩

/-! ### The event log -/

theorem Evlog.stage_of_room {ev : Evlog} (e : EvEntry) (hpend : ev.lostPend = none) (hroom : ev.staged.length < 1024) :
    ev.stage e = ({ ev with staged := ev.staged ++ [e] }, false) := by
  simp only [Evlog.stage, hpend, hroom, if_true]

/-- A full ring drops the entry and counts it, whether entries have been lost before or not (R421). -/
theorem Evlog.stage_of_full {ev : Evlog} (e : EvEntry) (hfull : ev.staged.length = 1024) :
    ∃ p, ev.stage e = ({ ev with lost := satInc ev.lost, lostPend := some p }, true) := by
  unfold Evlog.stage
  split
  · exact ⟨_, if_neg (by omega)⟩
  · exact ⟨_, if_neg (by omega)⟩

theorem State.setFlag_of_set {s : State} {a b : Nat} (q : Nat) (h : s.flag a b = true) : s.setFlag a b q = s := if_pos h

theorem State.setFlag_of_clear {s : State} {a b : Nat} (q : Nat) (h : s.flag a b = false) :
    s.setFlag a b q = (s.setReg a (putBit (s.reg a) b true)).logFlag a b q := if_neg (ne_true_of_eq_false h)

/-- The entry of an event goes to the end of a staging ring with room (R417). -/
theorem State.logEv_staged_of_room {s : State} (cls source code data : Nat) (hpend : s.sys.ev.lostPend = none)
    (hroom : s.sys.ev.staged.length < 1024) : (s.logEv cls source code data).sys.ev.staged =
      s.sys.ev.staged ++ [s.mkEntry cls source code data false] := by
  simp only [State.logEv, Evlog.stage_of_room _ hpend hroom]

/-- The flag LOST reads 1 after an entry has been dropped. -/
theorem State.flag_logEv_lost {s : State} {cls source code data : Nat} (hs : s.sound = true)
    (hlost : (s.sys.ev.stage (s.mkEntry cls source code data false)).2 = true) :
    (s.logEv cls source code data).flag Reg.EVLOG_FLAGS 0 = true := by
  have hreg : (s.logEv cls source code data).reg Reg.EVLOG_FLAGS = putBit (s.reg Reg.EVLOG_FLAGS) 0 true := by
    refine (State.reg_of_regs ?_ _).trans (s.reg_setReg_self _ _ hs)
    simp only [State.logEv, hlost, if_true, State.setReg]
  rw [State.flag, hreg, bit_putBit_self _ _ _ (by decide)]

/-- Settles O8: the flag by its two states, the full ring by what staging does with it. -/
theorem eventLog : Obligations.EventLog := by
  refine ⟨fun s a b q hs ha hb => ⟨s.flag_setFlag a b q none hs ha hb, State.setFlag_of_set q, ?entry,
    s.reg_setFlag_ne a b q none⟩, ?full⟩
  case entry =>
    intro hclear hpend hroom
    rw [State.setFlag_of_clear q hclear]
    exact ⟨_, State.logEv_staged_of_room _ _ _ _ hpend hroom, rfl, rfl, rfl, rfl⟩
  case full =>
    intro s cls source code data hs hfull
    obtain ⟨p, hp⟩ := Evlog.stage_of_full (s.mkEntry cls source code data false) hfull
    refine ⟨?_, ?_, State.flag_logEv_lost hs (congrArg Prod.snd hp)⟩ <;> simp only [State.logEv, hp]

/-! ### A rail out of its window -/

theorem State.resettable_on {s t : State} (on : s.pwr.on = true) : s.resettable t = .next t :=
  congrArg Host.Outcome.next (if_pos (by rw [on, Bool.true_or]))

/-- A reset of a powered unit (R457): its event, what it puts out and its count, and then the state cleared, with the cause. -/
theorem State.resetNow_of_on {s : State} (cause rail : Nat) (on : s.pwr.on = true) : ∃ u : State,
    s.resetNow cause rail = { u.cleared with pwr := { u.cleared.pwr with cause := cause, rail := rail } } ∧
      u.sec = s.sec ∧ u.pending = s.pending := by
  exact ⟨_, if_neg (by simp [on]), rfl, rfl⟩

/-- Settles O59: a rail reset holds the unit in reset with cause 7, beside which PWR_RST_CAUSE shows the rail. -/
theorem railReset : Obligations.RailReset := by
  intro s r hup
  obtain ⟨u, hreset, -, -⟩ := State.resetNow_of_on 7 r hup.on
  refine ⟨_, State.resettable_on hup.on, ?_⟩
  rw [hreset]
  exact ⟨rfl, rfl, rfl⟩

end Sys2Proof.Machine
end

section
/-! PROOFS. Trigger units, record slots and snapshots (the statements of chapter 13). -/
namespace Sys2Proof.Machine

/-! ### Fields of registers, and the clock that runs on to a time -/

theorem testBit_bits (w : Word) (lo n i : Nat) : (bits w lo n).testBit i = (decide (i < n) && w.getLsbD (lo + i)) := by
  rw [bits, Nat.testBit_mod_two_pow, Nat.testBit_shiftRight, BitVec.testBit_toNat]

/-- A field reads the value it has been given. -/
theorem bits_setBits (w : Word) {lo n : Nat} (v : Nat) (h : lo + n ≤ 32) : bits (setBits w lo n v) lo n = v % 2 ^ n := by
  refine Nat.eq_of_testBit_eq fun i => ?_
  rw [testBit_bits, Nat.testBit_mod_two_pow]
  by_cases hi : i < n
  · have hbit : lo + i < 32 := by omega
    rw [setBits, BitVec.getLsbD_or, BitVec.getLsbD_and, BitVec.getLsbD_and, BitVec.getLsbD_not, bit_shift, bit_shift]
    simp [Nat.testBit_two_pow_sub_one, hi, hbit]
  · simp [hi]

/-- A time limit that the present step does not reach has no effect in it (log entry 59). -/
theorem State.atDue_of_early {s : State} {f : State → State} {k : Nat} (h : (s.toSysClk k).sys.clk < k) : s.atDue k f = s :=
  if_neg (Nat.not_le.mpr h)

/-! ### Parts -/

theorem State.unitOf_updUnit {s : State} {u : Nat} (f : TrgUnit → TrgUnit) (h : u < s.acq.units.length) :
    (s.updUnit u f).unitOf u = f (s.unitOf u) := upd_getD _ _ _ _ h

theorem State.unitOf_updUnit_ne (s : State) {u v : Nat} (f : TrgUnit → TrgUnit) (h : v ≠ u) :
    (s.updUnit u f).unitOf v = s.unitOf v := upd_getD_ne _ _ _ _ _ h

theorem State.slotK_updSlot {s : State} {k : Nat} (f : AcqSlot → AcqSlot) (h : k < s.acq.slots.length) :
    (s.updSlot k f).slotK k = f (s.slotK k) := upd_getD _ _ _ _ h

@[simp] theorem State.updUnit_units_length (s : State) (u : Nat) (f : TrgUnit → TrgUnit) :
    (s.updUnit u f).acq.units.length = s.acq.units.length := upd_length ..

@[simp] theorem State.reg_updUnit (s : State) (u a : Nat) (f : TrgUnit → TrgUnit) : (s.updUnit u f).reg a = s.reg a := rfl

theorem State.sound_units {s : State} (h : s.sound = true) : s.acq.units.length = 8 := by
  have hshape := State.sound_shape h
  simp only [State.shape, unitShape, List.cons.injEq] at hshape
  exact hshape.2.2.2.2.2.2.2.1

/-! ### Record slots -/

theorem State.recordCloseAct_of_room {s : State} {k : Nat} (hst : (s.slotK k).st = 4) (hroom : s.slotRoom k = true)
    (hkeep : s.flag (Reg.SLOTk_CFG k) 3 = false) :
    s.recordCloseAct k = s.updSlot k (fun x => { x with st := 1, mem := [], held := 0, part := [] }) := by
  simp [State.recordCloseAct, hst, hroom, hkeep]

theorem State.remTimeout_of_last {s : State} {k t : Nat} {r : AcqRec} (hcur : (s.slotK k).cur = some r)
    (hlast : r.lastClk = some t) : s.remTimeout k = s.atDue (t + 40000000) (·.remEnd k) := by
  simp only [State.remTimeout, hcur, hlast]

/-- With every frame received there is no gap (R300). -/
theorem gapRuns_of_complete {n : Nat} {got : List (Nat × List Word)} (h : ∀ i < n, got.any (fun g => g.1 == i) = true) :
    gapRuns n got = [] :=
  List.reverse_eq_nil_iff.mpr (List.foldlRecOn (motive := (· = [])) (upto n) _ rfl
    fun _ hacc i hi => (if_pos (h i (List.mem_range.mp hi))).trans hacc)

theorem gapTable_nil (n : Nat) : gapTable n [] = ([], false) := rfl

theorem State.recFinish_of_cur {s : State} {k : Nat} {r : AcqRec} (hcur : (s.slotK k).cur = some r) (hkind : r.kind = 2) :
    s.recFinish k =
      let t := s.updSlot k (fun x => { x with st := 4, cur := none, mem := [], held := 0, rearm := s.sys.clk })
      { t with acq := { t.acq with done := sortBy (fun x y => decide (x.num.toNat ≤ y.num.toNat)) (s.acq.done ++ [r]) } } := by
  simp only [State.recFinish, hcur, hkind, if_true]
  rfl

/-- A record of which every frame has been received passes to the unread ones, its slot to REARM, and no gap counts (R305). -/
theorem State.remEnd_of_complete {s : State} {k : Nat} {r : AcqRec} (hk : k < s.acq.slots.length)
    (hcur : (s.slotK k).cur = some r) (hkind : r.kind = 2) (hgot : ∀ i < r.total, r.got.any (fun g => g.1 == i) = true) :
    ((s.remEnd k).slotK k).st = 4 ∧ ((s.remEnd k).slotK k).cur = none ∧
      (s.remEnd k).acq.done.length = s.acq.done.length + 1 ∧ (s.remEnd k).reg Reg.ACQ_GAP_CNT = s.reg Reg.ACQ_GAP_CNT := by
  simp only [State.remEnd, hcur, gapRuns_of_complete hgot, gapTable_nil, List.foldl_nil, gt_iff_lt, lt_irrefl, if_false]
  generalize hr : ({ r with gaps := [], gapFull := false, partial_ := _, frames := _ } : AcqRec) = r'
  have hkind' : r'.kind = 2 := by rw [← hr]; exact hkind
  have hcur' : ((s.updSlot k fun x => { x with cur := some r' }).slotK k).cur = some r' := by
    rw [State.slotK_updSlot _ hk]
  have hk' : k < (s.updSlot k fun x => { x with cur := some r' }).acq.slots.length := by
    rwa [State.updSlot, upd_length]
  have hslot := State.slotK_updSlot
    (fun x => { x with st := 4, cur := none, mem := [], held := 0, rearm := s.sys.clk }) hk'
  rw [State.recFinish_of_cur hcur' hkind']
  refine ⟨?_, ?_, ?_, rfl⟩
  · exact congrArg AcqSlot.st hslot
  · exact congrArg AcqSlot.cur hslot
  · exact (sortBy_perm _).length_eq.trans List.length_append

/-! ### Trigger units -/

/-- Arming one of the units of a mask: it is armed where it is enabled (R292). -/
def State.armUnit (mask pos : Nat) (s : State) (u : Nat) : State :=
  if mask.testBit u && s.flag (Reg.TRGu_CFG u) 0 then
    s.updUnit u (fun t => { t with armed := true, primR := false, primF := false, since := pos }) else s

theorem State.trgArm_eq_foldl (s : State) (mask pos : Nat) : s.trgArm mask pos = (upto 8).foldl (State.armUnit mask pos) s := rfl

@[simp] theorem State.flag_armUnit (s : State) (mask pos u a i : Nat) : (s.armUnit mask pos u).flag a i = s.flag a i := by
  unfold State.armUnit
  split <;> rfl

@[simp] theorem State.armUnit_units_length (s : State) (mask pos u : Nat) :
    (s.armUnit mask pos u).acq.units.length = s.acq.units.length := by
  unfold State.armUnit
  split
  · exact s.updUnit_units_length ..
  · rfl

theorem State.unitOf_armUnit_ne (s : State) (mask pos : Nat) {u v : Nat} (h : v ≠ u) :
    (s.armUnit mask pos u).unitOf v = s.unitOf v := by
  unfold State.armUnit
  split
  · exact s.unitOf_updUnit_ne _ h
  · rfl

theorem State.unitOf_armUnit {s : State} (mask pos : Nat) {u : Nat} (h : u < s.acq.units.length) :
    (s.armUnit mask pos u).unitOf u = if mask.testBit u && s.flag (Reg.TRGu_CFG u) 0 then
      { s.unitOf u with armed := true, primR := false, primF := false, since := pos } else s.unitOf u := by
  unfold State.armUnit
  split
  · exact State.unitOf_updUnit _ h
  · rfl

/-- Arming a unit again leaves it, and arming another one does not touch it: of the units of a list each is armed by itself. -/
theorem State.unitOf_foldl_armUnit (mask pos : Nat) {l : List Nat} (hnodup : l.Nodup) {s : State} {u : Nat} (hu : u ∈ l)
    (hlen : u < s.acq.units.length) : (l.foldl (State.armUnit mask pos) s).unitOf u = (s.armUnit mask pos u).unitOf u := by
  induction l generalizing s with
  | nil => cases hu
  | cons x l ih =>
    obtain ⟨hx, hl⟩ := List.nodup_cons.mp hnodup
    rcases List.mem_cons.mp hu with rfl | hmem
    · exact List.foldlRecOn (motive := fun t : State => t.unitOf u = (s.armUnit mask pos u).unitOf u) l _ rfl
        fun t ht v hv => (t.unitOf_armUnit_ne mask pos (ne_of_mem_of_not_mem hv hx).symm).trans ht
    · have hlen' : u < (s.armUnit mask pos x).acq.units.length := by rwa [State.armUnit_units_length]
      rw [List.foldl_cons, ih hl hmem hlen', State.unitOf_armUnit _ _ hlen', State.unitOf_armUnit _ _ hlen,
        State.flag_armUnit, State.unitOf_armUnit_ne _ _ _ (ne_of_mem_of_not_mem hmem hx)]

/-- The action of a write of ACQ_TRG_ARM, at its boundary. -/
theorem State.woAct_acqTrgArm (s : State) (v : Word) : s.woAct Reg.ACQ_TRG_ARM v = (true, s.trgArm (bits v 0 8) 0) := rfl

theorem State.decideWait_of_none {s : State} {u : Nat} (h : (s.unitOf u).wait = none) (x : Option TSample) :
    s.decideWait u x = s := by
  simp only [State.decideWait, h]

/-- A fire of a unit that neither raises SNAP nor triggers a slot only counts (R293, R294). -/
theorem State.fire_of_count {s : State} {u : Nat} (hsnap : s.flag (Reg.TRGu_CFG u) 12 = false)
    (hslot : s.flag (Reg.TRGu_CFG u) 13 = false) (frac : Nat) (a b : TSample) (cubic lin : Bool) :
    s.fire u frac a b cubic lin = s.setReg (Reg.TRGu_STAT u)
      (setBits (s.reg (Reg.TRGu_STAT u)) 16 16 (min 0xFFFF (bits (s.reg (Reg.TRGu_STAT u)) 16 16 + 1))) := by
  have hne : Reg.TRGu_CFG u ≠ Reg.TRGu_STAT u := by unfold Reg.TRGu_CFG Reg.TRGu_STAT; omega
  have hcfg (v : Word) : (s.setReg (Reg.TRGu_STAT u) v).reg (Reg.TRGu_CFG u) = s.reg (Reg.TRGu_CFG u) :=
    s.reg_setReg_ne _ _ v hne
  simp only [State.flag] at hsnap hslot
  simp [State.fire, State.when, hcfg, hsnap, hslot]

/-- The priming of a rising unit on a sample (R293): a fire clears it, and a sample below level minus hysteresis sets it. -/
def State.primedBy (s : State) (u : Nat) (y : TSample) : State :=
  let lvl := sx (s.reg (Reg.TRGu_LVL u))
  s.updUnit u (fun t => { t with
    primR := (t.primR && !((s.unitOf u).primR && decide (y.x ≥ lvl))) ||
      decide (y.x < lvl - Int.ofNat (s.regN (Reg.TRGu_HYST u))),
    prev := (some y :: t.prev).take 4 })

/-- A unit that has fired as a single shot is disarmed (R292). -/
def State.singleShot (s : State) (u : Nat) : State :=
  s.when (bit (s.reg (Reg.TRGu_CFG u)) 11) (·.updUnit u (fun t => { t with armed := false, primR := false, primF := false }))

theorem State.singleShot_sys (s : State) (u : Nat) : (s.singleShot u).sys = s.sys := by
  unfold State.singleShot State.when
  split <;> rfl

section
variable {s : State} {u : Nat} {y : TSample} (hwait : (s.unitOf u).wait = none) (harmed : (s.unitOf u).armed = true)
  (hedge : bits (s.reg (Reg.TRGu_CFG u)) 8 2 = 0) (hsince : (s.unitOf u).since ≤ y.pos) (hprimF : (s.unitOf u).primF = false)
include hwait harmed hedge hsince hprimF

/-- Without a fire a sample only primes. -/
theorem State.trgEval_of_quiet (h : ((s.unitOf u).primR && decide (y.x ≥ sx (s.reg (Reg.TRGu_LVL u)))) = false) :
    s.trgEval u (some y) = s.primedBy u y := by
  have hafter : ¬ y.pos < (s.unitOf u).since := Nat.not_lt.mpr hsince
  simp [State.trgEval, State.decideWait_of_none hwait, harmed, hafter, hedge, hprimF, h, State.primedBy]

/-- A sample that reaches the level of a primed unit fires it, between the sample before it and itself (R293). -/
theorem State.trgEval_of_fire (h : ((s.unitOf u).primR && decide (y.x ≥ sx (s.reg (Reg.TRGu_LVL u)))) = true)
    (hlinear : s.flag (Reg.TRGu_CFG u) 10 = false) :
    ∃ frac a, s.trgEval u (some y) = ((s.primedBy u y).singleShot u).fire u frac a y false false := by
  have hafter : ¬ y.pos < (s.unitOf u).since := Nat.not_lt.mpr hsince
  unfold State.flag at hlinear
  cases hprev : (s.unitOf u).prev[0]?.getD none with
  | none =>
    refine ⟨256, y, ?_⟩
    simp [State.trgEval, State.decideWait_of_none hwait, State.primedBy, State.singleShot, harmed, hafter, hedge, hprimF, h,
      hlinear, hprev]
  | some a =>
    refine ⟨linFrac (sx (s.reg (Reg.TRGu_LVL u))) a.x y.x, a, ?_⟩
    simp [State.trgEval, State.decideWait_of_none hwait, State.primedBy, State.singleShot, harmed, hafter, hedge, hprimF, h,
      hlinear, hprev]

/-- A fire adds 1 to the count in TRGu_STAT. -/
theorem State.trgEval_counts (hs : s.sound = true)
    (h : ((s.unitOf u).primR && decide (y.x ≥ sx (s.reg (Reg.TRGu_LVL u)))) = true)
    (hlinear : s.flag (Reg.TRGu_CFG u) 10 = false) (hsnap : s.flag (Reg.TRGu_CFG u) 12 = false)
    (hslot : s.flag (Reg.TRGu_CFG u) 13 = false) (hcnt : bits (s.reg (Reg.TRGu_STAT u)) 16 16 < 0xFFFF) :
    bits ((s.trgEval u (some y)).reg (Reg.TRGu_STAT u)) 16 16 = bits (s.reg (Reg.TRGu_STAT u)) 16 16 + 1 := by
  obtain ⟨frac, a, hfire⟩ := State.trgEval_of_fire hwait harmed hedge hsince hprimF h hlinear
  generalize ht : (s.primedBy u y).singleShot u = t at hfire
  have hsys : t.sys = s.sys := ht ▸ (s.primedBy u y).singleShot_sys u
  have hreg (a : Nat) : t.reg a = s.reg a := State.reg_of_regs (by rw [hsys]) a
  have hwrite (v : Word) : (t.setReg (Reg.TRGu_STAT u) v).reg (Reg.TRGu_STAT u) = v :=
    mget_mset_self regReset _ _ v (by rw [hsys]; exact State.sound_regs hs)
  rw [hfire, State.fire_of_count (by rwa [State.flag, hreg]) (by rwa [State.flag, hreg]), hwrite, bits_setBits _ _ (by omega),
    hreg]
  omega

end

/-- A sample that carries U clears both primings (R292). -/
theorem State.trgEval_none {s : State} {u : Nat} (hwait : (s.unitOf u).wait = none) : s.trgEval u none =
    s.updUnit u (fun t => { t with primR := false, primF := false, prev := (none :: t.prev).take 4 }) := by
  simp only [State.trgEval, State.decideWait_of_none hwait]

/-! ### Snapshots -/

theorem State.snapRaise_of_free {s : State} (src : Nat) (hbusy : s.snap.busy = none) (hpin : s.flag Reg.SNAP_CFG 4 = false)
    {b : Nat} (hb : b = if s.snap.seq = 0 then 0 else (s.snap.newest + 1) % 4) :
    s.snapRaise src = { s with snap := { s.snap with
      bufs := upd s.snap.bufs b (fun _ => some { seq := s.snap.seq + 1, src := src, late := 0, tai := s.taiNs, sets := s.capture })
      busy := some b, latchClk := s.sys.clk, seq := s.snap.seq + 1 } } := by
  subst hb
  simp only [State.snapRaise, hbusy]
  exact if_neg (ne_true_of_eq_false hpin)

theorem State.snapRaise_of_copying {s : State} {b : Nat} (src : Nat) (hbusy : s.snap.busy = some b)
    (hclk : s.snap.latchClk ≠ s.sys.clk) :
    s.snapRaise src = ({ s with snap := { s.snap with bufs := upd s.snap.bufs b (fun o => o.map (fun x =>
      { x with late := x.late ||| src })) } } : State).bump Reg.SNAP_BUSY_CNT := by
  simp only [State.snapRaise, hbusy, hclk, if_false]

theorem State.snapDone_of_copying {s : State} {b : Nat} (hbusy : s.snap.busy = some b) :
    s.snapDone = { s with snap := { s.snap with busy := none, newest := b } } := by
  simp only [State.snapDone, hbusy]

/-! ### The statement -/

/-- Settles O37: slots, captures and missed triggers by the branch their hypotheses select, a trigger unit by its priming, and
SNAP by whether a copy runs. -/
theorem acquisitionCommands : Obligations.AcquisitionCommands := by
  refine ⟨⟨?close, ?stays, fun s mask hup => ⟨live_on hup.on, live_on hup.on⟩, ?arm, fun s => rfl, ?capture, ?timeout,
    ?complete⟩, ?units, ?raise, ?late, ?done, ?edge⟩
  case close => exact fun s k hup hst hroom hkeep => live_of_eq hup.on (State.recordCloseAct_of_room hst hroom hkeep)
  case stays => exact fun s k hup hst => live_pos hup.on hst
  case arm =>
    intro s v hup
    refine ⟨_, s.woAct_acqTrgArm v, fun u hu => ?_⟩
    have hlen : u < s.acq.units.length := hu.trans_eq (State.sound_units hup.2).symm
    have hmask : (bits v 0 8).testBit u = v.toNat.testBit u := by simp [testBit_bits, hu, BitVec.testBit_toNat]
    rw [State.trgArm_eq_foldl, State.unitOf_foldl_armUnit (l := upto 8) _ _ List.nodup_range (List.mem_range.mpr hu) hlen,
      State.unitOf_armUnit _ _ hlen, hmask]
  case capture =>
    intro s smn tag n first cnt data st hup
    refine ⟨fun hnone => ⟨live_of_eq hup.on ?_, live_of_eq hup.on ?_⟩,
      fun k hopen => ⟨live_of_eq hup.on ?_, fun hst => live_of_eq hup.on ?_⟩⟩
    · simp only [State.capData, hnone, State.remErr]
    · simp only [State.capEnd, hnone, State.remErr]
    · simp only [State.capData, hopen]
    · simp only [State.capEnd, hopen, hst, if_false]
  case timeout =>
    intro s k r t hup hcur hlast v hv
    refine ⟨fun hdue => live_of_eq hup.on ?_, fun hearly => live_of_eq hup.on ?_⟩
    · rw [State.remTimeout_of_last hcur hlast, State.atDue_of_le (hv ▸ hdue), ← hv]
    · rw [State.remTimeout_of_last hcur hlast, State.atDue_of_early (hv ▸ hearly)]
  case complete =>
    exact fun s k r hk hlen hcur hkind hgot => ⟨_, rfl, State.remEnd_of_complete (hk.trans_eq hlen.symm) hcur hkind hgot⟩
  case units =>
    intro s u y c lvl hu hlen hwait harmed hc hedge hlinear hsnap hslot hsince hlvl
    subst hc hlvl
    have hlen' : u < s.acq.units.length := hu.trans_eq hlen.symm
    refine ⟨fun hprimR hprimF => ⟨_, rfl, ?_⟩, fun hprimR hprimF hreach hs hcnt => ?_, fun hprimR hprimF hbelow => ?_, _, rfl, ?_⟩
    · rw [State.trgEval_of_quiet hwait harmed hedge hsince hprimF (by simp [hprimR])]
      exact ⟨by rw [State.primedBy, State.unitOf_updUnit _ hlen', hprimR]; rfl, rfl⟩
    · exact State.trgEval_counts hwait harmed hedge hsince hprimF hs (by simp [hprimR, hreach]) hlinear hsnap hslot hcnt
    · rw [State.trgEval_of_quiet hwait harmed hedge hsince hprimF (by simp [hbelow])]
      rfl
    · rw [State.trgEval_none hwait, State.unitOf_updUnit _ hlen']
      exact ⟨rfl, rfl, rfl⟩
  case raise => exact fun s hup hbusy hpin b hb => live_of_eq hup.on (State.snapRaise_of_free 1 hbusy hpin hb)
  case late => exact fun s b hup hbusy hclk => live_of_eq hup.on (State.snapRaise_of_copying 1 hbusy hclk)
  case done => exact fun s b hup hbusy => live_of_eq hup.on (State.snapDone_of_copying hbusy)
  case edge =>
    intro s level hup u hu
    subst hu
    refine ⟨fun hlevel hon hedge => live_pos hup.on ?_, fun hlevel => live_neg hup.on ?_⟩
    · simp [hlevel, hon, hedge]
    · simp [hlevel]

end Sys2Proof.Machine
end

section
/-! PROOFS. Safety inputs, the safety functions, the loop and the proof tests (the statements of chapter 16). -/
namespace Sys2Proof.Machine

/-! ### The clock that runs on to a time limit -/

/-- Time that passes within the step changes the accumulator, the clock and module time, and nothing else. -/
theorem State.toSysClk_form (s : State) (t : Nat) : ∃ (acc : BitVec 64) (clk tai : Nat), s.toSysClk t =
    { s with ang := { s.ang with acc := acc }, sys := { s.sys with clk := clk, tai := tai } } := by
  unfold State.toSysClk
  split
  · exact ⟨_, _, _, rfl⟩
  · exact ⟨s.ang.acc, _, _, rfl⟩

@[simp] theorem State.toSysClk_saf (s : State) (t : Nat) : (s.toSysClk t).saf = s.saf := by
  obtain ⟨_, _, _, h⟩ := s.toSysClk_form t
  rw [h]

@[simp] theorem State.toSysClk_cmd (s : State) (t : Nat) : (s.toSysClk t).cmd = s.cmd := by
  obtain ⟨_, _, _, h⟩ := s.toSysClk_form t
  rw [h]

@[simp] theorem State.toSysClk_reg (s : State) (t a : Nat) : (s.toSysClk t).reg a = s.reg a := by
  obtain ⟨_, _, _, h⟩ := s.toSysClk_form t
  rw [h]
  rfl

/-- A row whose time limit lies at clock `k` has its effect once the step reaches it, and none before. -/
theorem live_atDue {s t u : State} {f : State → State} {k : Nat} (on : s.pwr.on = true) (ht : t = s.atDue k f)
    (hu : u = s.toSysClk k) : (k ≤ u.sys.clk → s.live t = .next (f u)) ∧ (u.sys.clk < k → s.live t = .next s) := by
  subst hu
  exact ⟨fun hdue => live_of_eq on (ht.trans (State.atDue_of_le hdue)),
    fun hearly => live_of_eq on (ht.trans (State.atDue_of_early hearly))⟩

/-! ### What the safety inputs read -/

theorem State.sin_updSin {s : State} {k : Nat} (f : SafIn → SafIn) (h : k < s.saf.sins.length) :
    (s.updSin k f).sin k = f (s.sin k) := upd_getD _ _ _ _ h

theorem State.sound_sins {s : State} (h : s.sound = true) : s.saf.sins.length = 8 := by
  have hshape := State.sound_shape h
  simp only [State.shape, unitShape, List.cons.injEq] at hshape
  exact hshape.2.2.2.2.2.2.2.2.2.2.2.2.2.1

/-- The channels of an enabled input that agree are not apart; those that disagree are apart from the first clock on (R385). -/
theorem State.apart_sinApart {s : State} {k : Nat} (hk : k < s.saf.sins.length) (hen : s.sinEn k = true) :
    ((s.sinApart k).sin k).apart = if s.restA k = s.restB k then none else some ((s.sin k).apart.getD s.sys.clk) := by
  rw [State.sinApart, State.sin_updSin _ hk]
  by_cases h : s.restA k = s.restB k <;> simp [hen, h]

@[simp] theorem State.sinEn_updSin (s : State) (k j : Nat) (f : SafIn → SafIn) : (s.updSin k f).sinEn j = s.sinEn j := rfl

@[simp] theorem State.sinFunc_updSin (s : State) (k j : Nat) (f : SafIn → SafIn) : (s.updSin k f).sinFunc j = s.sinFunc j := rfl

@[simp] theorem State.safActs_updSin (s : State) (k : Nat) (f : SafIn → SafIn) : (s.updSin k f).safActs = s.safActs := rfl

@[simp] theorem State.sinEn_sinApart (s : State) (k j : Nat) : (s.sinApart k).sinEn j = s.sinEn j := rfl

@[simp] theorem State.sinFunc_sinApart (s : State) (k j : Nat) : (s.sinApart k).sinFunc j = s.sinFunc j := rfl

@[simp] theorem State.safActs_sinApart (s : State) (k : Nat) : (s.sinApart k).safActs = s.safActs := rfl

/-- A channel that takes a new level and leads its input out of rest demands the input's function (R384). -/
theorem State.sinChangeAct_of_leave {s u : State} {k : Nat} {chB level : Bool} (hrest : s.atRest k = true)
    (hen : s.sinEn k = true) (hacts : s.safActs = true)
    (hu : u = s.updSin k (fun i => if chB then { i with b := level } else { i with a := level })) (hleft : u.atRest k = false) :
    let w := u.updSin k (fun i => { i with leftAt := some s.sys.clk, bothLeft := false })
    (s.sinFunc k = 0 → s.sinChangeAct k chB level = ((w.sinApart k).spbDemand 1 k).soutUpdate) ∧
    (s.sinFunc k = 1 → s.sinChangeAct k chB level = ((w.sinApart k).ssrDemand k).soutUpdate) := by
  have hclk : u.sys.clk = s.sys.clk := by rw [hu]; rfl
  have henu : u.sinEn k = true := by rw [hu]; exact hen
  have hactsu : u.safActs = true := by rw [hu]; exact hacts
  have hfunc : u.sinFunc k = s.sinFunc k := by rw [hu]; rfl
  constructor <;> intro h <;>
    simp [State.sinChangeAct, ← hu, hrest, hleft, hclk, henu, hactsu, hfunc, h]

/-! ### What a demand leaves -/

theorem State.snapRaise_saf (s : State) (src : Nat) : (s.snapRaise src).saf = s.saf := by
  unfold State.snapRaise
  split
  · split <;> rfl
  · extract_lets
    split <;> rfl

theorem State.snapSafety_saf (s : State) : s.snapSafety.saf = s.saf := by
  unfold State.snapSafety
  split
  · exact s.snapRaise_saf _
  · rfl

/-- Raising SNAP leaves every register but the count of those that came during a copy. -/
theorem State.reg_snapRaise (s : State) (src : Nat) {a : Nat} (h : a ≠ Reg.SNAP_BUSY_CNT) :
    (s.snapRaise src).reg a = s.reg a := by
  unfold State.snapRaise
  split
  · split
    · rfl
    · exact State.reg_setReg_ne _ _ _ _ h
  · extract_lets
    split <;> rfl

theorem State.reg_snapSafety (s : State) {a : Nat} (h : a ≠ Reg.SNAP_BUSY_CNT) : s.snapSafety.reg a = s.reg a := by
  unfold State.snapSafety
  split
  · exact s.reg_snapRaise _ h
  · rfl

/-- The loop brought to what R375 asks: its switches and their feedback, and a pin that moves with them. -/
theorem State.loopUpdate_form (s : State) : ∃ (a h fh fr : Bool) (off : Option Nat) (out : List Out), s.loopUpdate =
    { s with saf := { s.saf with swA := a, swH := h, fbHigh := fh, fbRev := fr, offAt := off },
             sys := { s.sys with out := out } } := by
  unfold State.loopUpdate
  extract_lets
  split
  · exact ⟨_, _, _, _, _, _, rfl⟩
  · split <;> exact ⟨_, _, _, _, _, _, rfl⟩

/-- The safety outputs brought to their functions: their levels, and the pins that move with them. -/
theorem State.soutUpdate_form (s : State) : ∃ (lv : List Bool) (out : List Out), s.soutUpdate =
    { s with saf := { s.saf with sout := lv }, sys := { s.sys with out := out } } := by
  unfold State.soutUpdate
  extract_lets
  split <;> exact ⟨_, _, rfl⟩

/-- What follows from a change in the safety set: the loop, the forces of the PWM counters, and the safety outputs. -/
theorem State.safSettle_form (s : State) : ∃ (a h fh fr : Bool) (off : Option Nat) (lv : List Bool) (ctrs : List Counter)
    (out : List Out), s.safSettle = { s with
      saf := { s.saf with swA := a, swH := h, fbHigh := fh, fbRev := fr, offAt := off, sout := lv },
      pwm := { s.pwm with ctrs := ctrs }, sys := { s.sys with out := out } } := by
  obtain ⟨a, h, fh, fr, off, out, hloop⟩ := s.loopUpdate_form
  obtain ⟨lv, out', hsout⟩ := s.loopUpdate.pwmRefresh.soutUpdate_form
  refine ⟨a, h, fh, fr, off, lv, s.loopUpdate.pwmRefresh.pwm.ctrs, out', ?_⟩
  rw [State.safSettle, hsout, State.pwmRefresh, hloop]

theorem State.soutUpdate_proof (s : State) : s.soutUpdate.saf.proof = s.saf.proof := by
  obtain ⟨_, _, h⟩ := s.soutUpdate_form
  rw [h]

theorem State.safSettle_proof (s : State) : s.safSettle.saf.proof = s.saf.proof := by
  obtain ⟨_, _, _, _, _, _, _, _, h⟩ := s.safSettle_form
  rw [h]

theorem State.demRecord_saf (s : State) (cause input : Nat) (sh : Bool) : (s.demRecord cause input sh).saf = s.saf := by
  unfold State.demRecord
  dsimp only
  split <;> rfl

/-- A demand leaves the proof test in progress. -/
theorem State.spbDemand_proof (s : State) (cause input : Nat) (sh : Bool) :
    (s.spbDemand cause input sh).saf.proof = s.saf.proof := by
  unfold State.spbDemand
  split
  · rfl
  · dsimp only
    rw [State.snapSafety_saf, State.safSettle_proof, State.demRecord_saf]

theorem State.proof3Check_of_none {s : State} (h : s.saf.proof = none) : s.proof3Check = s := by
  simp only [State.proof3Check, h]

/-! ### A fault of an input -/

/-- The register of an input stands apart from those that a latched fault writes. -/
theorem State.sinFunc_faultSeen (s : State) {k : Nat} (hk : k < 8) :
    ((s.setFlag Reg.SAF_FLAGS 4 k).snapSafety).sinFunc k = s.sinFunc k := by
  have hsnap : Reg.SPS_SINk k ≠ Reg.SNAP_BUSY_CNT := by unfold Reg.SPS_SINk Reg.SNAP_BUSY_CNT; omega
  have hflags : Reg.SPS_SINk k ≠ Reg.SAF_FLAGS := by unfold Reg.SPS_SINk Reg.SAF_FLAGS; omega
  have hlog : Reg.SPS_SINk k ≠ Reg.EVLOG_FLAGS := by unfold Reg.SPS_SINk Reg.EVLOG_FLAGS; omega
  rw [State.sinFunc, State.fld, State.reg_snapSafety _ hsnap, State.reg_setFlag_ne _ _ _ _ _ _ hflags hlog]
  rfl

theorem State.sinFaultAct_of_spb {s : State} {k : Nat} (hk : k < 8) (h : s.sinFunc k = 0) : s.sinFaultAct k =
    (((s.updSin k (fun i => { i with fault := true })).setFlag Reg.SAF_FLAGS 4 k).snapSafety.spbDemand 1 k).soutUpdate := by
  have hfunc := (s.updSin k (fun i => { i with fault := true })).sinFunc_faultSeen hk
  simp only [State.sinFaultAct, hfunc, State.sinFunc_updSin, h]

/-- Channel B away from rest too long latches the fault of an SPB input and demands a safe pulse block (R385). -/
theorem State.sinFaultDue_of_spb {s : State} {k : Nat} (hk : k < 8) (hlen : k < s.saf.sins.length) (hen : s.sinEn k = true)
    (hacts : s.safActs = true) (hfault : (s.sin k).fault = false) (hA : s.restA k = true) (hB : s.restB k = false)
    (hproof : s.saf.proof = none) (hfunc : s.sinFunc k = 0) : s.sinFaultDue k =
      ((((((s.updSin k (fun i => { i with apart := none })).updSin k (fun i => { i with seenB := true })).updSin k
        (fun i => { i with fault := true })).setFlag Reg.SAF_FLAGS 4 k).snapSafety.spbDemand 1 k).soutUpdate) := by
  generalize hv : s.updSin k (fun i => { i with apart := none }) = v
  have hsin : v.sin k = { s.sin k with apart := none } := by rw [← hv, State.sin_updSin _ hlen]
  have hlenv : k < v.saf.sins.length := by rw [← hv, State.updSin, upd_length]; exact hlen
  have hAv : v.restA k = true := by rw [State.restA, hsin]; exact hA
  have hBv : v.restB k = false := by rw [← hB, State.restB, hsin, ← hv]; rfl
  have hseen : v.updSin k (fun i => { i with seenA := i.seenA || !v.restA k, seenB := i.seenB || !v.restB k }) =
      v.updSin k (fun i => { i with seenB := true }) := by
    simp only [hAv, hBv, Bool.not_true, Bool.not_false, Bool.or_false, Bool.or_true]
  have hgood : ((v.updSin k (fun i => { i with seenB := true })).sin k).fault = false := by
    rw [State.sin_updSin _ hlenv, hsin]
    exact hfault
  have henv : v.sinEn k = true := by rw [← hv]; exact hen
  have hactsv : v.safActs = true := by rw [← hv]; exact hacts
  have hfuncv : (v.updSin k (fun i => { i with seenB := true })).sinFunc k = 0 := by rw [← hv]; exact hfunc
  simp only [State.sinFaultDue, hv, henv, hactsv, hseen, hgood, State.sinFaultAct_of_spb hk hfuncv]
  simp only [hAv, hBv, Bool.and_true, Bool.false_eq_true, if_false]
  refine State.proof3Check_of_none ?_
  rw [State.soutUpdate_proof, State.spbDemand_proof, State.snapSafety_saf, State.setFlag_saf, ← hv]
  exact hproof

theorem State.sinFaultSeen_of_apart {s : State} {k t : Nat} (h : (s.sin k).apart = some t) :
    s.sinFaultSeen k = s.atDue (t + (s.sinDisc k - 1) * 400000 + 1) (fun s => (s.sinFaultDue k).flush) := by
  simp only [State.sinFaultSeen, h]

/-! ### The functions, the loop and the outputs -/

theorem State.laneMode_sw1 (s : State) (sw : BitVec 16) :
    ({ s with saf := { s.saf with sw1 := sw } } : State).laneMode = s.laneMode := rfl

theorem State.safActs_sw1 (s : State) (sw : BitVec 16) :
    ({ s with saf := { s.saf with sw1 := sw } } : State).safActs = s.safActs := rfl

theorem State.emits_cons (s : State) (o : Out) (l : List Out) : s.emits (o :: l) = (s.emit o).emits l := by
  simp [State.emits, State.emit]

theorem State.emits_nil (s : State) : s.emits [] = s := by
  simp [State.emits]

theorem State.stuckAct_of_off {s : State} {t : Nat} (h : s.saf.offAt = some t) : s.stuckAct = s.atDue (t + 40000) (fun s =>
    (({ s with saf := { s.saf with fbHigh := true, stuck := true, offAt := none } } : State).setFlag Reg.SAF_FLAGS 3).safSettle) := by
  simp only [State.stuckAct, h]

theorem State.stuckAct_of_none {s : State} (h : s.saf.offAt = none) : s.stuckAct = s := by
  simp only [State.stuckAct, h]

theorem State.ssrLimit_of_bindOff {s : State} {t : Nat} (ht : s.saf.ssrT = some t) (hmode : s.mode = .bindOff) :
    s.ssrLimit = some (s.sys.bclk + (msFs (s.regN Reg.SPS_SSR_T) - t + 2499999) / 2500000) := by
  simp only [State.ssrLimit, ht, hmode, if_true]

theorem exec_ssrTimeout_of_limit {s : State} {k : Nat} (h : s.ssrLimit = some k) :
    exec .ssrTimeout s = s.live (s.atDue k State.ssrExpired) := congrArg s.live (by simp only [h])

/-! ### Proof tests -/

theorem exec_proofTimeout_of_limit {s : State} {k : Nat} (h : s.proofLimit = some k) :
    exec .proofTimeout s = s.live (s.atDue k (fun s => (s.proofEnd false).flush)) := congrArg s.live (by simp only [h])

theorem State.proofLimit_of_timed {s : State} {p : Proof} (hp : s.saf.proof = some p) (ht : p.test = 3 ∨ p.test = 5) :
    s.proofLimit = some (p.start + 240000000000) := by
  simp only [State.proofLimit, hp, ht, if_true]

theorem State.proofDecided_of_decides {s : State} {p : Proof} (hp : s.saf.proof = some p)
    (ht : p.test = 1 ∨ p.test = 2 ∨ p.test = 4) (pass : Bool) : s.proofDecided pass = s.proofEnd pass := by
  simp only [State.proofDecided, hp, ht, if_true]

/-- The end of the low hold of channel A, at which that of channel B begins (R392). -/
theorem State.holdOver_of_chA {s : State} {p : Proof} (hp : s.saf.proof = some p) (hB : p.chB = false) : s.holdOver =
    ({ s with saf := { s.saf with proof := some { p with chB := true, held := s.sys.clk } } } : State).soutUpdate := by
  simp only [State.holdOver, hp, hB, Bool.false_eq_true, if_false]

theorem State.proofDecided_of_hold {s : State} {p : Proof} (hp : s.saf.proof = some p) (ht : p.test = 5)
    (hawait : p.await = false) (pass : Bool) : s.proofDecided pass = s.atDue (p.held + 40000000) State.holdOver := by
  simp [State.proofDecided, State.holdEnd, hp, ht, hawait]

/-! ### The statement -/

/-- Settles O44: inputs by what their channels read, functions by their reaction, limits by whether the step reaches them. -/
theorem safetyInputs : Obligations.SafetyInputs := by
  refine ⟨⟨?leave, ?apart, ?fault, ?noFault, ?switch⟩, ?slf, ?sla, ?sdp, ?loop, ?stuck, ?notStuck, ?ssr, ?outsLow, ?outsHigh,
    ?limit, ?decided⟩
  case leave =>
    intro s k chB level hup hrest hen hacts u w hu hleft hw
    obtain ⟨hspb, hssr⟩ := State.sinChangeAct_of_leave hrest hen hacts hu hleft
    rw [hw]
    exact ⟨fun hfunc => live_of_eq hup.on (hspb hfunc), fun hfunc => live_of_eq hup.on (hssr hfunc)⟩
  case apart =>
    intro s k hk hen
    rw [State.apart_sinApart hk hen]
    exact ⟨fun h => if_pos h, fun h => if_neg h⟩
  case fault =>
    intro s u v k t hup hen hacts hfault hA hB hproof hfunc hapart hv hu
    have hlen : k.val < v.saf.sins.length := by rw [hv, State.toSysClk_saf]; exact k.isLt.trans_eq (State.sound_sins hup.2).symm
    have hsin : v.sin k = s.sin k := by rw [hv, State.sin, State.toSysClk_saf]; rfl
    have hreg (a : Nat) : v.reg a = s.reg a := by rw [hv, State.toSysClk_reg]
    have hdue : v.sinFaultDue k = (u.snapSafety.spbDemand 1 k).soutUpdate := by
      rw [hu]
      refine State.sinFaultDue_of_spb k.isLt hlen ?_ ?_ ?_ ?_ ?_ ?_ ?_
      · rw [State.sinEn, State.flag, hreg]; exact hen
      · rw [hv, State.safActs, State.toSysClk_saf]; exact hacts
      · rw [hsin]; exact hfault
      · rw [State.restA, hsin]; exact hA
      · rw [State.restB, State.flag, hsin, hreg]; exact hB
      · rw [hv, State.toSysClk_saf]; exact hproof
      · rw [State.sinFunc, State.fld, hreg]; exact hfunc
    rw [← hdue]
    exact live_atDue hup.on (State.sinFaultSeen_of_apart hapart) hv
  case noFault => exact fun s k hup hnone => live_of_eq hup.on (by simp only [State.sinFaultSeen, hnone])
  case switch =>
    intro s sw hup
    have hmode := s.laneMode_sw1 sw
    refine ⟨live_pos hup.on rfl, fun hne hacts hdirect => live_of_eq hup.on ((if_neg hne).trans (if_pos ?_)),
      fun hne hlane => live_of_eq hup.on ((if_neg hne).trans (if_neg ?_))⟩
    · rw [hmode, hdirect, s.safActs_sw1 sw, hacts]
      rfl
    · rw [hmode, hlane, Bool.not_true, Bool.and_false]
      exact Bool.false_ne_true
  case slf =>
    intro s hup hacts ht
    have hdue : s.slfAct false = s.react (s.flag Reg.SPS_CFG 1) 2 false := if_pos (by simp [hacts, ht])
    exact ⟨fun hcfg => live_of_eq hup.on (by rw [hdue, hcfg]; rfl), fun hcfg => live_of_eq hup.on (by rw [hdue, hcfg]; rfl)⟩
  case sla =>
    intro s hup hacts harch
    have hdue : s.slaAct true = s.react (s.flag Reg.SPS_CFG 3) 3 true := if_pos (by simp [hacts, harch])
    exact ⟨fun hcfg => live_of_eq hup.on (by rw [hdue, hcfg]; rfl), fun hcfg => live_of_eq hup.on (by rw [hdue, hcfg]; rfl)⟩
  case sdp =>
    intro s hup hacts ht hcfg
    have hdue : s.sdpAct false = s.react (s.flag Reg.SPS_CFG 5) 4 false := if_pos (by simp [hacts, ht])
    exact live_of_eq hup.on (by rw [hdue, hcfg]; rfl)
  case loop => exact fun s hup hon => ⟨live_pos hup.on hon, live_pos hup.on hon⟩
  case stuck => exact fun s u t hup hoff hu => (live_atDue hup.on (State.stuckAct_of_off hoff) hu).1
  case notStuck => exact fun s hup hnone => live_of_eq hup.on (State.stuckAct_of_none hnone)
  case ssr =>
    intro s u t e hup ht hmode he hu
    rw [exec_ssrTimeout_of_limit ((State.ssrLimit_of_bindOff ht hmode).trans (congrArg some he.symm))]
    exact live_atDue hup.on rfl hu
  case outsLow => exact fun s hup hlow => live_of_eq hup.on (by rw [hlow]; exact s.emits_nil)
  case outsHigh =>
    intro s hup hhigh
    refine live_of_eq hup.on ?_
    rw [hhigh]
    exact (s.emits_cons _ _).trans ((State.emits_cons _ _ _).trans (State.emits_nil _))
  case limit =>
    intro s u p hup hp ht hu
    rw [exec_proofTimeout_of_limit (State.proofLimit_of_timed hp ht)]
    exact (live_atDue hup.on rfl hu).1
  case decided =>
    intro s u p pass hup hp
    refine ⟨fun ht => live_of_eq hup.on (by rw [State.proofDecided_of_decides hp ht]), fun ht hawait hB hu hdue => ?_⟩
    have hpu : u.saf.proof = some p := by rw [hu, State.toSysClk_saf]; exact hp
    refine live_of_eq hup.on ?_
    rw [State.proofDecided_of_hold hp ht hawait, State.atDue_of_le (hu ▸ hdue), ← hu, State.holdOver_of_chA hpu hB]

end Sys2Proof.Machine
end

section
/-! PROOFS. The pair's records and transfer, and a unit taken out of the pair and returned to it. -/
namespace Sys2Proof.Machine

/-! ### A change of role -/

/-- What follows from a change in the safety set leaves the pair's state and the mode logic's, role included. -/
theorem State.safSettle_pair_mo (s : State) : s.safSettle.pair = s.pair ∧ s.safSettle.mo = s.mo := by
  obtain ⟨_, _, _, _, _, _, _, _, h⟩ := s.safSettle_form
  rw [h]
  exact ⟨rfl, rfl⟩

theorem State.setRole_role (s : State) (r : Role) : (s.setRole r).role = r := by
  unfold State.setRole
  split
  · assumption
  · dsimp only
    split
    · unfold State.angFree
      split <;> simp [State.role]
    · simp [State.role]

theorem State.setRole_pair (s : State) (r : Role) : (s.setRole r).pair = s.pair := by
  unfold State.setRole
  split
  · rfl
  · dsimp only
    split
    · unfold State.angFree
      split <;> simp
    · simp

/-- A unit that is not ACTIVE takes another role with nothing changed in the pair's state. -/
theorem State.toRole_of_not_active {s : State} (r : Role) (h : s.isActive = false) :
    (s.toRole r).role = r ∧ (s.toRole r).pair = s.pair := by
  have hrole : s.toRole r = (s.setRole r).safSettle := by simp [State.toRole, h]
  obtain ⟨hpair, hmo⟩ := (s.setRole r).safSettle_pair_mo
  exact ⟨by rw [hrole, State.role, hmo]; exact s.setRole_role r, by rw [hrole, hpair, s.setRole_pair r]⟩

/-- A unit that is not ACTIVE comes to SYNCING, held out of the pair or not. -/
theorem State.toSyncing_of_not_active {s : State} (h : s.isActive = false) :
    s.toSyncing.role = .syncing ∧ s.toSyncing.pair.out = s.pair.out := by
  obtain ⟨hrole, hpair⟩ := State.toRole_of_not_active .syncing h
  have hout : (s.toRole .syncing).pair.out = s.pair.out := by rw [hpair]
  have hload (u : State) : (u.angDiscipline true).mo = u.mo ∧ (u.angDiscipline true).pair = u.pair := by
    unfold State.angDiscipline
    split <;> exact ⟨rfl, rfl⟩
  unfold State.toSyncing
  dsimp only
  exact ⟨(congrArg ModeSt.role (hload _).1).trans hrole, (congrArg Pair.out (hload _).2).trans hout⟩

theorem State.isActive_of_role {s : State} {r : Role} (h : s.role = r) (hr : r ≠ .active) : s.isActive = false :=
  decide_eq_false (h ▸ hr : s.role ≠ .active)

/-! ### ISOLATE and REJOIN (R361) -/

theorem exec_pairIsolate {s : State} (hup : s.up) (hboot : s.pwr.booted = true) :
    exec (.pairIsolate none) s = .next s.isolateAct.2 :=
  live_of_eq hup.on (by simp [State.pairRow, hboot]; rfl)

theorem exec_pairRejoin {s : State} (hup : s.up) (hboot : s.pwr.booted = true) :
    exec (.pairRejoin none) s = .next s.rejoinPair.2 :=
  live_of_eq hup.on (by simp [State.pairRow, hboot]; rfl)

/-- A shadow unit taken out of the pair is ISOLATED and no longer qualified. -/
theorem State.isolateAct_of_shadow {s : State} (h : s.role = .standby ∨ s.role = .syncing) :
    s.isolateAct.2.role = .isolated ∧ s.isolateAct.2.pair.out = true ∧ s.isolateAct.2.pair.qual = false := by
  have hact : s.isActive = false := h.elim (State.isActive_of_role · nofun) (State.isActive_of_role · nofun)
  have hiso : s.role ≠ .isolated := by rcases h with h | h <;> rw [h] <;> nofun
  let t : State := { s with pair := { s.pair with out := true, qual := false } }
  have hstep : s.isolateAct = (true, t.toRole .isolated) := by simp [State.isolateAct, hact, hiso, t]
  obtain ⟨hrole, hpair⟩ := State.toRole_of_not_active (s := t) .isolated hact
  rw [hstep]
  exact ⟨hrole, by rw [hpair], by rw [hpair]⟩

theorem State.isolateAct_of_active {s : State} (h : s.isActive = true) : s.isolateAct = (false, s) := if_pos h

/-- An ISOLATED unit that nothing but ISOLATE holds out of the pair passes through SYNCING. -/
theorem State.rejoinPair_of_isolated {s : State} (h : s.role = .isolated)
    (hheld : ({ s with pair := { s.pair with out := false } } : State).heldOut = false) :
    s.rejoinPair.2.role = .syncing ∧ s.rejoinPair.2.pair.out = false := by
  let t : State := { s with pair := { s.pair with out := false } }
  have hstep : s.rejoinPair = (true, t.toSyncing) := by simp [State.rejoinPair, h, hheld, t]
  rw [hstep]
  exact State.toSyncing_of_not_active (s := t) (State.isActive_of_role h nofun)

/-- Settles O57: isolating a shadow unit and rejoining an ISOLATED one are changes of the role of a unit that is not ACTIVE; an
ACTIVE one is refused at validation and at the boundary alike. -/
theorem isolateAndRejoin : Obligations.IsolateAndRejoin := by
  intro s hup hboot
  refine ⟨fun hshadow => ?_, fun hactive => ⟨?_, fun q => ?_, fun a ha => ?_⟩, fun hiso hheld => ?_⟩
  · exact ⟨_, exec_pairIsolate hup hboot, State.isolateAct_of_shadow hshadow⟩
  · rw [exec_pairIsolate hup hboot, State.isolateAct_of_active hactive]
  · have hown : (((2 : Byte) = 0) && !s.partnerBit 0 || ((2 : Byte) = 2) && s.isActive ||
        ((2 : Byte) = 3) && decide (s.role ≠ .isolated)) = true := by simp [hactive]
    exact (Bool.or_eq_true _ _).mpr (.inr hown)
  · simp [State.bndOp, ha, State.pairAct, State.isolateAct_of_active hactive]
  · exact ⟨_, exec_pairRejoin hup hboot, State.rejoinPair_of_isolated hiso hheld⟩

/-! ### Step records (R342, R345, R346) -/

/-- The record of the own step, newer than what is held, is kept, counts as in time by ac 1000, and is compared. -/
theorem State.recordSeen_of_own {s : State} {r : StepRec} (d : Word) (hshadow : s.shadowing = true) (hno : r.no = s.stepNo)
    (hac : s.ac ≤ 1000) (hnone : s.pair.record = none) (hnew : s.pair.adopted < s.stepNo) :
    s.recordSeen r d = ({ s with pair := { s.pair with record := some r, entryNew := false, recGot := true } } :
      State).recordCompare r d := by
  simp [State.recordSeen, hshadow, hno, hac, hnone, hnew]

/-- Two results that agree bit for bit count towards qualification. -/
theorem State.recordCompare_of_eq {s : State} {r : StepRec} (hused : s.pair.usedSample = true) (hdone : s.gfe.done = true)
    (h1 : s.gfe.ref1 = r.gfe.ref1) (h2 : s.gfe.ref2 = r.gfe.ref2) (hcmd : s.ang.cmd = r.cmd) :
    s.recordCompare r s.ownDigest = { s with pair := { s.pair with qsteps := min 1024 (s.pair.qsteps + 1) } } := by
  simp [State.recordCompare, hused, hdone, h1, h2, hcmd]

theorem State.recordCompare_of_ne {s : State} {r : StepRec} {d : Word} (hused : s.pair.usedSample = true)
    (hdone : s.gfe.done = true) (h : s.ownDigest ≠ d) : s.recordCompare r d = s.diverged s.ownDigest d := by
  simp [State.recordCompare, hused, hdone, h]

/-- A deviating step of a STANDBY starts the count again and leaves its flag and its count. -/
theorem State.diverged_of_standby {s : State} (own d : Word) (hsound : s.sound = true) (hrole : s.role = .standby) :
    (s.diverged own d).pair = { s.pair with qsteps := 0 } ∧
      (s.diverged own d).reg Reg.PAIR_DIV_CNT = satInc (s.reg Reg.PAIR_DIV_CNT) ∧
      (s.diverged own d).flag Reg.PAIR_FLAGS 2 = true := by
  let s0 : State := { s with pair := { s.pair with qsteps := 0 } }
  obtain ⟨t, ht⟩ : ∃ t : State, t = s0.bump Reg.PAIR_DIV_CNT := ⟨_, rfl⟩
  have htSound : t.sound = true := ht ▸ State.sound_of_eq (s0.setReg_steady _ _ hsound) hsound
  have hcount : t.reg Reg.PAIR_DIV_CNT = satInc (s.reg Reg.PAIR_DIV_CNT) := ht ▸ s0.reg_setReg_self _ _ hsound
  have hpair : t.pair = { s.pair with qsteps := 0 } := by rw [ht]; rfl
  have hdiv : s.diverged own d = (t.setReg Reg.PAIR_FLAGS (putBit (t.reg Reg.PAIR_FLAGS) 2 true)).logEv 4 0x0B 2
      (Reg.PAIR_FLAGS + own.toNat * 2 ^ 32 + d.toNat * 2 ^ 64) := by
    rw [ht]
    exact if_pos hrole
  have hlog (a : Nat) (ha : a ≠ Reg.EVLOG_FLAGS) : (s.diverged own d).reg a =
      (t.setReg Reg.PAIR_FLAGS (putBit (t.reg Reg.PAIR_FLAGS) 2 true)).reg a := by
    rw [hdiv]
    exact State.reg_logEv _ _ _ _ _ _ _ ha
  refine ⟨?_, ?_, ?_⟩
  · rw [hdiv, State.logEv_pair]
    exact hpair
  · rw [hlog _ (by decide), State.reg_setReg_ne _ _ _ _ (by decide), hcount]
  · rw [State.flag, hlog _ (by decide), State.reg_setReg_self _ _ _ htSound, bit_putBit_self _ _ _ (by decide)]

/-- A lost acknowledgement is noted, and stands for 1,024 steps (R343). -/
theorem State.ackLost_eq (s : State) :
    s.ackLost = { s.setFlag Reg.PAIR_FLAGS 10 with pair := { s.pair with ackBlock := 1024 } } := by
  simp [State.ackLost]

/-- Settles O40: a record of the own step is kept and compared; each other row is its own effect on what the hypotheses name. -/
theorem pairRecords : Obligations.PairRecords := by
  refine ⟨fun s r d hup hshadow hstep hrow hac hnone hnew hrole hused hdone => ?_, fun s hup hshadow hpaired hgot => ?_,
    fun s hup hrole => ⟨fun h => ?_, fun h => ?_⟩, fun s x hup hrole hcurrent => ?_,
    fun s u w hup hwait hu => ?_, fun s hup hnone => ?_⟩
  · have hno : r.no = s.stepNo := by rw [StepRec.no, hrow, hstep]; rfl
    have hseen := State.recordSeen_of_own d hshadow hno hac hnone hnew
    let t : State := { s with pair := { s.pair with record := some r, entryNew := false, recGot := true } }
    refine ⟨fun h1 h2 hcmd hdig => ?_, fun hdig => ?_⟩
    · refine live_of_eq hup.on (hseen.trans ?_)
      rw [← hdig]
      exact State.recordCompare_of_eq (s := t) hused hdone h1 h2 hcmd
    · obtain ⟨hpair, hcnt, hflag⟩ := State.diverged_of_standby (s := t) s.ownDigest d hup.2 hrole
      refine ⟨_, live_of_eq hup.on (hseen.trans (State.recordCompare_of_ne (s := t) hused hdone hdig)), ?_, hcnt, hflag, ?_⟩
      · exact congrArg Pair.qsteps hpair
      · exact congrArg Pair.record hpair
  · obtain ⟨acc, clk, tai, hform⟩ := s.toAc_form 1000
    refine live_of_eq hup.on ?_
    have hpair : (s.toAc 1000).pair = s.pair := by rw [hform]
    have hmiss : ((s.toAc 1000).shadowing && (s.toAc 1000).paired && !s.pair.recGot) = true := by
      rw [hform]
      simp only [Bool.and_eq_true, Bool.not_eq_true']
      exact ⟨⟨hshadow, hpaired⟩, hgot⟩
    simp only [State.recMissAct, hpair]
    exact if_pos hmiss
  · exact live_pos hup.on ⟨hrole, h⟩
  · exact live_neg hup.on fun hc => absurd hc.2 (by omega)
  · refine ⟨_, live_pos hup.on ⟨hrole, by rw [hcurrent]; rfl⟩, ?_, ?_, ?_, ?_, rfl, ?_, ?_, ?_, rfl⟩
    · intro h; simp [h]
    · intro h; simp [h]
    · intro h; simp [h]
    · intro a r h; simp [h]
    · intro r h; simp [h]
    · intro h; simp [h]
    · exact State.reg_setReg_self _ _ _ hup.2
  · have hlate : s.ackLateAct = s.atDue (w.since + 8000) (fun s =>
        ((({ s.setFlag Reg.PAIR_FLAGS 10 with pair := { s.pair with ackBlock := 1024 } } : State).release
          (fun x => decide (x.since + 8000 ≤ s.sys.clk))).flush)) := by
      simp only [State.ackLateAct, hwait, State.ackLost_eq]
    exact live_atDue hup.on hlate hu
  · exact live_of_eq hup.on (by simp only [State.ackLateAct, hnone, List.find?_nil])

end Sys2Proof.Machine
end

section
/-! PROOFS. What validation refuses, and immediate commands: those that act before their reply, those that act after it, and the
one whose reply waits. -/
namespace Sys2Proof.Machine

/-! ### Validation of a command taken at once -/

/-- A command taken at once is validated, and then its session is drained of what it held, which is nothing. -/
theorem exec_of_admits {s : State} {i : Instr} {q : Req} {op : HostOp} {x : Sess} (hi : i.hostCmd = some (q, op))
    (h : s.admits q op x) : exec i s = .next (State.drain 17 q.session ((s.took q).hostExec q op)) := by
  have hup : s.up := h.1
  rw [exec_of_hostCmd hi, live_on hup.on, State.hostIn_of_admits h]

/-- What validation sees of a unit that takes a command at once: the session that has taken it, no waiting reply, and no standby
that has to acknowledge. -/
theorem State.took_of_admits {s : State} {q : Req} {op : HostOp} {x : Sess} (h : s.admits q op x) :
    (s.took q).sess q.session.val = some (x.took q s.sys.clk) ∧ (s.took q).cmd.waits = [] ∧ (s.took q).mirrored = false ∧
      (x.took q s.sys.clk).last ≠ 0xFFFFFFFF#32 := by
  obtain ⟨-, -, -, -, hsess, -, -, hheld, -, hseq, hwaits, hmir⟩ := h
  exact ⟨State.took_sess hsess hheld, hwaits, hmir, hseq⟩

/-- The answer at once ends the command: nothing follows it out of its session. -/
theorem exec_of_answers {s t : State} {i : Instr} {q : Req} {op : HostOp} {x y : Sess} {r : Reply}
    (hi : i.hostCmd = some (q, op)) (h : s.admits q op x) (hexec : (s.took q).hostExec q op = t.answers q none r)
    (hr : r.session = q.session.val) (ht : t.sess q.session.val = some y) (hlast : y.last ≠ 0xFFFFFFFF#32)
    (hheld : y.held = []) : exec i s = .next (t.answers q none r) := by
  rw [exec_of_admits hi h, hexec, State.drain_answers hr ht hlast hheld]

/-! ### A command that validation refuses -/

/-- A refusal leaves the commands, and what decides whether a standby has to acknowledge, as they are. -/
theorem State.refused_frame (s : State) (op : HostOp) (st : Nat) :
    (s.refused op st).cmd = s.cmd ∧ (s.refused op st).mirrored = s.mirrored := by
  have hflag (a b : Nat) (ha : a ≠ Reg.PAIR_CFG) : (s.setFlag a b).cmd = s.cmd ∧ (s.setFlag a b).mirrored = s.mirrored := by
    have hpaired : (s.setFlag a b).paired = s.paired := by
      rw [State.paired, State.paired, State.flag, State.flag, State.reg_setFlag_ne _ _ _ _ _ _ ha.symm (by decide)]
    refine ⟨by simp, ?_⟩
    rw [State.mirrored, State.mirrored, hpaired]
    simp [State.isActive]
  unfold State.refused
  split
  · split
    · exact hflag _ _ (by decide)
    · exact ⟨rfl, rfl⟩
  · split
    · exact hflag _ _ (by decide)
    · exact ⟨rfl, rfl⟩
  · exact ⟨rfl, rfl⟩

theorem State.hostExec_of_refused {u : State} {q : Req} {op : HostOp} {x : Sess} {st : Nat} {data : List Byte}
    (hsess : u.sess q.session.val = some x) (hwaits : u.cmd.waits = []) (hmir : u.mirrored = false)
    (hv : u.verdict x q op = some (st, data)) :
    u.hostExec q op = ((u.refused op st).journal x q op false).answers q none
      { u.mkReply q (opCode op) 0 [] with status := st, data := data } := by
  obtain ⟨hcmd, hm⟩ := u.refused_frame op st
  have hs : (u.refused op st).sess q.session.val = some x := by rw [State.sess, hcmd]; exact hsess
  simp only [State.hostExec, hsess, hv]
  exact State.flush_pushWait (s := (u.refused op st).journal x q op false) _ _ ((congrArg Cmd.waits hcmd).trans hwaits)
    (hm.trans hmir) hs

/-- Settles O50: the refusal is an answer at once, of the state that the rule gives the refusal. -/
theorem hostRefused : Obligations.HostRefused := by
  intro s i q op x st data hi hadm u hu hv
  subst hu
  obtain ⟨hsess, hwaits, hmir, hlast⟩ := State.took_of_admits hadm
  have hs : ((s.took q).refused op st).sess q.session.val = some (x.took q s.sys.clk) := by
    rw [State.sess, (State.refused_frame _ op st).1]
    exact hsess
  exact exec_of_answers (y := x.took q s.sys.clk) hi hadm (State.hostExec_of_refused hsess hwaits hmir hv) rfl hs hlast rfl

/-! ### SPS_CONFIRM (R390) -/

/-- A confirm command with another value than SAF_CHK fails the check of the safety channels, and no earlier one. -/
theorem State.verdict_spsConfirm {u : State} {x : Sess} (q : Req) {c : Word} (hc : c ≠ u.safChk)
    (hrole : x.roles.testBit (opRole (.spsConfirm c)) = true) (hmode : u.modeForbids (.spsConfirm c) = false) :
    u.verdict x q (.spsConfirm c) = some (0x301, []) := by
  have hclass : opClass (.spsConfirm c) = 9 := by simp [opClass, opCode]
  have hvalue : u.valueBad (.spsConfirm c) = false := rfl
  have hsafety : u.safetyRefuses (.spsConfirm c) = true := decide_eq_true hc
  have hdata : u.refusalData (.spsConfirm c) 0x301 = [] := rfl
  unfold State.verdict
  simp only [hrole, hmode, hclass, hvalue, hsafety, opBadLen, List.find?_cons, List.find?_nil]
  simp [hdata]

theorem State.bndOp_spsConfirm_of_ne {s : State} {a : Accepted} {c : Word} (ha : a.op = .spsConfirm c) (hc : c ≠ s.safChk) :
    s.bndOp a = (0x301, [], s.setFlag Reg.SAF_FLAGS 6) := by
  simp [State.bndOp, ha, State.confirmAct, hc]

/-- Settles O58: at once the command is refused as every other is, with the flag of the refusal; at its boundary the value is
compared again. -/
theorem confirmRefused : Obligations.ConfirmRefused := by
  refine ⟨fun s q c x hadm u hu hc hrole hmode => ?_, fun s a c ha hc => State.bndOp_spsConfirm_of_ne ha hc, fun s hs =>
    State.flag_setFlag s _ _ _ _ hs (by decide) (by decide)⟩
  exact hostRefused s _ q _ x _ _ rfl hadm u hu (State.verdict_spsConfirm q hc hrole hmode)

/-! ### An immediate command that acts before its reply -/

/-- The reads of a command whose signals stand are taken at once, and answered (R408). -/
theorem State.hostExec_of_reads {u w : State} {q : Req} {op : HostOp} {x : Sess} (hsess : u.sess q.session.val = some x)
    (hb : opBoundary op = false) (hv : u.verdict x q op = none) (hreads : opReads op = true) (hdone : u.gfe.done = true)
    (hw : w = (u.readRegs op).2.journal x q op false) (hwaits : w.cmd.waits = []) (hmir : w.mirrored = false)
    (hws : w.sess q.session.val = some x) :
    u.hostExec q op = w.answers q none { u.mkReply q (opCode op) 0 [] with data := (u.readRegs op).1 } := by
  simp only [State.hostExec, hsess, hv, hb, hreads, hdone, Bool.not_true, Bool.and_false, Bool.not_false, Bool.and_true,
    Bool.false_eq_true, if_true, if_false, ← hw]
  exact State.flush_pushWait _ _ hwaits hmir hws

/-- The wait of a first reply, before the command has executed. -/
def State.firstWait (s : State) (q : Req) (op : HostOp) : Wait :=
  { q := q, reply := s.mkReply q (opCode op) 0 [], run := none, read := none, ack := false, tag := none, since := s.sys.clk }

/-- A command that changes nothing the standby has to acknowledge first executes, and its reply is known (R343, R402). -/
theorem State.hostExec_of_runs {u v : State} {q : Req} {op : HostOp} {x : Sess} (hsess : u.sess q.session.val = some x)
    (hb : opBoundary op = false) (hv : u.verdict x q op = none) (hreads : opReads op = false) (hlate : lateOp op = false)
    (hok : (u.immOp q op).1 = 0) (hw : v = u.journal x q op false) (hmir : v.mirrored = false) :
    u.hostExec q op = ((v.runWait (u.firstWait q op) op).2.pushWait (v.runWait (u.firstWait q op) op).1).flush := by
  simp only [State.hostExec, hsess, hv, hb, hreads, hlate, hok, ← hw, hmir, Bool.false_and, Bool.and_false, Bool.or_false,
    Bool.false_eq_true, if_false, ne_eq, not_true_eq_false]
  rfl

/-- The reply of every immediate command but a management request is complete once the command has executed (R411). -/
theorem State.runWait_of_not_mgmt (s : State) (w : Wait) {op : HostOp} (h : ∀ c k b d, op ≠ .mgmtSend c k b d) :
    s.runWait w op = ({ w with
      run := none, tag := none, reply := { w.reply with status := (s.immOp w.q op).1, data := (s.immOp w.q op).2.1 } },
      (s.immOp w.q op).2.2) := by
  unfold State.runWait
  split
  · exact absurd rfl (h _ _ _ _)
  · rfl

/-- Settles O52: the reads are taken, or the command executes, and the answer leaves at once. -/
theorem hostExecuted : Obligations.HostExecuted := by
  intro s i q op x hi hadm hb u v hu hv hjrn
  subst hu
  obtain ⟨hsess, -, hmir, hlast⟩ := State.took_of_admits hadm
  refine ⟨fun hreads hdone w hw hwaits hcore hwmir => ?_, fun hreads hlate hmgmt hok hwaits hcore hrmir => ?_⟩
  · have hws : w.sess q.session.val = some (x.took q s.sys.clk) := by rw [State.sess, hcore]; exact hsess
    exact exec_of_answers hi hadm (State.hostExec_of_reads hsess hb hv hreads hdone hw hwaits hwmir hws) rfl hws hlast rfl
  · let t := (v.immOp q op).2.2
    have hts : t.sess q.session.val = some (x.took q s.sys.clk) := by rw [State.sess, hcore]; exact hsess
    have hexec := State.hostExec_of_runs hsess hb hv hreads hlate hok hjrn (hjrn ▸ hmir)
    rw [State.runWait_of_not_mgmt v _ hmgmt] at hexec
    exact exec_of_answers hi hadm (hexec.trans (State.flush_pushWait _ _ hwaits hrmir hts)) rfl hts hlast rfl

/-! ### Commands that act once their reply has left -/

/-- With no other reply waiting and no standby to acknowledge, the reply leaves, and then the command acts (R409). -/
theorem State.flush_pushWait_of_run {s : State} {q : Req} {x : Sess} {op : HostOp} {r : Reply} (since : Nat)
    (hwaits : s.cmd.waits = []) (hmir : s.mirrored = false) (hsess : s.sess q.session.val = some x) (hr : r.status = 0)
    (hdata : r.data = []) (hop : ∀ u : State, (u.immOp q op).1 = 0 ∧ (u.immOp q op).2.1 = []) :
    (s.pushWait { q := q, reply := r, run := some op, read := none, ack := false, tag := none, since := since }).flush =
      ((s.answers q (some op) r).immOp q op).2.2 := by
  let w : Wait := { q := q, reply := r, run := some op, read := none, ack := false, tag := none, since := s.sys.clk }
  change (s.pushWait w).flush = (((s.pushWait w).noWaits.deliver1 r).immOp q op).2.2
  have hcmd := s.pushWait_cmd w
  have hw : (s.pushWait w).cmd.waits = [w] := by rw [hcmd, hwaits, hmir]; rfl
  have hx : (s.pushWait w).noWaits.sess q.session.val = some x := by
    rw [State.sess, State.noWaits, hcmd]
    exact hsess
  have hreply : { r with status := 0, data := [] } = r := by rw [← hr, ← hdata]
  simp only [State.flush, hw, List.foldl_cons, List.foldl_nil, w, hx, Option.isNone_some, Wait.ready, State.sendWait,
    (hop _).1, (hop _).2, hreply]
  rfl

/-- An answer leaves the unit's power and what the mode logic holds. -/
theorem State.answers_frame (s : State) (q : Req) (run : Option HostOp) (r : Reply) :
    (s.answers q run r).pwr = s.pwr ∧ (s.answers q run r).mo = s.mo := by
  unfold State.answers State.deliver1 State.pushWait
  dsimp only
  split <;> split <;> exact ⟨rfl, rfl⟩

theorem State.sess_closeSess (s : State) (n : Nat) : (s.closeSess n).sess n = none := by
  simp [State.sess, State.closeSess, State.updCmds]

theorem State.drain_of_no_sess {t : State} {n : Fin 9} (k : Nat) (h : t.sess n.val = none) : State.drain k n t = t := by
  cases k with
  | zero => rfl
  | succ k => simp [State.drain, h]

/-- A command that acts after its reply: the reply leaves, it acts, and its session is gone with it. -/
theorem exec_of_late {s v : State} {i : Instr} {q : Req} {op : HostOp} {x : Sess} {r : Reply} (hi : i.hostCmd = some (q, op))
    (h : s.admits q op x) (hv : (s.took q).verdict (x.took q s.sys.clk) q op = none)
    (hjrn : v = (s.took q).journal (x.took q s.sys.clk) q op false) (hlate : lateOp op = true)
    (hr : r = (s.took q).mkReply q (opCode op) 0 [])
    (hop : ∀ u : State, (u.immOp q op).1 = 0 ∧ (u.immOp q op).2.1 = [])
    (hgone : ((v.answers q (some op) r).immOp q op).2.2.sess q.session.val = none) :
    exec i s = .next ((v.answers q (some op) r).immOp q op).2.2 := by
  obtain ⟨hsess, hwaits, hmir, -⟩ := State.took_of_admits h
  have hkind : opBoundary op = false ∧ opReads op = false := by cases op <;> cases hlate <;> exact ⟨rfl, rfl⟩
  obtain ⟨hb, hreads⟩ := hkind
  have hexec : (s.took q).hostExec q op = ((v.answers q (some op) r).immOp q op).2.2 := by
    simp only [State.hostExec, hsess, hv, hb, hreads, hlate, (hop _).1, ← hjrn, ← hr, Bool.false_and, Bool.true_or,
      Bool.false_eq_true, if_true, if_false, ne_eq, not_true_eq_false]
    exact State.flush_pushWait_of_run _ (hjrn ▸ hwaits) (hjrn ▸ hmir) (x := x.took q s.sys.clk) (hjrn ▸ hsess) (hr ▸ rfl)
      (hr ▸ rfl) hop
  rw [exec_of_admits hi h, hexec, State.drain_of_no_sess _ hgone]

/-- A reset ends every session (R457). -/
theorem State.resetNow_sessions {s : State} (cause : Nat) (on : s.pwr.on = true) :
    (s.resetNow cause).pwr.on = false ∧ (s.resetNow cause).pwr.cause = cause ∧ (s.resetNow cause).cmd.core.sess = [] ∧
      (s.resetNow cause).mode = .init ∧
      (s.resetNow cause).sec = { s.sec with up := none, debug := false, nonce := 0, loaderOnly := false } := by
  obtain ⟨u, hreset, hsec, -⟩ := State.resetNow_of_on cause 0 on
  rw [hreset, ← hsec]
  exact ⟨rfl, rfl, rfl, rfl, rfl⟩

/-! ### A management request (R411) -/

/-- A management request takes the next TAG, whatever way it goes. -/
theorem State.mgmtOut_cmd (s : State) (c : Bool) (id code : Nat) (body : List Byte) :
    (s.mgmtOut c id code body).cmd = { s.cmd with tag := (s.cmd.tag + 1) % 2 ^ 32 } := by
  unfold State.mgmtOut
  dsimp only
  split <;> split <;> rfl

/-- A reply that waits for an answer stays. -/
theorem State.flush_of_tag {s : State} {w : Wait} {x : Sess} {k : Nat} (hwaits : s.cmd.waits = [w])
    (hsess : s.sess w.q.session.val = some x) (htag : w.tag = some k) :
    s.flush = { s.noWaits with cmd := { s.noWaits.cmd with waits := [w] } } := by
  have hx : s.noWaits.sess w.q.session.val = some x := hsess
  simp only [State.flush, hwaits, List.foldl_cons, List.foldl_nil, hx, Wait.ready, htag, State.keepWait, Option.isNone_some,
    Option.isSome_some, Bool.and_false, Bool.not_false, Bool.true_or, if_true, Bool.false_eq_true, if_false]
  rfl

/-- CLOSE, RESET and DEBUG_UNLOCK answer with nothing but their status. -/
theorem State.immOp_of_late {op : HostOp} (h : lateOp op = true) (q : Req) (u : State) :
    (u.immOp q op).1 = 0 ∧ (u.immOp q op).2.1 = [] := by
  cases op <;> cases h <;> exact ⟨rfl, rfl⟩

/-- A command that resets the unit after its reply: the unit is held in reset, with the cause, and no session is left. -/
theorem exec_of_late_reset {s u v : State} {i : Instr} {q : Req} {op : HostOp} {x : Sess} {r : Reply} {cause : Nat}
    (hi : i.hostCmd = some (q, op)) (h : s.admits q op x) (hv : (s.took q).verdict (x.took q s.sys.clk) q op = none)
    (hjrn : v = (s.took q).journal (x.took q s.sys.clk) q op false) (hlate : lateOp op = true)
    (hr : r = (s.took q).mkReply q (opCode op) 0 [])
    (himm : ((v.answers q (some op) r).immOp q op).2.2 = u.resetNow cause) (on : u.pwr.on = true) :
    exec i s = .next (u.resetNow cause) := by
  obtain ⟨-, -, hnone, -⟩ := State.resetNow_sessions cause on
  rw [exec_of_late hi h hv hjrn hlate hr (State.immOp_of_late hlate q) (by rw [himm, State.sess, hnone, List.find?_nil]), himm]

/-- What the RESET of a unit that is not ACTIVE does after its reply. -/
theorem State.immOp_reset {u : State} (q : Req) (h : u.isActive = false) : (u.immOp q .reset).2.2 = u.resetNow 3 :=
  if_neg (by simp [h])

/-- An accepted token takes the keys before it resets the unit (R478). -/
theorem State.debugAct_resets (s : State) : ∃ u : State, s.debugAct = u.resetNow 8 ∧ u.pwr = s.pwr ∧ u.sec.debugNext = true ∧
    u.sec.devKey = none ∧ u.sec.mtrKey = none := ⟨_, rfl, rfl, rfl, rfl, rfl⟩

/-- A management request goes out under the next TAG, and its reply waits alone for the answer (R411). -/
theorem exec_mgmtSend {s v : State} {i : Instr} {q : Req} {c : Bool} {id code : BitVec 16} {body : List Byte} {x : Sess}
    (hi : i.hostCmd = some (q, .mgmtSend c id code body)) (h : s.admits q (.mgmtSend c id code body) x)
    (hv : (s.took q).verdict (x.took q s.sys.clk) q (.mgmtSend c id code body) = none)
    (hjrn : v = (s.took q).journal (x.took q s.sys.clk) q (.mgmtSend c id code body) false) :
    ∃ t w, exec i s = .next t ∧ t.cmd.waits = [w] ∧ w.tag = some ((v.cmd.tag + 1) % 2 ^ 32) ∧ w.q = q ∧
      t.cmd.tag = (v.cmd.tag + 1) % 2 ^ 32 := by
  obtain ⟨hsess, hwaits, hmir, hlast⟩ := State.took_of_admits h
  obtain ⟨u, hu⟩ : ∃ u, u = v.mgmtOut c id.toNat code.toNat body := ⟨_, rfl⟩
  have hucmd : u.cmd = { v.cmd with tag := (v.cmd.tag + 1) % 2 ^ 32 } := hu ▸ v.mgmtOut_cmd c _ _ body
  obtain ⟨w, hrun, hwq, hwtag⟩ : ∃ w, v.runWait ((s.took q).firstWait q (.mgmtSend c id code body))
      (.mgmtSend c id code body) = (w, u) ∧ w.q = q ∧ w.tag = some u.cmd.tag := hu ▸ ⟨_, rfl, rfl, rfl⟩
  obtain ⟨w', hw'⟩ : ∃ w', w' = { w with ack := u.mirrored, since := u.sys.clk } := ⟨_, rfl⟩
  have hq : w'.q = q := by rw [hw', hwq]
  have htag : w'.tag = some u.cmd.tag := by rw [hw', hwtag]
  have hcmd := u.pushWait_cmd w
  have hone : (u.pushWait w).cmd.waits = [w'] := by
    rw [hcmd, hucmd, hjrn, hw']
    exact congrArg (· ++ _) hwaits
  have hpush : (u.pushWait w).sess w'.q.session.val = some (x.took q s.sys.clk) := by
    rw [State.sess, hcmd, hucmd, hjrn, hq]
    exact hsess
  have hexec := State.hostExec_of_runs hsess rfl hv rfl rfl rfl hjrn (hjrn ▸ hmir)
  rw [hrun, State.flush_of_tag hone hpush htag] at hexec
  have hend := exec_of_admits hi h
  rw [hexec, State.drain_of_held_nil 17 (x := x.took q s.sys.clk) (hq ▸ hpush) hlast rfl] at hend
  have htagv : u.cmd.tag = (v.cmd.tag + 1) % 2 ^ 32 := by rw [hucmd]
  have hkept : (u.pushWait w).cmd.tag = u.cmd.tag := by rw [hcmd]
  exact ⟨_, w', hend, rfl, htagv ▸ htag, hq, hkept.trans htagv⟩

/-- Settles O53: `exec_of_late` for what acts after its reply, and the wait of a management request, which stays. -/
theorem hostLate : Obligations.HostLate := by
  intro s q op x hadm u v hu hv hjrn
  subst hu
  obtain ⟨r, hr⟩ : ∃ r, r = (s.took q).mkReply q (opCode op) 0 [] := ⟨_, rfl⟩
  have hup : s.up := hadm.1
  obtain ⟨hpwr, hmo⟩ := v.answers_frame q (some op) r
  have hon : (v.answers q (some op) r).pwr.on = true := by rw [hpwr, hjrn]; exact hup.on
  refine ⟨fun hop => ?_, fun hop hact => ?_, fun k hop => ?_, fun c id code body hop => ?_⟩
  · subst hop
    rw [exec_of_late rfl hadm hv hjrn rfl hr (State.immOp_of_late rfl q) (State.sess_closeSess _ _), hr]
    rfl
  · subst hop
    have hidle : (v.answers q (some .reset) r).isActive = false := by
      rw [State.isActive, hmo, hjrn]
      exact hact
    obtain ⟨hoff, hcause, hnone, hmode, -⟩ := State.resetNow_sessions 3 hon
    exact ⟨_, exec_of_late_reset rfl hadm hv hjrn rfl hr (State.immOp_reset q hidle) hon, hoff, hcause, hnone, hmode⟩
  · subst hop
    obtain ⟨u, hact, hu, hnext, hdev, hmtr⟩ := (v.answers q (some (.debugUnlock k)) r).debugAct_resets
    obtain ⟨hoff, hcause, -, -, hsec⟩ := State.resetNow_sessions 8 (hu ▸ hon)
    have hexec := exec_of_late_reset (i := .debugUnlock q k) rfl hadm hv hjrn rfl hr hact (hu ▸ hon)
    exact ⟨_, hexec, hoff, hcause, hsec ▸ hnext, hsec ▸ hdev, hsec ▸ hmtr⟩
  · subst hop
    obtain ⟨t, w, hexec, hwaits, htag, hq, hnext⟩ := exec_mgmtSend (i := .mgmtSend q c id code body) rfl hadm hv hjrn
    have hv0 : v.cmd.tag = s.cmd.tag := by rw [hjrn]; rfl
    exact ⟨t, w, hexec, hwaits, hv0 ▸ htag, hq, hv0 ▸ hnext⟩

end Sys2Proof.Machine
end

section
/-! PROOFS. What host commands do when they execute, at once and at their boundary. -/
namespace Sys2Proof.Machine

/-! ### What follows from a change in the safety set -/

/-- What follows from a change in the safety set leaves the latch and the confirmation. -/
theorem State.safSettle_saf (s : State) : s.safSettle.saf.spb = s.saf.spb ∧ s.safSettle.saf.confirmed = s.saf.confirmed ∧
    s.safSettle.saf.chkConf = s.saf.chkConf := by
  obtain ⟨_, _, _, _, _, _, _, _, h⟩ := s.safSettle_form
  rw [h]
  exact ⟨rfl, rfl, rfl⟩

theorem State.sinApart_confirmed (l : List Nat) (s : State) : (l.foldl State.sinApart s).saf.confirmed = s.saf.confirmed := by
  induction l generalizing s with
  | nil => rfl
  | cons k l ih => exact ih (s.sinApart k)

/-- A write of the safety set clears its confirmation (R389). -/
theorem State.spsAct_confirmed (s : State) (l : List (Nat × Word)) : (s.spsAct l).saf.confirmed = false := by
  obtain ⟨-, hconf, -⟩ := State.safSettle_saf
    ((upto 8).foldl State.sinApart { s.spsPut l with saf := { (s.spsPut l).saf with confirmed := false } })
  exact hconf.trans (State.sinApart_confirmed _ _)

/-- The set is confirmed with the value that SAF_CHK shows (R389). -/
theorem State.confirmAct_of_eq {s : State} {c : Word} (h : c = s.safChk) : ∃ t, s.confirmAct c = (true, t) ∧
    t.saf.confirmed = true ∧ t.saf.chkConf = c := by
  obtain ⟨-, hconf, hchk⟩ := State.safSettle_saf { s with saf := { s.saf with confirmed := true, chkConf := c } }
  exact ⟨_, if_pos h, hconf, hchk⟩

theorem State.resetClear_spb (s : State) : s.resetClear.saf.spb = false := by
  unfold State.resetClear
  extract_lets _ cleared _ shadow
  have hshadow : shadow.saf.spb = false := by
    unfold shadow
    split <;> rfl
  exact (State.safSettle_saf (shadow.setReg Reg.SAF_FLAGS 0)).1.trans hshadow

/-- An accepted reset clears the latch of the safe pulse block (R386). -/
theorem State.safResetAct_of_accepts {s : State} (h : s.resetAccepts = true) : ∃ t, s.safResetAct = (true, t) ∧
    t.saf.spb = false := by
  refine ⟨_, if_pos h, ?_⟩
  dsimp only
  split <;> exact s.resetClear_spb

theorem State.safResetAct_of_refuses {s : State} (h : s.resetAccepts = false) : s.safResetAct = (false, s) :=
  if_neg (ne_true_of_eq_false h)

/-! ### Immediate commands -/

theorem State.immOp_ownClaim (s : State) (q : Req) (c : Byte) : s.immOp q (.ownClaim c) =
    if s.classOwner c.toNat ≠ 0 ∧ s.classOwner c.toNat ≠ q.session.val then (0x101, [], s)
    else (0, [], s.setOwner c.toNat q.session.val) := rfl

theorem State.immOp_ownRelease (s : State) (q : Req) (c : Byte) : s.immOp q (.ownRelease c) =
    if s.classOwner c.toNat = q.session.val then (0, [], s.setOwner c.toNat 0) else (0x101, [], s) := rfl

theorem State.immOp_acqFree (s : State) (q : Req) (num : Word) : s.immOp q (.acqFree num) =
    ((s.acqFreeAct num).1, [], (s.acqFreeAct num).2) := rfl

theorem State.immOp_safProofOut (s : State) (q : Req) (out seen : Byte) : s.immOp q (.safProofOut out seen) =
    ((s.proofSeen out.toNat (decide (seen.toNat = 1))).1, [], (s.proofSeen out.toNat (decide (seen.toNat = 1))).2) := rfl

theorem State.immOp_fwEnd (s : State) (q : Req) : s.immOp q .fwEnd = (0, s.fwEndAct.1, s.fwEndAct.2) := rfl

theorem State.immOp_fwActivate (s : State) (q : Req) (b : Byte) : s.immOp q (.fwActivate b) =
    if s.activateBad (decide (b.toNat = 1)) then (0x101, [], s)
    else (0, [], { s with sec := { s.sec with chosen := decide (b.toNat = 1) } }) := rfl

/-- Without an upload one can begin (R473). -/
theorem State.immOp_fwBegin {s : State} (q : Req) (len ver : Word) (h : s.sec.up = none) :
    s.immOp q (.fwBegin len ver) = (0, [], s.fwBeginAct len.toNat ver) := by
  refine if_neg ?_
  rw [h]
  exact Bool.false_ne_true

/-- An upload begins: the image not running is given up, the one that runs stays (R473). -/
theorem State.fwBeginAct_spec (s : State) (len : Nat) (ver : Word) :
    (s.fwBeginAct len ver).image (!s.sec.running) = none ∧
      (s.fwBeginAct len ver).image s.sec.running = s.image s.sec.running ∧
      (s.fwBeginAct len ver).sec.up = some { img := !s.sec.running, len := len, ver := ver, data := [], ended := none } := by
  unfold State.fwBeginAct State.setImage State.image
  dsimp only
  cases s.sec.running <;> exact ⟨rfl, rfl, rfl⟩

/-- An incomplete upload ends with result 2 and no hash, and neither image changes (R473). -/
theorem State.fwEndAct_of_incomplete {s : State} {u : Upload} (hup : s.sec.up = some u) (hlen : u.data.length ≠ u.len) :
    s.fwEndAct = (leBytes 1 2 ++ List.replicate 48 0,
      { s with sec := { s.sec with up := some { u with ended := some 2 } } }) := by
  simp only [State.fwEndAct, hup]
  exact if_pos hlen

/-- A confirmation that test 5 does not await is refused (R392). -/
theorem State.proofSeen_of_not_awaited {s : State} {p : Proof} (out : Nat) (seen : Bool) (hproof : s.saf.proof = some p)
    (h : p.test ≠ 5 ∨ p.await = false) : s.proofSeen out seen = (0x101, s) := by
  have hno : ¬ (p.test = 5 ∧ p.await = true ∧ p.outs.head? = some out) := fun ⟨ht, ha, _⟩ =>
    h.elim (absurd ht) fun hf => absurd ha (ne_true_of_eq_false hf)
  simp only [State.proofSeen, hproof]
  exact if_neg hno

theorem State.acqFreeAct_of_head {s : State} {r : AcqRec} {num : Word} (hhead : s.acqHeadRec = some r) (hnum : r.num = num) :
    s.acqFreeAct num = (0, { s with acq := { s.acq with done := s.acq.done.filter (fun x => decide (x.num ≠ num)) } }) := by
  simp only [State.acqFreeAct, hhead]
  exact if_pos hnum

/-! ### Boundary commands -/

/-- The new seal (R330): the digest, the count and the audit entry. -/
theorem State.sealAct_spec (s : State) (serial : List Byte) : (s.sealAct serial).2.mtr.sealed = true ∧
    (s.sealAct serial).2.mtr.digest = (s.sealAct serial).1 ∧ (s.sealAct serial).2.mtr.broken = false ∧
    (s.sealAct serial).2.mtr.audit = satInc s.mtr.audit := by
  simp [State.sealAct, State.auditAdd]

/-- Settles O54: each command by the lemma about what it does, or by its own branch of `immOp` and `bndOp`. -/
theorem hostEffects : Obligations.HostEffects := by
  refine ⟨fun s q => ⟨fun c h => ?_, fun c h0 hq => ?_, fun c h => ?_, ⟨rfl, rfl⟩, fun r num hhead hnum => ?_, rfl,
    fun len ver hup => ?_, fun b h => ?_, fun u hup hlen => ?_, fun p out seen hproof h => ?_⟩,
    fun s a => ⟨fun v h => ?_, fun v h => ?_, fun v h => ?_, fun v h => ?_, fun k h => ?_, fun l h => ?_, fun o l h => ?_,
    fun c h hc => ?_, fun h => ?_, fun h hacc => ?_, fun h hacc => ?_, fun h => ?_⟩⟩
  · rw [State.immOp_ownClaim]
    exact if_neg fun hc => hc.1 h
  · rw [State.immOp_ownClaim]
    exact if_pos ⟨h0, hq⟩
  · rw [State.immOp_ownRelease]
    exact if_pos h
  · rw [State.immOp_acqFree, State.acqFreeAct_of_head hhead hnum]
  · exact ⟨_, State.immOp_fwBegin q len ver hup, s.fwBeginAct_spec len.toNat ver⟩
  · rw [State.immOp_fwActivate]
    exact if_neg (ne_true_of_eq_false h)
  · have hend := State.fwEndAct_of_incomplete hup hlen
    refine ⟨s.fwEndAct.2, ?_, by rw [hend]; rfl⟩
    rw [State.immOp_fwEnd, hend]
  · rw [State.immOp_safProofOut, State.proofSeen_of_not_awaited _ _ hproof h]
  · simp only [State.bndOp, h]
    rfl
  · simp only [State.bndOp, h]
    rfl
  · simp only [State.bndOp, h]
    rfl
  · simp only [State.bndOp, h]
    rfl
  · simp only [State.bndOp, h]
  · simp only [State.bndOp, h]
  · exact ⟨s.spsAct (spsList o.toNat l), by simp only [State.bndOp, h], s.spsAct_confirmed _⟩
  · obtain ⟨t, hact, hconf, hchk⟩ := State.confirmAct_of_eq hc
    exact ⟨t, by simp only [State.bndOp, h, hact, if_true], hconf, hchk⟩
  · simp only [State.bndOp, h]
    rfl
  · obtain ⟨t, hact, hspb⟩ := State.safResetAct_of_accepts hacc
    exact ⟨t, by simp only [State.bndOp, h, hact, if_true], hspb⟩
  · simp [State.bndOp, h, State.safResetAct_of_refuses hacc]
  · exact ⟨_, _, by simp only [State.bndOp, h], s.sealAct_spec a.serial⟩

end Sys2Proof.Machine
end

section
/-! PROOFS. Sessions and packets, their time-outs, and the answers to management requests. -/
namespace Sys2Proof.Machine

/-! ### The handshake (R474) -/

theorem exec_hello {s : State} {port : HostPort} (p : List Byte) (hup : s.up) (hawake : s.asleep = false) :
    exec (.hello port p) s = .next (s.helloIn port 0 p) := live_of_eq hup.on (if_neg (ne_true_of_eq_false hawake))

theorem exec_finish {s : State} {port : HostPort} {n : Fin 9} (sig : List Byte) (hup : s.up) (hawake : s.asleep = false) :
    exec (.finish port n sig) s = .next (s.finishIn port n sig) :=
  live_of_eq hup.on (if_neg (ne_true_of_eq_false hawake))

section Hello
variable {s : State} {port : HostPort} (seq : Word) {p : List Byte} (hboot : s.pwr.booted = true)
  (hopen : s.portOpen port = true) (hdev : s.devReady = true ∨ port = .s0) (hloader : s.sec.loaderOnly = false ∨ port = .s0)
include hboot hopen hdev hloader

/-- A HELLO that reaches a unit which may answer it is refused in clear, counted, or has a session allotted (R395, R405). -/
theorem State.helloIn_of_open :
    (s.shadowing = true → s.helloIn port seq p = s.clearReply port seq 0x103 []) ∧
    (s.shadowing = false → s.freeSess = none → s.helloIn port seq p = s.clearReply port seq 0x10B []) ∧
    (∀ n, s.shadowing = false → s.freeSess = some n → helloOk p = false → s.helloIn port seq p = s.bump Reg.CMD_AUTH_FAIL) ∧
    (∀ n c, s.shadowing = false → s.freeSess = some n → helloOk p = true → s.helloCert p = some c →
      s.helloIn port seq p = s.allot port seq p n c) := by
  have hstart : ¬ (!s.pwr.booted || !s.portOpen port) = true := by simp [hboot, hopen]
  have hready : ¬ (!s.devReady && decide (port ≠ .s0)) = true := by rcases hdev with h | h <;> simp [h]
  have hfull : ¬ (s.sec.loaderOnly && decide (port ≠ .s0)) = true := by rcases hloader with h | h <;> simp [h]
  unfold State.helloIn
  rw [if_neg hstart, if_neg hready, if_neg hfull]
  exact ⟨fun h => if_pos h, fun h hfree => by simp [h, hfree], fun n h hfree hok => by simp [h, hfree, hok],
    fun n c h hfree hok hcert => by simp [h, hfree, hok, hcert]⟩

end Hello

/-- The session allotted is there, and it is one more. -/
theorem State.allot_sess (s : State) (port : HostPort) (seq : Word) (p : List Byte) (n : Nat)
    (cert : List Byte × Nat × List Byte) : ((s.allot port seq p n cert).sess n).isSome = true ∧
      (s.allot port seq p n cert).cmd.core.sess.length = s.cmd.core.sess.length + 1 := by
  obtain ⟨x, hnum, hsess⟩ : ∃ x : Sess, x.num = n ∧ (s.allot port seq p n cert).cmd.core.sess = s.cmd.core.sess ++ [x] :=
    ⟨_, rfl, rfl⟩
  rw [State.sess, hsess, List.find?_isSome]
  exact ⟨⟨x, by simp, by simp [hnum]⟩, by simp⟩

/-- A FINISH on a session that awaits it opens the session, or frees its number (R474). -/
theorem State.finishIn_of_allotted {s : State} {port : HostPort} {n : Fin 9} {sig : List Byte} {x : Sess}
    (hboot : s.pwr.booted = true) (hopen : s.portOpen port = true) (hsess : s.sess n.val = some x) (hfin : x.fin = false)
    (hlen : sig.length = 96) : s.finishIn port n sig =
      if Config.ecdsaVerify x.certKey (Config.sha384 x.transcript) sig then
        (s.updSess n.val (fun y => { y with fin := true, last := 1, port := port, lastClk := s.sys.clk })).deliver1
          (s.mkReply ⟨n, 1, port⟩ 0x0B02 0 [])
      else (s.closeSess n.val).bump Reg.CMD_AUTH_FAIL := by
  simp [State.finishIn, hboot, hopen, hsess, hfin, hlen]

/-! ### Packets (R396, R397) -/

theorem exec_packetRx {s : State} {port : HostPort} (d : List Byte) (hup : s.up) (hboot : s.pwr.booted = true)
    (hopen : s.portOpen port = true) (hawake : s.asleep = false) :
    exec (.packetRx port d) s = .next (s.packetIn port d) :=
  live_of_eq hup.on (by simp [State.packetRx, hboot, hopen, hawake])

/-- A datagram too short for a command packet is counted (R396). -/
theorem State.packetIn_of_short {s : State} (port : HostPort) {d : List Byte} (h : d.length < 48) :
    s.packetIn port d = s.bump Reg.CMD_MALFORMED := if_pos (.inl h)

section Packet
variable {s : State} (port : HostPort) {d : List Byte} (hmax : par d 10 2 ≤ 1400)
  (hwhole : d.length = 48 + par d 10 2) (hver : par d 0 1 = 1) (hsome : 0 < par d 2 1)
include hmax hwhole hver hsome

/-- A packet whose session is not allotted is counted. -/
theorem State.packetIn_of_no_sess (hsess : s.sess (par d 2 1) = none) : s.packetIn port d = s.bump Reg.CMD_MALFORMED := by
  have hform : ¬ (d.length < 48 ∨ par d 10 2 > 1400 ∨ d.length ≠ 48 + par d 10 2 ∨ par d 0 1 ≠ 1) := by omega
  unfold State.packetIn
  dsimp only
  rw [if_neg hform, if_neg hsome.ne', hsess]

/-- A packet of an allotted session is authenticated, and then is a command of its session once that is open (R397). -/
theorem State.packetIn_of_sess {x : Sess} (hsess : s.sess (par d 2 1) = some x) :
    (Config.gcmTag x.keyIn (cmdNonce x (par d 4 4)) (d.take 32) (slice d 32 (par d 10 2)) ≠ slice d (32 + par d 10 2) 16 →
      s.packetIn port d = s.bump Reg.CMD_AUTH_FAIL) ∧
    (Config.gcmTag x.keyIn (cmdNonce x (par d 4 4)) (d.take 32) (slice d 32 (par d 10 2)) = slice d (32 + par d 10 2) 16 →
      x.fin = true → s.packetIn port d = s.hostIn ⟨Fin.ofNat 9 (par d 2 1), word (par d 4 4), port⟩
        (parseOp (par d 8 2) (fixLen (par d 10 2) (Config.gcmDecrypt x.keyIn (cmdNonce x (par d 4 4))
          (slice d 32 (par d 10 2)))))) := by
  have hform : ¬ (d.length < 48 ∨ par d 10 2 > 1400 ∨ d.length ≠ 48 + par d 10 2 ∨ par d 0 1 ≠ 1) := by omega
  unfold State.packetIn
  dsimp only
  rw [if_neg hform, if_neg hsome.ne', hsess]
  dsimp only
  exact ⟨fun htag => if_pos htag, fun htag hfin => (if_neg (not_not_intro htag)).trans (if_pos hfin)⟩

end Packet

/-! ### Time-outs of a session (R395, R398) -/

theorem State.sess_toSysClk (s : State) (k n : Nat) : (s.toSysClk k).sess n = s.sess n := by
  rw [State.sess, State.sess, State.toSysClk_cmd]

/-- A gap that has stayed open drops what is held, and counts it (R398). -/
theorem State.reorderOut_of_held {u : State} {n : Nat} {x : Sess} (hsess : u.sess n = some x) (hheld : x.held ≠ []) :
    u.reorderOut n = (u.updSess n (fun y => { y with held := [], heldClk := none })).bumpBy Reg.CMD_GAP_DROP x.held.length := by
  simp [State.reorderOut, hsess, hheld]

/-- A closed session owns no class (R403). -/
theorem State.closeSess_owners (s : State) {n : Nat} (h : n ≠ 0) :
    (s.closeSess n).cmd.core.modeOwn ≠ n ∧ (s.closeSess n).cmd.core.setOwn ≠ n := by
  have hdrop (m : Nat) : (if m = n then 0 else m) ≠ n := by split <;> omega
  exact ⟨hdrop _, hdrop _⟩

/-! ### Management answers (R411) -/

/-- The answer to the one request that waits completes it. -/
theorem State.mgmtAnswer_of_hit {s : State} {w : Wait} {tag : Nat} (status : Nat) (data : List Byte) (hwaits : s.cmd.waits = [w])
    (htag : w.tag = some tag) : s.mgmtAnswer tag status data = ({ s with cmd := { s.cmd with waits := [{ w with
      tag := none, reply := { w.reply with status := status, data := data } }] } } : State).flush := by
  simp [State.mgmtAnswer, hwaits, htag]

/-- An answer that no request waits for is counted. -/
theorem State.mgmtAnswer_of_miss {s : State} {w : Wait} {tag : Nat} (status : Nat) (data : List Byte) (hwaits : s.cmd.waits = [w])
    (htag : w.tag ≠ some tag) : s.mgmtAnswer tag status data = s.bump Reg.CMD_MALFORMED := by
  simp [State.mgmtAnswer, hwaits, htag]

/-- Settles O49: each arrival and each time-out by the lemma about what it comes to. -/
theorem sessionCommands : Obligations.SessionCommands := by
  refine ⟨fun s port p hup hboot hopen hawake hdev hloader => ?_, fun s port n sig x hup hboot hopen hawake hsess hfin hlen => ?_,
    fun s port d hup hboot hopen hawake => ?_, fun s n x hup hsess => ⟨fun c hheld hclk u hu => ?_, fun u e hn he hu => ?_⟩,
    fun s tag code body w hup hwaits => ⟨fun htag => ⟨?_, fun u hu => ?_⟩, fun htag => ⟨?_, ?_⟩⟩,
    fun s smn code body hup => live_on hup.on⟩
  · obtain ⟨hrole, hfull, hbad, hgood⟩ := State.helloIn_of_open 0 (p := p) hboot hopen hdev hloader
    rw [exec_hello p hup hawake]
    exact ⟨fun h => congrArg _ (hrole h), fun h hfree => congrArg _ (hfull h hfree),
      fun n h hfree hok => congrArg _ (hbad n h hfree hok),
      fun n c h hfree hok hcert => ⟨_, congrArg _ (hgood n c h hfree hok hcert), s.allot_sess port 0 p n c⟩⟩
  · rw [exec_finish sig hup hawake, State.finishIn_of_allotted hboot hopen hsess hfin hlen]
    exact ⟨fun h => congrArg _ (if_pos h), fun h => congrArg _ (if_neg (ne_true_of_eq_false h))⟩
  · rw [exec_packetRx d hup hboot hopen hawake]
    refine ⟨fun h => congrArg _ (State.packetIn_of_short port h), fun _ hmax hwhole hver hsome _ =>
      ⟨fun h => congrArg _ (State.packetIn_of_no_sess port hmax hwhole hver hsome h), fun x h => ?_⟩⟩
    obtain ⟨hwrong, hright⟩ := State.packetIn_of_sess port hmax hwhole hver hsome h
    exact ⟨fun htag => congrArg _ (hwrong htag), fun htag hfin => congrArg _ (hright htag hfin)⟩
  · have hgap : (s.sess n.val).bind Sess.gapEnd = some (c + 8000000) := by simp [hsess, Sess.gapEnd, hheld, hclk]
    have hus : u.sess n.val = some x := by rw [hu, State.sess_toSysClk, hsess]
    rw [← State.reorderOut_of_held hus hheld]
    exact live_atDue (f := fun s => s.reorderOut n.val) hup.on (by simp only [hgap]) hu
  · have hend : s.idleEnd x = e := he.symm
    obtain ⟨hdue, hearly⟩ := live_atDue (f := fun s => s.closeSess n.val) hup.on rfl hu
    have hexec : exec (.sessionTimeout n) s = s.live (s.atDue e fun s => s.closeSess n.val) :=
      congrArg s.live (by simp only [hsess, hend])
    rw [hexec]
    exact ⟨fun h => ⟨_, hdue h, u.sess_closeSess _, u.closeSess_owners hn⟩, hearly⟩
  · exact live_of_eq hup.on (State.mgmtAnswer_of_hit _ _ hwaits htag)
  · have hfind : s.cmd.waits.find? (fun w => decide (w.tag = some tag.toNat)) = some w := by simp [hwaits, htag]
    have huw : u.cmd.waits = [w] := by rw [hu, State.toSysClk_cmd, hwaits]
    rw [← State.mgmtAnswer_of_hit 0x201 [] huw htag]
    exact live_atDue (f := fun s => s.mgmtAnswer tag.toNat 0x201 []) hup.on (by simp only [hfind]) hu
  · exact live_of_eq hup.on (State.mgmtAnswer_of_miss _ _ hwaits htag)
  · have hfind : s.cmd.waits.find? (fun w => decide (w.tag = some tag.toNat)) = none := by simp [hwaits, htag]
    exact live_of_eq hup.on (by simp only [hfind])

end Sys2Proof.Machine
end
